-- ==== Sys2Proof/Word.lean ====
section
/-!
DEFINITION. Word.lean: the words the AK24's manual handles as bits, and the numbers of its parts.
-/

namespace Sys2Proof

/-- One byte of a frame, a record or a bus access. -/
abbrev Byte := BitVec 8

/-- A 16-byte key, component or terminal id; the first byte of the string is the most significant (log 23). -/
abbrev Key := BitVec 128

/-- A 3-byte check value, a string (R176). -/
abbrev CheckValue := BitVec 24

/-- A custodian's card id (R63). -/
abbrev CardId := BitVec 16

/-- An 8-byte key serial number, a string (R46). -/
abbrev Ksn := BitVec 64

/-- The number of a key store slot, 0 to 63 (R20). -/
abbrev SlotId := Fin 64

/-- The number of a loading bay, 0 to 7. -/
abbrev BayId := Fin 8

/-- A component console: 0 is A, 1 is B, 2 is C. -/
abbrev ConsoleId := Fin 3

end Sys2Proof
end

