-- ==== Sys2Proof/Syntax.lean ====
section
/-!
DEFINITION. Syntax.lean: the commands of the AK24, one constructor of Instr per row of spec/opcode_table.json.
An operand is what the event brings from outside the engine: a value written, the bytes a bus read returned, the fields of a
received frame, the bay or console concerned, the outcome of a self-timed operation. The table gives no bits to any row.
-/

namespace Sys2Proof

/-- The three header fields read once at START (R3, section 11.2). -/
structure StationHeader where
  format  : BitVec 16
  cells   : BitVec 16
  sweepMs : BitVec 16
  deriving DecidableEq, Repr

/-- What a read of the serial memory at the start of a load returns: its status byte, and the control word, which is read when
the memory is ready (R158, section 11.8). -/
structure MemoryStart where
  status  : Byte
  control : BitVec 16
  deriving DecidableEq, Repr

/-- A register write without a command of its own (R1): the base address registers, CONTROL with a value that is no command,
the read-only registers, and offsets outside the table. -/
inductive PlainWrite where
  | areaLo (value : BitVec 32)
  | areaHi (value : BitVec 32)
  | control (value : BitVec 32)
  | events (value : BitVec 32)
  | state (value : BitVec 32)
  | unused (offset : BitVec 32) (value : BitVec 32)
  deriving DecidableEq, Repr

/-- The station area access a bus error fell on (R19, R146). The header read of START carries its error in START itself. -/
inductive AreaAccess where
  /-- the OWNER read, the cell read or the OWNER = TAKEN write of the sweep's visit in progress -/
  | sweep
  /-- the OWNER check or an answer write of the answer that is next -/
  | answer
  /-- a read or write of a take attempt -/
  | takeAttempt
  /-- the write of the 64-byte receipt, step 2 of R145 -/
  | receiptRecord
  /-- the write of CUR_ROLL_WRITTEN, step 3 of R145 -/
  | rollWritten
  deriving DecidableEq, Repr

/-- The commands of the AK24, in the table's order. -/
inductive Instr where
  /-- START: CONTROL = 1; `hdr` is the header as read, none for a bus error on that read (R5). -/
  | start (hdr : Option StationHeader)
  /-- STOP: CONTROL = 2 (R6). -/
  | stop
  /-- RESET: CONTROL = 3, with what the new load reads first (R8, R158). -/
  | reset (mem : MemoryStart)
  /-- PCIE_LINK_RESET (R8). -/
  | pcieLinkReset (mem : MemoryStart)
  /-- POWER_ON_RESET: power becomes good; the levels of the two tamper inputs during it (R8, R42). -/
  | powerOnReset (tmpCase tmpBatlow : Bool) (mem : MemoryStart)
  /-- NUDGE: a write of any value to NUDGE (R12). -/
  | nudge (value : BitVec 32)
  /-- EVENTS_READ (R167). -/
  | eventsRead
  /-- EVENT_MASK_WRITE (R168). -/
  | eventMaskWrite (value : BitVec 32)
  /-- REGISTER_WRITE (R1). -/
  | registerWrite (w : PlainWrite)
  /-- TMP_CASE_ACTIVE (R42). -/
  | tmpCaseActive
  /-- TMP_BATLOW_ACTIVE (R42). -/
  | tmpBatlowActive
  /-- ZEROIZE_OVERWRITE_DONE: the overwrite of one position ends, well or badly (R43). -/
  | zeroizeOverwriteDone (ok : Bool)
  /-- GROUP_AREA_READ: the 128 record bytes and the two check bytes of the next group area (R159, R178). -/
  | groupAreaRead (area : Vector Byte 130)
  /-- MEMORY_BUSY_TIMEOUT (R158). -/
  | memoryBusyTimeout
  /-- SWEEP_TIMER_EXPIRY (R12). -/
  | sweepTimerExpiry
  /-- SWEEP_CELL_VISIT: the 16-byte head and the 64-byte parameter part of the cell visited, as read (R14, R15). -/
  | sweepCellVisit (cell : Vector Byte 80)
  /-- OWNER_CHECK: the OWNER byte as re-read (R18). -/
  | ownerCheck (owner : Byte)
  /-- AREA_FAULT: a bus error on the named access (R19). -/
  | areaFault (access : AreaAccess)
  /-- SLOT_DEFINE, an order in hand (R29). -/
  | slotDefine
  /-- SLOT_QUERY, an order in hand (R31). -/
  | slotQuery
  /-- SLOT_ERASE, an order in hand (R32). -/
  | slotErase
  /-- ALLOWANCE_GRANT, an order in hand (R57). -/
  | allowanceGrant
  /-- CLAIMS_SETTLE, an order in hand (R55). -/
  | claimsSettle
  /-- CEREMONY_OPEN, an order in hand (R65). -/
  | ceremonyOpen
  /-- CEREMONY_CANCEL, an order in hand (R74). -/
  | ceremonyCancel
  /-- PLAN_RUN, an order in hand (R114). -/
  | planRun
  /-- PLAN_REPEAT, an order in hand (R115). -/
  | planRepeat
  /-- BAY_HALT, an order in hand (R134). -/
  | bayHalt
  /-- BAY_QUERY, an order in hand (R137). -/
  | bayQuery
  /-- PROFILE_WRITE, an order in hand (R161). -/
  | profileWrite
  /-- MODEL_MAP_WRITE, an order in hand (R162). -/
  | modelMapWrite
  /-- WATCH_SET, an order in hand (R170). -/
  | watchSet
  /-- CLAIM_REQUEST: the arbiter takes the oldest request, a claim (R48). -/
  | claimRequest
  /-- WRAP_USE: the key store takes the oldest request, a wrap use (R38). -/
  | wrapUse
  /-- CLAIM_WITHDRAWAL: the key store takes the oldest request, a withdrawal (R49). -/
  | claimWithdrawal
  /-- HOLD_RELEASE: the key store takes the oldest request, a hold release (R39). -/
  | holdRelease
  /-- CLAIM_CLOSURE: the key store takes the oldest request, the pending closure (R52). -/
  | claimClosure
  /-- KEY_ARRAY_WRITE_COMPLETE (R27). -/
  | keyArrayWriteComplete
  /-- KEY_ARRAY_WRITE_FAIL (R28). -/
  | keyArrayWriteFail
  /-- DERIVE_DONE (R82). -/
  | deriveDone
  /-- CHECKVAL_DONE (R83). -/
  | checkvalDone
  /-- WRAP_DONE (R84). -/
  | wrapDone
  /-- CARD_IN from a console, with its SEQ and the custodian id (R63). -/
  | cardIn (console : ConsoleId) (seq : Byte) (id : CardId)
  /-- CARD_OUT from a console (R63). -/
  | cardOut (console : ConsoleId) (seq : Byte)
  /-- COMPONENT from a console: the component and its entered check value (R66). -/
  | component (console : ConsoleId) (seq : Byte) (value : Key) (entered : CheckValue)
  /-- APPROVE from a console (R77). -/
  | approve (console : ConsoleId) (seq : Byte)
  /-- DECLINE from a console (R77). -/
  | decline (console : ConsoleId) (seq : Byte)
  /-- CONSOLE_GAP_EXPIRY: the gap timer of a partial frame, and the bytes, if any, received after it at that moment (R62). -/
  | consoleGapExpiry (console : ConsoleId) (bytes : List Byte)
  /-- CONSOLE_BAD_FRAME: bytes received on the link, which may stop within a frame (R62). -/
  | consoleBadFrame (console : ConsoleId) (bytes : List Byte)
  /-- CONSOLE_TRANSMIT_END (R62). -/
  | consoleTransmitEnd (console : ConsoleId)
  /-- DEADLINE_EXPIRY (R73). -/
  | deadlineExpiry
  /-- WINDOW_EXPIRY (R77). -/
  | windowExpiry
  /-- IDENT from a terminal: SEQ, terminal id, model code, capability flags, register occupancy (R95). -/
  | ident (bay : BayId) (seq : Byte) (terminal : BitVec 128) (model : BitVec 16) (caps occupancy : Byte)
  /-- ACK from a terminal (R98). -/
  | ack (bay : BayId) (seq : Byte)
  /-- CHECK from a terminal: register index and check value (R110). -/
  | check (bay : BayId) (seq : Byte) (register : Byte) (value : CheckValue)
  /-- NAK from a terminal, with its reason byte (R101, R102). -/
  | nak (bay : BayId) (seq : Byte) (reason : Byte)
  /-- BAY_LINE_ERROR: bytes received on the link, which may stop within a frame (R93). -/
  | bayLineError (bay : BayId) (bytes : List Byte)
  /-- BAY_GAP_EXPIRY: the gap timer of a partial frame, and the bytes, if any, received after it at that moment (R93). -/
  | bayGapExpiry (bay : BayId) (bytes : List Byte)
  /-- BAY_TRANSMIT_END (R99). -/
  | bayTransmitEnd (bay : BayId)
  /-- REPLY_TIMER_EXPIRY (R100). -/
  | replyTimerExpiry (bay : BayId)
  /-- BAY_PRES_HIGH (R106). -/
  | bayPresHigh (bay : BayId)
  /-- BAY_PRES_LOW (R106). -/
  | bayPresLow (bay : BayId)
  /-- PRESENCE_TIMER_EXPIRY (R106). -/
  | presenceTimerExpiry (bay : BayId)
  /-- REMOVAL_TIMER_EXPIRY (R132). -/
  | removalTimerExpiry (bay : BayId)
  /-- RECEIPT_WRITE_SEQUENCE (R145). -/
  | receiptWriteSequence
  /-- TAKE_ATTEMPT: NEXT_ROLL_READY, NEXT_ROLL_BASE and NEXT_ROLL_CAPACITY as read (R148). -/
  | takeAttempt (ready : BitVec 32) (base : BitVec 64) (capacity : BitVec 32)
  /-- PERSIST_END: the 130 bytes of the group area as read back, or none when the memory was not ready within the 50 ms after a
  write (R164). -/
  | persistEnd (readBack : Option (Vector Byte 130))
  /-- MAIN_POWER_LOSS (R42). -/
  | mainPowerLoss
  /-- SERIAL_MEMORY_READY: in the start-up load, with the control word read next (R158); in a persist, after a write (R164). -/
  | serialMemoryReady (control : BitVec 16)
  deriving DecidableEq, Repr

end Sys2Proof
end

