-- ==== Sys2Proof/Decode.lean ====
section
/-!
DEFINITION. Decode.lean: the command a word spells by the table's bits. spec/opcode_table.json gives bits to none of its rows
(98_reader.md: no row has fixed bits or fields), so no word spells a command.
-/

namespace Sys2Proof

/-- No row of the table has an encoding: every word is refused. -/
def decodeTableWord (_nbits _w : Nat) : Option Instr := none

end Sys2Proof
end

