-- ==== Sys2Proof/Config.lean ====
section
/-!
DEFINITION. Config.lean: the fixed functions of the part that the manual does not specify (section 5.3), as constants without
a body, so that a claim about them holds whatever they are (log 9).
-/

namespace Sys2Proof

/-- What the manual says of the derivation function (R82): under one base key different KSNs give different keys, and for one
KSN a different base key gives a different key. -/
structure DeriveFunction where
  apply        : Key → Ksn → Key
  ksnInjective : ∀ base, Function.Injective (apply base)
  keyInjective : ∀ ksn, Function.Injective (fun base => apply base ksn)

/-- Some function has the properties; this one serves to show that and is not the part's. -/
def DeriveFunction.shown : DeriveFunction where
  apply := fun base ksn => base + ksn.setWidth 128
  ksnInjective := fun base a b h => by
    have h2 := congrArg (fun x : BitVec 128 => x.setWidth 64) (add_left_cancel h)
    simpa [BitVec.setWidth_setWidth_of_le] using h2
  keyInjective := fun ksn a b h => add_right_cancel h

/-- The part's derivation function: any function with the properties of R82 (log 9). -/
opaque Config.deriveFunction [Inhabited DeriveFunction] : DeriveFunction

/-- DERIVE: the terminal key of a base key and a key serial number (R82). -/
def Config.derive (base : Key) (ksn : Ksn) : Key := (@Config.deriveFunction ⟨DeriveFunction.shown⟩).apply base ksn

/-- DERIVEs with the same base key and different KSNs give different keys (R82). -/
theorem Config.derive_ksn_injective (base : Key) : Function.Injective (Config.derive base) :=
  (@Config.deriveFunction ⟨DeriveFunction.shown⟩).ksnInjective base

/-- A KSN handed out a second time under a different base key yields a different terminal key (R82). -/
theorem Config.derive_key_injective (ksn : Ksn) : Function.Injective (fun base => Config.derive base ksn) :=
  (@Config.deriveFunction ⟨DeriveFunction.shown⟩).keyInjective ksn

/-- CHECKVAL: the 3-byte check value of a key (R83). -/
opaque Config.checkValue : Key → CheckValue

/-- For each transport key, an arrangement of the 256-bit values; WRAP is its restriction to terminal keys. Every function
whose blocks can be unwrapped is the restriction of such an arrangement (R84; log 9). -/
opaque Config.wrapArrangement : Key → Equiv.Perm (BitVec 256)

/-- WRAP: the 32-byte block of a transport key and a terminal key (R84). -/
def Config.wrap (transport : Key) (terminal : Key) : BitVec 256 :=
  Config.wrapArrangement transport (terminal.setWidth 256)

/-- The terminal recovers the terminal key from the block: different terminal keys give different blocks (R84). -/
theorem Config.wrap_injective (transport : Key) : Function.Injective (Config.wrap transport) := fun a b h => by
  have h2 := congrArg (fun x : BitVec 256 => x.setWidth 128) ((Config.wrapArrangement transport).injective h)
  simpa [BitVec.setWidth_setWidth_of_le] using h2

end Sys2Proof
end

