-- ==== Sys2Proof/Machine/State.lean ====
section
/-!
DEFINITION. Machine/State.lean: everything the manual gives the AK24 to hold, as plain data, one structure per block, and the
machine right after power-on reset.
-/

namespace Sys2Proof.Machine

/-! ## Reasons to stop -/

/-- No command of the AK24 stops it: bus errors, failed writes and tamper are effects on State (R19, R28, R43). -/
inductive Fault where
  deriving DecidableEq, Repr

/-- Why a command has no meaning. -/
inductive Refusal where
  /-- Raised by exec's arm of a command that has no meaning yet. Safe: nothing is claimed of it. -/
  | notModelled (mnemonic : String)
  deriving DecidableEq, Repr

/-! ## Names -/

/-- The engine states of section 1.3; OFF is the state without main power (R2, R42). -/
inductive EngineState where
  | off | loading | standby | running | stopping | tampered
  deriving DecidableEq, Repr

/-- The RESULT codes of section 1.11. -/
inductive Result where
  | ok | partialOk | refusedKind | refusedField | refusedState | refusedClass | refusedBay | allowanceSpent | serialsSpent
  | bayBusy | noPlan | ceremonyBusy | checkMismatch | componentRejects | deadline | cancelled | notApproved | halted
  | engineStopped | stoppedOnVoid | stuckTerminal | storeBusy | storeFault | tampered
  deriving DecidableEq, Repr

/-- The order kinds of section 1.11. -/
inductive OrderKind where
  | slotDefine | slotQuery | slotErase | allowanceGrant | claimsSettle | ceremonyOpen | ceremonyCancel
  | planRun | planRepeat | bayHalt | bayQuery | profileWrite | modelMapWrite | watchSet
  deriving DecidableEq, Repr

/-- The event flags of section 10.1, but for the four watch flags. -/
inductive Flag where
  | orderAnswered | trayBacklog | rollTaken | rollFull | receiptStall | orphansPresent | ceremonyStep | ceremonyEnded
  | tamper | profileFault | areaFault | storeFault
  deriving DecidableEq, Repr

/-- A timer on the station clock: it expires when the clock has advanced by the interval, in ms, from the start (R10). -/
structure Timer where
  start    : BitVec 32
  interval : Nat
  deriving DecidableEq, Repr

/-! ## Frames on the links -/

/-- The phases of a receiver, with the bytes of the partial frame it keeps and, in every phase but HUNT, the timer of the gap
since its last byte (R10, R93). -/
inductive Receiver where
  | hunt
  | length (gap : Timer)
  | body (gap : Timer) (len : Nat) (got : List Byte)
  | check (gap : Timer) (got : List Byte) (high : Option Byte)
  deriving DecidableEq, Repr

/-- A terminal frame that passed its check, kind and length (R94, R95). -/
inductive TerminalFrame where
  | ident (seq : Byte) (terminal : BitVec 128) (model : BitVec 16) (caps occupancy : Byte)
  | ack (seq : Byte)
  | check (seq : Byte) (register : Byte) (value : CheckValue)
  | nak (seq : Byte) (reason : Byte)
  deriving DecidableEq, Repr

/-- A console frame that passed its check, kind and length (R62). -/
inductive ConsoleFrame where
  | cardIn (seq : Byte) (id : CardId)
  | cardOut (seq : Byte)
  | component (seq : Byte) (value : Key) (entered : CheckValue)
  | approve (seq : Byte)
  | decline (seq : Byte)
  deriving DecidableEq, Repr

/-- The reply kinds an exchange can expect (section 6.4). -/
inductive ReplyKind where
  | ident | ack | check
  deriving DecidableEq, Repr

/-- The engine frames of section 6.3. -/
inductive EngineFrame where
  | probe
  | begin (items : Nat)
  | part (register : Fin 8) (number count : Nat) (chunk : List Byte)
  | endItem (register : Fin 8) (wrapped : Bool)
  | rollback
  | release
  deriving DecidableEq, Repr

/-- The line rates of R90. -/
inductive LineRate where
  | r9600 | r19200 | r38400 | r57600 | r115200 | r230400
  deriving DecidableEq, Repr

/-- The reasons of a NAK other than BUSY_RETRY (R95, R102). -/
inductive NakReason where
  | refused | registerLocked | badBlock
  deriving DecidableEq, Repr

/-- The outcomes of an exchange, but for the accepted reply itself (section 6.4). -/
inductive ExchangeFailure where
  | noReply | terminalRefused
  deriving DecidableEq, Repr

/-! ## What leaves the engine during one command (log 4) -/

inductive Output where
  /-- a bus-master write to host memory -/
  | busWrite (address : BitVec 64) (bytes : List Byte)
  /-- the value a register read returns -/
  | readData (value : BitVec 32)
  /-- one PCIe message interrupt (R168) -/
  | pcieMessage
  /-- a frame begins on a bay link -/
  | bayFrame (bay : BayId) (rate : LineRate) (bytes : List Byte)
  /-- a frame begins on a console link -/
  | consoleFrame (console : ConsoleId) (bytes : List Byte)
  /-- a write to the serial memory -/
  | serialWrite (address : Nat) (bytes : List Byte)
  deriving DecidableEq, Repr

/-! ## Intake unit (chapter 1) -/

/-- The station area in use: latched base address and copies of CELLS and SWEEP_MS (R3). -/
structure Area where
  base    : BitVec 64
  cells   : Nat
  sweepMs : Nat
  deriving DecidableEq, Repr

/-- The condition of an order table entry (R17). -/
inductive EntryCondition where
  | validating | withOwner | answerDue
  deriving DecidableEq, Repr

/-- An order table entry; its place in the table is its place in take order (R17). -/
structure Entry where
  cell      : Nat
  kind      : Byte
  tag       : BitVec 32
  flags     : BitVec 16
  params    : List Byte
  condition : EntryCondition
  deriving DecidableEq, Repr

/-- A result and answer data for a cell (R17). -/
structure Answer where
  cell   : Nat
  result : Result
  data   : List Byte
  deriving DecidableEq, Repr

/-- A sweep in progress: the cell it visits next, the visits left, and whether it has set TRAY_BACKLOG (R13, R14). -/
structure Sweep where
  position    : Nat
  left        : Nat
  backlogSeen : Bool
  deriving DecidableEq, Repr

/-- The register window's base address registers and the intake unit. -/
structure Intake where
  areaLo     : BitVec 32
  areaHi     : BitVec 32
  area       : Option Area
  table      : List Entry
  answers    : List Answer
  atTake     : Option Answer
  sweep      : Option Sweep
  pointer    : Nat
  sweepAgain : Bool
  backlog    : Bool
  sweepTimer : Option Timer
  deriving DecidableEq, Repr

/-! ## Event unit (chapter 10) -/

/-- The edges of a BAY_PRESENCE watch (R170). -/
inductive Edge where
  | rise | fall | any
  deriving DecidableEq, Repr

/-- A watch: its source with the parameters that source uses (R170). -/
inductive Watch where
  | off
  | allowanceBelow (slot : SlotId) (threshold : Nat)
  | slotState (slot : SlotId)
  | bayPresence (bay : BayId) (edge : Edge)
  | rollRoomBelow (threshold : Nat)
  deriving DecidableEq, Repr

structure EventUnit where
  flags       : BitVec 16
  mask        : BitVec 16
  watches     : Vector Watch 4
  room        : Nat
  startReport : Bool
  deriving DecidableEq, Repr

/-! ## Key store (chapters 2 and 3) -/

inductive SlotState where
  | empty | assembling | writing | ready | draining
  deriving DecidableEq, Repr

inductive WriteTarget where
  | ready | empty
  deriving DecidableEq, Repr

/-- The class of a defined slot with the fields only a BASE slot has (section 2.2). -/
inductive SlotClass where
  | base (ksi : BitVec 40) (direct : Bool) (freeLimit : Nat)
  | transport
  deriving DecidableEq, Repr

/-- What SLOT_DEFINE sets (R21). -/
structure Definition where
  cls        : SlotClass
  bayMask    : BitVec 8
  components : Nat
  deriving DecidableEq, Repr

/-- An open claim (R51). -/
structure Claim where
  bay    : BayId
  serial : Nat
  orphan : Bool
  deriving DecidableEq, Repr

/-- What a key's storage holds: a key, the zeros of an erase, or the remains of a failed or abandoned write, which are treated
as no key (R26, R28, R43). -/
inductive StoredKey where
  | noKey
  | zeros
  | key (k : Key)
  deriving DecidableEq, Repr

/-- A settle: its order while that is unanswered, the order's TAG, the orphans not yet submitted, the one submitted and waiting
is in the writer's line, the orphans entered and not closed, and how many were entered (R55, R56). -/
structure Settle where
  order     : Option Nat
  tag       : BitVec 32
  remaining : List Claim
  unclosed  : List Claim
  entered   : Nat
  deriving DecidableEq, Repr

/-- The slot record (section 2.2), the slot's key, and the erase order and settle that belong to it. -/
structure Slot where
  state      : SlotState
  definition : Option Definition
  keyholders : List CardId
  checkValue : Option CheckValue
  generation : BitVec 16
  nextSerial : Nat
  receipted  : Nat
  allowance  : Nat
  claims     : List Claim
  holds      : BitVec 8
  settle     : Option Settle
  force      : Bool
  target     : Option WriteTarget
  stored     : StoredKey
  committed  : Option Key
  eraseOrder : Option Nat
  discarded  : Nat
  deriving DecidableEq, Repr

/-- A request standing at the key store (section 2.3, R47). -/
inductive KsRequest where
  | claim (bay : BayId) (slot : SlotId)
  | wrapUse (bay : BayId) (slot : SlotId)
  | withdraw (bay : BayId)
  | release (bay : BayId)
  | closure
  deriving DecidableEq, Repr

/-- The pending closure: slot, generation, bay and serial of a written receipt (R145, R52). -/
structure Closure where
  slot       : SlotId
  generation : BitVec 16
  bay        : BayId
  serial     : Nat
  deriving DecidableEq, Repr

/-- The grant that awaits approval (R58). -/
structure PendingGrant where
  order      : Nat
  slot       : SlotId
  amount     : Nat
  generation : BitVec 16
  deriving DecidableEq, Repr

structure KeyStore where
  slots      : Vector Slot 64
  requests   : List KsRequest
  deferred   : Vector (Option SlotId) 8
  closure    : Option Closure
  writeQueue : List SlotId
  arrayWrite : Option SlotId
  overwrite  : Option (Fin 48)
  grant      : Option PendingGrant
  latch      : Bool
  tmpCase    : Bool
  tmpBatlow  : Bool
  deriving DecidableEq, Repr

/-! ## Component entry unit (chapter 4) -/

/-- The REJECTED reasons (R62). -/
inductive RejectReason where
  | noCard | notPermitted | alreadyContributed | checkFailed | nothingOpen | pending | notKeyholder | ceremonyEnded
  | assemblyComplete
  deriving DecidableEq, Repr

/-- The frames the engine sends to a console (section 4.1, R65). -/
inductive ConsoleMessage where
  | assemblyOpen (slot : SlotId) (expected : CheckValue) (contributors target : Nat)
  | assemblyProgress (slot : SlotId) (contributors target : Nat)
  | assemblyClosed (slot : SlotId) (outcome : Result) (value : CheckValue)
  | approvalOpen (slot : SlotId) (amount : Nat)
  | approvalClosed (slot : SlotId) (amount : Nat) (outcome : Result)
  | stationTampered
  | accepted (seq : Byte)
  | rejected (seq : Byte) (reason : RejectReason)
  deriving DecidableEq, Repr

/-- A console link and what the unit keeps of the console (R62, R63, R66). -/
structure Console where
  card     : Option CardId
  pending  : Bool
  receiver : Receiver
  sending  : Option ConsoleMessage
  queue    : List ConsoleMessage
  seq      : Byte
  deriving DecidableEq, Repr

inductive AssemblyPhase where
  | gathering | finalCheck | committing
  deriving DecidableEq, Repr

/-- An assembly (section 4.2). -/
structure Assembly where
  order        : Nat
  slot         : SlotId
  generation   : BitVec 16
  phase        : AssemblyPhase
  permitted    : List CardId
  expected     : CheckValue
  target       : Nat
  deadline     : Option Timer
  contributors : List (CardId × ConsoleId)
  accumulator  : Key
  rejects      : Nat
  deriving DecidableEq, Repr

/-- An approval (section 4.2). -/
structure Approval where
  slot       : SlotId
  amount     : Nat
  keyholders : List CardId
  generation : BitVec 16
  window     : Timer
  deriving DecidableEq, Repr

/-- The ceremony record (R64). -/
inductive Ceremony where
  | empty
  | assembly (a : Assembly)
  | approval (p : Approval)
  deriving DecidableEq, Repr

/-- A component in the arrival list or in check, with the SEQ its answer echoes (R66). -/
structure Arrival where
  console : ConsoleId
  seq     : Byte
  id      : CardId
  value   : Key
  entered : CheckValue
  deriving DecidableEq, Repr

structure ComponentUnit where
  consoles : Vector Console 3
  record   : Ceremony
  arrivals : List Arrival
  inCheck  : Option Arrival
  busy     : Bool
  discard  : Bool
  deriving DecidableEq, Repr

/-! ## Cipher unit (chapter 5) -/

/-- The nine requesters; a bay's request names the item of its plan, counted from 0, the component entry unit's names a
component or the accumulator (section 5.1). -/
inductive Requester where
  | bay (b : BayId) (item : Nat)
  | component
  | accumulator
  deriving DecidableEq, Repr

/-- The three operations with the fields each uses (section 5.1). -/
inductive CipherOp where
  | derive (slot : SlotId) (generation : BitVec 16) (ksn : Ksn)
  | checkval (operand : Key)
  | wrap (slot : SlotId) (generation : BitVec 16) (operand : Key)
  deriving DecidableEq, Repr

structure CipherRequest where
  requester : Requester
  op        : CipherOp
  deriving DecidableEq, Repr

/-- The operation in progress, with the working copy of the slot key where it names a slot (R81). -/
structure CipherRunning where
  request : CipherRequest
  working : Option Key
  deriving DecidableEq, Repr

/-- The occupied places in arrival order: the operation in progress at the head, then the waiting requests (R80). -/
structure CipherUnit where
  running : Option CipherRunning
  waiting : List CipherRequest
  deriving DecidableEq, Repr

/-! ## Bay controllers (chapters 6 and 7) -/

/-- A frame in the transmitter, with the SEQ of the exchange it belongs to (R91). -/
structure Transmission where
  seq   : Byte
  bytes : List Byte
  deriving DecidableEq, Repr

/-- An exchange (section 6.4). -/
structure Exchange where
  frame         : EngineFrame
  seq           : Byte
  bytes         : List Byte
  expected      : ReplyKind
  retryLimit    : Nat
  timeout       : Nat
  retriesUsed   : Nat
  resendPending : Bool
  timer         : Option Timer
  deriving DecidableEq, Repr

inductive PresenceState where
  | absent | settling | present | dropping
  deriving DecidableEq, Repr

/-- A bay link (chapter 6). -/
structure Link where
  rate          : LineRate
  sending       : Option (Transmission × LineRate)
  following     : List Transmission
  receiver      : Receiver
  seq           : Byte
  exchange      : Option Exchange
  lastRetries   : Nat
  strays        : Nat
  lineErrors    : Nat
  lastNak       : Option NakReason
  input         : Bool
  presence      : PresenceState
  presenceTimer : Option Timer
  dropped       : Bool
  deriving DecidableEq, Repr

/-- The fields of a terminal profile (R155); times in ms, the removal timeout in s. -/
structure Profile where
  replyTimeout   : Nat
  retryLimit     : Nat
  chunkSize      : Nat
  settleTime     : Nat
  removalTimeout : Nat
  wrapOnly       : Bool
  deriving DecidableEq, Repr

/-- How an item's key is delivered, with the transport slot of a WRAPPED one (section 7.1). -/
inductive Delivery where
  | direct
  | wrapped (transport : SlotId)
  deriving DecidableEq, Repr

/-- Item conditions (R122). -/
inductive Condition where
  | always
  | ifCap (n : Fin 8)
  | ifNotCap (n : Fin 8)
  | ifRegEmpty
  deriving DecidableEq, Repr

structure Item where
  base      : SlotId
  register  : Fin 8
  delivery  : Delivery
  condition : Condition
  label     : BitVec 16
  deriving DecidableEq, Repr

/-- A load plan (section 7.1); `override` is none for AUTO, `repeats` is K. -/
structure Plan where
  bay          : BayId
  rate         : LineRate
  probeTimeout : Nat
  override     : Option (Fin 16)
  repeats      : Nat
  stopOnVoid   : Bool
  items        : List Item
  deriving DecidableEq, Repr

/-- What a held order runs: the plan of a PLAN_RUN or the K of a PLAN_REPEAT (R116, R117). -/
inductive PlanSource where
  | run (plan : Plan)
  | again (repeats : Nat)
  deriving DecidableEq, Repr

/-- An order in the next-order holder (section 7.2). -/
structure HeldOrder where
  order  : Nat
  tag    : BitVec 32
  source : PlanSource
  deriving DecidableEq, Repr

/-- The order in the running place with the plan it runs (R117). -/
structure RunningOrder where
  order    : Nat
  tag      : BitVec 32
  isRepeat : Bool
  plan     : Plan
  deriving DecidableEq, Repr

/-- The ten session states (section 7.3). -/
inductive SessionState where
  | idle | awaitTerminal | probing | claiming | preparing | loading | releasing | unwinding | filing | awaitRemoval
  deriving DecidableEq, Repr

/-- The void reasons of R141, but for none. -/
inductive VoidReason where
  | terminalLost | noReply | terminalRefused | checkMismatch | claimRefused | keyUnavailable | halted | engineStopped
  | unknownOutcome
  deriving DecidableEq, Repr

/-- A terminal's outcome (section 7.3). -/
inductive TerminalOutcome where
  | none
  | loaded
  | void (reason : VoidReason)
  deriving DecidableEq, Repr

/-- A plan's ending once a halt or stop notice is taken (section 7.3). -/
inductive Ending where
  | none | halted | engineStopped
  deriving DecidableEq, Repr

/-- The IDENT fields (R95). -/
structure Identity where
  terminal  : BitVec 128
  model     : BitVec 16
  caps      : Byte
  occupancy : Byte
  deriving DecidableEq, Repr

/-- A granted claim as the session records it (R50, R123). -/
structure GrantedClaim where
  slot       : SlotId
  generation : BitVec 16
  serial     : Nat
  ksn        : Ksn
  deriving DecidableEq, Repr

/-- The stage an item has reached (section 7.3). -/
inductive Stage where
  | waiting | claimed | derived | checked | prepared | delivered
  deriving DecidableEq, Repr

/-- An item record of the session context (section 7.3). -/
structure ItemRecord where
  item           : Item
  applies        : Bool
  claim          : Option GrantedClaim
  wrapGeneration : Option (BitVec 16)
  stage          : Stage
  deriving DecidableEq, Repr

/-- An item's place in the key buffer (section 7.6). -/
structure KeyPlace where
  terminalKey : Option Key
  block       : Option (List Byte)
  checkValue  : Option CheckValue
  deriving DecidableEq, Repr

/-- Where the delivery of the terminal stands in LOADING (R127): in the BEGIN exchange, in the exchange of a chunk of the
current item, or in that of its END. -/
inductive DeliveryPlace where
  | begin
  | part (number : Nat)
  | endItem
  deriving DecidableEq, Repr

/-- A receipt as its submitter forms it (R140); the roll sequence and the index in roll are set at its write. -/
structure Receipt where
  outcome     : TerminalOutcome
  unconfirmed : Bool
  bay         : BayId
  slot        : SlotId
  generation  : BitVec 16
  ksn         : Ksn
  label       : BitVec 16
  terminal    : BitVec 128
  model       : BitVec 16
  profile     : Byte
  register    : Fin 8
  checkValue  : CheckValue
  time        : BitVec 32
  tag         : BitVec 32
  deriving DecidableEq, Repr

/-- The session context (section 7.3); items are counted from 0 here. -/
structure Session where
  state       : SessionState
  attempted   : Nat
  identity    : Option Identity
  latched     : Option (Fin 16 × Profile)
  records     : List ItemRecord
  current     : Option Nat
  outcome     : TerminalOutcome
  reason      : Option VoidReason
  begun       : Bool
  unconfirmed : Bool
  gone        : Bool
  ending      : Ending
  refusal     : Option (Result × SlotId)
  deferral    : Bool
  delivery    : DeliveryPlace
  toFile      : List Receipt
  removal     : Option Timer
  deriving DecidableEq, Repr

/-- The six plan counters (R133). -/
structure Counters where
  attempted        : Nat
  loaded           : Nat
  voided           : Nat
  unmatched        : Nat
  skippedTerminals : Nat
  skippedItems     : Nat
  deriving DecidableEq, Repr

/-- A BAY_HALT that waits for the plan to end, with the session state it met (R134). -/
structure HaltOrder where
  order : Nat
  state : SessionState
  deriving DecidableEq, Repr

structure Bay where
  link     : Link
  session  : Session
  buffer   : List KeyPlace
  running  : Option RunningOrder
  held     : Option HeldOrder
  cache    : Option Plan
  counters : Counters
  halt     : Option HaltOrder
  deriving DecidableEq, Repr

/-! ## Receipt writer (chapter 8) -/

inductive WriterState where
  | inactive | idle | writing | taking | awaitRoll
  deriving DecidableEq, Repr

/-- Who waits in the line with a receipt (R143). -/
inductive Submitter where
  | bay (b : BayId)
  | settle (i : SlotId)
  deriving DecidableEq, Repr

structure Submission where
  submitter : Submitter
  receipt   : Receipt
  deriving DecidableEq, Repr

/-- The writer's own copy of the current roll (R144). -/
structure Roll where
  base     : BitVec 64
  capacity : Nat
  written  : Nat
  sequence : BitVec 32
  deriving DecidableEq, Repr

structure Writer where
  state     : WriterState
  queue     : List Receipt
  line      : List Submission
  roll      : Option Roll
  rollCount : BitVec 32
  readAgain : Bool
  fromAwait : Bool
  deriving DecidableEq, Repr

/-! ## Profile store (chapter 9) -/

/-- A model map entry; model code 0000h is an unused entry (R156). -/
structure MapEntry where
  model   : BitVec 16
  profile : Fin 16
  deriving DecidableEq, Repr

inductive GroupSource where
  | blank | memory | faulted
  deriving DecidableEq, Repr

/-- A group's source and changed mark (R159, R161). -/
structure GroupStatus where
  source  : GroupSource
  changed : Bool
  deriving DecidableEq, Repr

/-- What a persist's order wrote, for its answer (R161, R162). -/
inductive PersistSubject where
  | profile (index : Fin 16)
  | map (first count : Nat)
  deriving DecidableEq, Repr

/-- What a persist waits for: the memory to be ready after the write of the group area, after that of the control word, or the
area read back (steps 2 to 4 of R163). -/
inductive PersistStep where
  | area | control | readBack
  deriving DecidableEq, Repr

/-- A persist in progress (R163, R164). -/
structure Persist where
  group   : Fin 4
  capture : List Byte
  step    : PersistStep
  order   : Option Nat
  subject : PersistSubject
  touched : Bool
  deriving DecidableEq, Repr

/-- The start-up load (R158, R159): none once it has ended. -/
inductive LoadPhase where
  | waiting (timer : Timer)
  | group (next : Fin 4)
  deriving DecidableEq, Repr

structure ProfileStore where
  profiles   : Vector Profile 16
  map        : Vector MapEntry 64
  control    : BitVec 16
  groups     : Vector GroupStatus 4
  persist    : Option Persist
  load       : Option LoadPhase
  unreadable : Bool
  /-- the tamper latch was already set when this load began (R79; log 18) -/
  reentry    : Bool
  deriving DecidableEq, Repr

/-! ## The machine -/

/-- The AK24. `pending` is the queue of commands and `out` the port traffic of the last command, both the model's own. -/
structure State where
  pending : List Instr
  engine  : EngineState
  clock   : BitVec 32
  intake  : Intake
  events  : EventUnit
  ks      : KeyStore
  ceu     : ComponentUnit
  cipher  : CipherUnit
  bays    : Vector Bay 8
  writer  : Writer
  prof    : ProfileStore
  out     : List Output
  deriving DecidableEq, Repr

/-! ## Reset values, block by block -/

/-- R8, R12 to R14, R17. -/
def Intake.reset : Intake :=
  { areaLo := 0, areaHi := 0, area := none, table := [], answers := [], atTake := none, sweep := none, pointer := 0,
    sweepAgain := false, backlog := false, sweepTimer := none }

/-- R175. -/
def EventUnit.reset : EventUnit :=
  { flags := 0, mask := 0, watches := Vector.replicate 4 .off, room := 0, startReport := true }

/-- A slot that is EMPTY and undefined at a generation, over what its key storage holds (R43, R45). -/
def Slot.blank (generation : BitVec 16) (stored : StoredKey) : Slot :=
  { state := .empty, definition := none, keyholders := [], checkValue := none, generation := generation, nextSerial := 0,
    receipted := 0, allowance := 0, claims := [], holds := 0, settle := none, force := false, target := none,
    stored := stored, committed := none, eraseOrder := none, discarded := 0 }

/-- The key store at first power-up. DESIGN CHOICE (log 5, log 19): the battery domain and the key array hold nothing, the
latch is clear and the tamper inputs are inactive. -/
def KeyStore.reset : KeyStore :=
  { slots := Vector.replicate 64 (Slot.blank 0 .zeros), requests := [], deferred := Vector.replicate 8 none, closure := none,
    writeQueue := [], arrayWrite := none, overwrite := none, grant := none, latch := false, tmpCase := false,
    tmpBatlow := false }

/-- R78. -/
def Console.reset : Console :=
  { card := none, pending := false, receiver := .hunt, sending := none, queue := [], seq := 0 }

/-- R78. -/
def ComponentUnit.reset : ComponentUnit :=
  { consoles := Vector.replicate 3 Console.reset, record := .empty, arrivals := [], inCheck := none, busy := false,
    discard := false }

/-- R88. -/
def CipherUnit.reset : CipherUnit := { running := none, waiting := [] }

/-- R112, over the level of the presence input, which is outside the engine; the retries of the last exchange, for which the
manual gives no reset value, are 0 (log 42). -/
def Link.reset (input : Bool) : Link :=
  { rate := .r9600, sending := none, following := [], receiver := .hunt, seq := 0, exchange := none, lastRetries := 0,
    strays := 0, lineErrors := 0, lastNak := none, input := input, presence := .absent, presenceTimer := none,
    dropped := false }

/-- R138. -/
def Session.reset : Session :=
  { state := .idle, attempted := 0, identity := none, latched := none, records := [], current := none, outcome := .none,
    reason := none, begun := false, unconfirmed := false, gone := false, ending := .none, refusal := none, deferral := false,
    delivery := .begin, toFile := [], removal := none }

/-- R133. -/
def Counters.zero : Counters :=
  { attempted := 0, loaded := 0, voided := 0, unmatched := 0, skippedTerminals := 0, skippedItems := 0 }

/-- R112, R138. -/
def Bay.reset (input : Bool) : Bay :=
  { link := Link.reset input, session := Session.reset, buffer := [], running := none, held := none, cache := none,
    counters := Counters.zero, halt := none }

/-- R153. -/
def Writer.reset : Writer :=
  { state := .inactive, queue := [], line := [], roll := none, rollCount := 0, readAgain := false, fromAwait := false }

/-- The defaults of R155. -/
def Profile.default : Profile :=
  { replyTimeout := 500, retryLimit := 3, chunkSize := 16, settleTime := 500, removalTimeout := 0, wrapOnly := false }

/-- An unused entry (R156). -/
def MapEntry.unused : MapEntry := { model := 0, profile := 0 }

/-- The start of the load: every profile at its defaults, every entry unused (R158). DESIGN CHOICE (log 6): the sources are
BLANK until judged, and the memory's status is awaited; DESIGN CHOICE (log 49): the control word copy is 0 until the control word
has been read. -/
def ProfileStore.reset : ProfileStore :=
  { profiles := Vector.replicate 16 Profile.default, map := Vector.replicate 64 MapEntry.unused, control := 0,
    groups := Vector.replicate 4 { source := .blank, changed := false }, persist := none,
    load := some (.waiting { start := 0, interval := 100 }), unreadable := false, reentry := false }

/-- The machine right after power-on reset, in LOADING, waiting for the serial memory (R8, R158). -/
def State.reset : State :=
  { pending := [], engine := .loading, clock := 0, intake := Intake.reset, events := EventUnit.reset, ks := KeyStore.reset,
    ceu := ComponentUnit.reset, cipher := CipherUnit.reset, bays := Vector.replicate 8 (Bay.reset false),
    writer := Writer.reset, prof := ProfileStore.reset, out := [] }

end Sys2Proof.Machine
end

