-- ==== Sys2Proof/Machine/Operands.lean ====
section
/-!
DEFINITION. Machine/Operands.lean: byte order, the frame check, link frames and their receiver, and the byte layouts of orders,
answers, receipts and the profile image (chapters 6 and 11). Everything here is a function of its arguments alone.
-/

namespace Sys2Proof.Machine

/-! ## Numbers and strings in bytes (R176) -/

/-- The low byte of a number. -/
def byteOf (n : Nat) : Byte := BitVec.ofNat 8 n

/-- A number in `k` bytes, least significant byte first. -/
def toLE : Nat → Nat → List Byte
  | 0, _ => []
  | k + 1, v => byteOf v :: toLE k (v / 256)

/-- A number or a string in `k` bytes, most significant byte first. -/
def toBE (k v : Nat) : List Byte := (toLE k v).reverse

/-- The number whose bytes stand least significant first. -/
def ofLE : List Byte → Nat
  | [] => 0
  | b :: rest => b.toNat + 256 * ofLE rest

/-- The number, or the string, whose bytes stand most significant first. -/
def ofBE (bytes : List Byte) : Nat := ofLE bytes.reverse

/-- `len` bytes of a record from an offset. -/
def field (bytes : List Byte) (off len : Nat) : List Byte := (bytes.drop off).take len

/-- The byte of a record at an offset, as a number. -/
def byteAt (bytes : List Byte) (off : Nat) : Nat := (bytes.getD off 0).toNat

/-- A little-endian number of a record. -/
def numberAt (bytes : List Byte) (off len : Nat) : Nat := ofLE (field bytes off len)

/-- A true or false value in an answer (R177). -/
def boolByte (b : Bool) : Byte := if b then 1 else 0

/-- `n` bytes of 00h. -/
def zeroBytes (n : Nat) : List Byte := List.replicate n 0

/-- A count that stays at 65535 once there (R93, R98, R133). -/
def countUp (n : Nat) : Nat := min (n + 1) 65535

/-! ## The frame check and the frames of the links (R92) -/

/-- One bit time of the check register: polynomial 1021h, no reflection. -/
def crcShift (c : BitVec 16) : BitVec 16 := if c.msb then (c <<< 1) ^^^ 0x1021#16 else c <<< 1

/-- One byte enters the check register, most significant bit first. -/
def crcByte (c : BitVec 16) (b : Byte) : BitVec 16 :=
  crcShift (crcShift (crcShift (crcShift (crcShift (crcShift (crcShift (crcShift (c ^^^ (b.setWidth 16 <<< 8)))))))))

/-- The 16-bit check over some bytes, initial value FFFFh, no final inversion (R92). -/
def crc (bytes : List Byte) : BitVec 16 := bytes.foldl crcByte 0xFFFF#16

/-- The bytes of a frame: lead, LEN, KIND, SEQ, payload, check high byte first (R92). -/
def buildFrame (kind seq : Byte) (payload : List Byte) : List Byte :=
  let counted := kind :: seq :: payload
  0xA5 :: byteOf counted.length :: counted ++ toBE 2 (crc (byteOf counted.length :: counted)).toNat

/-- What a receiver makes of a byte. -/
inductive ReceiverEvent where
  | lineError
  | frame (counted : List Byte)
  deriving DecidableEq, Repr

/-- One byte at a receiver (the phase table of R93); `gap` is the timer that the byte arms when it leaves a frame unfinished. A
bad LEN is not looked at again as a lead, which R93 says for bays and the model takes for consoles too (log 40). -/
def receiveByte (gap : Timer) (r : Receiver) (b : Byte) : Receiver × Option ReceiverEvent :=
  match r with
  | .hunt => if b = 0xA5 then (.length gap, none) else (.hunt, none)
  | .length _ => if 2 ≤ b.toNat ∧ b.toNat ≤ 42 then (.body gap b.toNat [], none) else (.hunt, some .lineError)
  | .body _ len got =>
    if got.length + 1 < len then (.body gap len (got ++ [b]), none) else (.check gap (got ++ [b]) none, none)
  | .check _ got none => (.check gap got (some b), none)
  | .check _ got (some high) =>
    if toBE 2 (crc (byteOf got.length :: got)).toNat = [high, b] then (.hunt, some (.frame got))
    else (.hunt, some .lineError)

/-- A run of bytes within one gap at a receiver: where it leaves the receiver and what it makes, in order. -/
def receiveBytes (gap : Timer) : Receiver → List Byte → Receiver × List ReceiverEvent
  | r, [] => (r, [])
  | r, b :: rest =>
    let one := receiveByte gap r b
    let more := receiveBytes gap one.1 rest
    (more.1, one.2.toList ++ more.2)

/-- The gap timer of a partial frame. -/
def Receiver.gap? : Receiver → Option Timer
  | .hunt => none
  | .length gap | .body gap _ _ | .check gap _ _ => some gap

/-- Kind and length validation of a bay frame; none is a line error (R94). -/
def terminalFrame? (counted : List Byte) : Option TerminalFrame :=
  match counted with
  | kind :: seq :: payload =>
    if kind = 0x20 ∧ payload.length = 20 then
      some (.ident seq (BitVec.ofNat 128 (ofBE (field payload 0 16))) (BitVec.ofNat 16 (ofBE (field payload 16 2)))
        (payload.getD 18 0) (payload.getD 19 0))
    else if kind = 0x21 ∧ payload.length = 0 then some (.ack seq)
    else if kind = 0x22 ∧ payload.length = 4 then
      some (.check seq (payload.getD 0 0) (BitVec.ofNat 24 (ofBE (field payload 1 3))))
    else if kind = 0x23 ∧ payload.length = 1 then some (.nak seq (payload.getD 0 0))
    else none
  | _ => none

/-- Kind and length validation of a console frame; none is discarded without answer (R62). -/
def consoleFrame? (counted : List Byte) : Option ConsoleFrame :=
  match counted with
  | kind :: seq :: payload =>
    if kind = 0x40 ∧ payload.length = 2 then some (.cardIn seq (BitVec.ofNat 16 (ofBE payload)))
    else if kind = 0x41 ∧ payload.length = 0 then some (.cardOut seq)
    else if kind = 0x42 ∧ payload.length = 19 then
      some (.component seq (BitVec.ofNat 128 (ofBE (field payload 0 16))) (BitVec.ofNat 24 (ofBE (field payload 16 3))))
    else if kind = 0x43 ∧ payload.length = 0 then some (.approve seq)
    else if kind = 0x44 ∧ payload.length = 0 then some (.decline seq)
    else none
  | _ => none

/-- KIND and payload of an engine frame (section 6.3, section 11.7). -/
def EngineFrame.kindAndPayload : EngineFrame → Byte × List Byte
  | .probe => (0x10, [])
  | .begin n => (0x11, [byteOf n])
  | .part reg number count chunk => (0x12, byteOf reg.val :: byteOf number :: byteOf count :: chunk)
  | .endItem reg wrapped => (0x13, [byteOf reg.val, if wrapped then 0x02 else 0x01])
  | .rollback => (0x14, [])
  | .release => (0x15, [])

/-- The reply kind an engine frame expects (section 6.3). -/
def EngineFrame.expects : EngineFrame → ReplyKind
  | .probe => .ident
  | .endItem _ _ => .check
  | .begin _ | .part _ _ _ _ | .rollback | .release => .ack

/-- The bytes of an engine frame with a SEQ (R92). -/
def EngineFrame.bytes (f : EngineFrame) (seq : Byte) : List Byte :=
  buildFrame f.kindAndPayload.1 seq f.kindAndPayload.2

def TerminalFrame.seq : TerminalFrame → Byte
  | .ident seq _ _ _ _ | .ack seq | .check seq _ _ | .nak seq _ => seq

/-! ## Codes -/

/-- Section 1.11. -/
def Result.code : Result → Nat
  | .ok => 0x00 | .partialOk => 0x01 | .refusedKind => 0x02 | .refusedField => 0x03 | .refusedState => 0x04
  | .refusedClass => 0x05 | .refusedBay => 0x06 | .allowanceSpent => 0x07 | .serialsSpent => 0x08 | .bayBusy => 0x09
  | .noPlan => 0x0A | .ceremonyBusy => 0x0B | .checkMismatch => 0x0C | .componentRejects => 0x0D | .deadline => 0x0E
  | .cancelled => 0x0F | .notApproved => 0x10 | .halted => 0x11 | .engineStopped => 0x12 | .stoppedOnVoid => 0x13
  | .stuckTerminal => 0x14 | .storeBusy => 0x15 | .storeFault => 0x16 | .tampered => 0x17

/-- Section 1.11. -/
def OrderKind.code : OrderKind → Byte
  | .slotDefine => 0x01 | .slotQuery => 0x02 | .slotErase => 0x03 | .allowanceGrant => 0x04 | .claimsSettle => 0x05
  | .ceremonyOpen => 0x06 | .ceremonyCancel => 0x07 | .planRun => 0x08 | .planRepeat => 0x09 | .bayHalt => 0x0A
  | .bayQuery => 0x0B | .profileWrite => 0x0C | .modelMapWrite => 0x0D | .watchSet => 0x0E

/-- The flags a KIND defines: FORCE is bit 0, PERSIST bit 1 (R16, section 11.3). -/
def allowedFlags (kind : Byte) : BitVec 16 :=
  if kind = OrderKind.slotErase.code then 1
  else if kind = OrderKind.profileWrite.code ∨ kind = OrderKind.modelMapWrite.code then 2
  else 0

/-- KIND is one of the fourteen codes (R16). -/
def knownKind (kind : Byte) : Bool := decide (1 ≤ kind.toNat ∧ kind.toNat ≤ 14)

/-- R177. -/
def SlotState.code : SlotState → Byte
  | .empty => 0 | .assembling => 1 | .writing => 2 | .ready => 3 | .draining => 4

/-- R177. -/
def targetCode : Option WriteTarget → Byte
  | none => 0 | some .ready => 3 | some .empty => 4

/-- R177. -/
def SessionState.code : SessionState → Byte
  | .idle => 0 | .awaitTerminal => 1 | .probing => 2 | .claiming => 3 | .preparing => 4 | .loading => 5 | .releasing => 6
  | .unwinding => 7 | .filing => 8 | .awaitRemoval => 9

/-- R177. -/
def Ending.code : Ending → Byte
  | .none => 0x00 | .halted => 0x11 | .engineStopped => 0x12

/-- R141. -/
def VoidReason.code : VoidReason → Byte
  | .terminalLost => 1 | .noReply => 2 | .terminalRefused => 3 | .checkMismatch => 4 | .claimRefused => 5
  | .keyUnavailable => 6 | .halted => 7 | .engineStopped => 8 | .unknownOutcome => 9

/-- R141: kind code and void reason code of a receipt or a terminal outcome. -/
def TerminalOutcome.codes : TerminalOutcome → Byte × Byte
  | .none => (0, 0) | .loaded => (1, 0) | .void r => (2, r.code)

/-- Section 11.4. -/
def LineRate.code : LineRate → Byte
  | .r9600 => 1 | .r19200 => 2 | .r38400 => 3 | .r57600 => 4 | .r115200 => 5 | .r230400 => 6

/-- Section 11.4. -/
def lineRate? (code : Nat) : Option LineRate :=
  match code with
  | 1 => some .r9600 | 2 => some .r19200 | 3 => some .r38400 | 4 => some .r57600 | 5 => some .r115200 | 6 => some .r230400
  | _ => none

/-- Section 6.3. -/
def nakCode : Option NakReason → Byte
  | none => 0 | some .refused => 2 | some .registerLocked => 3 | some .badBlock => 4

/-- The recorded reason of a NAK other than BUSY_RETRY: REFUSED for a value outside 01h to 04h (R95, R102). -/
def nakReason (code : Byte) : NakReason :=
  if code = 3 then .registerLocked else if code = 4 then .badBlock else .refused

/-- R62. -/
def RejectReason.code : RejectReason → Byte
  | .noCard => 1 | .notPermitted => 2 | .alreadyContributed => 3 | .checkFailed => 4 | .nothingOpen => 5 | .pending => 6
  | .notKeyholder => 7 | .ceremonyEnded => 8 | .assemblyComplete => 9

/-- R2. -/
def EngineState.code : EngineState → Nat
  | .off => 0 | .loading => 1 | .standby => 2 | .running => 3 | .stopping => 4 | .tampered => 5

/-- R170. -/
def Edge.code : Edge → Byte
  | .rise => 1 | .fall => 2 | .any => 3

/-- The payload of a SHOW frame (section 11.7). -/
def showPayload (message slot : Byte) (outcome : Byte) (value : CheckValue) (amount contributors target : Nat) : List Byte :=
  [message, slot, outcome] ++ toBE 3 value.toNat ++ toBE 3 amount ++ [byteOf contributors, byteOf target]

/-- KIND and payload of a frame to a console (section 4.1, R65). -/
def ConsoleMessage.kindAndPayload : ConsoleMessage → Byte × List Byte
  | .assemblyOpen slot expected contributors target =>
    (0x30, showPayload 0x01 (byteOf slot.val) 0 expected 0 contributors target)
  | .assemblyProgress slot contributors target => (0x30, showPayload 0x02 (byteOf slot.val) 0 0 0 contributors target)
  | .assemblyClosed slot outcome value => (0x30, showPayload 0x03 (byteOf slot.val) (byteOf outcome.code) value 0 0 0)
  | .approvalOpen slot amount => (0x30, showPayload 0x04 (byteOf slot.val) 0 0 amount 0 0)
  | .approvalClosed slot amount outcome => (0x30, showPayload 0x05 (byteOf slot.val) (byteOf outcome.code) 0 amount 0 0)
  | .stationTampered => (0x30, showPayload 0x06 0xFF 0 0 0 0 0)
  | .accepted seq => (0x31, [seq])
  | .rejected seq reason => (0x32, [seq, reason.code])

/-- The bytes of a frame to a console with a SEQ (R62, R92). -/
def ConsoleMessage.bytes (m : ConsoleMessage) (seq : Byte) : List Byte :=
  buildFrame m.kindAndPayload.1 seq m.kindAndPayload.2

/-! ## Key serial numbers (R46) and key blocks (R109) -/

/-- The KSN of a serial: the KSI, then the 20-bit serial in three bytes. -/
def formKsn (ksi : BitVec 40) (serial : Nat) : Ksn := ksi ++ (BitVec.ofNat 20 serial).setWidth 24

/-- The serial in a KSN. -/
def Ksn.serial (k : Ksn) : Nat := k.toNat % 2 ^ 20

/-- The 16 bytes of a key in order. -/
def keyBytes (k : Key) : List Byte := toBE 16 k.toNat

/-- The 32 bytes of a wrapped block in order. -/
def blockBytes (w : BitVec 256) : List Byte := toBE 32 w.toNat

/-- How many chunks a block is cut into. -/
def chunkCount (len size : Nat) : Nat := (len + size - 1) / size

/-- Chunk `n` of a block, counting from 1. -/
def chunkOf (block : List Byte) (size n : Nat) : List Byte := (block.drop ((n - 1) * size)).take size

/-! ## Tray cells and order parameters (sections 11.3 and 11.4) -/

/-- Offset of a cell in the station area. -/
def cellOffset (cell : Nat) : Nat := 0x100 + cell * 0x80

/-- An address of the station area. -/
def Area.at (a : Area) (off : Nat) : BitVec 64 := a.base + BitVec.ofNat 64 off

/-- A slot number of the parameters. -/
def slotAt (params : List Byte) (off : Nat) : Option SlotId :=
  if h : byteAt params off < 64 then some ⟨byteAt params off, h⟩ else none

/-- A bay number of the parameters. -/
def bayAt (params : List Byte) (off : Nat) : Option BayId :=
  if h : byteAt params off < 8 then some ⟨byteAt params off, h⟩ else none

/-- An item's condition with its bit (section 11.4). -/
def condition? (code n : Nat) : Option Condition :=
  if code = 0 then some .always
  else if code = 1 then if h : n < 8 then some (.ifCap ⟨n, h⟩) else none
  else if code = 2 then if h : n < 8 then some (.ifNotCap ⟨n, h⟩) else none
  else if code = 3 then some .ifRegEmpty
  else none

/-- An item's delivery with its transport slot, which is not examined for DIRECT (section 11.4). -/
def delivery? (params : List Byte) (off : Nat) : Option Delivery :=
  if byteAt params off = 1 then some .direct
  else if byteAt params off = 2 then (slotAt params (off + 1)).map .wrapped
  else none

/-- One 8-byte item; none when a field is out of range (R114). -/
def item? (params : List Byte) (off : Nat) : Option Item :=
  match slotAt params off, bayAt params (off + 1), delivery? params (off + 2),
      condition? (byteAt params (off + 4)) (byteAt params (off + 5)) with
  | some base, some register, some delivery, some condition =>
    some { base, register, delivery, condition, label := BitVec.ofNat 16 (numberAt params (off + 6) 2) }
  | _, _, _, _ => none

/-- The first `n` items; none when one is out of range. -/
def items? (params : List Byte) : Nat → Option (List Item)
  | 0 => some []
  | n + 1 =>
    match items? params n, item? params (0x08 + n * 8) with
    | some before, some item => some (before ++ [item])
    | _, _ => none

/-- A reply or probe timeout: 50 to 5000 ms in steps of 10. -/
def timeoutInRange (ms : Nat) : Bool := decide (50 ≤ ms ∧ ms ≤ 5000 ∧ ms % 10 = 0)

/-- The profile override: AUTO, or a profile index; the outer none is out of range. -/
def override? (code : Nat) : Option (Option (Fin 16)) :=
  if code = 0xFF then some none
  else if h : code < 16 then some (some ⟨code, h⟩)
  else none

/-- A plan whose every field lies in its range; none otherwise (R114 check 1). -/
def plan? (params : List Byte) : Option Plan :=
  match bayAt params 0x00, lineRate? (byteAt params 0x01), override? (byteAt params 0x04) with
  | some bay, some rate, some override =>
    if timeoutInRange (numberAt params 0x02 2) = true ∧ byteAt params 0x05 ≤ 127 ∧ byteAt params 0x06 ≤ 1 ∧
        1 ≤ byteAt params 0x07 ∧ byteAt params 0x07 ≤ 6 then
      match items? params (byteAt params 0x07) with
      | some items =>
        some { bay, rate, probeTimeout := numberAt params 0x02 2, override, repeats := byteAt params 0x05,
               stopOnVoid := decide (byteAt params 0x06 = 1), items }
      | none => none
    else none
  | _, _, _ => none

/-- The permitted ids of a CEREMONY_OPEN: the first `n` entries (section 11.4). -/
def idsAt (params : List Byte) (off : Nat) : Nat → List CardId
  | 0 => []
  | n + 1 => BitVec.ofNat 16 (numberAt params off 2) :: idsAt params (off + 2) n

/-! ## The profile image (section 11.8, R178) -/

/-- Every field of a profile lies in its range of R155. -/
def Profile.inRange (p : Profile) : Bool :=
  timeoutInRange p.replyTimeout && decide (p.retryLimit ≤ 7) && [8, 16, 32].contains p.chunkSize &&
    decide (100 ≤ p.settleTime ∧ p.settleTime ≤ 2000) && decide (p.removalTimeout ≤ 600)

/-- A 16-byte profile record; none when it is out of range (R159, R161). -/
def profile? (record : List Byte) : Option Profile :=
  let p : Profile :=
    { replyTimeout := numberAt record 0x00 2, retryLimit := byteAt record 0x02, chunkSize := byteAt record 0x03,
      settleTime := numberAt record 0x04 2, removalTimeout := numberAt record 0x06 2,
      wrapOnly := decide (byteAt record 0x08 = 1) }
  if p.inRange && decide (byteAt record 0x08 ≤ 1) then some p else none

/-- The 16 bytes of a profile, the bytes not examined written as 00h (R178). -/
def Profile.bytes (p : Profile) : List Byte :=
  toLE 2 p.replyTimeout ++ [byteOf p.retryLimit, byteOf p.chunkSize] ++ toLE 2 p.settleTime ++ toLE 2 p.removalTimeout ++
    [boolByte p.wrapOnly] ++ zeroBytes 7

/-- A 4-byte map record; none when it is out of range. A record with model code 0000h is unused (R159, R162). -/
def mapEntry? (record : List Byte) : Option MapEntry :=
  if numberAt record 0 2 = 0 then some MapEntry.unused
  else if h : byteAt record 2 < 16 then some { model := BitVec.ofNat 16 (numberAt record 0 2), profile := ⟨byteAt record 2, h⟩ }
  else none

/-- The 4 bytes of a map entry (R178). -/
def MapEntry.bytes (e : MapEntry) : List Byte := toLE 2 e.model.toNat ++ [byteOf e.profile.val, 0]

/-- All of some records, or none if one is out of range (R159: a group is accepted or defaulted whole). -/
def allSome {α : Type} : List (Option α) → Option (List α)
  | [] => some []
  | some a :: rest => (allSome rest).map (a :: ·)
  | none :: _ => none

/-- The records of a group area, each of `size` bytes. -/
def recordsOf (area : List Byte) (size count : Nat) : List (List Byte) :=
  (List.range count).map fun i => field area (i * size) size

/-- The address of a group's area in the image. -/
def groupAddress (g : Fin 4) : Nat := 0x100 * (g.val + 1)

/-- A group's code in the control word. -/
def groupCode (control : BitVec 16) (g : Fin 4) : Nat := control.toNat / 4 ^ g.val % 4

/-- The control word with a group's code set to 01b (R163, R164). -/
def withGroupCode (control : BitVec 16) (g : Fin 4) : BitVec 16 :=
  (control &&& ~~~(3#16 <<< (2 * g.val))) ||| (1#16 <<< (2 * g.val))

/-- The control word a persist writes: bits 15:8 as 00h (R178). -/
def writtenControl (control : BitVec 16) (g : Fin 4) : BitVec 16 := withGroupCode control g &&& 0x00FF#16

/-! ## Answer data (R177) -/

/-- R177: a group byte. -/
def GroupStatus.byte (g : GroupStatus) : Byte :=
  (match g.source with | .blank => 0 | .memory => 1 | .faulted => 2) + (if g.changed then 0x80 else 0)

/-- The 46 data bytes as written: the owner's, then 00h (R18). -/
def padded (data : List Byte) : List Byte := (data ++ zeroBytes 46).take 46

/-- The flag of one bay in a set of bays. -/
def bayBit (b : BayId) : BitVec 8 := 1#8 <<< b.val

/-- The bays of the live or the orphan claims of a list (R31). -/
def claimBays (orphan : Bool) (claims : List Claim) : BitVec 8 :=
  claims.foldl (fun set c => if c.orphan = orphan then set ||| bayBit c.bay else set) 0

/-- The six counters, 16 bits each (R177). -/
def Counters.bytes (c : Counters) : List Byte :=
  toLE 2 c.attempted ++ toLE 2 c.loaded ++ toLE 2 c.voided ++ toLE 2 c.unmatched ++ toLE 2 c.skippedTerminals ++
    toLE 2 c.skippedItems

/-- Three 16-bit ids, unused ones 0 (R31, R70). -/
def threeIds (ids : List CardId) : List Byte :=
  toLE 2 (ids.getD 0 0).toNat ++ toLE 2 (ids.getD 1 0).toNat ++ toLE 2 (ids.getD 2 0).toNat

/-- SLOT_QUERY's answer data (R31). -/
def Slot.queryData (s : Slot) : List Byte :=
  let cls : Byte := match s.definition with | none => 0 | some d => match d.cls with | .base _ _ _ => 1 | .transport => 2
  let direct := match s.definition with | some { cls := .base _ d _, .. } => d | _ => false
  let ksi : BitVec 40 := match s.definition with | some { cls := .base k _ _, .. } => k | _ => 0
  let limit := match s.definition with | some { cls := .base _ _ l, .. } => l | _ => 0
  let mask : BitVec 8 := match s.definition with | some d => d.bayMask | none => 0
  let components := match s.definition with | some d => d.components | none => 0
  [s.state.code, targetCode s.target, boolByte s.definition.isSome, cls, boolByte direct, byteOf components, mask,
    byteOf s.keyholders.length] ++ threeIds s.keyholders ++ toBE 3 (s.checkValue.getD 0).toNat ++ toBE 5 ksi.toNat ++
    [boolByte s.settle.isSome, claimBays false s.claims, claimBays true s.claims, s.holds] ++ toLE 2 s.generation.toNat ++
    toLE 4 limit ++ toLE 4 s.nextSerial ++ toLE 4 s.receipted ++ toLE 4 s.allowance

/-- The slot, then the generation at offset 02h: SLOT_DEFINE; with the count at 01h: SLOT_ERASE and CLAIMS_SETTLE (R177). -/
def slotCountData (i : SlotId) (count : Nat) (generation : BitVec 16) : List Byte :=
  [byteOf i.val, byteOf count] ++ toLE 2 generation.toNat

/-- ALLOWANCE_GRANT's answer data (R57). -/
def grantData (i : SlotId) (generation : BitVec 16) (added allowance : Nat) : List Byte :=
  [byteOf i.val, 0] ++ toLE 2 generation.toNat ++ toLE 4 added ++ toLE 4 allowance

/-- CEREMONY_OPEN's answer data (R70). -/
def Assembly.answerData (a : Assembly) (value : CheckValue) : List Byte :=
  [byteOf a.slot.val, byteOf a.contributors.length] ++ toLE 2 a.generation.toNat ++ threeIds (a.contributors.map (·.1)) ++
    toBE 3 value.toNat ++ [byteOf a.rejects]

/-- A plan's answer data (R133). -/
def planData (b : BayId) (refusing : Byte) (c : Counters) : List Byte := [byteOf b.val, refusing] ++ c.bytes

/-! ## The receipt (section 11.6) -/

/-- The 64-byte record at an index of a roll. -/
def Receipt.bytes (r : Receipt) (sequence : BitVec 32) (index : Nat) : List Byte :=
  [r.outcome.codes.1, r.outcome.codes.2, boolByte r.unconfirmed, byteOf r.bay.val, byteOf r.slot.val, byteOf r.register.val,
    r.profile, 0] ++ toLE 2 r.generation.toNat ++ toLE 2 r.label.toNat ++ toLE 2 r.model.toNat ++ zeroBytes 2 ++
    toBE 8 r.ksn.toNat ++ toBE 16 r.terminal.toNat ++ toBE 3 r.checkValue.toNat ++ zeroBytes 1 ++ toLE 4 r.time.toNat ++
    toLE 4 r.tag.toNat ++ toLE 4 sequence.toNat ++ toLE 4 index ++ zeroBytes 4

/-- The closure a receipt leads to: slot, generation, bay and serial, from the receipt (R145). -/
def Receipt.closure (r : Receipt) : Closure :=
  { slot := r.slot, generation := r.generation, bay := r.bay, serial := Ksn.serial r.ksn }

end Sys2Proof.Machine
end

