-- ==== Sys2Proof/Machine/Flags.lean ====
section
/-!
DEFINITION. Machine/Flags.lean: the event flags, the mask and interrupt request, and the four watches (chapter 10).
-/

namespace Sys2Proof.Machine

/-- The place of a flag in EVENTS (section 10.1). -/
def Flag.bit : Flag → BitVec 16
  | .orderAnswered => 0x0001 | .trayBacklog => 0x0002 | .rollTaken => 0x0004 | .rollFull => 0x0008
  | .receiptStall => 0x0010 | .orphansPresent => 0x0020 | .ceremonyStep => 0x0040 | .ceremonyEnded => 0x0080
  | .tamper => 0x0100 | .profileFault => 0x0200 | .areaFault => 0x0400 | .storeFault => 0x0800

/-- The flag of watch `w`: flags 12 to 15 (section 10.1). -/
def watchBit (w : Fin 4) : BitVec 16 := 0x1000#16 <<< w.val

/-- The interrupt request: some flag is both set and enabled (R168). -/
def EventUnit.request (e : EventUnit) : Bool := e.flags &&& e.mask != 0

/-- The level of the pin INT#, true for high: driven low while the request is active (R168). -/
def EventUnit.intPin (e : EventUnit) : Bool := !e.request

/-- The judgement of a slot report by a watch: the record before and after (R172, R173). -/
def Watch.firesOnSlot (i : SlotId) (before after : Slot) : Watch → Bool
  | .allowanceBelow j threshold =>
    decide (j = i) && decide (threshold ≤ before.allowance) && decide (after.allowance < threshold)
  | .slotState j => decide (j = i) && decide (before.state ≠ after.state)
  | .off | .bayPresence _ _ | .rollRoomBelow _ => false

/-- The judgement of a recognised rise or drop (R173). -/
def Watch.firesOnPresence (b : BayId) (rise : Bool) : Watch → Bool
  | .bayPresence c edge =>
    decide (c = b) && (match edge with | .rise => rise | .fall => !rise | .any => true)
  | .off | .allowanceBelow _ _ | .slotState _ | .rollRoomBelow _ => false

/-- The judgement of a room report (R174). -/
def Watch.firesOnRoom (before after : Nat) : Watch → Bool
  | .rollRoomBelow threshold => decide (threshold ≤ before) && decide (after < threshold)
  | .off | .allowanceBelow _ _ | .slotState _ | .bayPresence _ _ => false

/-- The flags of the watches that a report fires: each watch judges on its own (R170). -/
def EventUnit.fired (e : EventUnit) (judge : Watch → Bool) : BitVec 16 :=
  (if judge e.watches[0] then watchBit 0 else 0) ||| (if judge e.watches[1] then watchBit 1 else 0) |||
    (if judge e.watches[2] then watchBit 2 else 0) ||| (if judge e.watches[3] then watchBit 3 else 0)

/-- A new value of the event unit; one PCIe message when the request goes from inactive to active (R168). -/
def State.setEvents (s : State) (e : EventUnit) : State :=
  { s with events := e, out := if !s.events.request && e.request then s.out ++ [.pcieMessage] else s.out }

/-- Flags are set; one that is set stays set (R166). -/
def State.raiseBits (s : State) (bits : BitVec 16) : State :=
  s.setEvents { s.events with flags := s.events.flags ||| bits }

/-- A block reports the cause of a flag (R166). -/
def State.raise (s : State) (f : Flag) : State := s.raiseBits f.bit

/-- A report reaches the four watches (R170). -/
def State.report (s : State) (judge : Watch → Bool) : State := s.raiseBits (s.events.fired judge)

/-- The set-time test of a watch: the allowance or the last reported room already lies below the threshold (R171). -/
def Watch.setTimeTest (w : Watch) (allowance : SlotId → Nat) (room : Nat) : Bool :=
  match w with
  | .allowanceBelow i threshold => decide (allowance i < threshold)
  | .rollRoomBelow threshold => decide (room < threshold)
  | .off | .slotState _ | .bayPresence _ _ => false

/-- WATCH_SET's answer data: watch, source and parameters as held, and the outcome of the set-time test (R170, R177). -/
def Watch.answerData (w : Watch) (n : Fin 4) (fired : Bool) : List Byte :=
  let row : Byte × Byte × Byte × Nat := match w with
    | .off => (0, 0, 0, 0)
    | .allowanceBelow i threshold => (1, byteOf i.val, 0, threshold)
    | .slotState i => (2, byteOf i.val, 0, 0)
    | .bayPresence b edge => (3, byteOf b.val, edge.code, 0)
    | .rollRoomBelow threshold => (4, 0, 0, threshold)
  [byteOf n.val, row.1, row.2.1, row.2.2.1] ++ toLE 4 row.2.2.2 ++ [boolByte fired]

/-- The source and parameters a WATCH_SET carries; none when one is out of range (R170, section 11.4). Parameters the source
does not use are not looked at. -/
def watch? (params : List Byte) : Option Watch :=
  match byteAt params 1 with
  | 0 => some .off
  | 1 =>
    match slotAt params 2 with
    | some i =>
      if 1 ≤ numberAt params 4 4 ∧ numberAt params 4 4 ≤ 1048576 then some (.allowanceBelow i (numberAt params 4 4)) else none
    | none => none
  | 2 => (slotAt params 2).map .slotState
  | 3 =>
    match bayAt params 2, byteAt params 3 with
    | some b, 1 => some (.bayPresence b .rise)
    | some b, 2 => some (.bayPresence b .fall)
    | some b, 3 => some (.bayPresence b .any)
    | _, _ => none
  | 4 => if 1 ≤ numberAt params 4 4 ∧ numberAt params 4 4 ≤ 65535 then some (.rollRoomBelow (numberAt params 4 4)) else none
  | _ => none

end Sys2Proof.Machine
end

