-- ==== Sys2Proof/Machine/Ops.lean ====
section
/-!
DEFINITION. Machine/Ops.lean: the operations every block shares: updates of a block, timers, sweep triggers, answers, slot
changes with their reports, the receipt queue and the current roll.
-/

namespace Sys2Proof.Machine

/-! ## Updates of one block -/

def State.updIntake (s : State) (f : Intake → Intake) : State := { s with intake := f s.intake }

def State.updKs (s : State) (f : KeyStore → KeyStore) : State := { s with ks := f s.ks }

def State.updCeu (s : State) (f : ComponentUnit → ComponentUnit) : State := { s with ceu := f s.ceu }

def State.updCipher (s : State) (f : CipherUnit → CipherUnit) : State := { s with cipher := f s.cipher }

def State.updWriter (s : State) (f : Writer → Writer) : State := { s with writer := f s.writer }

def State.updProf (s : State) (f : ProfileStore → ProfileStore) : State := { s with prof := f s.prof }

def State.slot (s : State) (i : SlotId) : Slot := s.ks.slots[i]

def State.bay (s : State) (b : BayId) : Bay := s.bays[b]

def State.updBay (s : State) (b : BayId) (f : Bay → Bay) : State := { s with bays := s.bays.set b (f (s.bay b)) }

def State.updLink (s : State) (b : BayId) (f : Link → Link) : State := s.updBay b fun x => { x with link := f x.link }

def State.updSession (s : State) (b : BayId) (f : Session → Session) : State :=
  s.updBay b fun x => { x with session := f x.session }

/-- Something leaves the engine (log 4). -/
def State.emit (s : State) (o : List Output) : State := { s with out := s.out ++ o }

/-! ## Timers (R10) -/

/-- The clock has advanced by the interval from the start value, counted modulo 2^32. -/
def Timer.due (t : Timer) (clock : BitVec 32) : Bool := decide (t.interval ≤ (clock - t.start).toNat)

/-- A timer armed now. -/
def State.timer (s : State) (interval : Nat) : Timer := { start := s.clock, interval }

/-- The gap timer that a byte arms: the receive gap limit of 20 ms (R93, R105). -/
def State.gapTimer (s : State) : Timer := s.timer 20

/-- More than a partial frame's gap limit has passed since its last byte, so the frame has ended whether or not the expiry has
been taken (R62, R93; log 36). -/
def Receiver.late (r : Receiver) (clock : BitVec 32) : Bool :=
  match r.gap? with | some t => decide (t.interval < (clock - t.start).toNat) | none => false

/-- The receiver as the next byte finds it: a frame whose gap has passed the limit is gone. -/
def Receiver.afterGap (r : Receiver) (clock : BitVec 32) : Receiver := if r.late clock then .hunt else r

/-- An armed timer has run out. -/
def State.expired (s : State) (t : Option Timer) : Bool :=
  match t with | some t => t.due s.clock | none => false

/-! ## The receipt writer's answer to sweep starts and NUDGE (R147) -/

/-- A sweep start or a NUDGE write reaches the writer: in AWAIT_ROLL a take attempt begins, in TAKING the read-again mark is
set, elsewhere it is discarded. -/
def State.pokeWriter (s : State) : State :=
  match s.writer.state with
  | .awaitRoll => s.updWriter fun w => { w with state := .taking, fromAwait := true }
  | .taking => s.updWriter fun w => { w with readAgain := true }
  | .inactive | .idle | .writing => s

/-! ## Sweep triggers (R12) -/

/-- A sweep begins at the sweep pointer and has CELLS visits to make (R14). -/
def State.beginSweep (s : State) (a : Area) : State :=
  s.updIntake fun k => { k with sweep := some { position := k.pointer, left := a.cells, backlogSeen := false } }

/-- Sweeps run while the area is in use in RUNNING and TAMPERED. -/
def State.sweepArea (s : State) : Option Area :=
  if s.engine = .running ∨ s.engine = .tampered then s.intake.area else none

/-- A sweep trigger, but for what the writer makes of a sweep start: a sweep starts, or the sweep-again flag is set. -/
def State.requestSweep (s : State) : State :=
  match s.sweepArea with
  | none => s
  | some a => if s.intake.sweep.isSome then s.updIntake fun k => { k with sweepAgain := true } else s.beginSweep a

/-- A sweep trigger other than NUDGE: the start of a sweep reaches the writer (R147). -/
def State.triggerSweep (s : State) : State :=
  if s.sweepArea.isSome ∧ s.intake.sweep.isNone then s.requestSweep.pokeWriter else s.requestSweep

/-! ## The order table and answers (R13, R17, R18) -/

/-- An entry frees; with the backlog mark set that is a sweep trigger (R13). -/
def State.freeEntry (s : State) (cell : Nat) : State :=
  let t := s.updIntake fun k => { k with table := k.table.filter (fun e => e.cell != cell), backlog := false }
  if s.intake.backlog then t.triggerSweep else t

/-- The end of an answer, written or lost: ORDER_ANSWERED, and the entry frees (R18). -/
def State.answered (s : State) (cell : Nat) : State := (s.raise .orderAnswered).freeEntry cell

def Entry.withCondition (c : EntryCondition) (e : Entry) : Entry := { e with condition := c }

/-- The entry of a cell takes a condition (R17). -/
def State.setCondition (s : State) (cell : Nat) (c : EntryCondition) : State :=
  s.updIntake fun k => { k with table := k.table.map fun e => if e.cell = cell then e.withCondition c else e }

/-- An owner completes an order: its answer joins the answer list, or is lost with the area out of use (R17, R18). -/
def State.completeOrder (s : State) (cell : Nat) (result : Result) (data : List Byte) : State :=
  if s.intake.area.isSome then
    (s.setCondition cell .answerDue).updIntake fun k => { k with answers := k.answers ++ [{ cell, result, data }] }
  else s.answered cell

/-- An order answered at take: the answer is the next to be written, before the sweep goes on (R16, R18). -/
def State.answerAtTake (s : State) (cell : Nat) (result : Result) (data : List Byte) : State :=
  if s.intake.area.isSome then
    (s.setCondition cell .answerDue).updIntake fun k => { k with atTake := some { cell, result, data } }
  else s.answered cell

/-- A refusal at take carries no data (R177). -/
def State.refuseAtTake (s : State) (e : Entry) (result : Result) : State := s.answerAtTake e.cell result []

/-- The order in hand, past the intake checks and of the given kind (R16; log 7). -/
def State.inHand (s : State) (kind : OrderKind) : Option Entry :=
  s.intake.table.find? fun e => decide (e.condition = .validating) && decide (e.kind = kind.code)

/-- The order in hand is dispatched to its owner (R17). -/
def State.hold (s : State) (e : Entry) : State := s.setCondition e.cell .withOwner

/-! ## Slot changes with their reports (R22) -/

/-- A slot record changes; the watches judge the change. -/
def State.setSlot (s : State) (i : SlotId) (new : Slot) : State :=
  (s.updKs fun k => { k with slots := k.slots.set i new }).report (Watch.firesOnSlot i (s.slot i) new)

def State.updSlot (s : State) (i : SlotId) (f : Slot → Slot) : State := s.setSlot i (f (s.slot i))

/-- A request arrives at the key store (R47; log 8). -/
def State.request (s : State) (r : KsRequest) : State := s.updKs fun k => { k with requests := k.requests ++ [r] }

/-- The key store takes no request while the key array is being overwritten (R43). -/
def State.storeOpen (s : State) : Bool := s.ks.overwrite.isNone

/-- Slots 0 to 47 are persistent (R20). -/
def isPersistent (i : SlotId) : Bool := decide (i.val < 48)

/-! ## The current roll and the receipt queue (chapter 8) -/

/-- Room: capacity minus written count (R145). -/
def Roll.room (r : Roll) : Nat := r.capacity - r.written

/-- The room of the current roll, 0 without one (R150). -/
def Writer.room (w : Writer) : Nat := match w.roll with | some r => r.room | none => 0

/-- The current roll changes and the room is reported to the event unit (R150, R174). -/
def State.setRoll (s : State) (roll : Option Roll) : State :=
  let t := s.updWriter fun w => { w with roll }
  let u := t.report (Watch.firesOnRoom s.events.room t.writer.room)
  { u with events := { u.events with room := t.writer.room } }

/-- The writer's state when nothing is in progress (R144). While a closure is pending it begins neither the write nor the take
attempt of that state (R145; log 30). -/
def Writer.nextState (w : Writer) : WriterState :=
  if w.queue.isEmpty then .idle else if 0 < w.room then .writing else .taking

/-- A receipt is entered in the queue with the clock of that moment (R140, R143); in IDLE it starts WRITING or TAKING
(R144). -/
def State.enterReceipt (s : State) (r : Receipt) : State :=
  let t := s.updWriter fun w => { w with queue := w.queue ++ [{ r with time := s.clock }] }
  if s.writer.state = .idle then
    t.updWriter fun w => { w with state := w.nextState, fromAwait := false }
  else t

/-- A submission finds the queue full and joins the waiting line; with the line empty a stall begins (R143). -/
def State.waitInLine (s : State) (x : Submission) : State :=
  let t := s.updWriter fun w => { w with line := w.line ++ [x] }
  if s.writer.line.isEmpty then t.raise .receiptStall else t

/-- The queue has room for an entry (R142). -/
def State.queueHasRoom (s : State) : Bool := decide (s.writer.queue.length < 16)

/-- The area leaves use: the writer goes to INACTIVE, clears the read-again mark and drops its roll (R144, R151, R152); at an
area fault in TAMPERED too, where R154 would keep the mark (log 41). -/
def State.writerInactive (s : State) : State :=
  (s.updWriter fun w => { w with state := .inactive, readAgain := false, fromAwait := false }).setRoll none

/-! ## STOPPING to STANDBY (R7), after every command -/

/-- The four conditions of R7. -/
def State.stopComplete (s : State) : Bool :=
  decide (s.engine = .stopping) && s.bays.toList.all (fun b => b.running.isNone) && decide (s.ceu.record = .empty) &&
    s.intake.table.isEmpty && decide (s.writer.state ≠ .writing) && decide (s.writer.state ≠ .taking)

/-- Entry to STANDBY: the area leaves use (R7, R12, R151). -/
def State.enterStandby (s : State) : State :=
  ({ s with engine := .standby }.updIntake fun k =>
    { k with area := none, sweep := none, sweepAgain := false, backlog := false, sweepTimer := none }).writerInactive

/-- The engine enters STANDBY when the last of the conditions becomes true. -/
def State.settleEngine (s : State) : State := if s.stopComplete then s.enterStandby else s

/-- The order being validated, if any (R17). -/
def State.validating (s : State) : Option Entry := s.intake.table.find? fun e => decide (e.condition = .validating)

/-- The cell of the visit is done with: no order in hand and no answer at take still to be written (R16). -/
def State.visitDone (s : State) : Bool := s.intake.atTake.isNone && s.validating.isNone

/-- A sweep ends after its last visit; with the sweep-again flag set one more starts (R12, R14). -/
def State.closeSweep (s : State) : State :=
  match s.intake.sweep with
  | some { left := 0, .. } =>
    if s.visitDone then
      let t := s.updIntake fun k => { k with sweep := none, sweepAgain := false }
      if s.intake.sweepAgain then t.triggerSweep else t
    else s
  | _ => s

/-- What every command shares: `out` shows this command's traffic only (log 4), nothing happens without main power, and the
ends of a sweep and of STOPPING are tested last (R7, R14). -/
def State.run (s : State) (f : State → State) : State :=
  if s.engine = .off then { s with out := [] } else (f { s with out := [] }).closeSweep.settleEngine

/-! ## Register reads without a side effect (R1, R2) -/

/-- STATE, as it stands (R2). -/
def State.stateRegister (s : State) : BitVec 32 :=
  BitVec.ofNat 32 (s.engine.code + s.intake.table.length * 2 ^ 8 + s.writer.queue.length * 2 ^ 16 +
    (if s.writer.roll.isSome then 2 ^ 24 else 0))

/-- The value a read of BAR0 returns; EVENTS also has the effect of EVENTS_READ (R167). -/
def State.readRegister (s : State) (offset : BitVec 32) : BitVec 32 :=
  if offset = 0x00 then s.intake.areaLo
  else if offset = 0x04 then s.intake.areaHi
  else if offset = 0x10 then s.events.flags.setWidth 32
  else if offset = 0x14 then s.events.mask.setWidth 32
  else if offset = 0x18 then s.stateRegister
  else 0

end Sys2Proof.Machine
end

