-- ==== Sys2Proof/Machine/Slots.lean ====
section
/-!
DEFINITION. Machine/Slots.lean: what the key store does to a slot whoever asks: key array writes, drains and erases, assembly
requests, grants, settles, and the key access of the cipher unit (chapters 2 and 3).
-/

namespace Sys2Proof.Machine

/-! ## The record of one slot -/

/-- The KSI of a defined BASE slot; 0 when absent. -/
def Slot.ksi (x : Slot) : BitVec 40 :=
  match x.definition with | some { cls := .base k _ _, .. } => k | _ => 0

/-- Defined and of class BASE. -/
def Slot.isBase (x : Slot) : Bool :=
  match x.definition with | some { cls := .base _ _ _, .. } => true | _ => false

/-- Defined and of class TRANSPORT. -/
def Slot.isTransport (x : Slot) : Bool :=
  match x.definition with | some { cls := .transport, .. } => true | _ => false

/-- The bay is in the slot's bay mask. -/
def Slot.admits (x : Slot) (b : BayId) : Bool :=
  match x.definition with | some d => d.bayMask.getLsbD b.val | none => false

/-- The bay stands in the slot's hold set (R37). -/
def Slot.heldBy (x : Slot) (b : BayId) : Bool := x.holds.getLsbD b.val

/-- The slot holds an orphan claim. -/
def Slot.hasOrphan (x : Slot) : Bool := x.claims.any (·.orphan)

/-- The drain condition: hold count 0 and no live claim (R33). -/
def Slot.drained (x : Slot) : Bool := decide (x.holds = 0) && x.claims.all (·.orphan)

/-- What a grant adds: the amount, up to the room of the serial space (R57). -/
def Slot.granted (x : Slot) (amount : Nat) : Nat := min amount (1048576 - x.nextSerial - x.allowance)

/-- The record once an erase has begun, but for its state: counts 0, no claim, no keyholder, no check value, the next
generation; the orphans discarded are kept for the answer (R34). -/
def Slot.erased (x : Slot) : Slot :=
  { x with discarded := x.claims.length, claims := [], nextSerial := 0, receipted := 0, allowance := 0, keyholders := [],
           checkValue := none, generation := x.generation + 1, force := false }

/-- EMPTY and undefined. -/
def Slot.undefine (x : Slot) : Slot := { x with state := .empty, definition := none, target := none, committed := none }

/-- The key for one operation: READY or DRAINING, the generation named, and the class for the use (R41). -/
def Slot.keyFor (x : Slot) (generation : BitVec 16) (forWrap : Bool) : Option Key :=
  if (x.state = .ready ∨ x.state = .draining) ∧ x.generation = generation ∧
      (if forWrap then x.isTransport else x.isBase) = true then
    match x.stored with
    | .key k => some k
    | .zeros => some 0
    | .noKey => none
  else none

/-! ## Key array writes (R26) -/

/-- With the array idle, the oldest entry of the write queue starts its write. -/
def State.kickArray (s : State) : State :=
  if s.ks.arrayWrite.isSome ∨ s.ks.overwrite.isSome then s
  else
    match s.ks.writeQueue with
    | [] => s
    | i :: rest => s.updKs fun k => { k with writeQueue := rest, arrayWrite := some i }

/-- A slot enters the write queue. -/
def State.queueWrite (s : State) (i : SlotId) : State :=
  (s.updKs fun k => { k with writeQueue := k.writeQueue ++ [i] }).kickArray

/-! ## Drains and erases (R33 to R35) -/

/-- A dispatched SLOT_ERASE is completed (R35). -/
def State.answerErase (s : State) (i : SlotId) (result : Result) : State :=
  match (s.slot i).eraseOrder with
  | none => s
  | some cell =>
    (s.updSlot i fun x => { x with eraseOrder := none, discarded := 0 }).completeOrder cell result
      (slotCountData i (s.slot i).discarded (s.slot i).generation)

/-- An erase begins (R34): a persistent slot waits for its key array write, a volatile one is EMPTY at once. -/
def State.beginErase (s : State) (i : SlotId) : State :=
  if isPersistent i then
    (s.updSlot i fun x => { x.erased with state := .writing, target := some .empty }).queueWrite i
  else (s.updSlot i fun x => { x.erased.undefine with stored := .zeros }).answerErase i .ok

/-- The drain condition is tested (R33). -/
def State.testDrain (s : State) (i : SlotId) : State :=
  if (s.slot i).state = .draining ∧ (s.slot i).drained = true then s.beginErase i else s

/-- A bay leaves one slot's hold set; a DRAINING slot is tested (R39). -/
def State.releaseSlot (b : BayId) (s : State) (i : SlotId) : State :=
  if (s.slot i).heldBy b then (s.updSlot i fun x => { x with holds := x.holds &&& ~~~(bayBit b) }).testDrain i else s

/-- A hold release: the bay leaves every hold set (R39); slots whose drains end at it are erased in ascending order (log 37). -/
def State.releaseHolds (s : State) (b : BayId) : State := (List.finRange 64).foldl (State.releaseSlot b) s

/-! ## Assembly requests (R23 to R25) -/

/-- An assembly start: an EMPTY, defined slot goes to ASSEMBLING; the component count, or none for a refusal (R23). -/
def State.assemblyTarget (s : State) (i : SlotId) : Option Nat :=
  match (s.slot i).state, (s.slot i).definition with
  | .empty, some d => some d.components
  | _, _ => none

def State.startAssembly (s : State) (i : SlotId) : State := s.updSlot i fun x => { x with state := .assembling }

/-- An assembly end: an ASSEMBLING slot returns to EMPTY, still defined (R25). -/
def State.endAssemblySlot (s : State) (i : SlotId) : State :=
  if (s.slot i).state = .assembling then s.updSlot i fun x => { x with state := .empty } else s

/-- An assembly commit (R24): a persistent slot waits for its write, a volatile one is READY at once. -/
def State.commitKey (s : State) (i : SlotId) (key : Key) (ids : List CardId) (value : CheckValue) : State :=
  let record (x : Slot) : Slot :=
    { x with keyholders := ids, checkValue := some value, nextSerial := 0, receipted := 0, allowance := 0, claims := [] }
  if isPersistent i then
    (s.updSlot i fun x =>
      { record x with state := .writing, target := some .ready, committed := some key }).queueWrite i
  else s.updSlot i fun x => { record x with state := .ready, stored := .key key }

/-! ## Allowance grants (R57) -/

/-- A grant is applied to the record as it stands. -/
def State.applyGrant (s : State) (i : SlotId) (amount : Nat) : State :=
  s.updSlot i fun x => { x with allowance := x.allowance + x.granted amount }

/-- The answer data of a grant about to be applied. -/
def Slot.grantAnswer (x : Slot) (i : SlotId) (amount : Nat) : List Byte :=
  grantData i x.generation (x.granted amount) (x.allowance + x.granted amount)

/-! ## Settles (R55, R56) -/

/-- The VOID receipt of an orphan under a settle; the time is set at entry (R55, R140). -/
def Slot.settleReceipt (x : Slot) (i : SlotId) (tag : BitVec 32) (c : Claim) : Receipt :=
  { outcome := .void .unknownOutcome, unconfirmed := false, bay := c.bay, slot := i, generation := x.generation,
    ksn := formKsn x.ksi c.serial, label := 0, terminal := 0, model := 0, profile := 0xFF, register := 0, checkValue := 0,
    time := 0, tag }

def State.updSettle (s : State) (i : SlotId) (f : Settle → Settle) : State :=
  s.updSlot i fun x => { x with settle := x.settle.map f }

/-- A submission of the settle waits in the line. -/
def State.settleWaits (s : State) (i : SlotId) : Bool := s.writer.line.any fun x => decide (x.submitter = .settle i)

/-- The settle's order is completed, the settle mark stays (R56). -/
def State.answerSettle (s : State) (i : SlotId) (result : Result) : State :=
  match (s.slot i).settle with
  | some { order := some cell, entered, .. } =>
    (s.updSettle i fun t => { t with order := none }).completeOrder cell result
      (slotCountData i entered (s.slot i).generation)
  | _ => s

/-- What follows once every orphan of the list has been entered: with all closed the settle ends OK and the mark clears; under
STOP the order is completed ENGINE_STOPPED without waiting for the closures (R55, R56). -/
def State.testSettle (s : State) (i : SlotId) : State :=
  match (s.slot i).settle with
  | none => s
  | some t =>
    if t.remaining ≠ [] ∨ s.settleWaits i = true then s
    else if t.unclosed = [] then (s.answerSettle i .ok).updSlot i fun x => { x with settle := none }
    else if s.engine = .stopping then s.answerSettle i .engineStopped
    else s

/-- The settle submits no more and completes its order with ENGINE_STOPPED (R56). -/
def State.stopSettle (s : State) (i : SlotId) : State :=
  ((s.updSettle i fun t => { t with remaining := [] }).answerSettle i .engineStopped).testSettle i

/-- An orphan's receipt has been entered. -/
def State.settleEntered (s : State) (i : SlotId) (c : Claim) : State :=
  s.updSettle i fun t => { t with unclosed := t.unclosed ++ [c], entered := t.entered + 1 }

/-- The settle submits the orphans of its list one at a time: a receipt that finds room is entered and the next follows; one
that finds the queue full waits in the line, or with the area out of use ends the settle's submissions (R55, R56). -/
def State.submitSettle (i : SlotId) : List Claim → State → State
  | [], s => (s.updSettle i fun t => { t with remaining := [] }).testSettle i
  | c :: rest, s =>
    let tag := match (s.slot i).settle with | some t => t.tag | none => 0
    let receipt := (s.slot i).settleReceipt i tag c
    if s.queueHasRoom then submitSettle i rest ((s.settleEntered i c).enterReceipt receipt)
    else if s.intake.area.isSome then
      (s.updSettle i fun t => { t with remaining := rest }).waitInLine { submitter := .settle i, receipt }
    else s.stopSettle i

/-- The settle's waiting submission has been entered: it goes on with its list. -/
def State.resumeSettle (s : State) (i : SlotId) (r : Receipt) : State :=
  let t := s.settleEntered i { bay := r.bay, serial := Ksn.serial r.ksn, orphan := true }
  match (t.slot i).settle with
  | some x => State.submitSettle i x.remaining t
  | none => t

/-- The closure of an orphan is reported to its settle (R52 step 3). -/
def State.settleClosed (s : State) (i : SlotId) (c : Claim) : State :=
  (s.updSettle i fun t =>
    { t with unclosed := t.unclosed.filter fun d => !(decide (d.bay = c.bay) && decide (d.serial = c.serial)) }).testSettle i

end Sys2Proof.Machine
end

