-- ==== Sys2Proof/Machine/Links.lean ====
section
/-!
DEFINITION. Machine/Links.lean: the transmitters of bay and console links, exchanges, and the presence recogniser's live reads
(chapter 6 and section 4.1).
-/

namespace Sys2Proof.Machine

/-! ## Bay transmitter (R91) -/

/-- A frame is given to the transmitter: it begins at the link's rate, or follows the one still going out. -/
def State.transmit (s : State) (b : BayId) (t : Transmission) : State :=
  let l := (s.bay b).link
  if l.sending.isNone then (s.updLink b fun l => { l with sending := some (t, l.rate) }).emit [.bayFrame b l.rate t.bytes]
  else s.updLink b fun l => { l with following := l.following ++ [t] }

/-- The next frame begins once the transmitter is free, at the rate the link has then (R90). -/
def State.transmitNext (s : State) (b : BayId) : State :=
  let l := (s.bay b).link
  match l.following with
  | [] => s.updLink b fun l => { l with sending := none }
  | t :: rest =>
    (s.updLink b fun l => { l with sending := some (t, l.rate), following := rest }).emit [.bayFrame b l.rate t.bytes]

/-! ## Exchanges (section 6.4) -/

/-- The session gives the link a new frame: the SEQ count advances and an exchange opens (R96, R97). -/
def State.openExchange (s : State) (b : BayId) (frame : EngineFrame) (retryLimit timeout : Nat) : State :=
  let seq := (s.bay b).link.seq + 1
  let bytes := frame.bytes seq
  (s.updLink b fun l =>
    { l with seq, exchange := some { frame, seq, bytes, expected := frame.expects, retryLimit, timeout, retriesUsed := 0,
                                     resendPending := false, timer := none } }).transmit b { seq, bytes }

/-- A resend: the same SEQ and bytes; the timer is armed again at its end (R96, R100). -/
def State.resend (s : State) (b : BayId) (e : Exchange) : State :=
  (s.updLink b fun l => { l with exchange := some { e with timer := none } }).transmit b { seq := e.seq, bytes := e.bytes }

/-- An exchange ends with an outcome: it closes, and its retries are kept for the report (R100, R103; log 42). -/
def State.closeExchange (s : State) (b : BayId) (e : Exchange) : State :=
  s.updLink b fun l => { l with exchange := none, lastRetries := e.retriesUsed }

/-- An exchange is abandoned: no outcome; a transmission in progress runs on, one that has not begun is forgotten (R104;
log 14). -/
def State.abandonExchange (s : State) (b : BayId) : State :=
  match (s.bay b).link.exchange with
  | none => s
  | some e =>
    s.updLink b fun l => { l with exchange := none, following := l.following.filter fun t => t.seq != e.seq }

/-- A stray (R98). -/
def State.countStray (s : State) (b : BayId) : State := s.updLink b fun l => { l with strays := countUp l.strays }

/-- A line error (R93). -/
def State.countLineError (s : State) (b : BayId) : State :=
  s.updLink b fun l => { l with lineErrors := countUp l.lineErrors }

/-- The link once a partial frame whose gap has passed the limit has ended: a line error, and HUNT (R93). -/
def Link.gapClosed (l : Link) (clock : BitVec 32) : Link :=
  if l.receiver.late clock then { l with receiver := .hunt, lineErrors := countUp l.lineErrors } else l

/-- What arrives after a gap over the limit finds the receiver in HUNT (R93). -/
def State.closeGap (s : State) (b : BayId) : State := s.updLink b fun l => l.gapClosed s.clock

/-! ## Live reads of the profile store (R105, R155) -/

def State.profile (s : State) (p : Fin 16) : Profile := s.prof.profiles[p]

/-- The settle time read as SETTLING is entered: the override's profile while a plan with one runs, profile 0 otherwise. -/
def State.settleTime (s : State) (b : BayId) : Nat :=
  match (s.bay b).running with
  | some { plan := { override := some p, .. }, .. } => (s.profile p).settleTime
  | _ => (s.profile 0).settleTime

/-- The model map's answer: the profile of the first used entry with the model code (R156). -/
def ProfileStore.lookup (p : ProfileStore) (model : BitVec 16) : Option (Fin 16) :=
  (p.map.toList.find? fun e => decide (e.model ≠ 0) && decide (e.model = model)).map (·.profile)

/-! ## Console transmitter (R62) -/

def State.console (s : State) (c : ConsoleId) : Console := s.ceu.consoles[c]

def State.updConsole (s : State) (c : ConsoleId) (f : Console → Console) : State :=
  s.updCeu fun u => { u with consoles := u.consoles.set c (f u.consoles[c]) }

/-- A frame begins with the console's next SEQ, counted from 0 after a reset (R62; log 12). -/
def State.beginConsole (s : State) (c : ConsoleId) (m : ConsoleMessage) : State :=
  (s.updConsole c fun x => { x with sending := some m, seq := x.seq + 1 }).emit
    [.consoleFrame c (m.bytes (s.console c).seq)]

/-- A frame is produced for a console: sent, queued behind up to 7 others, or discarded while 8 wait (R62). -/
def State.toConsole (s : State) (c : ConsoleId) (m : ConsoleMessage) : State :=
  if (s.console c).sending.isNone then s.beginConsole c m
  else if (s.console c).queue.length < 8 then s.updConsole c fun x => { x with queue := x.queue ++ [m] }
  else s

/-- The same frame to consoles A, B and C. -/
def State.toConsoles (s : State) (m : ConsoleMessage) : State := ((s.toConsole 0 m).toConsole 1 m).toConsole 2 m

end Sys2Proof.Machine
end

