-- ==== Sys2Proof/Machine/Filing.lean ====
section
/-!
DEFINITION. Machine/Filing.lean: how a plan starts and ends, how a terminal begins, is filed and is removed (sections 7.2, 7.8,
7.9), and the receipts waiting in the line.
-/

namespace Sys2Proof.Machine

def State.session (s : State) (b : BayId) : Session := (s.bay b).session

def State.updCounters (s : State) (b : BayId) (f : Counters → Counters) : State :=
  s.updBay b fun x => { x with counters := f x.counters }

/-! ## Plans (R116 to R118) -/

/-- A plan starts: the running place, the cache, the counters, the link and AWAIT_TERMINAL (R117). -/
def State.startPlan (s : State) (b : BayId) (order : Nat) (tag : BitVec 32) (isRepeat : Bool) (plan : Plan) : State :=
  s.updBay b fun x =>
    { x with
      running := some { order, tag, isRepeat, plan }
      cache := if isRepeat then x.cache else some plan
      counters := Counters.zero
      link := { x.link with strays := 0, lineErrors := 0, lastNak := none, rate := plan.rate, receiver := .hunt }
      session := { x.session with state := .awaitTerminal, attempted := 0, ending := .none } }

/-- An order starts on a bay whose running place is empty; a repeat takes its plan from the cache with its own K (R115,
R117). -/
def State.startOrder (s : State) (b : BayId) (h : HeldOrder) : State :=
  match h.source, (s.bay b).cache with
  | .run plan, _ => s.startPlan b h.order h.tag false plan
  | .again k, some plan => s.startPlan b h.order h.tag true { plan with repeats := k }
  | .again _, none => s

/-- Steps 1 to 3 of R118: the answers, and the running place empties. -/
def State.finishPlan (s : State) (b : BayId) (r : RunningOrder) (result : Result) (refusing : Byte) : State :=
  let t := s.completeOrder r.order result (planData b refusing (s.bay b).counters)
  let u := match (s.bay b).halt with
    | none => t
    | some h => t.completeOrder h.order .ok [byteOf b.val, h.state.code]
  u.updBay b fun x =>
    { x with running := none, halt := none,
             session := { x.session with state := .idle, ending := .none, removal := none } }

/-- A plan ends with a result code; a held order starts without passing through IDLE (R118). -/
def State.planEnd (s : State) (b : BayId) (result : Result) (refusing : Byte) : State :=
  match (s.bay b).running with
  | none => s
  | some r =>
    let t := s.finishPlan b r result refusing
    match (t.bay b).held with
    | none => t
    | some h => (t.updBay b fun x => { x with held := none }).startOrder b h

/-- The result of a plan whose ending is recorded (R133). -/
def Ending.result : Ending → Result
  | .halted => .halted
  | .engineStopped => .engineStopped
  | .none => .ok

/-! ## A terminal begins, and is removed (R119, R132) -/

/-- A rise is taken in AWAIT_TERMINAL: a new terminal, and its PROBE (R119). -/
def State.takeRise (s : State) (b : BayId) : State :=
  match (s.bay b).running with
  | none => s
  | some r =>
    let t := s.updBay b fun x =>
      { x with session := { Session.reset with state := .probing, attempted := countUp x.session.attempted,
                                               ending := x.session.ending }
               counters := { x.counters with attempted := countUp x.counters.attempted } }
    t.openExchange b .probe (t.profile 0).retryLimit r.plan.probeTimeout

/-- The recognised presence as a level (R106). -/
def PresenceState.isPresent : PresenceState → Bool
  | .present | .dropping => true
  | .absent | .settling => false

/-- The outcome is VOID. -/
def TerminalOutcome.isVoid : TerminalOutcome → Bool
  | .void _ => true
  | .none | .loaded => false

/-- The removal is taken: the plan ends, or the next terminal is awaited, and one already recognised is taken at once (R132,
R119). -/
def State.takeRemoval (s : State) (b : BayId) : State :=
  match (s.bay b).running with
  | none => s
  | some r =>
    if r.plan.stopOnVoid = true ∧ (s.session b).outcome.isVoid = true then s.planEnd b .stoppedOnVoid 0xFF
    else if r.plan.repeats ≠ 0 ∧ r.plan.repeats ≤ (s.session b).attempted then
      s.planEnd b (if 0 < (s.bay b).counters.voided then .partialOk else .ok) 0xFF
    else
      let t := s.updSession b fun x => { x with state := .awaitTerminal, removal := none }
      if (t.bay b).link.presence.isPresent then t.takeRise b else t

/-- The removal timeout in seconds: the latched profile's, or profile 0's as it stands (R132). -/
def State.removalTimeout (s : State) (b : BayId) : Nat :=
  match (s.session b).latched with
  | some (_, p) => p.removalTimeout
  | none => (s.profile 0).removalTimeout

/-- Entry to AWAIT_REMOVAL (R132). -/
def State.awaitRemoval (s : State) (b : BayId) : State :=
  if (s.session b).gone then s.takeRemoval b
  else
    s.updSession b fun x =>
      { x with state := .awaitRemoval,
               removal := if s.removalTimeout b = 0 then none else some (s.timer (s.removalTimeout b * 1000)) }

/-! ## Filing (R131) -/

/-- A terminal that is not filed is left: the plan ends with its recorded ending, or the removal is awaited. -/
def State.leaveTerminal (s : State) (b : BayId) : State :=
  match (s.session b).refusal, (s.session b).ending with
  | some (code, slot), _ => s.planEnd b code (byteOf slot.val)
  | none, .none => s.awaitRemoval b
  | none, ending => s.planEnd b ending.result 0xFF

/-- The last receipt has been entered: the key buffer is cleared, the hold release is given, a void is counted, and the session
moves on by what sent it here (R131, R133). -/
def State.endFiling (s : State) (b : BayId) : State :=
  let t := (s.updBay b fun x => { x with buffer := [] }).request (.release b)
  let u := if (s.session b).outcome.isVoid then t.updCounters b fun c => { c with voided := countUp c.voided } else t
  u.leaveTerminal b

/-- The session submits its receipts one at a time; one that finds the queue full waits (R131, R143). That each further one is
submitted at the moment the previous one has been entered, so that no other bay's entry comes between two that find room, is the
model's choice (log 48). -/
def State.fileReceipts (b : BayId) : List Receipt → State → State
  | [], s => (s.updSession b fun x => { x with toFile := [] }).endFiling b
  | r :: rest, s =>
    if s.queueHasRoom then fileReceipts b rest (s.enterReceipt r)
    else (s.updSession b fun x => { x with toFile := rest }).waitInLine { submitter := .bay b, receipt := r }

/-- The receipt of an item whose claim was granted (R131, R140); the time is set at entry. -/
def Session.receipt (x : Session) (b : BayId) (tag : BitVec 32) (outcome : TerminalOutcome) (i : ItemRecord) (c : GrantedClaim)
    (value : CheckValue) : Receipt :=
  { outcome, unconfirmed := x.unconfirmed, bay := b, slot := c.slot, generation := c.generation, ksn := c.ksn,
    label := i.item.label, terminal := match x.identity with | some d => d.terminal | none => 0,
    model := match x.identity with | some d => d.model | none => 0,
    profile := match x.latched with | some (p, _) => byteOf p.val | none => 0xFF, register := i.item.register,
    checkValue := match outcome with | .loaded => value | .none | .void _ => 0, time := 0, tag }

/-- The receipts of a terminal in plan order: one for each granted claim. -/
def Session.receipts (x : Session) (b : BayId) (tag : BitVec 32) (outcome : TerminalOutcome) (buffer : List KeyPlace) :
    List Receipt :=
  x.records.zipIdx.filterMap fun p =>
    p.1.claim.map fun c =>
      x.receipt b tag outcome p.1 c (match buffer[p.2]? with | some k => k.checkValue.getD 0 | none => 0)

/-- The terminal's outcome is decided and FILING is entered (R131). -/
def State.file (s : State) (b : BayId) (outcome : TerminalOutcome) : State :=
  let x := s.session b
  let tag := match (s.bay b).running with | some r => r.tag | none => 0
  State.fileReceipts b (x.receipts b tag outcome (s.bay b).buffer)
    (s.updSession b fun y => { y with state := .filing, outcome, current := none })

/-- Every claim of the terminal is voided with the reason fixed for it, or with this one if none is (R129, R130, R135). -/
def State.fileVoid (s : State) (b : BayId) (reason : VoidReason) : State :=
  s.file b (.void ((s.session b).reason.getD reason))

/-! ## Entries from the waiting line (R143) -/

/-- The submitter is told that its receipt has been entered, and goes on. -/
def State.resumeSubmitter (s : State) (x : Submission) : State :=
  match x.submitter with
  | .bay b => State.fileReceipts b (s.session b).toFile s
  | .settle i => s.resumeSettle i x.receipt

/-- An entry has left the queue: the oldest waiting submission takes the freed place. -/
def State.admitWaiting (s : State) : State :=
  match s.writer.line with
  | [] => s
  | x :: rest => ((s.updWriter fun w => { w with line := rest }).enterReceipt x.receipt).resumeSubmitter x

end Sys2Proof.Machine
end

