-- ==== Sys2Proof/Machine/Cipher.lean ====
section
/-!
DEFINITION. Machine/Cipher.lean: the cipher queue: submissions, starts with the key store's test, and KEY_UNAVAILABLE
(chapter 5).
-/

namespace Sys2Proof.Machine

/-- What the key store answers at the start of an operation: none for KEY_UNAVAILABLE, otherwise the working copy, which a
CHECKVAL does not need (R41, R81). -/
def State.workingCopy (s : State) : CipherOp → Option (Option Key)
  | .derive i generation _ => ((s.slot i).keyFor generation false).map some
  | .wrap i generation _ => ((s.slot i).keyFor generation true).map some
  | .checkval _ => some none

/-- A request completes with KEY_UNAVAILABLE: the bay voids its terminal (R85, R126). The component entry unit submits only
CHECKVAL and never receives it. -/
def State.keyUnavailable (s : State) (r : CipherRequest) : State :=
  match r.requester with
  | .bay b _ => if (s.session b).state = .preparing then s.fileVoid b .keyUnavailable else s
  | .component | .accumulator => s

/-- The request at the head starts; one whose key is unavailable completes at once and the next starts at that moment (R81). -/
def State.startCipher : List CipherRequest → State → State
  | [], s => s.updCipher fun u => { u with waiting := [] }
  | r :: rest, s =>
    match s.workingCopy r.op with
    | some working => s.updCipher fun _ => { running := some { request := r, working }, waiting := rest }
    | none => startCipher rest (s.keyUnavailable r)

/-- With no operation in progress the head of the queue starts (R81). -/
def State.kickCipher (s : State) : State :=
  if s.cipher.running.isSome then s else State.startCipher s.cipher.waiting s

/-- A submission joins the end of the arrival order, and starts at once if the queue was empty (R80, R81). -/
def State.submitCipher (s : State) (requester : Requester) (op : CipherOp) : State :=
  (s.updCipher fun u => { u with waiting := u.waiting ++ [{ requester, op }] }).kickCipher

/-- The operation in progress has ended: its place and working copy are cleared (R85). -/
def State.releaseCipher (s : State) : State := s.updCipher fun u => { u with running := none }

end Sys2Proof.Machine
end

