-- ==== Sys2Proof/Machine/Terminals.lean ====
section
/-!
DEFINITION. Machine/Terminals.lean: the session from identification to the end of loading, what each reply, drop, halt and stop
notice does to it (sections 7.3 to 7.8 and 7.11), and how the link hands frames to it (R98 to R103).
-/

namespace Sys2Proof.Machine

/-! ## Preparing, loading and releasing -/

def Session.updRecord (x : Session) (n : Nat) (f : ItemRecord → ItemRecord) : Session :=
  { x with records := x.records.modify n f }

def State.updPlace (s : State) (b : BayId) (n : Nat) (f : KeyPlace → KeyPlace) : State :=
  s.updBay b fun x => { x with buffer := x.buffer.modify n f }

/-- A frame of the terminal under its latched profile (R105). -/
def State.sendLatched (s : State) (b : BayId) (frame : EngineFrame) : State :=
  match (s.session b).latched with
  | some (_, p) => s.openExchange b frame p.retryLimit p.replyTimeout
  | none => s

/-- The first applicable item at or after place `n`, with its place. -/
def firstApplicable : List ItemRecord → Nat → Option (Nat × ItemRecord)
  | [], _ => none
  | i :: rest, n => if i.applies then some (n, i) else firstApplicable rest (n + 1)

/-- Chunk `number` of the current item goes out in a PART (R109). -/
def State.sendPart (s : State) (b : BayId) (n : Nat) (i : ItemRecord) (number : Nat) : State :=
  match (s.session b).latched, ((s.bay b).buffer[n]?).bind (·.block) with
  | some (_, p), some block =>
    (s.updSession b fun x => { x with current := some n, delivery := .part number }).openExchange b
      (.part i.item.register number (chunkCount block.length p.chunkSize) (chunkOf block p.chunkSize number))
      p.retryLimit p.replyTimeout
  | _, _ => s

/-- WRAPPED, as END codes it. -/
def Delivery.isWrapped : Delivery → Bool
  | .wrapped _ => true
  | .direct => false

/-- END of the current item (R110). -/
def State.sendEnd (s : State) (b : BayId) (i : ItemRecord) : State :=
  (s.updSession b fun x => { x with delivery := .endItem }).sendLatched b (.endItem i.item.register i.item.delivery.isWrapped)

/-- Entry to RELEASING (R127, R122). -/
def State.enterReleasing (s : State) (b : BayId) : State :=
  (s.updSession b fun x => { x with state := .releasing, current := none }).sendLatched b .release

/-- Entry to UNWINDING with the void reason fixed (R129). -/
def State.unwind (s : State) (b : BayId) (reason : VoidReason) : State :=
  (s.updSession b fun x => { x with state := .unwinding, reason := some (x.reason.getD reason), current := none }).sendLatched b
    .rollback

/-- Delivery goes to the next applicable item at or after place `n`, or to RELEASE after the last (R127). -/
def State.deliverFrom (s : State) (b : BayId) (n : Nat) : State :=
  match firstApplicable ((s.session b).records.drop n) n with
  | some (m, i) => s.sendPart b m i 1
  | none => s.enterReleasing b

/-- Entry to LOADING: BEGIN with the number of applicable items, and the begun mark (R127). The item BAY_QUERY shows in this
exchange is the first applicable one (log 43). -/
def State.enterLoading (s : State) (b : BayId) : State :=
  (s.updSession b fun x =>
    { x with state := .loading, begun := true, delivery := .begin,
             current := (firstApplicable x.records 0).map (·.1) }).sendLatched b
      (.begin ((s.session b).records.countP (·.applies)))

/-- The cipher operation an item needs next (R125). -/
def ItemRecord.nextOp (i : ItemRecord) (k : KeyPlace) : Option CipherOp :=
  match i.stage, i.claim, k.terminalKey with
  | .claimed, some c, _ => some (.derive c.slot c.generation c.ksn)
  | .derived, _, some key => some (.checkval key)
  | .checked, _, some key =>
    match i.item.delivery, i.wrapGeneration with
    | .wrapped t, some g => some (.wrap t g key)
    | _, _ => none
  | _, _, _ => none

/-- The first applicable item that is not prepared, from place `n`, with the operation it needs. -/
def nextPreparation (buffer : List KeyPlace) : List ItemRecord → Nat → Option (Nat × CipherOp)
  | [], _ => none
  | i :: rest, n =>
    match (if i.applies then (buffer[n]?).bind i.nextOp else none) with
    | some op => some (n, op)
    | none => nextPreparation buffer rest (n + 1)

/-- The session submits its next cipher request, or with every item prepared enters LOADING (R125). -/
def State.prepareNext (s : State) (b : BayId) : State :=
  match nextPreparation (s.bay b).buffer (s.session b).records 0 with
  | some (n, op) => (s.updSession b fun x => { x with current := some n }).submitCipher (.bay b n) op
  | none => s.enterLoading b

/-- Entry to PREPARING with an empty key buffer (R123, R125). -/
def State.enterPreparing (s : State) (b : BayId) : State :=
  (s.updBay b fun x =>
    { x with session := { x.session with state := .preparing, deferral := false }
             buffer := x.session.records.map fun _ => { terminalKey := none, block := none, checkValue := none } }).prepareNext b

/-! ## Claiming (R123) -/

/-- What the next item needs from the key store. -/
inductive Need where
  | claim (base : SlotId)
  | wrap (transport : SlotId)
  deriving DecidableEq, Repr

/-- A claim, then for a WRAPPED item without a wrap generation a wrap use. -/
def ItemRecord.need (i : ItemRecord) : Option Need :=
  if i.applies then
    match i.claim, i.item.delivery, i.wrapGeneration with
    | none, _, _ => some (.claim i.item.base)
    | some _, .wrapped t, none => some (.wrap t)
    | some _, _, _ => none
  else none

def nextNeed : List ItemRecord → Nat → Option (Nat × Need)
  | [], _ => none
  | i :: rest, n =>
    match i.need with
    | some need => some (n, need)
    | none => nextNeed rest (n + 1)

/-- The session sends its next request, or with all granted enters PREPARING. -/
def State.claimNext (s : State) (b : BayId) : State :=
  match nextNeed (s.session b).records 0 with
  | some (n, .claim i) => (s.updSession b fun x => { x with current := some n, deferral := false }).request (.claim b i)
  | some (n, .wrap i) => (s.updSession b fun x => { x with current := some n, deferral := false }).request (.wrapUse b i)
  | none => s.enterPreparing b

/-- At least one claim of the terminal has been granted. -/
def Session.hasClaim (x : Session) : Bool := x.records.any (·.claim.isSome)

/-- Claiming is over under a drop, a halt or a stop notice: granted claims are voided with the fixed reason; without one the
hold release is given and the plan ends, or after a mere drop the removal is taken (R130, R135; log 11). -/
def State.claimingOver (s : State) (b : BayId) (reason : VoidReason) : State :=
  let t := s.updSession b fun x => { x with deferral := false, current := none }
  if (s.session b).hasClaim then t.fileVoid b reason
  else if (s.session b).ending = .none then t.leaveTerminal b
  else (t.request (.release b)).leaveTerminal b

/-- A claim or wrap use was granted and recorded: the session goes on, unless a reason was fixed meanwhile. -/
def State.claimGranted (s : State) (b : BayId) : State :=
  match (s.session b).reason with
  | some reason => s.claimingOver b reason
  | none => s.claimNext b

/-- A claim or wrap use was refused: the code becomes the plan's end and the claims already granted are voided CLAIM_REFUSED;
under a drop, halt or stop notice that ending stands (R124, R133; log 11). -/
def State.claimRefused (s : State) (b : BayId) (code : Result) (i : SlotId) : State :=
  match (s.session b).reason with
  | some reason => s.claimingOver b reason
  | none =>
    let t := s.updSession b fun x => { x with refusal := some (code, i), deferral := false, current := none }
    if (s.session b).hasClaim then t.fileVoid b .claimRefused
    else (t.request (.release b)).leaveTerminal b

/-- A grant is recorded in the current item's record (R50, R123). -/
def State.recordClaim (s : State) (b : BayId) (c : GrantedClaim) : State :=
  match (s.session b).current with
  | some n => s.updSession b fun x => x.updRecord n fun i => { i with claim := some c, stage := .claimed }
  | none => s

/-- A wrap use grant serves every item of the terminal on that transport slot (R38, R123). -/
def State.recordWrap (s : State) (b : BayId) (t : SlotId) (generation : BitVec 16) : State :=
  s.updSession b fun x =>
    { x with records := x.records.map fun i =>
        if i.applies = true ∧ i.item.delivery = .wrapped t then { i with wrapGeneration := some generation } else i }

/-! ## Resolution (R121, R122) -/

/-- An item's condition on the IDENT fields (R122). -/
def Item.holds (i : Item) (d : Identity) : Bool :=
  match i.condition with
  | .always => true
  | .ifCap n => d.caps.getLsbD n.val
  | .ifNotCap n => !d.caps.getLsbD n.val
  | .ifRegEmpty => !d.occupancy.getLsbD i.register.val

/-- The profile of a terminal: the plan's override, or the model map's; wrap-only refuses a plan with a DIRECT item (R121). -/
def State.resolve (s : State) (plan : Plan) (d : Identity) : Option (Fin 16 × Profile) :=
  match (match plan.override with | some p => some p | none => s.prof.lookup d.model) with
  | none => none
  | some p =>
    if (s.profile p).wrapOnly = true ∧ plan.items.any (fun i => !i.delivery.isWrapped) = true then none
    else some (p, s.profile p)

/-- IDENT is taken in PROBING (R120 to R122). -/
def State.identified (s : State) (b : BayId) (plan : Plan) (d : Identity) : State :=
  let t := s.updSession b fun x => { x with identity := some d }
  match s.resolve plan d with
  | none => (t.updCounters b fun c => { c with unmatched := countUp c.unmatched }).awaitRemoval b
  | some latched =>
    let records := plan.items.map fun i =>
      ({ item := i, applies := i.holds d, claim := none, wrapGeneration := none, stage := .waiting } : ItemRecord)
    let skipped := records.countP (fun i => !i.applies)
    let u := (t.updSession b fun x => { x with latched := some latched, records }).updCounters b fun c =>
      { c with skippedItems := min (c.skippedItems + skipped) 65535 }
    if records.any (·.applies) then (u.updSession b fun x => { x with state := .claiming }).claimNext b
    else (u.updCounters b fun c => { c with skippedTerminals := countUp c.skippedTerminals }).enterReleasing b

/-! ## Exchange outcomes (R103) -/

def ExchangeFailure.reason : ExchangeFailure → VoidReason
  | .noReply => .noReply
  | .terminalRefused => .terminalRefused

/-- An exchange of LOADING ended with its reply (R109, R110, R127). -/
def State.loadingReply (s : State) (b : BayId) (f : TerminalFrame) : State :=
  let x := s.session b
  match x.delivery, x.current with
  | .begin, _ => s.deliverFrom b 0
  | .part number, some n =>
    match x.records[n]?, x.latched, ((s.bay b).buffer[n]?).bind (·.block) with
    | some i, some (_, p), some block =>
      if number < chunkCount block.length p.chunkSize then s.sendPart b n i (number + 1) else s.sendEnd b i
    | _, _, _ => s
  | .endItem, some n =>
    match x.records[n]?, f with
    | some i, .check _ register value =>
      if register.toNat = i.item.register.val ∧ ((s.bay b).buffer[n]?).bind (·.checkValue) = some value then
        (s.updSession b fun y => y.updRecord n fun i => { i with stage := .delivered }).deliverFrom b (n + 1)
      else s.unwind b .checkMismatch
    | _, _ => s
  | _, none => s

/-- The outcome REPLY reaches the session. -/
def State.sessionReply (s : State) (b : BayId) (f : TerminalFrame) : State :=
  let x := s.session b
  match x.state, f, (s.bay b).running with
  | .probing, .ident _ terminal model caps occupancy, some r =>
    s.identified b r.plan { terminal, model, caps, occupancy }
  | .loading, f, _ => s.loadingReply b f
  | .releasing, _, _ =>
    if x.begun then (s.updCounters b fun c => { c with loaded := countUp c.loaded }).file b .loaded else s.awaitRemoval b
  | .unwinding, _, _ => s.fileVoid b .terminalLost
  | _, _, _ => s

/-- The outcome NO_REPLY or TERMINAL_REFUSED reaches the session (R120, R122, R127 to R129). -/
def State.sessionFailure (s : State) (b : BayId) (e : ExchangeFailure) : State :=
  let x := s.session b
  match x.state with
  | .probing => s.awaitRemoval b
  | .loading => s.unwind b e.reason
  | .releasing => if x.begun then s.unwind b e.reason else s.awaitRemoval b
  | .unwinding => (s.updSession b fun y => { y with unconfirmed := true }).fileVoid b e.reason
  | .idle | .awaitTerminal | .claiming | .preparing | .filing | .awaitRemoval => s

/-! ## Terminal frames at the exchange (R98, R101, R102) -/

/-- The kind of a reply is the one expected. -/
def TerminalFrame.matches (f : TerminalFrame) (k : ReplyKind) : Bool :=
  match f, k with
  | .ident _ _ _ _ _, .ident => true
  | .ack _, .ack => true
  | .check _ _ _, .check => true
  | _, _ => false

/-- A NAK BUSY_RETRY at the exchange (R101). -/
def State.busyRetry (s : State) (b : BayId) (e : Exchange) : State :=
  if e.resendPending then s.countStray b
  else if e.retriesUsed < e.retryLimit then
    s.updLink b fun l =>
      { l with exchange := some { e with retriesUsed := e.retriesUsed + 1, resendPending := true } }
  else (s.closeExchange b e).sessionFailure b .noReply

/-- A terminal frame is offered to the bay's exchange (R98): discarded without counting while no plan runs (R94). -/
def State.takeFrame (s : State) (b : BayId) (f : TerminalFrame) : State :=
  match (s.bay b).running, (s.bay b).link.exchange with
  | none, _ => s
  | some _, none => s.countStray b
  | some _, some e =>
    if f.seq ≠ e.seq then s.countStray b
    else
      match f with
      | .nak _ reason =>
        if reason = 1 then s.busyRetry b e
        else
          ((s.closeExchange b e).updLink b fun l => { l with lastNak := some (nakReason reason) }).sessionFailure b
            .terminalRefused
      | f => if f.matches e.expected then (s.closeExchange b e).sessionReply b f else s.countStray b

/-! ## Drop, halt and stop notice (R130, R134, R135) -/

/-- A reason is fixed for the terminal; the first one stands (R135). -/
def Session.fixReason (x : Session) (reason : VoidReason) : Session := { x with reason := some (x.reason.getD reason) }

/-- In CLAIMING the session waits for its outstanding request; a deferred claim is withdrawn, once (R49, R130, R135). -/
def State.stopClaiming (s : State) (b : BayId) (reason : VoidReason) : State :=
  let t := s.updSession b (·.fixReason reason)
  if (s.session b).deferral = true ∧ (s.session b).reason = none then t.request (.withdraw b) else t

/-- A drop reaches the session; the link has abandoned the exchange (R130). -/
def State.sessionDrop (s : State) (b : BayId) : State :=
  let x := s.session b
  let t := s.updSession b fun y => { y with gone := true }
  match x.state with
  | .idle | .awaitTerminal => s
  | .probing => t.awaitRemoval b
  | .claiming => t.stopClaiming b .terminalLost
  | .preparing => t.updSession b (·.fixReason .terminalLost)
  | .loading => (t.updSession b fun y => { y with unconfirmed := true }).fileVoid b .terminalLost
  | .releasing =>
    if x.begun then (t.updSession b fun y => { y with unconfirmed := true }).fileVoid b .terminalLost else t.awaitRemoval b
  | .unwinding => (t.updSession b fun y => { y with unconfirmed := true }).fileVoid b .terminalLost
  | .filing => t
  | .awaitRemoval => (t.updSession b fun y => { y with removal := none }).takeRemoval b

/-- A halt or stop notice acts on the session; its ending is recorded (R135). -/
def State.haltSession (s : State) (b : BayId) (reason : VoidReason) : State :=
  let x := s.session b
  match x.state with
  | .idle | .unwinding | .filing => s
  | .awaitTerminal | .awaitRemoval => s.planEnd b x.ending.result 0xFF
  | .probing => (s.abandonExchange b).planEnd b x.ending.result 0xFF
  | .claiming => s.stopClaiming b reason
  | .preparing => s.updSession b (·.fixReason reason)
  | .loading => (s.abandonExchange b).unwind b reason
  | .releasing =>
    if x.begun then (s.abandonExchange b).unwind b reason
    else (s.abandonExchange b).planEnd b x.ending.result 0xFF

/-- The held order is completed and the holder empties (R134). -/
def State.dropHeld (s : State) (b : BayId) (result : Result) : State :=
  match (s.bay b).held with
  | none => s
  | some h => (s.updBay b fun x => { x with held := none }).completeOrder h.order result (planData b 0xFF Counters.zero)

/-- The stop notice at one bay (R134). -/
def State.stopBay (s : State) (b : BayId) : State :=
  match (s.bay b).running with
  | none => s
  | some _ =>
    let t := s.dropHeld b .engineStopped
    if (s.session b).ending = .none then
      (t.updSession b fun x => { x with ending := .engineStopped }).haltSession b .engineStopped
    else t

/-- The stop notice reaches every bay, in ascending order, and so do the withdrawals that it leads to (R49; log 39). -/
def State.stopBays (s : State) : State := (List.finRange 8).foldl State.stopBay s

end Sys2Proof.Machine
end

