-- ==== Sys2Proof/Machine/Claims.lean ====
section
/-!
DEFINITION. Machine/Claims.lean: the requests the key store takes in arrival order: CLAIM_REQUEST, WRAP_USE, CLAIM_WITHDRAWAL,
HOLD_RELEASE and CLAIM_CLOSURE (sections 2.9, 3.2 and 3.4; log 8).
-/

namespace Sys2Proof.Machine

/-! ## The claim arbiter (R48 to R50) -/

/-- What the arbiter makes of a claim request. -/
inductive ClaimDecision where
  | grant
  | refuse (code : Result)
  | defer
  deriving DecidableEq, Repr

/-- The six tests of R48 in order; ORPHAN_PENDING reaches the bay as REFUSED_STATE. -/
def Slot.decideClaim (x : Slot) (b : BayId) : ClaimDecision :=
  if ¬(x.state = .ready ∧ x.isBase = true) then .refuse .refusedState
  else if x.admits b = false then .refuse .refusedBay
  else if x.claims.any (fun c => decide (c.bay = b) && c.orphan) then .refuse .refusedState
  else if x.claims.any (fun c => decide (c.bay = b) && !c.orphan) then .defer
  else if 1048576 ≤ x.nextSerial then .refuse .serialsSpent
  else if x.allowance = 0 then .refuse .allowanceSpent
  else .grant

/-- The record after a grant: next serial up, allowance down, a live claim at the list's end, the bay in the hold set (R50). -/
def Slot.grantClaim (x : Slot) (b : BayId) : Slot :=
  { x with nextSerial := x.nextSerial + 1, allowance := x.allowance - 1,
           claims := x.claims ++ [{ bay := b, serial := x.nextSerial, orphan := false }], holds := x.holds ||| bayBit b }

/-- What the grant returns to the bay (R50). -/
def Slot.claimGrant (x : Slot) (i : SlotId) : GrantedClaim :=
  { slot := i, generation := x.generation, serial := x.nextSerial, ksn := formKsn x.ksi x.nextSerial }

/-- A claim request is decided against the record as it stands, and the bay takes the answer (R48 to R50, R124). -/
def State.takeClaim (s : State) (b : BayId) (i : SlotId) : State :=
  match (s.slot i).decideClaim b with
  | .grant => ((s.updSlot i (·.grantClaim b)).recordClaim b ((s.slot i).claimGrant i)).claimGranted b
  | .refuse code => s.claimRefused b code i
  | .defer =>
    let t := (s.updKs fun k => { k with deferred := k.deferred.set b (some i) }).updSession b fun x => { x with deferral := true }
    if (s.session b).reason.isSome then t.request (.withdraw b) else t

/-! ## Wrap uses (R38) -/

/-- The table of R38: none for a grant. -/
def Slot.refuseWrap (x : Slot) (b : BayId) : Option Result :=
  if x.heldBy b = true ∧ (x.state = .ready ∨ x.state = .draining) then none
  else if x.state = .ready ∧ x.isTransport = true then if x.admits b then none else some .refusedBay
  else some .refusedState

def State.takeWrap (s : State) (b : BayId) (i : SlotId) : State :=
  match (s.slot i).refuseWrap b with
  | none =>
    ((s.updSlot i fun x => { x with holds := x.holds ||| bayBit b }).recordWrap b i (s.slot i).generation).claimGranted b
  | some code => s.claimRefused b code i

/-! ## Withdrawals (R49) -/

/-- A withdrawal finds the deferred request and it is answered as withdrawn, or finds none. -/
def State.takeWithdrawal (s : State) (b : BayId) : State :=
  match s.ks.deferred[b] with
  | none => s
  | some _ =>
    (s.updKs fun k => { k with deferred := k.deferred.set b none }).claimingOver b
      ((s.session b).reason.getD .terminalLost)

/-! ## Closures (R52) -/

/-- The closure names an open claim of the slot at its generation. -/
def Slot.closes (x : Slot) (c : Closure) : Bool :=
  decide (x.generation = c.generation) && x.claims.any fun d => decide (d.bay = c.bay) && decide (d.serial = c.serial)

/-- The record after a closure: the claim leaves the list, the receipted count rises (R52). -/
def Slot.closeClaim (x : Slot) (c : Closure) : Slot :=
  { x with claims := x.claims.eraseP fun d => decide (d.bay = c.bay) && decide (d.serial = c.serial),
           receipted := x.receipted + 1 }

/-- The bay's request deferred on the slot is taken again as a new arrival (R49). -/
def State.retakeDeferred (s : State) (b : BayId) (i : SlotId) : State :=
  if s.ks.deferred[b] = some i then
    ((s.updKs fun k => { k with deferred := k.deferred.set b none }).updSession b fun x => { x with deferral := false }).takeClaim
      b i
  else s

/-- The pending closure leaves the hand-over place (R145). -/
def State.closureTaken (s : State) : State := s.updKs fun k => { k with closure := none }

/-- The key store takes the pending closure (R52). -/
def State.takeClosure (s : State) (c : Closure) : State :=
  let t := s.closureTaken
  if (s.slot c.slot).closes c then
    ((((t.updSlot c.slot (·.closeClaim c)).retakeDeferred c.bay c.slot).testDrain c.slot)).settleClosed c.slot
      { bay := c.bay, serial := c.serial, orphan := true }
  else t

/-! ## The commands -/

/-- The oldest request, while the key store takes requests at all (R43, R47). -/
def State.headRequest (s : State) : Option KsRequest := if s.storeOpen then s.ks.requests.head? else none

def State.dropRequest (s : State) : State := s.updKs fun k => { k with requests := k.requests.tail }

/-- CLAIM_REQUEST (R48). -/
def execClaimRequest (s : State) : Host.Outcome State Fault Refusal :=
  .next (s.run fun s =>
    match s.headRequest with
    | some (.claim b i) => s.dropRequest.takeClaim b i
    | _ => s)

/-- WRAP_USE (R38). -/
def execWrapUse (s : State) : Host.Outcome State Fault Refusal :=
  .next (s.run fun s =>
    match s.headRequest with
    | some (.wrapUse b i) => s.dropRequest.takeWrap b i
    | _ => s)

/-- CLAIM_WITHDRAWAL (R49). -/
def execClaimWithdrawal (s : State) : Host.Outcome State Fault Refusal :=
  .next (s.run fun s =>
    match s.headRequest with
    | some (.withdraw b) => s.dropRequest.takeWithdrawal b
    | _ => s)

/-- HOLD_RELEASE (R39). -/
def execHoldRelease (s : State) : Host.Outcome State Fault Refusal :=
  .next (s.run fun s =>
    match s.headRequest with
    | some (.release b) => s.dropRequest.releaseHolds b
    | _ => s)

/-- CLAIM_CLOSURE (R52). -/
def execClaimClosure (s : State) : Host.Outcome State Fault Refusal :=
  .next (s.run fun s =>
    match s.headRequest, s.ks.closure with
    | some .closure, some c => s.dropRequest.takeClosure c
    | _, _ => s)

end Sys2Proof.Machine
end

