-- ==== Sys2Proof/Machine/Ceremonies.lean ====
section
/-!
DEFINITION. Machine/Ceremonies.lean: assemblies and approvals in the component entry unit, and the outcome of an approval at the
key store (chapter 4 and section 3.7).
-/

namespace Sys2Proof.Machine

/-- The record is emptied; in RUNNING and STOPPING CEREMONY_ENDED is set (R64). -/
def State.emptyRecord (s : State) : State :=
  let t := s.updCeu fun u => { u with record := .empty }
  if s.engine = .running ∨ s.engine = .stopping then t.raise .ceremonyEnded else t

/-- A pending component is rejected: its console is told and its flag cleared (R66 to R71). -/
def State.rejectArrival (reason : RejectReason) (s : State) (a : Arrival) : State :=
  (s.updConsole a.console fun x => { x with pending := false }).toConsole a.console (.rejected a.seq reason)

/-- Every entry of the arrival list is rejected, in list order. -/
def State.rejectArrivals (s : State) (reason : RejectReason) : State :=
  (s.ceu.arrivals.foldl (State.rejectArrival reason) s).updCeu fun u => { u with arrivals := [] }

/-- The assembly in the record. -/
def State.assembly (s : State) : Option Assembly :=
  match s.ceu.record with
  | .assembly a => some a
  | .empty | .approval _ => none

def State.setAssembly (s : State) (a : Assembly) : State := s.updCeu fun u => { u with record := .assembly a }

/-- The oldest arrival is tested once more and submitted for its check, while an assembly in GATHERING holds the record and no
request is outstanding (R67). -/
def State.takeComponents : List Arrival → State → State
  | [], s => s.updCeu fun u => { u with arrivals := [] }
  | a :: rest, s =>
    match s.assembly with
    | some y =>
      if y.phase = .gathering ∧ s.ceu.busy = false then
        if y.contributors.any (fun c => decide (c.1 = a.id)) then
          takeComponents rest ((State.rejectArrival .alreadyContributed s a).updCeu fun u => { u with arrivals := rest })
        else
          (s.updCeu fun u => { u with arrivals := rest, inCheck := some a, busy := true }).submitCipher .component
            (.checkval a.value)
      else s
    | none => s

def State.takeArrivals (s : State) : State := State.takeComponents s.ceu.arrivals s

/-! ## Endings (R71) -/

/-- The component in check is rejected and the discard mark set, when a CHECKVAL is outstanding (step 3 of R71). -/
def State.discardCheck (s : State) : State :=
  if s.ceu.busy then
    let t := match s.ceu.inCheck with
      | some a => State.rejectArrival .ceremonyEnded s a
      | none => s
    t.updCeu fun u => { u with inCheck := none, discard := true }
  else s

/-- An assembly in GATHERING or FINAL_CHECK ends (R71). -/
def State.endAssembly (s : State) (a : Assembly) (code : Result) : State :=
  let t := ((s.setAssembly { a with accumulator := 0 }).rejectArrivals .ceremonyEnded).discardCheck
  (((t.endAssemblySlot a.slot).completeOrder a.order code (a.answerData 0)).toConsoles
    (.assemblyClosed a.slot code 0)).emptyRecord

/-! ## The checks (R68 to R70) -/

/-- The final check begins (R69). -/
def State.beginFinalCheck (s : State) (a : Assembly) : State :=
  (((s.setAssembly { a with deadline := none, phase := .finalCheck }).rejectArrivals .assemblyComplete).updCeu fun u =>
    { u with busy := true }).submitCipher .accumulator (.checkval a.accumulator)

/-- A component whose check differs is rejected and counted (R68). -/
def State.componentFailed (s : State) (y : Assembly) (a : Arrival) : State :=
  let z := { y with rejects := y.rejects + 1 }
  let t := (State.rejectArrival .checkFailed s a).setAssembly z
  if z.rejects = 3 then t.endAssembly z .componentRejects else t.takeArrivals

/-- A component whose check matches is combined and accepted (R68). -/
def State.componentAccepted (s : State) (y : Assembly) (a : Arrival) : State :=
  let z := { y with accumulator := y.accumulator ^^^ a.value, contributors := y.contributors ++ [(a.id, a.console)] }
  let t := (((((s.setAssembly z).updConsole a.console fun x => { x with pending := false }).toConsole a.console
    (.accepted a.seq)).toConsoles (.assemblyProgress z.slot z.contributors.length z.target)).raise .ceremonyStep)
  if z.contributors.length = z.target then t.beginFinalCheck z else t.takeArrivals

/-- The busy mark is cleared as the CHECKVAL completes. -/
def State.checkEnded (s : State) : State := s.updCeu fun u => { u with busy := false, discard := false, inCheck := none }

/-- The CHECKVAL of a component completes (R68, R72). -/
def State.componentChecked (s : State) (value : CheckValue) : State :=
  let t := s.checkEnded
  if s.ceu.discard then t.takeArrivals
  else
    match s.assembly, s.ceu.inCheck with
    | some y, some a => if value = a.entered then t.componentAccepted y a else t.componentFailed y a
    | _, _ => t.takeArrivals

/-- The commit's result reaches the unit (R70); with no assembly for that slot in the record it is discarded. -/
def State.commitResult (s : State) (i : SlotId) (ok : Bool) : State :=
  match s.assembly with
  | some a =>
    if a.slot = i ∧ a.phase = .committing then
      let value : CheckValue := if ok then (s.slot i).checkValue.getD 0 else 0
      let code : Result := if ok then .ok else .storeFault
      ((s.completeOrder a.order code (a.answerData value)).toConsoles (.assemblyClosed i code value)).emptyRecord
    else s
  | none => s

/-- A matching final check commits the key (R69, R24); a volatile slot reports READY at once. -/
def State.commitAssembly (s : State) (a : Assembly) (value : CheckValue) : State :=
  let t := (s.setAssembly { a with accumulator := 0, phase := .committing }).commitKey a.slot a.accumulator
    (a.contributors.map (·.1)) value
  if isPersistent a.slot then t else t.commitResult a.slot true

/-- The CHECKVAL of the accumulator completes (R69, R72). -/
def State.accumulatorChecked (s : State) (value : CheckValue) : State :=
  let t := s.checkEnded
  if s.ceu.discard then t.takeArrivals
  else
    match s.assembly with
    | some a => if value = a.expected then t.commitAssembly a value else t.endAssembly a .checkMismatch
    | none => t

/-! ## Approvals (R59, R76, R77) -/

inductive ApprovalOutcome where
  | granted | notApproved | stopped
  deriving DecidableEq, Repr

/-- The result code SHOW and the grant carry for an outcome. -/
def ApprovalOutcome.result : ApprovalOutcome → Result
  | .granted => .ok
  | .notApproved => .notApproved
  | .stopped => .engineStopped

/-- The key store takes the outcome of the pending grant (R59). -/
def State.grantOutcome (s : State) (o : ApprovalOutcome) : State :=
  match s.ks.grant with
  | none => s
  | some g =>
    let t := s.updKs fun k => { k with grant := none }
    let x := s.slot g.slot
    if x.state ≠ .ready ∨ x.generation ≠ g.generation then t.completeOrder g.order .refusedState []
    else
      match o with
      | .granted => (t.applyGrant g.slot g.amount).completeOrder g.order .ok (x.grantAnswer g.slot g.amount)
      | .notApproved | .stopped => t.completeOrder g.order o.result []

/-- An approval ends: the outcome, SHOW APPROVAL_CLOSED, and the record is emptied (R77). -/
def State.endApproval (s : State) (p : Approval) (o : ApprovalOutcome) : State :=
  ((s.grantOutcome o).toConsoles (.approvalClosed p.slot p.amount o.result)).emptyRecord

/-- The stop notice at the component entry unit (R75). -/
def State.stopCeremony (s : State) : State :=
  match s.ceu.record with
  | .empty => s
  | .assembly a => if a.phase = .committing then s else s.endAssembly a .engineStopped
  | .approval p => s.endApproval p .stopped

end Sys2Proof.Machine
end

