-- ==== Sys2Proof/Machine/Window.lean ====
section
/-!
DEFINITION. Machine/Window.lean: the register window and the area: START, STOP, NUDGE, EVENTS_READ, EVENT_MASK_WRITE,
REGISTER_WRITE and AREA_FAULT, with the stop notice (sections 1.1 to 1.3 and 1.10, chapter 10).
-/

namespace Sys2Proof.Machine

/-! ## START (R5) -/

/-- FORMAT, CELLS and SWEEP_MS are legal (test 3 of R5). -/
def headerLegal (h : StationHeader) : Bool :=
  decide (h.format = 0x0A24) && decide (8 ≤ h.cells.toNat ∧ h.cells.toNat ≤ 64) && decide (h.sweepMs.toNat ≤ 10000)

/-- Any slot holds an orphan claim (R169). -/
def KeyStore.anyOrphan (k : KeyStore) : Bool := k.slots.toList.any (·.hasOrphan)

/-- The start report (R169). -/
def State.reportStart (s : State) : State :=
  if s.events.startReport then
    let t := { s with events := { s.events with startReport := false } }
    if s.ks.anyOrphan then t.raise .orphansPresent else t
  else s

/-- The sweep timer, when SWEEP_MS is not 0 (R5, R9). -/
def State.armSweepTimer (s : State) : State :=
  match s.intake.area with
  | some a => s.updIntake fun k => { k with sweepTimer := if a.sweepMs = 0 then none else some (s.timer a.sweepMs) }
  | none => s

/-- The writer leaves INACTIVE and begins a take attempt (R144, R147; log 17). -/
def State.writerActive (s : State) : State :=
  s.updWriter fun w => { w with state := .taking, readAgain := false, fromAwait := false }

/-- A START that passes: RUNNING with the area in use, the timer, a first sweep at cell 0, the writer, the start report (R5). -/
def State.useArea (s : State) (base : BitVec 64) (h : StationHeader) : State :=
  let a : Area := { base, cells := h.cells.toNat, sweepMs := h.sweepMs.toNat }
  ((({ s with engine := .running }.updIntake fun k => { k with area := some a, pointer := 0 }).armSweepTimer.beginSweep
    a).writerActive).reportStart

/-- START (R5). -/
def execStart (hdr : Option StationHeader) (s : State) : Host.Outcome State Fault Refusal :=
  .next (s.run fun s =>
    if s.engine = .standby then
      let base := s.intake.areaHi ++ s.intake.areaLo
      match hdr with
      | some h => if base.setWidth 16 = 0#16 ∧ headerLegal h = true then s.useArea base h else s.raise .areaFault
      | none => s.raise .areaFault
    else s)

/-! ## STOP and the stop notice (R6) -/

/-- A take that completes after STOP is answered ENGINE_STOPPED without dispatch (R6, R16). -/
def State.stopValidating (s : State) : State :=
  match s.validating with
  | some e => s.refuseAtTake e .engineStopped
  | none => s

/-- Every settle is tested, in ascending slot order (R56; log 39). -/
def State.testSettles (s : State) : State := (List.finRange 64).foldl State.testSettle s

/-- The stop notice: the ceremony, then bays 0 to 7, then the settles of slots 0 to 63 bring their orders to their answers (R6, R56,
R75, R134; the order among them is the model's, log 39). -/
def State.stopNotice (s : State) : State := (s.stopCeremony.stopBays).testSettles

/-- No sweep goes on: the sweep, its flag, the backlog mark and the timer are gone (R6, R19). -/
def State.endSweeps (s : State) : State :=
  s.updIntake fun k => { k with sweep := none, sweepAgain := false, backlog := false, sweepTimer := none }

/-- STOP (R6). -/
def execStop (s : State) : Host.Outcome State Fault Refusal :=
  .next (s.run fun s =>
    if s.engine = .running then ({ s with engine := .stopping }.endSweeps.stopValidating).stopNotice else s)

/-! ## NUDGE, EVENTS, EVENT_MASK and the other registers -/

/-- NUDGE: a sweep trigger, and one event at the writer, also when it starts a sweep (R12, R147; log 17). -/
def execNudge (_value : BitVec 32) (s : State) : Host.Outcome State Fault Refusal :=
  .next (s.run fun s => s.requestSweep.pokeWriter)

/-- EVENTS_READ: the flags are returned and exactly those are cleared (R167). -/
def execEventsRead (s : State) : Host.Outcome State Fault Refusal :=
  .next (s.run fun s =>
    (s.emit [.readData (s.events.flags.setWidth 32)]).setEvents
      { s.events with flags := s.events.flags &&& ~~~s.events.flags })

/-- EVENT_MASK_WRITE (R168). -/
def execEventMaskWrite (value : BitVec 32) (s : State) : Host.Outcome State Fault Refusal :=
  .next (s.run fun s => s.setEvents { s.events with mask := value.setWidth 16 })

/-- REGISTER_WRITE: the base address registers are written, every other write is discarded (R1; log 24). -/
def execRegisterWrite (w : PlainWrite) (s : State) : Host.Outcome State Fault Refusal :=
  .next (s.run fun s =>
    match w with
    | .areaLo v => s.updIntake fun k => { k with areaLo := v }
    | .areaHi v => s.updIntake fun k => { k with areaHi := v }
    | .control _ | .events _ | .state _ | .unused _ _ => s)

/-! ## AREA_FAULT (R19) -/

/-- The writer may run its write sequence: an entry, a roll with room, and no closure pending (R145). -/
def State.canWrite (s : State) : Bool :=
  decide (s.writer.state = .writing) && s.ks.closure.isNone && !s.writer.queue.isEmpty && decide (0 < s.writer.room)

/-- The sweep may visit its next cell: no order in hand and no answer at take still to be written (R16). -/
def State.canVisit (s : State) : Bool :=
  s.intake.sweep.isSome && s.visitDone

/-- The access can be under way, so a bus error can fall on it. -/
def State.accessPossible (s : State) : AreaAccess → Bool
  | .sweep => s.intake.area.isSome && s.canVisit
  | .answer => s.intake.area.isSome && (s.intake.atTake.isSome || !s.intake.answers.isEmpty)
  | .takeAttempt => decide (s.writer.state = .taking) && s.ks.closure.isNone
  | .receiptRecord | .rollWritten => s.canWrite

/-- The writer's own copy of the header fields and the rolls: an address of a roll. -/
def Roll.recordAddress (r : Roll) (index : Nat) : BitVec 64 := r.base + BitVec.ofNat 64 (index * 64)

/-- What the failed access had already written: a write of CUR_ROLL_WRITTEN that fails follows the write of the record (R146;
log 22). -/
def State.writtenBeforeFault (s : State) : AreaAccess → List Output
  | .rollWritten =>
    match s.writer.queue, s.writer.roll with
    | r :: _, some roll => [.busWrite (roll.recordAddress roll.written) (r.bytes roll.sequence roll.written)]
    | _, _ => []
  | .sweep | .answer | .takeAttempt | .receiptRecord => []

/-- Every answer still due is lost, the one at take first, with the order being validated (R18, R19; log 20). -/
def State.loseAnswers (s : State) : State :=
  let cells := (s.intake.atTake.toList ++ s.intake.answers).map (·.cell) ++ s.validating.toList.map (·.cell)
  (cells.foldl State.answered (s.updIntake fun k => { k with atTake := none, answers := [] }))

/-- A drain ends: READY with claims, holds and allowance as they were, the order completed ENGINE_STOPPED (R36). -/
def State.endDrain (s : State) (i : SlotId) : State :=
  if (s.slot i).state = .draining then
    (s.updSlot i fun x => { x with state := .ready, force := false }).answerErase i .engineStopped
  else s

/-- A settle whose submission waited in the line stops (R56). -/
def State.withdrawSettle (waiting : List SlotId) (s : State) (i : SlotId) : State :=
  if waiting.contains i then s.stopSettle i else s

/-- The slots whose settle has a submission in the line. -/
def Writer.waitingSettles (w : Writer) : List SlotId :=
  w.line.filterMap fun x => match x.submitter with | .settle i => some i | .bay _ => none

/-- The settles' submissions leave the line (R56, R143). -/
def State.withdrawSettles (s : State) : State :=
  (List.finRange 64).foldl (State.withdrawSettle s.writer.waitingSettles)
    (s.updWriter fun w => { w with line := w.line.filter fun x => match x.submitter with | .bay _ => true | .settle _ => false })

/-- An area fault (R19, R36, R56, R152). That the message of AREA_FAULT comes before the frames of the stop notice is the model's
choice (log 47). -/
def State.areaFault (s : State) : State :=
  let t := ((s.raise .areaFault).endSweeps.updIntake fun k => { k with area := none }).writerInactive.loseAnswers
  let u := ((List.finRange 64).foldl State.endDrain t).withdrawSettles
  if s.engine = .running then ({ u with engine := .stopping }).stopNotice else u

/-- AREA_FAULT (R19). -/
def execAreaFault (access : AreaAccess) (s : State) : Host.Outcome State Fault Refusal :=
  .next (s.run fun s =>
    if s.accessPossible access then (s.emit (s.writtenBeforeFault access)).areaFault else s)

end Sys2Proof.Machine
end

