-- ==== Sys2Proof/Machine/Resets.lean ====
section
/-!
DEFINITION. Machine/Resets.lean: the tamper latch and zeroize, the start-up load, the resets and the loss of main power (R4, R8,
R9, R42 to R45, R78, R79, R112, R113, R138, R139, R153, R154, R158 to R160, R175).
-/

namespace Sys2Proof.Machine

/-! ## Zeroize and the overwrite (R43) -/

/-- A slot zeroized: EMPTY, undefined, the next generation. The key of a persistent slot stands in the array until its position
is overwritten; nothing can use it. -/
def Slot.zeroized (x : Slot) (i : SlotId) : Slot :=
  Slot.blank (x.generation + 1) (if isPersistent i then x.stored else .zeros)

def State.zeroizeSlot (s : State) (i : SlotId) : State := s.updSlot i fun x => x.zeroized i

/-- The key store at tamper: every slot is zeroized and its changes reported, everything in progress ends, and the overwrite of
the key array begins at slot 0 (R43, R47, R154). -/
def State.tamperStore (s : State) : State :=
  ((List.finRange 64).foldl State.zeroizeSlot s).updKs fun k =>
    { k with requests := [], deferred := Vector.replicate 8 none, closure := none, writeQueue := [], arrayWrite := none,
             overwrite := some 0, grant := none }

/-- The next position to overwrite. -/
def nextPosition (p : Fin 48) : Option (Fin 48) := if h : p.val + 1 < 48 then some ⟨p.val + 1, h⟩ else none

/-- ZEROIZE_OVERWRITE_DONE: the position holds zeros, or no key after a failure, which sets STORE_FAULT (R43). -/
def execZeroizeOverwriteDone (ok : Bool) (s : State) : Host.Outcome State Fault Refusal :=
  .next (s.run fun s =>
    match s.ks.overwrite with
    | none => s
    | some p =>
      let t := (s.updSlot ⟨p.val, by omega⟩ fun x => { x with stored := if ok then .zeros else .noKey }).updKs fun k =>
        { k with overwrite := nextPosition p }
      (if ok then t else t.raise .storeFault).kickArray)

/-! ## The other blocks at tamper -/

def Console.tampered (c : Console) : Console := { c with card := none, pending := false, queue := [] }

/-- The component entry unit at tamper (R79; log 12). -/
def State.tamperCeu (s : State) : State :=
  (s.updCeu fun u =>
    { u with consoles := Vector.ofFn fun c => (u.consoles[c]).tampered, record := .empty, arrivals := [], inCheck := none,
             busy := false, discard := false }).toConsoles .stationTampered

/-- A bay at tamper: the link stops mid-frame, the session is IDLE, cache, counters and link counters stay (R113, R139). That the
rest of the session context is cleared with its state is the model's choice (log 45). -/
def Bay.tampered (x : Bay) : Bay :=
  { x with link := { x.link with sending := none, following := [], exchange := none, receiver := .hunt }
           session := Session.reset, buffer := [], running := none, held := none, halt := none }

/-- The writer at tamper: queue, line and roll are discarded, the roll count and the read-again mark kept (R154). -/
def State.tamperWriter (s : State) : State :=
  (s.updWriter fun w => { w with state := .inactive, queue := [], line := [], fromAwait := false }).setRoll none

/-- The intake unit at tamper: every open order is answered TAMPERED in take order, or lost with the area out of use, and a
stopped sweep timer starts again (R9). -/
def State.tamperIntake (s : State) : State :=
  if s.intake.area.isSome then
    let t := s.updIntake fun k =>
      { k with table := k.table.map (·.withCondition .answerDue),
               answers := k.table.map fun e => { cell := e.cell, result := .tampered, data := [] }, atTake := none }
    if s.intake.sweepTimer.isNone then t.armSweepTimer else t
  else
    (s.intake.table.map (·.cell)).foldl State.answered (s.updIntake fun k => { k with atTake := none, answers := [] })

/-- Entry to TAMPERED (R9). -/
def State.enterTampered (s : State) : State := ({ s with engine := .tampered }.raise .tamper).tamperIntake

/-- The latch is set with main power present: zeroize, and every block's own part; in LOADING the engine enters TAMPERED only
when the load ends (R4, R9, R42, R43, R79, R88, R175). That the SHOW STATION_TAMPERED frames begin before the message of the TAMPER
flag or of a roll room watch, and after those of zeroize, is the model's choice (log 47). -/
def State.tamper (s : State) : State :=
  let t := ((s.tamperStore.updCipher fun _ => CipherUnit.reset).tamperCeu).tamperWriter
  let u := { t with bays := Vector.ofFn fun b => (t.bays[b]).tampered,
                    prof := { t.prof with persist := t.prof.persist.map fun p => { p with order := none } } }
  if s.engine = .loading then u else u.enterTampered

/-- The latch is set (R42): without main power only the battery domain acts. -/
def State.setLatch (s : State) : State :=
  let t := s.updKs fun k => { k with latch := true }
  if s.engine = .off then t.tamperStore else t.tamper.closeSweep.settleEngine

/-- TMP_CASE_ACTIVE: the input becomes active (R42). -/
def execTmpCaseActive (s : State) : Host.Outcome State Fault Refusal :=
  .next (let t := { s with out := [] }.updKs fun k => { k with tmpCase := true }
    if s.ks.latch then t else t.setLatch)

/-- TMP_BATLOW_ACTIVE: acted on only while main power is absent (R42). -/
def execTmpBatlowActive (s : State) : Host.Outcome State Fault Refusal :=
  .next (let t := { s with out := [] }.updKs fun k => { k with tmpBatlow := true }
    if s.ks.latch = true ∨ s.engine ≠ .off then t else t.setLatch)

/-! ## The start-up load (R158 to R160) -/

/-- A bay's presence recogniser at the end of the load: a high input enters SETTLING with profile 0's settle time (R106). -/
def Link.wake (l : Link) (timer : Timer) : Link :=
  if l.input then { l with presence := .settling, presenceTimer := some timer }
  else { l with presence := .absent, presenceTimer := none }

/-- The load ends: STANDBY, or TAMPERED with the latch set, where R79 applies again after a reset in TAMPERED (R4, R79, R160;
log 18), its frames before the message of TAMPER (the model's choice, log 47). -/
def State.endLoad (s : State) : State :=
  let timer := s.timer (s.profile 0).settleTime
  let t := { s with prof := { s.prof with load := none },
                    bays := Vector.ofFn fun b => { s.bays[b] with link := (s.bays[b]).link.wake timer } }
  if s.ks.latch then (if s.prof.reentry then t.tamperCeu else t).enterTampered else { t with engine := .standby }

/-- The memory is unreadable: every group keeps its defaults and is FAULTED, and the load ends at once (R158). -/
def State.memoryUnreadable (s : State) : State :=
  ((s.updProf fun p =>
    { p with groups := Vector.replicate 4 { source := .faulted, changed := false }, control := 0,
             unreadable := true }).raise .profileFault).endLoad

/-- The memory is ready: its control word is kept and the group areas are read next (R158). -/
def State.memoryReady (s : State) (control : BitVec 16) : State :=
  s.updProf fun p => { p with control, load := some (.group 0) }

/-- What a group area yields: its records, or none when it is defaulted (R159). -/
inductive GroupRecords where
  | profiles (l : List Profile)
  | entries (l : List MapEntry)
  deriving DecidableEq, Repr

/-- The records of a group area, if every one is in range (R159). -/
def groupRecords? (g : Fin 4) (area : List Byte) : Option GroupRecords :=
  if g.val < 2 then (allSome ((recordsOf area 16 8).map profile?)).map .profiles
  else (allSome ((recordsOf area 4 32).map mapEntry?)).map .entries

/-- The stored check of a group equals the check computed over its record bytes (R159, R178). -/
def groupCheckGood (area : List Byte) : Bool := decide (numberAt area 128 2 = (crc (field area 0 128)).toNat)

/-- The records of group `g` take new values; a list too short leaves the defaults. -/
def ProfileStore.writeGroup (p : ProfileStore) (g : Fin 4) (r : GroupRecords) : ProfileStore :=
  match r with
  | .profiles l =>
    { p with profiles := Vector.ofFn fun i => if i.val / 8 = g.val then l.getD (i.val % 8) Profile.default else p.profiles[i] }
  | .entries l =>
    { p with map := Vector.ofFn fun i =>
        if i.val / 32 + 2 = g.val then l.getD (i.val % 32) MapEntry.unused else p.map[i] }

/-- A group's default records. -/
def defaultRecords (g : Fin 4) : GroupRecords := if g.val < 2 then .profiles [] else .entries []

def ProfileStore.setGroup (p : ProfileStore) (g : Fin 4) (x : GroupStatus) : ProfileStore :=
  { p with groups := p.groups.set g x }

/-- The source a group takes, with the records: the table of R159. -/
def judgeGroup (control : BitVec 16) (g : Fin 4) (area : List Byte) : GroupSource × GroupRecords :=
  if groupCode control g ≠ 1 then (.blank, defaultRecords g)
  else if groupCheckGood area = false then (.faulted, defaultRecords g)
  else
    match groupRecords? g area with
    | some r => (.memory, r)
    | none => (.faulted, defaultRecords g)

/-- A group area is judged (R159). -/
def State.judge (s : State) (g : Fin 4) (area : List Byte) : State :=
  let v := judgeGroup s.prof.control g area
  let t := s.updProf fun p => (p.writeGroup g v.2).setGroup g { source := v.1, changed := false }
  if v.1 = .faulted then t.raise .profileFault else t

def nextGroup (g : Fin 4) : Option (Fin 4) := if h : g.val + 1 < 4 then some ⟨g.val + 1, h⟩ else none

/-- GROUP_AREA_READ (R159, R160). -/
def execGroupAreaRead (area : Vector Byte 130) (s : State) : Host.Outcome State Fault Refusal :=
  .next (s.run fun s =>
    match s.prof.load with
    | some (.group g) =>
      let t := s.judge g area.toList
      match nextGroup g with
      | some h => t.updProf fun p => { p with load := some (.group h) }
      | none => t.endLoad
    | _ => s)

/-- MEMORY_BUSY_TIMEOUT (R158). -/
def execMemoryBusyTimeout (s : State) : Host.Outcome State Fault Refusal :=
  .next (s.run fun s =>
    match s.prof.load with
    | some (.waiting t) => if t.due s.clock then s.memoryUnreadable else s
    | _ => s)

/-! ## The resets (R8, R44, R45, R78, R88, R112, R138, R153, R175) -/

/-- A persistent slot's record after a reset, its claims apart (R44). -/
def Slot.resetState (x : Slot) : Slot :=
  match x.state, x.target with
  | .assembling, _ => { x with state := .empty }
  | .writing, some .empty => x
  | .writing, _ =>
    { x with state := .empty, target := none, keyholders := [], checkValue := none, stored := .noKey }
  | .draining, _ => { x with state := .ready, force := false }
  | .empty, _ | .ready, _ => x

/-- A persistent slot after a reset (R44): live claims become orphans in their places. -/
def Slot.afterReset (x : Slot) : Slot :=
  { x.resetState with claims := x.claims.map fun c => { c with orphan := true }, holds := 0, settle := none,
                      committed := none, eraseOrder := none, discarded := 0 }

/-- The pending closure is carried out before live claims become orphans (R153; log 16). -/
def Slot.closedBy (x : Slot) (i : SlotId) (c : Option Closure) : Slot :=
  match c with
  | some c => if c.slot = i ∧ x.closes c = true then x.closeClaim c else x
  | none => x

/-- Any slot after a reset (R44, R45). -/
def Slot.reset (x : Slot) (i : SlotId) (c : Option Closure) : Slot :=
  if isPersistent i then (x.closedBy i c).afterReset else Slot.blank (x.generation + 1) .zeros

/-- The slots whose erase write was queued or under way, in ascending order (R44). -/
def eraseWrites (slots : Vector Slot 64) : List SlotId :=
  (List.finRange 64).filter fun i =>
    isPersistent i && decide ((slots[i]).state = .writing) && decide ((slots[i]).target = some .empty)

/-- The key store after a reset (R44, R45, R60). An overwrite cut short begins again from slot 0 (R43). -/
def KeyStore.afterReset (k : KeyStore) : KeyStore :=
  let slots := Vector.ofFn fun i => (k.slots[i]).reset i k.closure
  { k with slots, requests := [], deferred := Vector.replicate 8 none, closure := none, writeQueue := eraseWrites slots,
           arrayWrite := none, overwrite := k.overwrite.map fun _ => 0, grant := none }

/-- The profile store as the load begins (R158): defaults everywhere. The sources stand until judged (log 28); that the control
word copy is 0 until the control word has been read is the model's choice (log 49). -/
def ProfileStore.beginLoad (p : ProfileStore) (reentry : Bool) : ProfileStore :=
  { profiles := Vector.replicate 16 Profile.default, map := Vector.replicate 64 MapEntry.unused, control := 0,
    groups := Vector.ofFn fun g => { p.groups[g] with changed := false }, persist := none,
    load := some (.waiting { start := 0, interval := 100 }), unreadable := false, reentry }

/-- Every block takes its reset values and LOADING is entered. -/
def State.resetBlocks (s : State) : State :=
  { pending := s.pending, engine := .loading, clock := 0, intake := Intake.reset, events := EventUnit.reset,
    ks := s.ks.afterReset, ceu := ComponentUnit.reset, cipher := CipherUnit.reset,
    bays := Vector.ofFn fun b => Bay.reset (s.bays[b]).link.input, writer := Writer.reset,
    prof := s.prof.beginLoad s.ks.latch, out := [] }

/-- The load reads the status byte: FFh is an absent device, bit 0 is busy (R158). A load that waits for a busy memory is told of
no further status byte but the ready one or the end of the 100 ms, the model's choice (log 46). -/
def State.readMemory (s : State) (mem : MemoryStart) : State :=
  if mem.status = 0xFF then s.memoryUnreadable
  else if mem.status.getLsbD 0 then s
  else s.memoryReady mem.control

/-- A reset, to the point its load reaches at once; the rebuilt write queue starts (R8, R44, R158). -/
def State.resetWith (s : State) (mem : MemoryStart) : State := (s.resetBlocks.kickArray).readMemory mem

/-- RESET (R8). -/
def execReset (mem : MemoryStart) (s : State) : Host.Outcome State Fault Refusal :=
  .next (if s.engine = .off then { s with out := [] } else s.resetWith mem)

/-- PCIE_LINK_RESET (R8). -/
def execPcieLinkReset (mem : MemoryStart) (s : State) : Host.Outcome State Fault Refusal :=
  .next (if s.engine = .off then { s with out := [] } else s.resetWith mem)

/-! ## Main power (R20, R42) -/

/-- A slot as the loss of main power leaves it: the battery domain holds a persistent slot's record, its settle mark with it,
until the reset clears that (R44); the settle's order and submissions are gone. A volatile slot keeps its generation only, which
R45 counts up at the reset (R20; log 26). -/
def Slot.unpowered (x : Slot) (i : SlotId) (writing : Bool) : Slot :=
  if isPersistent i then
    { x with holds := 0, settle := x.settle.map fun v => { v with order := none, remaining := [] }, committed := none,
             eraseOrder := none, discarded := 0, stored := if writing then .noKey else x.stored }
  else Slot.blank x.generation .zeros

/-- Main power is gone: what the battery domain and the key array hold stays, the rest is lost (R20; log 26). -/
def State.losePower (s : State) : State :=
  { State.reset with
    pending := s.pending
    engine := .off
    ks := { s.ks with slots := Vector.ofFn fun i => (s.ks.slots[i]).unpowered i (decide (s.ks.arrayWrite = some i))
                      requests := [], deferred := Vector.replicate 8 none, writeQueue := [], arrayWrite := none, grant := none }
    bays := Vector.ofFn fun b => Bay.reset (s.bays[b]).link.input
    prof := { ProfileStore.reset with load := none } }

/-- MAIN_POWER_LOSS (R20, R42). An active TMP_BATLOW that became so with main power present does not set the latch here
(log 38). -/
def execMainPowerLoss (s : State) : Host.Outcome State Fault Refusal :=
  .next (if s.engine = .off then { s with out := [] } else s.losePower)

/-- POWER_ON_RESET: the latch clears when both inputs are inactive during it (R8, R42); an input that is active then sets no
latch that is clear (log 38). -/
def execPowerOnReset (tmpCase tmpBatlow : Bool) (mem : MemoryStart) (s : State) : Host.Outcome State Fault Refusal :=
  .next ((s.losePower.updKs fun k =>
    { k with latch := k.latch && (tmpCase || tmpBatlow), tmpCase, tmpBatlow }).resetWith mem)

end Sys2Proof.Machine
end

