-- ==== Sys2Proof/Machine/Tray.lean ====
section
/-!
DEFINITION. Machine/Tray.lean: the sweep over the tray, the taking of cells with intake validation, and the writing of answers:
SWEEP_TIMER_EXPIRY, SWEEP_CELL_VISIT and OWNER_CHECK (sections 1.5 to 1.9).
-/

namespace Sys2Proof.Machine

/-- SWEEP_TIMER_EXPIRY: a sweep trigger; the next expiry falls one interval after this one was due (R5, R12). -/
def execSweepTimerExpiry (s : State) : Host.Outcome State Fault Refusal :=
  .next (s.run fun s =>
    match s.intake.sweepTimer with
    | some t =>
      if t.due s.clock then
        (s.updIntake fun k =>
          { k with sweepTimer := some { t with start := t.start + BitVec.ofNat 32 t.interval } }).triggerSweep
      else s
    | none => s)

/-- The entry made of a cell as read (R15). -/
def entryOf (position : Nat) (cell : List Byte) : Entry :=
  { cell := position, kind := cell.getD 1 0, tag := BitVec.ofNat 32 (numberAt cell 0x04 4),
    flags := BitVec.ofNat 16 (numberAt cell 0x08 2), params := field cell 0x10 64, condition := .validating }

/-- Checks 1 and 2 of intake validation; none when both pass (R16). -/
def Entry.intakeRefusal (e : Entry) : Option Result :=
  if knownKind e.kind = false then some .refusedKind
  else if e.flags &&& ~~~(allowedFlags e.kind) ≠ 0 then some .refusedField
  else none

/-- A POSTED cell is taken: OWNER = TAKEN, an entry, the sweep pointer, and intake validation; in TAMPERED it is answered at once
(R14 to R16, R9). -/
def State.takeCell (s : State) (a : Area) (position : Nat) (cell : List Byte) : State :=
  let e := entryOf position cell
  let t := (s.emit [.busWrite (a.at (cellOffset position)) [0x02]]).updIntake fun k =>
    { k with table := k.table ++ [e], pointer := (position + 1) % a.cells }
  if s.engine = .tampered then t.refuseAtTake e .tampered
  else
    match e.intakeRefusal with
    | some code => t.refuseAtTake e code
    | none => t

/-- A POSTED cell the full table cannot take: the backlog mark, and TRAY_BACKLOG on the first of this sweep (R13). -/
def State.leaveCell (s : State) (w : Sweep) : State :=
  let t := s.updIntake fun k => { k with backlog := true }
  if w.backlogSeen then t
  else (t.updIntake fun k => { k with sweep := k.sweep.map fun w => { w with backlogSeen := true } }).raise .trayBacklog

/-- One visit: the cell of an open order is passed over, a POSTED cell is taken or left (R11, R13, R14). -/
def State.visitCell (s : State) (a : Area) (w : Sweep) (cell : List Byte) : State :=
  let t := s.updIntake fun k =>
    { k with sweep := some { w with position := (w.position + 1) % a.cells, left := w.left - 1 } }
  if s.intake.table.any (fun e => decide (e.cell = w.position)) then t
  else if cell.getD 0 0 = 0x01 then
    if s.intake.table.length < 32 then t.takeCell a w.position cell else t.leaveCell w
  else t

/-- SWEEP_CELL_VISIT (R14). -/
def execSweepCellVisit (cell : Vector Byte 80) (s : State) : Host.Outcome State Fault Refusal :=
  .next (s.run fun s =>
    match s.intake.area, s.intake.sweep with
    | some a, some w => if s.visitDone then s.visitCell a w cell.toList else s
    | _, _ => s)

/-- The answer part and OWNER = ANSWERED (R18, section 11.3). -/
def answerWrites (a : Area) (x : Answer) : List Output :=
  [.busWrite (a.at (cellOffset x.cell + 0x50)) (toLE 2 x.result.code),
   .busWrite (a.at (cellOffset x.cell + 0x52)) (padded x.data),
   .busWrite (a.at (cellOffset x.cell)) [0x03]]

/-- The answer that is next: the one given at take, else the head of the answer list (R16, R18). -/
def Intake.nextAnswer (k : Intake) : Option Answer :=
  match k.atTake with
  | some x => some x
  | none => k.answers.head?

/-- The answer leaves its place. -/
def Intake.dropAnswer (k : Intake) : Intake :=
  match k.atTake with
  | some _ => { k with atTake := none }
  | none => { k with answers := k.answers.tail }

/-- OWNER_CHECK: with OWNER at TAKEN the answer is written, otherwise it is lost; either way ORDER_ANSWERED is set and the entry
frees (R18). -/
def execOwnerCheck (owner : Byte) (s : State) : Host.Outcome State Fault Refusal :=
  .next (s.run fun s =>
    match s.intake.area, s.intake.nextAnswer with
    | some a, some x =>
      ((s.updIntake (·.dropAnswer)).emit (if owner = 0x02 then answerWrites a x else [])).answered x.cell
    | _, _ => s)

end Sys2Proof.Machine
end

