-- ==== Sys2Proof/Machine/SlotOrders.lean ====
section
/-!
DEFINITION. Machine/SlotOrders.lean: the orders of the key store: SLOT_DEFINE, SLOT_QUERY, SLOT_ERASE, ALLOWANCE_GRANT and
CLAIMS_SETTLE, and the ends of key array writes (chapters 2 and 3).
-/

namespace Sys2Proof.Machine

/-- The order in hand of a kind, decided by its owner (R16). -/
def State.withOrder (s : State) (kind : OrderKind) (f : Entry → State → State) : State :=
  match s.inHand kind with
  | some e => f e s
  | none => s

/-- An order of the key store: intake validation refuses fields out of range at once (R16); the store takes no order while the key
array is being overwritten (R43; log 31). -/
def State.withStoreOrder {α : Type} (s : State) (kind : OrderKind) (fields : List Byte → Option α)
    (f : α → Entry → State → State) : State :=
  s.withOrder kind fun e s =>
    match fields e.params with
    | none => s.refuseAtTake e .refusedField
    | some x => if s.storeOpen then f x e s else s

/-- The slot number that is an order's one field checked at intake (R31, R32, R55). -/
def slotField (params : List Byte) : Option SlotId := slotAt params 0

/-! ## SLOT_DEFINE (R29, R30) -/

/-- The slot and definition a SLOT_DEFINE carries, past checks 1 to 3 of R29; none for REFUSED_FIELD. -/
def definition? (params : List Byte) : Option (SlotId × Definition) :=
  let components := byteAt params 2
  let limit := numberAt params 0x08 4
  match slotAt params 0 with
  | none => none
  | some i =>
    if components ≠ 2 ∧ components ≠ 3 then none
    else
      let bayMask : BitVec 8 := params.getD 3 0
      match byteAt params 1, byteAt params 4 with
      | 1, 0 =>
        if limit ≤ 65536 then
          some (i, { cls := .base (BitVec.ofNat 40 (ofBE (field params 0x0C 5))) false limit, bayMask, components })
        else none
      | 1, 1 =>
        if limit ≤ 65536 then
          some (i, { cls := .base (BitVec.ofNat 40 (ofBE (field params 0x0C 5))) true limit, bayMask, components })
        else none
      | 2, 0 => some (i, { cls := .transport, bayMask, components })
      | _, _ => none

/-- Another defined BASE slot, in any state, has the same KSI (check 4 of R29). -/
def KeyStore.ksiTaken (k : KeyStore) (i : SlotId) (d : Definition) : Bool :=
  match d.cls with
  | .base ksi _ _ => (List.finRange 64).any fun j => decide (j ≠ i) && (k.slots[j]).isBase && decide ((k.slots[j]).ksi = ksi)
  | .transport => false

/-- SLOT_DEFINE (R29, R30). -/
def execSlotDefine (s : State) : Host.Outcome State Fault Refusal :=
  .next (s.run fun s => s.withStoreOrder .slotDefine definition? fun (i, d) e s =>
    if s.ks.ksiTaken i d then s.refuseAtTake e .refusedField
    else if (s.slot i).state ≠ .empty then s.refuseAtTake e .refusedState
    else
      (s.updSlot i fun x => { x with definition := some d }).answerAtTake e.cell .ok
        (slotCountData i 0 (s.slot i).generation))

/-! ## SLOT_QUERY (R31) -/

/-- SLOT_QUERY (R31). -/
def execSlotQuery (s : State) : Host.Outcome State Fault Refusal :=
  .next (s.run fun s => s.withStoreOrder .slotQuery slotField fun i e s => s.answerAtTake e.cell .ok (s.slot i).queryData)

/-! ## SLOT_ERASE (R32) -/

/-- A READY slot enters DRAINING; the order stays and the drain condition is tested at once (R32, R33). -/
def State.beginDrain (s : State) (e : Entry) (i : SlotId) : State :=
  ((s.hold e).updSlot i fun x =>
    { x with state := .draining, force := e.flags.getLsbD 0, eraseOrder := some e.cell }).testDrain i

/-- SLOT_ERASE (R32). -/
def execSlotErase (s : State) : Host.Outcome State Fault Refusal :=
  .next (s.run fun s => s.withStoreOrder .slotErase slotField fun i e s =>
    let x := s.slot i
    match x.state, x.definition with
    | .empty, some _ =>
      (s.updSlot i fun x => { x with generation := x.generation + 1, definition := none }).answerAtTake e.cell .ok
        (slotCountData i 0 (x.generation + 1))
    | .ready, _ =>
      if x.settle.isSome = true ∨ (x.hasOrphan = true ∧ e.flags.getLsbD 0 = false) then s.refuseAtTake e .refusedState
      else s.beginDrain e i
    | .empty, none | .assembling, _ | .writing, _ | .draining, _ => s.refuseAtTake e .refusedState)

/-! ## ALLOWANCE_GRANT (R57, R58) -/

/-- The free grant limit of a slot; 0 when absent. -/
def Slot.freeLimit (x : Slot) : Nat :=
  match x.definition with | some { cls := .base _ _ l, .. } => l | _ => 0

/-- A grant above the limit is put to the component entry unit: busy, or an approval with its window (R58, R76). -/
def State.requestApproval (s : State) (e : Entry) (i : SlotId) (amount : Nat) : State :=
  if s.ceu.record = .empty then
    let x := s.slot i
    (((s.hold e).updKs fun k =>
      { k with grant := some { order := e.cell, slot := i, amount, generation := x.generation } }).updCeu fun u =>
        { u with record := .approval { slot := i, amount, keyholders := x.keyholders, generation := x.generation,
                                       window := s.timer 120000 } }).toConsoles (.approvalOpen i amount)
  else s.refuseAtTake e .ceremonyBusy

/-- Slot and amount of an ALLOWANCE_GRANT; none for REFUSED_FIELD (test 1 of R57). -/
def grant? (params : List Byte) : Option (SlotId × Nat) :=
  let amount := numberAt params 0x04 4
  match slotAt params 0 with
  | none => none
  | some i => if amount = 0 ∨ 65536 < amount then none else some (i, amount)

/-- ALLOWANCE_GRANT (R57). -/
def execAllowanceGrant (s : State) : Host.Outcome State Fault Refusal :=
  .next (s.run fun s => s.withStoreOrder .allowanceGrant grant? fun (i, amount) e s =>
    if (s.slot i).isTransport then s.refuseAtTake e .refusedClass
    else if (s.slot i).state ≠ .ready then s.refuseAtTake e .refusedState
    else if (s.slot i).freeLimit < amount then s.requestApproval e i amount
    else (s.applyGrant i amount).answerAtTake e.cell .ok ((s.slot i).grantAnswer i amount))

/-! ## CLAIMS_SETTLE (R55) -/

/-- A settle begins: the mark, the fixed list of orphans, and the first submission (R55). -/
def State.beginSettle (s : State) (e : Entry) (i : SlotId) : State :=
  let orphans := (s.slot i).claims.filter (·.orphan)
  let t := (s.hold e).updSlot i fun x =>
    { x with settle := some { order := some e.cell, tag := e.tag, remaining := orphans, unclosed := [], entered := 0 } }
  State.submitSettle i orphans t

/-- CLAIMS_SETTLE (R55). -/
def execClaimsSettle (s : State) : Host.Outcome State Fault Refusal :=
  .next (s.run fun s => s.withStoreOrder .claimsSettle slotField fun i e s =>
    if (s.slot i).settle.isSome = true ∨ (s.slot i).state ≠ .ready then s.refuseAtTake e .refusedState
    else if (s.slot i).hasOrphan then s.beginSettle e i
    else s.answerAtTake e.cell .ok (slotCountData i 0 (s.slot i).generation))

/-! ## The ends of key array writes (R27, R28) -/

/-- The record once a write has ended, by its target and the outcome. -/
def Slot.written (x : Slot) (ok : Bool) : Slot :=
  match x.target with
  | some .ready =>
    if ok then
      { x with state := .ready, target := none, committed := none,
               stored := match x.committed with | some k => .key k | none => .noKey }
    else { x with state := .empty, target := none, committed := none, keyholders := [], checkValue := none, stored := .noKey }
  | some .empty | none => { x.undefine with stored := if ok then .zeros else .noKey }

/-- A write ends: the slot takes its new state, the commit or the erase is answered, and the next write starts (R27, R28). -/
def State.writeEnded (s : State) (i : SlotId) (ok : Bool) : State :=
  let t := (s.updKs fun k => { k with arrayWrite := none }).updSlot i fun x => x.written ok
  let u := if ok then t else t.raise .storeFault
  (match (s.slot i).target with
    | some .ready => u.commitResult i ok
    | some .empty | none => u.answerErase i (if ok then .ok else .storeFault)).kickArray

/-- KEY_ARRAY_WRITE_COMPLETE (R27). -/
def execKeyArrayWriteComplete (s : State) : Host.Outcome State Fault Refusal :=
  .next (s.run fun s =>
    match s.ks.arrayWrite with
    | some i => s.writeEnded i true
    | none => s)

/-- KEY_ARRAY_WRITE_FAIL (R28). -/
def execKeyArrayWriteFail (s : State) : Host.Outcome State Fault Refusal :=
  .next (s.run fun s =>
    match s.ks.arrayWrite with
    | some i => s.writeEnded i false
    | none => s)

end Sys2Proof.Machine
end

