-- ==== Sys2Proof/Machine/CeremonyOrders.lean ====
section
/-!
DEFINITION. Machine/CeremonyOrders.lean: CEREMONY_OPEN, CEREMONY_CANCEL, WATCH_SET, and the two timers of ceremonies (chapter 4,
section 10.3).
-/

namespace Sys2Proof.Machine

/-! ## CEREMONY_OPEN (R65) -/

/-- What a CEREMONY_OPEN carries (section 11.4). -/
structure OpenParams where
  slot      : SlotId
  permitted : List CardId
  expected  : CheckValue
  deadline  : Nat
  deriving DecidableEq, Repr

/-- Test 1 of R65; none for REFUSED_FIELD. -/
def openParams? (params : List Byte) : Option OpenParams :=
  let count := byteAt params 0x01
  let deadline := numberAt params 0x02 2
  let ids := idsAt params 0x08 count
  match slotAt params 0x00 with
  | none => none
  | some slot =>
    if 2 ≤ count ∧ count ≤ 6 ∧ ids.Nodup ∧ (0 : CardId) ∉ ids ∧ 30 ≤ deadline ∧ deadline ≤ 900 then
      some { slot, permitted := ids, expected := BitVec.ofNat 24 (ofBE (field params 0x04 3)), deadline }
    else none

/-- The assembly a CEREMONY_OPEN that passes fills the record with (R65). -/
def OpenParams.assembly (p : OpenParams) (cell : Nat) (generation : BitVec 16) (target : Nat) (deadline : Timer) : Assembly :=
  { order := cell, slot := p.slot, generation, phase := .gathering, permitted := p.permitted, expected := p.expected, target,
    deadline := some deadline, contributors := [], accumulator := 0, rejects := 0 }

/-- Tests 3 and 4 of R65, and the opening. -/
def State.openCeremony (s : State) (e : Entry) (p : OpenParams) : State :=
  match s.assemblyTarget p.slot with
  | none => s.refuseAtTake e .refusedState
  | some target =>
    let t := s.startAssembly p.slot
    if p.permitted.length < target then (t.endAssemblySlot p.slot).refuseAtTake e .refusedField
    else
      ((t.hold e).setAssembly (p.assembly e.cell (s.slot p.slot).generation target (s.timer (p.deadline * 1000)))).toConsoles
        (.assemblyOpen p.slot p.expected 0 target)

/-- CEREMONY_OPEN (R65). The assembly start waits while the key array is being overwritten (R43; log 31). -/
def execCeremonyOpen (s : State) : Host.Outcome State Fault Refusal :=
  .next (s.run fun s => s.withOrder .ceremonyOpen fun e s =>
    match openParams? e.params with
    | none => s.refuseAtTake e .refusedField
    | some p =>
      if s.ceu.record ≠ .empty then s.refuseAtTake e .ceremonyBusy
      else if s.storeOpen then s.openCeremony e p
      else s)

/-! ## CEREMONY_CANCEL (R74) -/

/-- CEREMONY_CANCEL (R74): the cancel is answered OK and the ceremony ends, or it is refused. -/
def execCeremonyCancel (s : State) : Host.Outcome State Fault Refusal :=
  .next (s.run fun s => s.withOrder .ceremonyCancel fun e s =>
    match slotAt e.params 0 with
    | none => s.refuseAtTake e .refusedField
    | some i =>
      match s.ceu.record with
      | .assembly a =>
        if a.slot = i ∧ a.phase ≠ .committing then (s.answerAtTake e.cell .ok [byteOf i.val]).endAssembly a .cancelled
        else s.refuseAtTake e .refusedState
      | .approval p =>
        if p.slot = i then (s.answerAtTake e.cell .ok [byteOf i.val]).endApproval p .notApproved
        else s.refuseAtTake e .refusedState
      | .empty => s.refuseAtTake e .refusedState)

/-! ## The timers (R73, R77) -/

/-- DEADLINE_EXPIRY: in GATHERING the assembly ends (R73). -/
def execDeadlineExpiry (s : State) : Host.Outcome State Fault Refusal :=
  .next (s.run fun s =>
    match s.assembly with
    | some a => if a.phase = .gathering ∧ s.expired a.deadline = true then s.endAssembly a .deadline else s
    | none => s)

/-- WINDOW_EXPIRY: the approval ends not approved (R77). -/
def execWindowExpiry (s : State) : Host.Outcome State Fault Refusal :=
  .next (s.run fun s =>
    match s.ceu.record with
    | .approval p => if p.window.due s.clock then s.endApproval p .notApproved else s
    | .empty | .assembly _ => s)

/-! ## WATCH_SET (R170, R171) -/

/-- The watch number of a WATCH_SET. -/
def watchNumber? (params : List Byte) : Option (Fin 4) :=
  if h : byteAt params 0 < 4 then some ⟨byteAt params 0, h⟩ else none

/-- The watch takes its source, its flag is cleared, then the set-time test may set it (R171; log 27). -/
def State.setWatch (s : State) (n : Fin 4) (w : Watch) : State :=
  let t := s.setEvents { s.events with watches := s.events.watches.set n w, flags := s.events.flags &&& ~~~(watchBit n) }
  if w.setTimeTest (fun i => (s.slot i).allowance) s.events.room then t.raiseBits (watchBit n) else t

/-- WATCH_SET (R170). -/
def execWatchSet (s : State) : Host.Outcome State Fault Refusal :=
  .next (s.run fun s => s.withOrder .watchSet fun e s =>
    match watchNumber? e.params, watch? e.params with
    | some n, some w =>
      (s.setWatch n w).answerAtTake e.cell .ok
        (w.answerData n (w.setTimeTest (fun i => (s.slot i).allowance) s.events.room))
    | _, _ => s.refuseAtTake e .refusedField)

end Sys2Proof.Machine
end

