-- ==== Sys2Proof/Machine/BayOrders.lean ====
section
/-!
DEFINITION. Machine/BayOrders.lean: PLAN_RUN, PLAN_REPEAT, BAY_HALT and BAY_QUERY (chapter 7).
-/

namespace Sys2Proof.Machine

/-! ## PLAN_RUN and PLAN_REPEAT (R114 to R116) -/

/-- The class test of one item: its base slot is a defined BASE slot, a WRAPPED item's transport slot a defined TRANSPORT slot
(check 3 of R114). -/
def State.itemClass (s : State) (i : Item) : Bool :=
  (s.slot i.base).isBase && (match i.delivery with | .direct => true | .wrapped t => (s.slot t).isTransport)

/-- The slot's direct permitted. -/
def Slot.direct (x : Slot) : Bool :=
  match x.definition with | some { cls := .base _ d _, .. } => d | _ => false

/-- Check 4 of R114. -/
def State.itemDirect (s : State) (i : Item) : Bool :=
  match i.delivery with | .direct => (s.slot i.base).direct | .wrapped _ => true

/-- Checks 2 to 4 of R114 on a plan whose fields are in range; none when all pass. -/
def State.planRefusal (s : State) (p : Plan) : Option Result :=
  if ¬(p.items.map (·.base)).Nodup ∨ ¬(p.items.map (·.register)).Nodup then some .refusedField
  else if p.items.all s.itemClass = false then some .refusedClass
  else if p.items.all s.itemDirect = false then some .refusedClass
  else none

/-- An order that passed its take checks is placed by the bay's places (R116). -/
def State.placeOrder (s : State) (e : Entry) (b : BayId) (source : PlanSource) : State :=
  let h : HeldOrder := { order := e.cell, tag := e.tag, source }
  match (s.bay b).running, (s.bay b).held with
  | none, _ => (s.hold e).startOrder b h
  | some _, none => (s.hold e).updBay b fun x => { x with held := some h }
  | some _, some _ => s.refuseAtTake e .bayBusy

/-- PLAN_RUN (R114). -/
def execPlanRun (s : State) : Host.Outcome State Fault Refusal :=
  .next (s.run fun s => s.withOrder .planRun fun e s =>
    match plan? e.params with
    | none => s.refuseAtTake e .refusedField
    | some p =>
      match s.planRefusal p with
      | some code => s.refuseAtTake e code
      | none => s.placeOrder e p.bay (.run p))

/-- PLAN_REPEAT (R115). -/
def execPlanRepeat (s : State) : Host.Outcome State Fault Refusal :=
  .next (s.run fun s => s.withOrder .planRepeat fun e s =>
    match bayAt e.params 0 with
    | none => s.refuseAtTake e .refusedField
    | some b =>
      if 127 < byteAt e.params 1 then s.refuseAtTake e .refusedField
      else if (s.bay b).running = none ∧ (s.bay b).cache = none then s.refuseAtTake e .noPlan
      else s.placeOrder e b (.again (byteAt e.params 1)))

/-! ## BAY_HALT (R134) -/

/-- The halt is taken: the held order ends HALTED, HALTED is recorded, and the session acts by its state (R134, R135). -/
def State.haltBay (s : State) (e : Entry) (b : BayId) : State :=
  ((((s.hold e).dropHeld b .halted).updBay b fun x =>
    { x with halt := some { order := e.cell, state := x.session.state }
             session := { x.session with ending := .halted } })).haltSession b .halted

/-- BAY_HALT (R134). -/
def execBayHalt (s : State) : Host.Outcome State Fault Refusal :=
  .next (s.run fun s => s.withOrder .bayHalt fun e s =>
    match bayAt e.params 0 with
    | none => s.refuseAtTake e .refusedField
    | some b =>
      if (s.bay b).running = none ∨ (s.session b).ending ≠ .none then s.refuseAtTake e .refusedState else s.haltBay e b)

/-! ## BAY_QUERY (R137) -/

/-- The item number shown: in CLAIMING, PREPARING and LOADING, counted from 1; 0 otherwise. -/
def Session.shownItem (x : Session) : Byte :=
  match x.state, x.current with
  | .claiming, some n | .preparing, some n | .loading, some n => byteOf (n + 1)
  | _, _ => 0

/-- The fields of the plan a BAY_QUERY shows: kind, ending, K, TAG and attempted; 0 when IDLE (R137; log 15). -/
def Bay.planFields (x : Bay) : List Byte × List Byte × List Byte :=
  match x.running with
  | none => ([0x00, 0x00, 0x00], toLE 4 0, toLE 2 0)
  | some r =>
    ([if r.isRepeat then 0x09 else 0x08, x.session.ending.code, byteOf r.plan.repeats], toLE 4 r.tag.toNat,
      toLE 2 x.session.attempted)

/-- BAY_QUERY's answer data (R137, R177). The retries of the last exchange have no field in it (log 42). -/
def Bay.queryData (x : Bay) : List Byte :=
  [x.session.state.code] ++ x.planFields.1 ++ x.planFields.2.1 ++
    toLE 4 (match x.held with | some h => h.tag.toNat | none => 0) ++ x.planFields.2.2 ++
    [x.session.shownItem, boolByte x.session.deferral, boolByte x.cache.isSome, x.session.outcome.codes.1,
     x.session.outcome.codes.2, x.link.rate.code, boolByte x.link.presence.isPresent, boolByte x.link.dropped,
     nakCode x.link.lastNak, 0] ++ x.counters.bytes ++ toLE 2 x.link.strays ++ toLE 2 x.link.lineErrors

/-- BAY_QUERY: the report, and the dropped latch is cleared by the read (R108, R137). -/
def execBayQuery (s : State) : Host.Outcome State Fault Refusal :=
  .next (s.run fun s => s.withOrder .bayQuery fun e s =>
    match bayAt e.params 0 with
    | none => s.refuseAtTake e .refusedField
    | some b => (s.updLink b fun l => { l with dropped := false }).answerAtTake e.cell .ok (s.bay b).queryData)

end Sys2Proof.Machine
end

