-- ==== Sys2Proof/Machine/ProfileOrders.lean ====
section
/-!
DEFINITION. Machine/ProfileOrders.lean: PROFILE_WRITE, MODEL_MAP_WRITE, SERIAL_MEMORY_READY and PERSIST_END (sections 9.4 to
9.6).
-/

namespace Sys2Proof.Machine

/-! ## The image of a group (R163, R178) -/

/-- The 128 record bytes of a group as the table stands. -/
def ProfileStore.groupBytes (p : ProfileStore) (g : Fin 4) : List Byte :=
  if g.val < 2 then (field (p.profiles.toList.map (·.bytes)).flatten (g.val * 128) 128)
  else field (p.map.toList.map (·.bytes)).flatten ((g.val - 2) * 128) 128

/-- A group's area: the records and their check, least significant byte first. -/
def withGroupCheck (records : List Byte) : List Byte := records ++ toLE 2 (crc records).toNat

/-! ## Persists (R163) -/

/-- The four group bytes of an answer (R177). -/
def ProfileStore.groupSummary (p : ProfileStore) : List Byte := p.groups.toList.map (·.byte)

/-- The answer data of a write order (R161, R162, R177). -/
def ProfileStore.answerData (p : ProfileStore) : PersistSubject → List Byte
  | .profile i => [byteOf i.val, 0, 0, 0] ++ p.groupSummary ++ (p.profiles[i]).bytes
  | .map first count =>
    [byteOf first, byteOf count, 0, 0] ++ p.groupSummary ++ ((p.map.toList.drop first).take count).flatMap (·.bytes)

/-- A persist begins: the capture, and the write of the group area (steps 1 and 2 of R163). -/
def State.beginPersist (s : State) (e : Entry) (g : Fin 4) (subject : PersistSubject) : State :=
  let capture := withGroupCheck (s.prof.groupBytes g)
  ((s.hold e).updProf fun p =>
    { p with persist := some { group := g, capture, step := .area, order := some e.cell, subject, touched := false } }).emit
    [.serialWrite (groupAddress g) capture]

/-- The group's changed mark is set; a write during a persist of that group touches it (R161, R163). -/
def ProfileStore.touch (p : ProfileStore) (g : Fin 4) : ProfileStore :=
  { p with groups := p.groups.set g { p.groups[g] with changed := true },
           persist := p.persist.map fun x => if x.group = g then { x with touched := true } else x }

/-- PERSIST is bit 1 of FLAGS (section 11.3). -/
def Entry.persists (e : Entry) : Bool := e.flags.getLsbD 1

/-- The rest of a write order that passed its checks: answered at take, or a persist (R161, R162). -/
def State.finishWrite (s : State) (e : Entry) (g : Fin 4) (subject : PersistSubject) : State :=
  if e.persists then s.beginPersist e g subject else s.answerAtTake e.cell .ok (s.prof.answerData subject)

/-! ## PROFILE_WRITE (R161) -/

/-- The profile index of a PROFILE_WRITE. -/
def profileIndex? (params : List Byte) : Option (Fin 16) :=
  if h : byteAt params 0 < 16 then some ⟨byteAt params 0, h⟩ else none

/-- The group of a profile: P0 or P1. -/
def profileGroup (i : Fin 16) : Fin 4 := if i.val < 8 then 0 else 1

/-- PROFILE_WRITE (R161). -/
def execProfileWrite (s : State) : Host.Outcome State Fault Refusal :=
  .next (s.run fun s => s.withOrder .profileWrite fun e s =>
    match profileIndex? e.params, profile? (field e.params 0x08 16) with
    | some i, some x =>
      if e.persists = true ∧ s.prof.persist.isSome = true then s.refuseAtTake e .storeBusy
      else
        (s.updProf fun p => { p with profiles := p.profiles.set i x }.touch (profileGroup i)).finishWrite e (profileGroup i)
          (.profile i)
    | _, _ => s.refuseAtTake e .refusedField)

/-! ## MODEL_MAP_WRITE (R162) -/

/-- What a MODEL_MAP_WRITE carries: first entry and records; none for REFUSED_FIELD (check 1 of R162). -/
def mapWrite? (params : List Byte) : Option (Nat × List MapEntry) :=
  let first := byteAt params 0
  let count := byteAt params 1
  if first ≤ 63 ∧ 1 ≤ count ∧ count ≤ 8 ∧ (first + count - 1) / 32 = first / 32 then
    (allSome ((recordsOf (params.drop 0x08) 4 count).map mapEntry?)).map fun l => (first, l)
  else none

/-- The group of a map entry: M0 or M1. -/
def mapGroup (first : Nat) : Fin 4 := if first < 32 then 2 else 3

/-- The records are written together from the first entry on. -/
def ProfileStore.writeMap (p : ProfileStore) (first : Nat) (l : List MapEntry) : ProfileStore :=
  { p with map := Vector.ofFn fun i =>
      if first ≤ i.val ∧ i.val < first + l.length then l.getD (i.val - first) MapEntry.unused else p.map[i] }

/-- MODEL_MAP_WRITE (R162). -/
def execModelMapWrite (s : State) : Host.Outcome State Fault Refusal :=
  .next (s.run fun s => s.withOrder .modelMapWrite fun e s =>
    match mapWrite? e.params with
    | some (first, l) =>
      if e.persists = true ∧ s.prof.persist.isSome = true then s.refuseAtTake e .storeBusy
      else
        (s.updProf fun p => (p.writeMap first l).touch (mapGroup first)).finishWrite e (mapGroup first) (.map first l.length)
    | none => s.refuseAtTake e .refusedField)

/-! ## SERIAL_MEMORY_READY (R158, R163, R164) -/

/-- The memory is ready after a write of the persist: after the group area the control word is written, from its copy as it
stands, and after the control word the area is read back (steps 3 and 4 of R163; log 21). -/
def State.advancePersist (s : State) (x : Persist) : State :=
  match x.step with
  | .area =>
    (s.updProf fun p => { p with persist := some { x with step := .control } }).emit
      [.serialWrite 0 (toLE 2 (writtenControl s.prof.control x.group).toNat)]
  | .control => s.updProf fun p => { p with persist := some { x with step := .readBack } }
  | .readBack => s

/-- SERIAL_MEMORY_READY: the load that waits for the memory goes on, or the persist in progress does (R158, R164; log 21). -/
def execSerialMemoryReady (control : BitVec 16) (s : State) : Host.Outcome State Fault Refusal :=
  .next (s.run fun s =>
    match s.prof.load, s.prof.persist with
    | some (.waiting _), _ => s.memoryReady control
    | some (.group _), _ => s
    | none, some x => s.advancePersist x
    | none, none => s)

/-! ## PERSIST_END (R164, R165) -/

/-- The group's status after a persist: MEMORY with the changed mark kept only for a touched group, or FAULTED (R164). -/
def GroupStatus.persisted (x : GroupStatus) (ok touched : Bool) : GroupStatus :=
  if ok then { source := .memory, changed := x.changed && touched } else { x with source := .faulted }

/-- The store once a persist has ended (R164). -/
def ProfileStore.endPersist (p : ProfileStore) (x : Persist) (ok : Bool) : ProfileStore :=
  { p with persist := none, groups := p.groups.set x.group ((p.groups[x.group]).persisted ok x.touched),
           control := if ok then withGroupCode p.control x.group else p.control }

/-- How a report ends a persist: a write that the memory did not get ready after is a failure; the bytes read back are compared
with the capture, and a memory that is unreadable fails them too (R164, R178). None for a report that the step in progress cannot
bring. -/
def Persist.outcome (x : Persist) (readBack : Option (List Byte)) (unreadable : Bool) : Option Bool :=
  match x.step, readBack with
  | .area, none | .control, none => some false
  | .readBack, some bytes => some (decide (bytes = x.capture) && !unreadable)
  | .area, some _ | .control, some _ | .readBack, none => none

/-- The persist has ended well or badly: the store, STORE_FAULT, and the order while it is open (R164). -/
def State.persistEnded (s : State) (x : Persist) (good : Bool) : State :=
  let t := s.updProf fun p => p.endPersist x good
  let u := if good then t else t.raise .storeFault
  match x.order with
  | some cell => u.completeOrder cell (if good then .ok else .storeFault) (t.prof.answerData x.subject)
  | none => u

/-- PERSIST_END (R164). -/
def execPersistEnd (readBack : Option (Vector Byte 130)) (s : State) : Host.Outcome State Fault Refusal :=
  .next (s.run fun s =>
    match s.prof.persist with
    | none => s
    | some x =>
      match x.outcome (readBack.map (·.toList)) s.prof.unreadable with
      | some good => s.persistEnded x good
      | none => s)

end Sys2Proof.Machine
end

