-- ==== Sys2Proof/Machine/CipherEvents.lean ====
section
/-!
DEFINITION. Machine/CipherEvents.lean: DERIVE_DONE, CHECKVAL_DONE and WRAP_DONE: the result goes to its requester, the place
empties, and the next request starts (sections 5.3 and 5.4, R125).
-/

namespace Sys2Proof.Machine

/-- A bay takes a completion in PREPARING: after a drop, halt or stop notice the result is discarded and the claims are voided;
otherwise it is stored and the next request is submitted (R86, R125, R130, R135). -/
def State.bayCompletion (s : State) (b : BayId) (store : State → State) : State :=
  if (s.session b).state = .preparing then
    match (s.session b).reason with
    | some reason => s.fileVoid b reason
    | none => (store s).prepareNext b
  else s

def State.setStage (s : State) (b : BayId) (n : Nat) (stage : Stage) : State :=
  s.updSession b fun x => x.updRecord n fun i => { i with stage }

/-- DERIVE's result is placed as the item's terminal key (R82, R125 step 1). -/
def State.storeKey (b : BayId) (n : Nat) (key : Key) (s : State) : State :=
  (s.updPlace b n fun k => { k with terminalKey := some key }).setStage b n .derived

/-- A bay's CHECKVAL result is placed as the item's check value; for DIRECT the terminal key is the block (R83, R125 steps 2 and
3). -/
def State.storeCheckValue (b : BayId) (n : Nat) (value : CheckValue) (s : State) : State :=
  let direct := match (s.session b).records[n]? with | some i => !i.item.delivery.isWrapped | none => false
  if direct then
    (s.updPlace b n fun k => { k with checkValue := some value, block := k.terminalKey.map keyBytes }).setStage b n .prepared
  else (s.updPlace b n fun k => { k with checkValue := some value }).setStage b n .checked

/-- WRAP's result is placed as the item's block, and the terminal key is cleared (R84, R125 step 3). -/
def State.storeBlock (b : BayId) (n : Nat) (block : BitVec 256) (s : State) : State :=
  (s.updPlace b n fun k => { k with block := some (blockBytes block), terminalKey := none }).setStage b n .prepared

/-- DERIVE_DONE (R82, R85). -/
def execDeriveDone (s : State) : Host.Outcome State Fault Refusal :=
  .next (s.run fun s =>
    match s.cipher.running with
    | some { request := { requester := .bay b n, op := .derive _ _ ksn }, working := some key } =>
      (s.releaseCipher.bayCompletion b (State.storeKey b n (Config.derive key ksn))).kickCipher
    | _ => s)

/-- CHECKVAL_DONE (R83, R85). -/
def execCheckvalDone (s : State) : Host.Outcome State Fault Refusal :=
  .next (s.run fun s =>
    match s.cipher.running with
    | some { request := { requester, op := .checkval operand }, .. } =>
      let value := Config.checkValue operand
      (match requester with
        | .bay b n => s.releaseCipher.bayCompletion b (State.storeCheckValue b n value)
        | .component => s.releaseCipher.componentChecked value
        | .accumulator => s.releaseCipher.accumulatorChecked value).kickCipher
    | _ => s)

/-- WRAP_DONE (R84, R85). -/
def execWrapDone (s : State) : Host.Outcome State Fault Refusal :=
  .next (s.run fun s =>
    match s.cipher.running with
    | some { request := { requester := .bay b n, op := .wrap _ _ operand }, working := some key } =>
      (s.releaseCipher.bayCompletion b (State.storeBlock b n (Config.wrap key operand))).kickCipher
    | _ => s)

end Sys2Proof.Machine
end

