-- ==== Sys2Proof/Machine/ConsoleEvents.lean ====
section
/-!
DEFINITION. Machine/ConsoleEvents.lean: what arrives at and leaves by the console links: CARD_IN, CARD_OUT, COMPONENT, APPROVE,
DECLINE, CONSOLE_GAP_EXPIRY, CONSOLE_BAD_FRAME and CONSOLE_TRANSMIT_END (sections 4.1, 4.4 and 4.6).
-/

namespace Sys2Proof.Machine

/-! ## COMPONENT (R66) -/

/-- The six tests of R66; none when all pass. -/
def State.componentRefusal (s : State) (c : ConsoleId) : Option RejectReason :=
  match s.assembly with
  | none => some .nothingOpen
  | some a =>
    if a.phase ≠ .gathering then some .assemblyComplete
    else if (s.console c).pending then some .pending
    else
      match (s.console c).card with
      | none => some .noCard
      | some id =>
        if a.permitted.contains id = false then some .notPermitted
        else if a.contributors.any (fun x => decide (x.1 = id)) then some .alreadyContributed
        else none

/-- A component arrives: it joins the arrival list with the card's id of that moment, or is rejected (R66, R67). -/
def State.takeComponent (s : State) (c : ConsoleId) (seq : Byte) (value : Key) (entered : CheckValue) : State :=
  match s.componentRefusal c with
  | some reason => s.toConsole c (.rejected seq reason)
  | none =>
    let a : Arrival := { console := c, seq, id := (s.console c).card.getD 0, value, entered }
    ((s.updConsole c fun x => { x with pending := true }).updCeu fun u => { u with arrivals := u.arrivals ++ [a] }).takeArrivals

/-! ## APPROVE and DECLINE (R77) -/

/-- An APPROVE or DECLINE is judged by the card state; a keyholder's ends the approval. -/
def State.takeVote (s : State) (c : ConsoleId) (seq : Byte) (o : ApprovalOutcome) : State :=
  match s.ceu.record with
  | .empty | .assembly _ => s.toConsole c (.rejected seq .nothingOpen)
  | .approval p =>
    match (s.console c).card with
    | none => s.toConsole c (.rejected seq .noCard)
    | some id =>
      if p.keyholders.contains id then (s.toConsole c (.accepted seq)).endApproval p o
      else s.toConsole c (.rejected seq .notKeyholder)

/-! ## Frames at a console link (R62, R63, R79) -/

/-- A valid console frame; in TAMPERED it is discarded (R79). -/
def State.takeConsoleFrame (s : State) (c : ConsoleId) (f : ConsoleFrame) : State :=
  if s.engine = .tampered then s
  else
    match f with
    | .cardIn _ id => s.updConsole c fun x => { x with card := some id }
    | .cardOut _ => s.updConsole c fun x => { x with card := none }
    | .component seq value entered => s.takeComponent c seq value entered
    | .approve seq => s.takeVote c seq .granted
    | .decline seq => s.takeVote c seq .notApproved

/-- A whole frame has been received: the receiver is back in HUNT, a partial frame it held is dropped (log 36), and the frame is
taken. -/
def State.receiveConsole (s : State) (c : ConsoleId) (f : ConsoleFrame) : State :=
  (s.updConsole c fun x => { x with receiver := .hunt }).takeConsoleFrame c f

/-- One byte at a console's receiver; a frame that is bad or of no console kind is discarded without answer (R62). -/
def State.consoleByte (c : ConsoleId) (s : State) (byte : Byte) : State :=
  let r := receiveByte s.gapTimer ((s.console c).receiver.afterGap s.clock) byte
  let t := s.updConsole c fun x => { x with receiver := r.1 }
  match r.2 with
  | some (.frame counted) =>
    match consoleFrame? counted with
    | some f => t.takeConsoleFrame c f
    | none => t
  | some .lineError | none => t

/-- CARD_IN (R63). -/
def execCardIn (c : ConsoleId) (seq : Byte) (id : CardId) (s : State) : Host.Outcome State Fault Refusal :=
  .next (s.run fun s => s.receiveConsole c (.cardIn seq id))

/-- CARD_OUT (R63). -/
def execCardOut (c : ConsoleId) (seq : Byte) (s : State) : Host.Outcome State Fault Refusal :=
  .next (s.run fun s => s.receiveConsole c (.cardOut seq))

/-- COMPONENT (R66). -/
def execComponent (c : ConsoleId) (seq : Byte) (value : Key) (entered : CheckValue) (s : State) :
    Host.Outcome State Fault Refusal :=
  .next (s.run fun s => s.receiveConsole c (.component seq value entered))

/-- APPROVE (R77). -/
def execApprove (c : ConsoleId) (seq : Byte) (s : State) : Host.Outcome State Fault Refusal :=
  .next (s.run fun s => s.receiveConsole c (.approve seq))

/-- DECLINE (R77). -/
def execDecline (c : ConsoleId) (seq : Byte) (s : State) : Host.Outcome State Fault Refusal :=
  .next (s.run fun s => s.receiveConsole c (.decline seq))

/-- The gap timer of a partial frame discards the frame once it is due (R10, R62). -/
def State.consoleGap (s : State) (c : ConsoleId) : State :=
  if s.expired (s.console c).receiver.gap? then s.updConsole c fun x => { x with receiver := .hunt } else s

/-- CONSOLE_GAP_EXPIRY: the gap timer, then the bytes received after it (R62). -/
def execConsoleGapExpiry (c : ConsoleId) (bytes : List Byte) (s : State) : Host.Outcome State Fault Refusal :=
  .next (s.run fun s => bytes.foldl (State.consoleByte c) (s.consoleGap c))

/-- CONSOLE_BAD_FRAME: the bytes received, which may stop within a frame; a frame with a bad check, LEN, kind or length is
discarded (R62). -/
def execConsoleBadFrame (c : ConsoleId) (bytes : List Byte) (s : State) : Host.Outcome State Fault Refusal :=
  .next (s.run fun s => bytes.foldl (State.consoleByte c) s)

/-- CONSOLE_TRANSMIT_END: the next frame of the queue begins (R62). -/
def execConsoleTransmitEnd (c : ConsoleId) (s : State) : Host.Outcome State Fault Refusal :=
  .next (s.run fun s =>
    match (s.console c).sending, (s.console c).queue with
    | none, _ => s
    | some _, [] => s.updConsole c fun x => { x with sending := none }
    | some _, m :: rest => (s.updConsole c fun x => { x with queue := rest }).beginConsole c m)

end Sys2Proof.Machine
end

