-- ==== Sys2Proof/Machine/BayEvents.lean ====
section
/-!
DEFINITION. Machine/BayEvents.lean: what happens on a bay's link and presence input: IDENT, ACK, CHECK, NAK, BAY_LINE_ERROR,
BAY_GAP_EXPIRY, BAY_TRANSMIT_END, REPLY_TIMER_EXPIRY, BAY_PRES_HIGH, BAY_PRES_LOW, PRESENCE_TIMER_EXPIRY and
REMOVAL_TIMER_EXPIRY (chapter 6, section 7.9).
-/

namespace Sys2Proof.Machine

/-- The links and recognisers work outside LOADING (R90, R106). -/
def State.baysAwake (s : State) : Bool := decide (s.engine ≠ .loading ∧ s.engine ≠ .off)

def State.runBays (s : State) (f : State → State) : State := s.run fun s => if s.baysAwake then f s else s

/-! ## Reception (R93, R94) -/

/-- A whole terminal frame has been received: the receiver is back in HUNT, and the frame is offered to the exchange. A partial
frame it meets is a line error if its gap has passed the limit, and is otherwise dropped without counting (log 36). -/
def State.receiveTerminal (s : State) (b : BayId) (f : TerminalFrame) : State :=
  ((s.closeGap b).updLink b fun l => { l with receiver := .hunt }).takeFrame b f

/-- One byte at a bay's receiver, after the end of a partial frame whose gap has passed the limit: line errors are counted,
terminal frames offered to the exchange (R93, R94; log 13). -/
def State.bayByte (b : BayId) (s : State) (byte : Byte) : State :=
  let u := s.closeGap b
  let r := receiveByte s.gapTimer (u.bay b).link.receiver byte
  let t := u.updLink b fun l => { l with receiver := r.1 }
  match r.2 with
  | some (.frame counted) =>
    match terminalFrame? counted with
    | some f => t.takeFrame b f
    | none => t.countLineError b
  | some .lineError => t.countLineError b
  | none => t

/-- IDENT (R95, R98, R121). -/
def execIdent (b : BayId) (seq : Byte) (terminal : BitVec 128) (model : BitVec 16) (caps occupancy : Byte) (s : State) :
    Host.Outcome State Fault Refusal :=
  .next (s.runBays fun s => s.receiveTerminal b (.ident seq terminal model caps occupancy))

/-- ACK (R98). -/
def execAck (b : BayId) (seq : Byte) (s : State) : Host.Outcome State Fault Refusal :=
  .next (s.runBays fun s => s.receiveTerminal b (.ack seq))

/-- CHECK (R98, R110). -/
def execCheck (b : BayId) (seq : Byte) (register : Byte) (value : CheckValue) (s : State) :
    Host.Outcome State Fault Refusal :=
  .next (s.runBays fun s => s.receiveTerminal b (.check seq register value))

/-- NAK (R98, R101, R102). -/
def execNak (b : BayId) (seq : Byte) (reason : Byte) (s : State) : Host.Outcome State Fault Refusal :=
  .next (s.runBays fun s => s.receiveTerminal b (.nak seq reason))

/-- BAY_LINE_ERROR: the bytes received, which may stop within a frame (R93). -/
def execBayLineError (b : BayId) (bytes : List Byte) (s : State) : Host.Outcome State Fault Refusal :=
  .next (s.runBays fun s => bytes.foldl (State.bayByte b) s)

/-- The gap timer of a partial frame makes it a line error once it is due, and the receiver is in HUNT (R10, R93, R105). -/
def State.bayGap (s : State) (b : BayId) : State :=
  if s.expired (s.bay b).link.receiver.gap? then (s.updLink b fun l => { l with receiver := .hunt }).countLineError b else s

/-- BAY_GAP_EXPIRY: the gap timer, then the bytes received after it (R93). -/
def execBayGapExpiry (b : BayId) (bytes : List Byte) (s : State) : Host.Outcome State Fault Refusal :=
  .next (s.runBays fun s => bytes.foldl (State.bayByte b) (s.bayGap b))

/-! ## Transmission and the reply timer (R91, R99, R100) -/

/-- The end of a transmission arms the timer of the exchange it belongs to (R99). -/
def State.armReply (s : State) (b : BayId) (seq : Byte) : State :=
  match (s.bay b).link.exchange with
  | some e =>
    if e.seq = seq then s.updLink b fun l => { l with exchange := some { e with timer := some (s.timer e.timeout) } } else s
  | none => s

/-- BAY_TRANSMIT_END (R91, R99). -/
def execBayTransmitEnd (b : BayId) (s : State) : Host.Outcome State Fault Refusal :=
  .next (s.runBays fun s =>
    match (s.bay b).link.sending with
    | some (t, _) => (s.armReply b t.seq).transmitNext b
    | none => s)

/-- The reply timer's table (R100). -/
def State.replyExpired (s : State) (b : BayId) (e : Exchange) : State :=
  if e.resendPending then s.resend b { e with resendPending := false }
  else if e.retriesUsed < e.retryLimit then s.resend b { e with retriesUsed := e.retriesUsed + 1 }
  else (s.closeExchange b e).sessionFailure b .noReply

/-- REPLY_TIMER_EXPIRY (R100). -/
def execReplyTimerExpiry (b : BayId) (s : State) : Host.Outcome State Fault Refusal :=
  .next (s.runBays fun s =>
    match (s.bay b).link.exchange with
    | some e => if s.expired e.timer then s.replyExpired b e else s
    | none => s)

/-! ## Presence (R106 to R108) -/

/-- The recogniser when the input goes high (R106). -/
def Link.inputHigh (l : Link) (settle : Timer) : Link :=
  match l.presence with
  | .absent => { l with presence := .settling, presenceTimer := some settle }
  | .dropping => { l with presence := .present, presenceTimer := none }
  | .settling | .present => l

/-- The recogniser when the input goes low (R106). -/
def Link.inputLow (l : Link) (drop : Timer) : Link :=
  match l.presence with
  | .settling => { l with presence := .absent, presenceTimer := none }
  | .present => { l with presence := .dropping, presenceTimer := some drop }
  | .absent | .dropping => l

/-- The input level changes in every engine state; the recogniser moves outside LOADING (R106). -/
def State.presenceInput (s : State) (b : BayId) (level : Bool) : State :=
  if (s.bay b).link.input = level then s
  else
    let t := s.updLink b fun l => { l with input := level }
    if s.baysAwake then
      t.updLink b fun l => if level then l.inputHigh (s.timer (s.settleTime b)) else l.inputLow (s.timer 20)
    else t

/-- BAY_PRES_HIGH (R106). -/
def execBayPresHigh (b : BayId) (s : State) : Host.Outcome State Fault Refusal :=
  .next (({ s with out := [] }.presenceInput b true))

/-- BAY_PRES_LOW (R106). -/
def execBayPresLow (b : BayId) (s : State) : Host.Outcome State Fault Refusal :=
  .next (({ s with out := [] }.presenceInput b false))

/-- A rise is recognised: the watches, and a session in AWAIT_TERMINAL (R107, R119, R173). That the event unit takes it before the
session is the model's choice (log 44). -/
def State.recogniseRise (s : State) (b : BayId) : State :=
  let t := (s.updLink b fun l => { l with presence := .present, presenceTimer := none }).report (Watch.firesOnPresence b true)
  if (s.session b).state = .awaitTerminal then t.takeRise b else t

/-- A drop is recognised: the dropped latch, the watches, the open exchange and a partial frame, and the session (R107, R108,
R130, R173). That the event unit takes it before the session is the model's choice (log 44). -/
def State.recogniseDrop (s : State) (b : BayId) : State :=
  ((((s.updLink b fun l => { l with presence := .absent, presenceTimer := none, dropped := true, receiver := .hunt }).report
    (Watch.firesOnPresence b false)).abandonExchange b)).sessionDrop b

/-- PRESENCE_TIMER_EXPIRY (R106). -/
def execPresenceTimerExpiry (b : BayId) (s : State) : Host.Outcome State Fault Refusal :=
  .next (s.runBays fun s =>
    if s.expired (s.bay b).link.presenceTimer then
      match (s.bay b).link.presence with
      | .settling => s.recogniseRise b
      | .dropping => s.recogniseDrop b
      | .absent | .present => s
    else s)

/-- REMOVAL_TIMER_EXPIRY: in AWAIT_REMOVAL the plan ends with STUCK_TERMINAL (R132). -/
def execRemovalTimerExpiry (b : BayId) (s : State) : Host.Outcome State Fault Refusal :=
  .next (s.runBays fun s =>
    if (s.session b).state = .awaitRemoval ∧ s.expired (s.session b).removal = true then s.planEnd b .stuckTerminal 0xFF else s)

end Sys2Proof.Machine
end

