-- ==== Sys2Proof/Machine/WriterEvents.lean ====
section
/-!
DEFINITION. Machine/WriterEvents.lean: the receipt writer: RECEIPT_WRITE_SEQUENCE and TAKE_ATTEMPT (sections 8.3 and 8.4).
-/

namespace Sys2Proof.Machine

/-! ## RECEIPT_WRITE_SEQUENCE (R145) -/

/-- The two writes of a write sequence: the record, then CUR_ROLL_WRITTEN. -/
def receiptWrites (a : Area) (roll : Roll) (r : Receipt) : List Output :=
  [.busWrite (roll.recordAddress roll.written) (r.bytes roll.sequence roll.written),
   .busWrite (a.at 0x2C) (toLE 4 (roll.written + 1))]

/-- The head receipt is written, its closure handed over, its entry leaves, and the oldest waiting submission is entered
(R143, R145). -/
def State.writeReceipt (s : State) (a : Area) (roll : Roll) (r : Receipt) (rest : List Receipt) : State :=
  let t := ((s.emit (receiptWrites a roll r)).setRoll (some { roll with written := roll.written + 1 })).updWriter fun w =>
    { w with queue := rest }
  (((t.updKs fun k => { k with closure := some r.closure }).request .closure).admitWaiting).updWriter fun w =>
    { w with state := w.nextState, fromAwait := false }

/-- RECEIPT_WRITE_SEQUENCE (R145). -/
def execReceiptWriteSequence (s : State) : Host.Outcome State Fault Refusal :=
  .next (s.run fun s =>
    match s.intake.area, s.writer.roll, s.writer.queue with
    | some a, some roll, r :: rest => if s.canWrite then s.writeReceipt a roll r rest else s
    | _, _, _ => s)

/-! ## TAKE_ATTEMPT (R147 to R149) -/

/-- The offer is usable (R148). -/
def offerUsable (base : BitVec 64) (capacity : BitVec 32) : Bool :=
  decide (16 ≤ capacity.toNat ∧ capacity.toNat ≤ 65535) && decide (base.toNat % 64 = 0)

/-- The writes of a take, in the order of R148. -/
def takeWrites (a : Area) (base : BitVec 64) (capacity sequence : BitVec 32) : List Output :=
  [.busWrite (a.at 0x20) (toLE 8 base.toNat), .busWrite (a.at 0x28) (toLE 4 capacity.toNat), .busWrite (a.at 0x2C) (toLE 4 0),
   .busWrite (a.at 0x30) (toLE 4 sequence.toNat), .busWrite (a.at 0x1C) (toLE 4 0)]

/-- A roll is taken (R148, R144): the roll count rises, ROLL_TAKEN is set, the read-again mark clears. -/
def State.takeRoll (s : State) (a : Area) (base : BitVec 64) (capacity : BitVec 32) : State :=
  let sequence := s.writer.rollCount + 1
  let t := (s.emit (takeWrites a base capacity sequence)).setRoll
    (some { base, capacity := capacity.toNat, written := 0, sequence })
  (t.updWriter fun w =>
    { w with rollCount := sequence, readAgain := false, fromAwait := false, state := w.nextState }).raise .rollTaken

/-- An attempt ends without a roll: one more begins at once with the read-again mark set, an attempt from AWAIT_ROLL if the first
was one; otherwise IDLE, or AWAIT_ROLL, which sets ROLL_FULL unless the attempt began there and found READY at 0 (R147, R149;
log 41). -/
def State.noRoll (s : State) (ready : BitVec 32) : State :=
  if s.writer.readAgain then s.updWriter fun w => { w with readAgain := false }
  else if s.writer.queue.isEmpty then s.updWriter fun w => { w with state := .idle, fromAwait := false }
  else
    let t := s.updWriter fun w => { w with state := .awaitRoll, fromAwait := false }
    if s.writer.fromAwait = true ∧ ready = 0 then t else t.raise .rollFull

/-- An offer, READY at 1, that is not usable is declined (R148, R149). That the write of READY comes before the message of ROLL_FULL
is the model's choice (log 47). -/
def State.declineRoll (s : State) (a : Area) : State :=
  ((s.emit [.busWrite (a.at 0x1C) (toLE 4 0)]).raise .rollFull).noRoll 1

/-- TAKE_ATTEMPT (R148). -/
def execTakeAttempt (ready : BitVec 32) (base : BitVec 64) (capacity : BitVec 32) (s : State) :
    Host.Outcome State Fault Refusal :=
  .next (s.run fun s =>
    match s.intake.area with
    | some a =>
      if s.writer.state = .taking ∧ s.ks.closure = none then
        if ready = 1 then if offerUsable base capacity then s.takeRoll a base capacity else s.declineRoll a
        else s.noRoll ready
      else s
    | none => s)

end Sys2Proof.Machine
end

