-- ==== Sys2Proof/Machine/Dispatch.lean ====
section
/-!
DEFINITION. Machine/Dispatch.lean: one arm per command.
-/

namespace Sys2Proof.Machine

def exec (i : Instr) (s : State) : Host.Outcome State Fault Refusal :=
  match i with
  | .start hdr => Sys2Proof.Machine.execStart hdr s
  | .stop => Sys2Proof.Machine.execStop s
  | .reset mem => Sys2Proof.Machine.execReset mem s
  | .pcieLinkReset mem => Sys2Proof.Machine.execPcieLinkReset mem s
  | .powerOnReset tmpCase tmpBatlow mem => Sys2Proof.Machine.execPowerOnReset tmpCase tmpBatlow mem s
  | .nudge value => Sys2Proof.Machine.execNudge value s
  | .eventsRead => Sys2Proof.Machine.execEventsRead s
  | .eventMaskWrite value => Sys2Proof.Machine.execEventMaskWrite value s
  | .registerWrite w => Sys2Proof.Machine.execRegisterWrite w s
  | .tmpCaseActive => Sys2Proof.Machine.execTmpCaseActive s
  | .tmpBatlowActive => Sys2Proof.Machine.execTmpBatlowActive s
  | .zeroizeOverwriteDone ok => Sys2Proof.Machine.execZeroizeOverwriteDone ok s
  | .groupAreaRead area => Sys2Proof.Machine.execGroupAreaRead area s
  | .memoryBusyTimeout => Sys2Proof.Machine.execMemoryBusyTimeout s
  | .sweepTimerExpiry => Sys2Proof.Machine.execSweepTimerExpiry s
  | .sweepCellVisit cell => Sys2Proof.Machine.execSweepCellVisit cell s
  | .ownerCheck owner => Sys2Proof.Machine.execOwnerCheck owner s
  | .areaFault access => Sys2Proof.Machine.execAreaFault access s
  | .slotDefine => Sys2Proof.Machine.execSlotDefine s
  | .slotQuery => Sys2Proof.Machine.execSlotQuery s
  | .slotErase => Sys2Proof.Machine.execSlotErase s
  | .allowanceGrant => Sys2Proof.Machine.execAllowanceGrant s
  | .claimsSettle => Sys2Proof.Machine.execClaimsSettle s
  | .ceremonyOpen => Sys2Proof.Machine.execCeremonyOpen s
  | .ceremonyCancel => Sys2Proof.Machine.execCeremonyCancel s
  | .planRun => Sys2Proof.Machine.execPlanRun s
  | .planRepeat => Sys2Proof.Machine.execPlanRepeat s
  | .bayHalt => Sys2Proof.Machine.execBayHalt s
  | .bayQuery => Sys2Proof.Machine.execBayQuery s
  | .profileWrite => Sys2Proof.Machine.execProfileWrite s
  | .modelMapWrite => Sys2Proof.Machine.execModelMapWrite s
  | .watchSet => Sys2Proof.Machine.execWatchSet s
  | .claimRequest => Sys2Proof.Machine.execClaimRequest s
  | .wrapUse => Sys2Proof.Machine.execWrapUse s
  | .claimWithdrawal => Sys2Proof.Machine.execClaimWithdrawal s
  | .holdRelease => Sys2Proof.Machine.execHoldRelease s
  | .claimClosure => Sys2Proof.Machine.execClaimClosure s
  | .keyArrayWriteComplete => Sys2Proof.Machine.execKeyArrayWriteComplete s
  | .keyArrayWriteFail => Sys2Proof.Machine.execKeyArrayWriteFail s
  | .deriveDone => Sys2Proof.Machine.execDeriveDone s
  | .checkvalDone => Sys2Proof.Machine.execCheckvalDone s
  | .wrapDone => Sys2Proof.Machine.execWrapDone s
  | .cardIn console seq id => Sys2Proof.Machine.execCardIn console seq id s
  | .cardOut console seq => Sys2Proof.Machine.execCardOut console seq s
  | .component console seq value entered => Sys2Proof.Machine.execComponent console seq value entered s
  | .approve console seq => Sys2Proof.Machine.execApprove console seq s
  | .decline console seq => Sys2Proof.Machine.execDecline console seq s
  | .consoleGapExpiry console bytes => Sys2Proof.Machine.execConsoleGapExpiry console bytes s
  | .consoleBadFrame console bytes => Sys2Proof.Machine.execConsoleBadFrame console bytes s
  | .consoleTransmitEnd console => Sys2Proof.Machine.execConsoleTransmitEnd console s
  | .deadlineExpiry => Sys2Proof.Machine.execDeadlineExpiry s
  | .windowExpiry => Sys2Proof.Machine.execWindowExpiry s
  | .ident bay seq terminal model caps occupancy => Sys2Proof.Machine.execIdent bay seq terminal model caps occupancy s
  | .ack bay seq => Sys2Proof.Machine.execAck bay seq s
  | .check bay seq register value => Sys2Proof.Machine.execCheck bay seq register value s
  | .nak bay seq reason => Sys2Proof.Machine.execNak bay seq reason s
  | .bayLineError bay bytes => Sys2Proof.Machine.execBayLineError bay bytes s
  | .bayGapExpiry bay bytes => Sys2Proof.Machine.execBayGapExpiry bay bytes s
  | .bayTransmitEnd bay => Sys2Proof.Machine.execBayTransmitEnd bay s
  | .replyTimerExpiry bay => Sys2Proof.Machine.execReplyTimerExpiry bay s
  | .bayPresHigh bay => Sys2Proof.Machine.execBayPresHigh bay s
  | .bayPresLow bay => Sys2Proof.Machine.execBayPresLow bay s
  | .presenceTimerExpiry bay => Sys2Proof.Machine.execPresenceTimerExpiry bay s
  | .removalTimerExpiry bay => Sys2Proof.Machine.execRemovalTimerExpiry bay s
  | .receiptWriteSequence => Sys2Proof.Machine.execReceiptWriteSequence s
  | .takeAttempt ready base capacity => Sys2Proof.Machine.execTakeAttempt ready base capacity s
  | .persistEnd readBack => Sys2Proof.Machine.execPersistEnd readBack s
  | .mainPowerLoss => Sys2Proof.Machine.execMainPowerLoss s
  | .serialMemoryReady control => Sys2Proof.Machine.execSerialMemoryReady control s

end Sys2Proof.Machine
end

