-- ==== Sys2Proof/Machine/Step.lean ====
section
/-!
DEFINITION. Machine/Step.lean: one step takes the command at the front of the queue; on an empty queue the station clock
advances by one millisecond (R10; log 2, log 25).
-/

namespace Sys2Proof.Machine

/-- One millisecond of the station clock, in every engine state with main power (R10); nothing leaves the engine. -/
def State.tick (s : State) : State :=
  { s with clock := if s.engine = .off then s.clock else s.clock + 1, out := [] }

/-- The command at the front of the queue, or a tick (log 2). -/
def step (s : State) : Host.Outcome State Fault Refusal :=
  match s.pending with
  | c :: rest => exec c { s with pending := rest }
  | [] => .next s.tick

/-- The command a word spells at the front of the queue; the table gives bits to no row, so no word spells one. -/
def State.withFetchWord (s : State) (nbits w : Nat) : State :=
  match decodeTableWord nbits w with
  | some c => { s with pending := c :: s.pending }
  | none => s

end Sys2Proof.Machine
end

