-- ==== Sys2Proof/WellFormed.lean ====
section
/-!
DEFINITION. WellFormed.lean: which terms of Instr are events of their row. Operand widths and numbers are in the types;
what is left concerns REGISTER_WRITE, whose row covers only the writes that are no command of their own (log 24).
-/

namespace Sys2Proof

/-- The seven offsets of the register window (section 1.1). -/
def registerOffsets : List (BitVec 32) := [0x00, 0x04, 0x08, 0x0C, 0x10, 0x14, 0x18]

/-- A write to CONTROL with 1, 2 or 3 is START, STOP or RESET, not REGISTER_WRITE; an unused offset is none of the seven. -/
def PlainWrite.wellFormed : PlainWrite → Bool
  | .control v => v != 1 && v != 2 && v != 3
  | .unused off _ => !(registerOffsets.contains off)
  | .areaLo _ | .areaHi _ | .events _ | .state _ => true

/-- The term is an event of its row. -/
def Instr.wellFormed : Instr → Bool
  | .registerWrite w => w.wellFormed
  | .start _ | .stop | .reset _ | .pcieLinkReset _ | .powerOnReset _ _ _ | .nudge _ | .eventsRead | .eventMaskWrite _
  | .tmpCaseActive | .tmpBatlowActive | .zeroizeOverwriteDone _ | .groupAreaRead _ | .memoryBusyTimeout
  | .sweepTimerExpiry | .sweepCellVisit _ | .ownerCheck _ | .areaFault _
  | .slotDefine | .slotQuery | .slotErase | .allowanceGrant | .claimsSettle | .ceremonyOpen | .ceremonyCancel
  | .planRun | .planRepeat | .bayHalt | .bayQuery | .profileWrite | .modelMapWrite | .watchSet
  | .claimRequest | .wrapUse | .claimWithdrawal | .holdRelease | .claimClosure
  | .keyArrayWriteComplete | .keyArrayWriteFail | .deriveDone | .checkvalDone | .wrapDone
  | .cardIn _ _ _ | .cardOut _ _ | .component _ _ _ _ | .approve _ _ | .decline _ _
  | .consoleGapExpiry _ _ | .consoleBadFrame _ _ | .consoleTransmitEnd _ | .deadlineExpiry | .windowExpiry
  | .ident _ _ _ _ _ _ | .ack _ _ | .check _ _ _ _ | .nak _ _ _ | .bayLineError _ _ | .bayGapExpiry _ _
  | .bayTransmitEnd _ | .replyTimerExpiry _ | .bayPresHigh _ | .bayPresLow _ | .presenceTimerExpiry _
  | .removalTimerExpiry _ | .receiptWriteSequence | .takeAttempt _ _ _ | .persistEnd _ | .mainPowerLoss
  | .serialMemoryReady _ => true

end Sys2Proof
end

