-- ==== Sys2Proof/Safety.lean ====
section
/-!
DEFINITION. Safety.lean: the invariants of the block that the statements are about, each with the rule it follows.
-/

namespace Sys2Proof.Machine

/-- R53: next serial equals the receipted count plus the number of open claims. -/
def Slot.balanced (x : Slot) : Prop := x.nextSerial = x.receipted + x.claims.length

/-- R57: next serial plus allowance never exceeds 1,048,576. -/
def Slot.capped (x : Slot) : Prop := x.nextSerial + x.allowance ≤ 1048576

/-- Every slot's serials are accounted for and within the serial space (R53, R57). -/
def State.accounted (s : State) : Prop := ∀ i : SlotId, (s.slot i).balanced ∧ (s.slot i).capped

/-- The stores that the manual bounds hold no more than it says: the order table 32 entries (R17), the receipt queue 16
(R142), each console's transmit queue 8 frames (R62). -/
def State.bounded (s : State) : Prop :=
  s.intake.table.length ≤ 32 ∧ s.writer.queue.length ≤ 16 ∧ ∀ c : ConsoleId, (s.console c).queue.length ≤ 8

/-- R155: every profile lies in its range; R156: the profile index of an unused map entry is held as 0. -/
def ProfileStore.legal (p : ProfileStore) : Prop :=
  (∀ i : Fin 16, (p.profiles[i]).inRange = true) ∧ ∀ i : Fin 64, (p.map[i]).model = 0 → (p.map[i]).profile = 0

/-- R5: an area in use has 8 to 64 cells and a sweep interval of at most 10000 ms. -/
def Intake.areaLegal (k : Intake) : Prop :=
  match k.area with
  | some a => 8 ≤ a.cells ∧ a.cells ≤ 64 ∧ a.sweepMs ≤ 10000
  | none => True

/-- No sweep is past its last visit, and the conditions of R7 do not all hold in STOPPING: nothing is left that the engine does
by itself at once (R7, R14). -/
def State.settled (s : State) : Prop :=
  (∀ w, s.intake.sweep = some w → w.left = 0 → s.visitDone = false) ∧ s.stopComplete = false

/-- What holds between two commands: a legal area, and nothing left to do at once. -/
def State.atRest (s : State) : Prop := s.intake.areaLegal ∧ s.settled

/-- Two slots that differ in nothing but the key material they hold. -/
def Slot.sameButKeys (x y : Slot) : Prop := { x with stored := y.stored, committed := y.committed } = y

/-- An event flag is set (R166). -/
def State.hasFlag (s : State) (f : Flag) : Prop := s.events.flags &&& f.bit ≠ 0

/-- When a watch fires in a command that leads from `s` to `t`, by its source: the slot's allowance falls from the threshold or more
to below it (R172); the slot's state changes, or the rise or drop recognised in the command is on the bay and has the edge (R173); the
room reported falls from the threshold or more to below it (R174). -/
def Watch.firesFrom (s t : State) (recognised : Option (BayId × Edge)) : Watch → Prop
  | .off => False
  | .allowanceBelow i threshold => threshold ≤ (s.slot i).allowance ∧ (t.slot i).allowance < threshold
  | .slotState i => (t.slot i).state ≠ (s.slot i).state
  | .bayPresence b edge => ∃ e, recognised = some (b, e) ∧ (edge = e ∨ edge = .any)
  | .rollRoomBelow threshold => threshold ≤ s.events.room ∧ t.events.room < threshold

/-- The four watches over a command that sets none of them (R170): each keeps its source, and its flag is set where it was set or
the watch fires. -/
def State.watchesFire (s t : State) (recognised : Option (BayId × Edge)) : Prop :=
  t.events.watches = s.events.watches ∧
  ∀ n : Fin 4, t.events.flags.getLsbD (12 + n.val) = true ↔
    s.events.flags.getLsbD (12 + n.val) = true ∨ (s.events.watches[n]).firesFrom s t recognised

/-- The roll was dropped in the command, the room going to 0: every ROLL_ROOM_BELOW watch whose threshold the room reported before stood
at or above has fired (R174). -/
def State.dropFiresRoomWatches (s t : State) : Prop :=
  ∀ (n : Fin 4) (threshold : Nat), s.events.watches[n] = .rollRoomBelow threshold → 0 < threshold → threshold ≤ s.events.room →
    t.events.flags.getLsbD (12 + n.val) = true

/-- The same state with the port traffic of the last command gone. -/
def State.quiet (s : State) : State := { s with out := [] }

/-- Everything but the intake unit, the event unit, the writer's state and the port traffic is as it was: what an order refused
or answered at take leaves alone. -/
def State.sameOutsideIntake (s t : State) : Prop :=
  t.pending = s.pending ∧ t.clock = s.clock ∧ t.ks = s.ks ∧ t.ceu = s.ceu ∧ t.cipher = s.cipher ∧ t.bays = s.bays ∧
  t.prof = s.prof ∧ t.writer.queue = s.writer.queue ∧ t.writer.line = s.writer.line

/-- With the area in use, the order's answer is the one written before the sweep goes on (R16). -/
def State.answersAtTake (s t : State) (e : Entry) (r : Result) (data : List Byte) : Prop :=
  s.intake.area.isSome = true → t.intake.atTake = some { cell := e.cell, result := r, data := data }

/-- With the area in use, an owner's answer stands at the end of the answer list (R17). -/
def State.completes (s t : State) (cell : Nat) (r : Result) (data : List Byte) : Prop :=
  s.intake.area.isSome = true → { cell := cell, result := r, data := data } ∈ t.intake.answers

/-- What an event of one bay leaves alone outside the cipher unit, the writer, the intake unit and the bays: the queue, the
clock, every slot record, the consoles and the profile store. -/
def State.sameOutsideBays (s t : State) : Prop :=
  t.pending = s.pending ∧ t.clock = s.clock ∧ t.ks.slots = s.ks.slots ∧ t.ceu = s.ceu ∧ t.prof = s.prof

/-- What keeps the engine in STOPPING besides the receipt writer is over (R7): no bay runs a plan, and the ceremony record and the
order table are empty. -/
def State.nothingOpen (s : State) : Prop :=
  (∀ b : BayId, (s.bay b).running = none) ∧ s.ceu.record = .empty ∧ s.intake.table = []

/-- The engine has left STOPPING for STANDBY: the area is out of use, and the writer is INACTIVE with its roll dropped and room 0; its
queue and its roll count are not touched by this (R7, R151). -/
def State.writerLeft (s t : State) : Prop :=
  s.engine = .stopping ∧ t.engine = .standby ∧ t.intake.area = none ∧ t.writer.state = .inactive ∧ t.writer.roll = none ∧
  t.writer.readAgain = false ∧ t.events.room = 0

/-- Every other bay is as it was. -/
def State.otherBaysSame (s t : State) (b : BayId) : Prop := ∀ c, c ≠ b → t.bay c = s.bay c

/-- Every other slot is as it was. -/
def State.otherSlotsSame (s t : State) (i : SlotId) : Prop := ∀ j, j ≠ i → t.slot j = s.slot j

/-- Every other console is as it was. -/
def State.otherConsolesSame (s t : State) (c : ConsoleId) : Prop := ∀ d, d ≠ c → t.console d = s.console d

/-- The end of the running plan `r` of a bay with a code, a refusing slot and its counters (R118, R133): its order is completed, and
so is a BAY_HALT that waits on it; then the bay is IDLE with the counters kept, or a held order starts, a repeat with the cached
plan and its own K (R117). -/
def State.planEnded (s t : State) (b : BayId) (r : RunningOrder) (code : Result) (refusing : Byte) (counters : Counters) : Prop :=
  s.completes t r.order code (planData b refusing counters) ∧
  (∀ h, (s.bay b).halt = some h → s.completes t h.order .ok [byteOf b.val, h.state.code]) ∧ (t.bay b).halt = none ∧
  ((s.bay b).held = none →
    (t.bay b).running = none ∧ (t.session b).state = .idle ∧ (t.session b).removal = none ∧ (t.bay b).counters = counters ∧
    (t.bay b).cache = (s.bay b).cache) ∧
  (∀ h plan, (s.bay b).held = some h →
    h.source = .run plan ∨ (∃ k p, h.source = .again k ∧ (s.bay b).cache = some p ∧ plan = { p with repeats := k }) →
    (t.bay b).running =
      some { order := h.order, tag := h.tag, isRepeat := decide (h.source ≠ .run plan), plan := plan } ∧
    (t.bay b).held = none ∧ (t.session b).state = .awaitTerminal ∧ (t.session b).attempted = 0 ∧
    (t.bay b).counters = Counters.zero ∧ (t.bay b).link.rate = plan.rate)

/-- What an area fault makes of the settle of a slot (R19, R56). One whose submission waits in the line has it withdrawn, submits no more
and completes its order ENGINE_STOPPED, the answer lost with the area: the entry is gone and ORDER_ANSWERED is set; its mark stays
while a receipt it entered is not closed. One that has entered its whole list completes its order in the same way where the fault
brings RUNNING to STOPPING. Any other goes on. -/
def State.settleAtFault (s t : State) (i : SlotId) : Prop :=
  ((s.slot i).settle = none → (t.slot i).settle = none) ∧
  ∀ v, (s.slot i).settle = some v →
    let lost := ∀ cell, v.order = some cell → (∀ e ∈ t.intake.table, e.cell ≠ cell) ∧ t.hasFlag .orderAnswered
    (s.settleWaits i = true →
      (t.slot i).settle = (if v.unclosed = [] then none else some { v with order := none, remaining := [] }) ∧ lost) ∧
    (s.settleWaits i = false → v.remaining ≠ [] → (t.slot i).settle = some v) ∧
    (s.settleWaits i = false → v.remaining = [] → v.unclosed ≠ [] →
      (s.engine = .running → (t.slot i).settle = some { v with order := none } ∧ lost) ∧
      (s.engine ≠ .running → (t.slot i).settle = some v))

/-- The session states in which a halt or stop notice ends the plan at once (R135). -/
def Session.endsAtOnce (x : Session) : Prop :=
  x.state = .awaitTerminal ∨ x.state = .awaitRemoval ∨ x.state = .probing ∨ (x.state = .releasing ∧ x.begun = false)

/-- What the stop notice makes of a bay, its orders' answers apart (R134, R135). An IDLE bay takes no action. A bay with a plan lets
its held order go; where a halt has recorded an ending nothing else changes. Otherwise the plan ends, its open exchange abandoned; or
in CLAIMING and PREPARING the reason is fixed and a deferred claim withdrawn; or the terminal is unwound; or in UNWINDING and FILING
the ending alone is recorded. -/
def State.bayStopped (s t : State) (b : BayId) : Prop :=
  ((s.bay b).running = none → t.bay b = s.bay b) ∧
  ∀ r, (s.bay b).running = some r →
    (t.bay b).held = none ∧ (t.bay b).cache = (s.bay b).cache ∧ (t.bay b).counters = (s.bay b).counters ∧
    ((s.session b).ending ≠ .none → t.bay b = { s.bay b with held := none }) ∧
    ((s.session b).ending = .none →
      ((s.session b).endsAtOnce →
        (t.bay b).running = none ∧ (t.session b).state = .idle ∧ (t.session b).removal = none ∧
        ((s.session b).state = .probing ∨ (s.session b).state = .releasing → (t.bay b).link.exchange = none)) ∧
      ((s.session b).state = .claiming ∨ (s.session b).state = .preparing →
        t.bay b = { s.bay b with
          held := none
          session := { s.session b with
            ending := .engineStopped
            reason := some ((s.session b).reason.getD .engineStopped) } } ∧
        ((s.session b).state = .claiming → (s.session b).deferral = true → (s.session b).reason = none →
          .withdraw b ∈ t.ks.requests)) ∧
      ((s.session b).state = .loading ∨ ((s.session b).state = .releasing ∧ (s.session b).begun = true) →
        (t.bay b).running = some r ∧ (t.session b).state = .unwinding ∧ (t.session b).ending = .engineStopped ∧
        (t.session b).reason = some ((s.session b).reason.getD .engineStopped) ∧
        ((s.session b).latched ≠ none → (t.bay b).link.exchange.map (·.frame) = some .rollback)) ∧
      ((s.session b).state = .unwinding ∨ (s.session b).state = .filing →
        t.bay b = { s.bay b with held := none, session := { s.session b with ending := .engineStopped } }))

/-- What follows the removal of a terminal of the plan `r` that has an outcome, by the table of R132, with the counters at that
moment and with or without a terminal already recognised PRESENT: the plan ends STOPPED_ON_VOID, OK or PARTIAL, or the next terminal
is awaited, one already PRESENT being taken at once with its PROBE (R119). -/
def State.removalTaken (s t : State) (b : BayId) (r : RunningOrder) (outcome : TerminalOutcome) (counters : Counters)
    (present : Bool) : Prop :=
  (r.plan.stopOnVoid = true → (∃ reason, outcome = .void reason) → s.planEnded t b r .stoppedOnVoid 0xFF counters) ∧
  (r.plan.stopOnVoid = false ∨ (∀ reason, outcome ≠ .void reason) →
    (r.plan.repeats ≠ 0 → r.plan.repeats ≤ (s.session b).attempted →
      s.planEnded t b r (if 0 < counters.voided then .partialOk else .ok) 0xFF counters) ∧
    (r.plan.repeats = 0 ∨ (s.session b).attempted < r.plan.repeats →
      (t.bay b).running = some r ∧ (t.bay b).held = (s.bay b).held ∧ (t.session b).removal = none ∧
      (present = false →
        (t.session b).state = .awaitTerminal ∧ (t.session b).attempted = (s.session b).attempted ∧
        (t.bay b).counters = counters) ∧
      (present = true →
        (t.session b).state = .probing ∧ (t.session b).attempted = countUp (s.session b).attempted ∧
        (t.bay b).counters = { counters with attempted := countUp counters.attempted } ∧
        (t.bay b).link.exchange.map (fun x => (x.frame, x.retryLimit, x.timeout)) =
          some (.probe, s.prof.profiles[(0 : Fin 16)].retryLimit, r.plan.probeTimeout))))

/-- What follows a terminal that was left under a drop, a halt or a stop notice, with its outcome and the counters at that moment: the
plan ends with the recorded ending, or after a mere drop the removal is taken (R130 to R132, R135). -/
def State.endedOrRemoved (s t : State) (b : BayId) (r : RunningOrder) (outcome : TerminalOutcome) (counters : Counters) : Prop :=
  (∀ code, ((s.session b).ending = .halted ∧ code = .halted) ∨ ((s.session b).ending = .engineStopped ∧ code = .engineStopped) →
    s.planEnded t b r code 0xFF counters) ∧
  ((s.session b).ending = .none → (s.session b).gone = true →
    s.removalTaken t b r outcome counters (s.bay b).link.presence.isPresent)

/-- Claiming is over under the reason that a drop, a halt or a stop notice fixed, with the session as the key store's decision leaves
it in `x` (R130, R135; log 11): the deferral mark clears. With no claim granted nothing is filed: under an ending the hold release is
given and the plan ends, after a mere drop the removal is taken. Otherwise every granted claim is voided with the reason: with room
in the receipt queue the key buffer is cleared, the hold release is given, the void is counted and the bay goes on in the same way;
without, it waits in FILING (R131, R143). That every receipt that finds room is entered in the one command is the model's choice
(log 48). -/
def State.claimingEnded (s t : State) (b : BayId) (x : Session) (reason : VoidReason) : Prop :=
  (t.session b).deferral = false ∧ s.otherBaysSame t b ∧
  ∀ r, (s.bay b).running = some r → x.refusal = none →
    let receipts := x.receipts b r.tag (.void reason) (s.bay b).buffer
    let room := 16 - s.writer.queue.length
    (x.hasClaim = false →
      t.writer.queue = s.writer.queue ∧ t.writer.line = s.writer.line ∧
      t.ks.requests = s.ks.requests.tail ++ (if (s.session b).ending = .none then [] else [.release b]) ∧
      s.endedOrRemoved t b r x.outcome (s.bay b).counters) ∧
    (x.hasClaim = true →
      t.writer.queue = s.writer.queue ++ (receipts.take room).map (fun y => { y with time := s.clock }) ∧
      (receipts.length ≤ room →
        t.writer.line = s.writer.line ∧ t.ks.requests = s.ks.requests.tail ++ [.release b] ∧ (t.bay b).buffer = [] ∧
        s.endedOrRemoved t b r (.void reason) { (s.bay b).counters with voided := countUp (s.bay b).counters.voided }) ∧
      (room < receipts.length →
        t.writer.line = s.writer.line ++ (receipts.drop room).head?.toList.map (fun y => { submitter := .bay b, receipt := y }) ∧
        t.ks.requests = s.ks.requests.tail ∧ (t.bay b).running = some r ∧ (t.session b).state = .filing ∧
        (t.session b).outcome = .void reason ∧ (t.session b).ending = (s.session b).ending ∧
        (t.session b).gone = (s.session b).gone))

/-- The item waits for its claim (R123). -/
def ItemRecord.needsClaim (x : ItemRecord) : Prop := x.applies = true ∧ x.claim = none

/-- The item has its claim and waits for the wrap use of its transport slot (R123). -/
def ItemRecord.needsWrap (x : ItemRecord) (i : SlotId) : Prop :=
  x.applies = true ∧ x.claim ≠ none ∧ x.item.delivery = .wrapped i ∧ x.wrapGeneration = none

/-- The item's condition does not hold, or it has its claim and, where it is WRAPPED, its wrap generation (R123). -/
def ItemRecord.needsNothing (x : ItemRecord) : Prop :=
  x.applies = true → x.claim ≠ none ∧ (x.item.delivery = .direct ∨ x.wrapGeneration ≠ none)

/-- What CLAIMING does after a grant that leaves the item records `records`, where no reason is fixed for the terminal (R123, R125). The
first item that needs one gets its request, the session being as it was but for the records, the item in hand and the deferral mark.
With none left the session is PREPARING with an empty place for each item, and the first applicable item's DERIVE is submitted: at
the end of the cipher queue, or with the cipher unit idle it starts at once on the key the key store gives. -/
def State.claimingGoesOn (s t : State) (b : BayId) (records : List ItemRecord) : Prop :=
  (∀ before x after request, records = before ++ x :: after → (∀ y ∈ before, y.needsNothing) →
    (x.needsClaim ∧ request = .claim b x.item.base) ∨ (∃ i, x.needsWrap i ∧ request = .wrapUse b i) →
    t.ks.requests = s.ks.requests.tail ++ [request] ∧
    t.bay b = { s.bay b with
      session := { s.session b with records := records, current := some before.length, deferral := false } } ∧
    s.otherBaysSame t b ∧ t.cipher = s.cipher ∧ t.writer.queue = s.writer.queue) ∧
  ∀ before x after c, records = before ++ x :: after → (∀ y ∈ before, y.applies = false) → (∀ y ∈ records, y.needsNothing) →
    x.applies = true → x.stage = .claimed → x.claim = some c →
    let derive : CipherRequest := { requester := .bay b before.length, op := .derive c.slot c.generation c.ksn }
    ∀ cipher, (s.cipher.running ≠ none ∧ cipher = { s.cipher with waiting := s.cipher.waiting ++ [derive] }) ∨
        (∃ key, s.cipher.running = none ∧ s.cipher.waiting = [] ∧ (s.slot c.slot).keyFor c.generation false = some key ∧
          cipher = { running := some { request := derive, working := some key }, waiting := [] }) →
      t.cipher = cipher ∧ t.ks.requests = s.ks.requests.tail ∧
      t.bay b = { s.bay b with
        buffer := records.map fun _ => { terminalKey := none, block := none, checkValue := none }
        session := { s.session b with
          state := .preparing, records := records, current := some before.length, deferral := false } } ∧
      s.otherBaysSame t b ∧ t.writer.queue = s.writer.queue

/-- What follows a refused claim or wrap use: no slot changes, and where a reason is fixed for the terminal, claiming is over under
it (R130, R135; log 11). Where none is fixed, a bay that holds no claim of the terminal gives its hold release and ends its plan with
the code and the slot; one that holds claims files the terminal VOID with CLAIM_REFUSED, and its plan ends so, with the void counted,
when the last receipt has been entered: at once with room in the receipt queue, and otherwise the bay waits in FILING with the refusal
recorded (R48, R124, R131, R133, R143). That every receipt that finds room is entered in the one command is the model's choice
(log 48). -/
def State.claimRefusedTo (s t : State) (b : BayId) (i : SlotId) (code : Result) : Prop :=
  t.ks.slots = s.ks.slots ∧ (t.session b).deferral = false ∧
  (∀ reason, (s.session b).reason = some reason → s.claimingEnded t b (s.session b) reason) ∧
  ∀ r, (s.bay b).running = some r → (s.session b).reason = none →
    let receipts := (s.session b).receipts b r.tag (.void .claimRefused) (s.bay b).buffer
    let room := 16 - s.writer.queue.length
    ((s.session b).hasClaim = false →
      s.completes t r.order code (planData b (byteOf i.val) (s.bay b).counters) ∧ t.writer.queue = s.writer.queue) ∧
    ((s.session b).hasClaim = true →
      t.writer.queue = s.writer.queue ++ (receipts.take room).map (fun x => { x with time := s.clock }) ∧
      (receipts.length ≤ room →
        s.completes t r.order code
          (planData b (byteOf i.val) { (s.bay b).counters with voided := countUp (s.bay b).counters.voided })) ∧
      (room < receipts.length →
        (t.bay b).running = some r ∧ (t.session b).state = .filing ∧ (t.session b).outcome = .void .claimRefused ∧
        (t.session b).refusal = some (code, i) ∧
        t.writer.line = s.writer.line ++ (receipts.drop room).head?.toList.map fun x => { submitter := .bay b, receipt := x })) ∧
    ((s.session b).hasClaim = false ∨ receipts.length ≤ room →
      t.ks.requests = s.ks.requests.tail ++ [.release b] ∧
      ((s.bay b).held = none → (t.bay b).running = none ∧ (t.session b).state = .idle))

/-- Entry to AWAIT_REMOVAL with the terminal plugged (R132): the removal timer runs for the timeout in seconds, and a timeout of 0
arms none. -/
def State.removalAwaited (s t : State) (b : BayId) (r : RunningOrder) (timeout : Nat) : Prop :=
  (t.bay b).running = some r ∧ (t.session b).state = .awaitRemoval ∧
  (t.session b).removal = if timeout = 0 then none else some { start := s.clock, interval := timeout * 1000 }

/-- A bay whose presence recogniser looks at its input at the end of LOADING, with profile 0's settle time (R106): a high input enters
SETTLING, a low one leaves ABSENT. Nothing else of the bay changes. -/
def Bay.looksAtInput (x y : Bay) (clock : BitVec 32) (settleTime : Nat) : Prop :=
  y = { x with
    link := { x.link with
      presence := if x.link.input then .settling else .absent
      presenceTimer := if x.link.input then some { start := clock, interval := settleTime } else none } }

/-- What the end of an assembly does, besides the frames to the consoles (R71): its order is completed with the code, the slot is
EMPTY with its definition, the record and the arrival list are empty, a check in progress is to be discarded, and CEREMONY_ENDED
is set in RUNNING and STOPPING. Every other slot, the bays and the cipher unit are as they were. -/
def State.assemblyEnded (s t : State) (a : Assembly) (code : Result) : Prop :=
  s.completes t a.order code (a.answerData 0) ∧ t.ceu.record = .empty ∧ t.ceu.arrivals = [] ∧
  ((s.slot a.slot).state = .assembling → t.slot a.slot = { s.slot a.slot with state := .empty }) ∧
  s.otherSlotsSame t a.slot ∧ (∀ x ∈ s.ceu.arrivals, (t.console x.console).pending = false) ∧
  (s.engine = .running ∨ s.engine = .stopping → t.hasFlag .ceremonyEnded) ∧ t.bays = s.bays ∧ t.prof = s.prof ∧
  t.writer.queue = s.writer.queue ∧ t.clock = s.clock

/-- What the end of an approval with an outcome makes of the pending grant and its slot (R59, R77): REFUSED_STATE where the slot is
not READY or no longer at the generation noted; otherwise the grant is applied, or answered with the code. -/
def State.approvalEnded (s t : State) (g : PendingGrant) (code : Result) : Prop :=
  t.ceu.record = .empty ∧ t.ks.grant = none ∧ s.otherSlotsSame t g.slot ∧
  (s.engine = .running ∨ s.engine = .stopping → t.hasFlag .ceremonyEnded) ∧
  ((s.slot g.slot).state ≠ .ready ∨ (s.slot g.slot).generation ≠ g.generation →
    t.slot g.slot = s.slot g.slot ∧ s.completes t g.order .refusedState []) ∧
  ((s.slot g.slot).state = .ready → (s.slot g.slot).generation = g.generation →
    (code ≠ .ok → t.slot g.slot = s.slot g.slot ∧ s.completes t g.order code []) ∧
    (code = .ok →
      t.slot g.slot =
        { s.slot g.slot with
          allowance := (s.slot g.slot).allowance +
            min g.amount (1048576 - (s.slot g.slot).nextSerial - (s.slot g.slot).allowance) } ∧
      s.completes t g.order .ok ([byteOf g.slot.val, 0] ++ toLE 2 g.generation.toNat ++
        toLE 4 (min g.amount (1048576 - (s.slot g.slot).nextSerial - (s.slot g.slot).allowance)) ++
        toLE 4 (t.slot g.slot).allowance))) ∧
  t.bays = s.bays ∧ t.cipher = s.cipher ∧ t.prof = s.prof ∧ t.clock = s.clock

/-- A frame produced for a console: on its way if the transmitter was free, behind the others while fewer than 8 wait (R62). -/
def State.sends (s t : State) (c : ConsoleId) (m : ConsoleMessage) : Prop :=
  ((s.console c).sending = none → (t.console c).sending = some m) ∧
  ((s.console c).sending ≠ none → (s.console c).queue.length < 8 → (t.console c).queue = (s.console c).queue ++ [m])

/-- A slot after zeroize (R43): EMPTY, undefined, nothing recorded, no key that can be used, the next generation. -/
def Slot.zeroizedFrom (x y : Slot) : Prop :=
  y.state = .empty ∧ y.definition = none ∧ y.keyholders = [] ∧ y.checkValue = none ∧ y.target = none ∧ y.nextSerial = 0 ∧
  y.receipted = 0 ∧ y.allowance = 0 ∧ y.claims = [] ∧ y.holds = 0 ∧ y.settle = none ∧ y.force = false ∧
  y.generation = x.generation + 1

/-- What a reset leaves of a persistent slot whatever its state (R44, R60): definition, generation and counts kept, every claim an
orphan in its place, no hold, no settle. -/
def Slot.keptByReset (x y : Slot) : Prop :=
  y.definition = x.definition ∧ y.generation = x.generation ∧ y.nextSerial = x.nextSerial ∧ y.receipted = x.receipted ∧
  y.allowance = x.allowance ∧ y.claims = x.claims.map (fun c => { c with orphan := true }) ∧ y.holds = 0 ∧ y.settle = none

end Sys2Proof.Machine
end

