-- ==== Sys2Proof/Certificates/Slice0/Obligations.lean ====
section
/-!
DEFINITION. Certificates/Slice0/Obligations.lean: the statements for the provers, one definition each.
-/

open Sys2Proof Sys2Proof.Machine

/-! ## The queue, the clock, every command -/

/-- A step takes the command at the front of the queue and is exec of it on the state with the queue's rest; on an empty queue
the station clock counts one millisecond with main power (the model's choice, log 2 and log 25). -/
def Obligations.StepRunsFrontCommandOrTicks : Prop :=
  (∀ (c : Instr) (rest : List Instr) (s : State), s.pending = c :: rest → step s = exec c { s with pending := rest }) ∧
  ∀ s : State, s.pending = [] →
    step s = .next { s with clock := if s.engine = .off then s.clock else s.clock + 1, out := [] }

/-- Every command answers a next state: an event that cannot occur in a state changes nothing there (the model's choice, log 1).
The queue of the waiting commands, the model's own, is as it was (the model's choice, log 25). -/
def Obligations.EveryCommandAnswersAndKeepsQueue : Prop :=
  ∀ (c : Instr) (s : State), ∃ t, exec c s = .next t ∧ t.pending = s.pending

/-! ## Register window -/

/-- START in STANDBY with an aligned base and a legal header brings the area into use; one that fails a test sets AREA_FAULT and
changes nothing else (R5). START outside STANDBY and STOP outside RUNNING are discarded (R5, R6). -/
def Obligations.StartByRule : Prop :=
  (∀ (s : State) (h : StationHeader), s.engine = .standby →
     (s.intake.areaHi ++ s.intake.areaLo).setWidth 16 = 0#16 → h.format = 0x0A24 → 8 ≤ h.cells.toNat → h.cells.toNat ≤ 64 →
     h.sweepMs.toNat ≤ 10000 →
     ∃ t, exec (.start (some h)) s = .next t ∧ t.engine = .running ∧
       t.intake.area = some { base := s.intake.areaHi ++ s.intake.areaLo, cells := h.cells.toNat, sweepMs := h.sweepMs.toNat } ∧
       t.intake.pointer = 0 ∧ t.intake.sweep = some { position := 0, left := h.cells.toNat, backlogSeen := false } ∧
       t.intake.sweepTimer = (if h.sweepMs.toNat = 0 then none else some { start := s.clock, interval := h.sweepMs.toNat }) ∧
       t.writer.state = .taking ∧ t.events.startReport = false ∧
       (t.events.flags = s.events.flags ∨ t.events.flags = s.events.flags ||| Flag.orphansPresent.bit) ∧
       (s.events.startReport = true → (∃ i, (s.slot i).hasOrphan = true) → t.hasFlag .orphansPresent) ∧
       (s.events.startReport = false → t.events.flags = s.events.flags) ∧
       t.intake.table = s.intake.table ∧ t.intake.areaLo = s.intake.areaLo ∧ t.intake.areaHi = s.intake.areaHi ∧
       t.events.mask = s.events.mask ∧ t.writer.queue = s.writer.queue ∧ t.writer.roll = s.writer.roll ∧
       t.ks = s.ks ∧ t.ceu = s.ceu ∧ t.cipher = s.cipher ∧ t.bays = s.bays ∧ t.prof = s.prof ∧ t.clock = s.clock) ∧
  (∀ (s : State) (hdr : Option StationHeader), s.settled →
     ((s.engine = .standby ∧
         ((s.intake.areaHi ++ s.intake.areaLo).setWidth 16 ≠ 0#16 ∨ hdr = none ∨
           ∃ h, hdr = some h ∧ (h.format ≠ 0x0A24 ∨ h.cells.toNat < 8 ∨ 64 < h.cells.toNat ∨ 10000 < h.sweepMs.toNat)) →
       ∃ t, exec (.start hdr) s = .next t ∧
         t.events = { s.events with flags := s.events.flags ||| Flag.areaFault.bit } ∧ t.engine = .standby ∧
         t.intake = s.intake ∧ t.writer = s.writer ∧ t.ks = s.ks ∧ t.ceu = s.ceu ∧ t.cipher = s.cipher ∧ t.bays = s.bays ∧
         t.prof = s.prof ∧ t.clock = s.clock)) ∧
     (s.engine ≠ .standby → exec (.start hdr) s = .next s.quiet) ∧ (s.engine ≠ .running → exec .stop s = .next s.quiet))

/-- STOP in RUNNING: no sweep from then on. The order in hand is answered ENGINE_STOPPED without dispatch (R6); that it stands
in hand until then is the model's choice (log 7). An assembly before its commit ends with ENGINE_STOPPED and one in
COMMITTING stays, an approval ends and its grant is answered ENGINE_STOPPED, or REFUSED_STATE where the slot has changed
(R59, R75, R77; without data, log 35). A settle whose list has been entered completes its order with ENGINE_STOPPED and
keeps its mark, one that still submits goes on (R56). In a bay that runs a plan a held order is completed ENGINE_STOPPED
(R134; with the bay, FFh and zero counters as its data, log 34), and without a halt's ending the session acts by its state
(R135): the plan ends ENGINE_STOPPED, the reason is fixed, or the terminal is unwound. A reason fixed before the stop stands
(log 32). -/
def Obligations.StopEndsSweepsAndNotifiesBays : Prop :=
  ∀ s : State, s.engine = .running →
    ∃ t, exec .stop s = .next t ∧ (t.engine = .stopping ∨ t.engine = .standby) ∧ t.intake.sweep = none ∧
      t.intake.sweepAgain = false ∧ t.intake.backlog = false ∧ t.intake.sweepTimer = none ∧
      (∀ b, s.bayStopped t b) ∧
      (∀ b r, (s.bay b).running = some r →
        (∀ h, (s.bay b).held = some h → s.completes t h.order .engineStopped (planData b 0xFF Counters.zero)) ∧
        ((s.session b).ending = .none → (s.session b).endsAtOnce →
          s.completes t r.order .engineStopped (planData b 0xFF (s.bay b).counters))) ∧
      (∀ b, (t.bay b).running ≠ none → (t.session b).ending ≠ .none) ∧
      (∀ e, s.validating = some e → s.answersAtTake t e .engineStopped []) ∧
      (s.ceu.record = .empty ∨ (∃ a, s.ceu.record = .assembly a ∧ a.phase = .committing) → t.ceu = s.ceu) ∧
      (∀ a, s.ceu.record = .assembly a → a.phase ≠ .committing →
        t.ceu.record = .empty ∧ t.ceu.arrivals = [] ∧ t.hasFlag .ceremonyEnded ∧
        s.completes t a.order .engineStopped (a.answerData 0) ∧
        ((s.slot a.slot).state = .assembling → (t.slot a.slot).state = .empty) ∧
        (t.slot a.slot).definition = (s.slot a.slot).definition ∧
        (s.ceu.busy = true → t.ceu.discard = true ∧ t.ceu.inCheck = none)) ∧
      (∀ p g, s.ceu.record = .approval p → s.ks.grant = some g →
        t.ceu.record = .empty ∧ t.ks.grant = none ∧ t.hasFlag .ceremonyEnded ∧
        (t.slot g.slot).allowance = (s.slot g.slot).allowance ∧
        ((s.slot g.slot).state = .ready → (s.slot g.slot).generation = g.generation →
          s.completes t g.order .engineStopped []) ∧
        ((s.slot g.slot).state ≠ .ready ∨ (s.slot g.slot).generation ≠ g.generation →
          s.completes t g.order .refusedState [])) ∧
      (∀ i v, (s.slot i).settle = some v →
        (v.remaining ≠ [] ∨ s.settleWaits i = true → (t.slot i).settle = some v) ∧
        ∀ cell, v.order = some cell → v.remaining = [] → s.settleWaits i = false → v.unclosed ≠ [] →
          (t.slot i).settle = some { v with order := none } ∧
          s.completes t cell .engineStopped
            ([byteOf i.val, byteOf v.entered] ++ toLE 2 (s.slot i).generation.toNat)) ∧
      t.intake.areaLo = s.intake.areaLo ∧ t.intake.areaHi = s.intake.areaHi ∧ t.events.mask = s.events.mask ∧
      t.events.watches = s.events.watches ∧ t.writer.queue = s.writer.queue ∧ t.ks.latch = s.ks.latch ∧
      t.cipher = s.cipher ∧ t.prof = s.prof ∧ t.clock = s.clock

/-- NUDGE, and SWEEP_TIMER_EXPIRY at its time, are sweep triggers (R5, R12): with the area in use in RUNNING or TAMPERED a sweep
starts at the sweep pointer, or with one in progress the sweep-again flag is set. NUDGE reaches the writer once in any case
(that a NUDGE which starts a sweep counts once is the model's reading, log 17), a sweep's start from AWAIT_ROLL (R147); the
next timer expiry falls one interval later. -/
def Obligations.SweepTriggers : Prop :=
  (∀ (s : State) (v : BitVec 32), s.engine ≠ .off → s.settled → s.intake.areaLegal →
     ∃ t, exec (.nudge v) s = .next t ∧
       (∀ a, s.sweepArea = some a → s.intake.sweep = none →
         t.intake.sweep = some { position := s.intake.pointer, left := a.cells, backlogSeen := false } ∧
         t.intake.sweepAgain = s.intake.sweepAgain) ∧
       (∀ w, s.sweepArea ≠ none → s.intake.sweep = some w → t.intake.sweep = some w ∧ t.intake.sweepAgain = true) ∧
       (s.sweepArea = none → t.intake = s.intake) ∧
       (s.writer.state = .awaitRoll → t.writer.state = .taking ∧ t.writer.readAgain = s.writer.readAgain) ∧
       (s.writer.state = .taking → t.writer.state = .taking ∧ t.writer.readAgain = true) ∧
       (s.writer.state = .inactive ∨ s.writer.state = .idle ∨ s.writer.state = .writing → t.writer = s.writer) ∧
       t.writer.queue = s.writer.queue ∧ t.writer.roll = s.writer.roll ∧ t.intake.table = s.intake.table ∧
       t.intake.pointer = s.intake.pointer ∧ t.engine = s.engine ∧ t.events = s.events ∧ t.ks = s.ks ∧ t.ceu = s.ceu ∧
       t.cipher = s.cipher ∧ t.bays = s.bays ∧ t.prof = s.prof ∧ t.clock = s.clock ∧ t.out = []) ∧
  (∀ (s : State) (w : Timer), s.engine ≠ .off → s.settled → s.intake.areaLegal → s.intake.sweepTimer = some w →
     (w.due s.clock = false → exec .sweepTimerExpiry s = .next s.quiet) ∧
     (w.due s.clock = true → ∃ t, exec .sweepTimerExpiry s = .next t ∧
       t.intake.sweepTimer = some { start := w.start + BitVec.ofNat 32 w.interval, interval := w.interval } ∧
       (∀ a, s.sweepArea = some a → s.intake.sweep = none →
         t.intake.sweep = some { position := s.intake.pointer, left := a.cells, backlogSeen := false } ∧
         t.intake.sweepAgain = s.intake.sweepAgain ∧ (s.writer.state = .awaitRoll → t.writer.state = .taking)) ∧
       (∀ v, s.sweepArea ≠ none → s.intake.sweep = some v →
         t.intake.sweep = some v ∧ t.intake.sweepAgain = true ∧ t.writer = s.writer) ∧
       (s.sweepArea = none → t.intake.sweep = s.intake.sweep ∧ t.intake.sweepAgain = s.intake.sweepAgain) ∧
       t.engine = s.engine ∧ t.intake.table = s.intake.table ∧ t.intake.pointer = s.intake.pointer ∧ t.events = s.events ∧
       t.writer.queue = s.writer.queue ∧ t.writer.roll = s.writer.roll ∧ t.ks = s.ks ∧ t.ceu = s.ceu ∧ t.cipher = s.cipher ∧
       t.bays = s.bays ∧ t.prof = s.prof ∧ t.clock = s.clock ∧ t.out = []))

/-- EVENTS_READ returns the set flags and clears exactly those (R167). EVENT_MASK_WRITE replaces the enables, one message goes
out exactly when the request becomes active, and INT# is low exactly while it is active (R168). A plain register write sets
AREA_LO or AREA_HI or is discarded (R1). Nothing else changes. -/
def Obligations.RegisterEffects : Prop :=
  (∀ s : State, s.engine ≠ .off → s.settled →
     exec .eventsRead s =
       .next { s with events := { s.events with flags := 0 }, out := [.readData (s.events.flags.setWidth 32)] }) ∧
  (∀ e : EventUnit, e.intPin = false ↔ ∃ k, k < 16 ∧ e.flags.getLsbD k = true ∧ e.mask.getLsbD k = true) ∧
  (∀ s : State, s.engine ≠ .off → s.settled →
     (∀ v : BitVec 32, exec (.eventMaskWrite v) s =
       .next { s with events := { s.events with mask := v.setWidth 16 },
                      out := if s.events.flags &&& s.events.mask = 0 ∧ s.events.flags &&& v.setWidth 16 ≠ 0
                             then [.pcieMessage] else [] }) ∧
     (∀ v, exec (.registerWrite (.areaLo v)) s = .next { s with intake := { s.intake with areaLo := v }, out := [] }) ∧
     (∀ v, exec (.registerWrite (.areaHi v)) s = .next { s with intake := { s.intake with areaHi := v }, out := [] }) ∧
     (∀ v, v ≠ 1 → v ≠ 2 → v ≠ 3 → exec (.registerWrite (.control v)) s = .next s.quiet) ∧
     (∀ v, exec (.registerWrite (.events v)) s = .next s.quiet) ∧
     (∀ v, exec (.registerWrite (.state v)) s = .next s.quiet) ∧
     ∀ off v, off ∉ registerOffsets → exec (.registerWrite (.unused off v)) s = .next s.quiet)

/-- A read of STATE gives the engine state, the open orders, the receipt depth and the roll present bit, and every other bit as
0 (R2). -/
def Obligations.StateRegisterFields : Prop :=
  ∀ s : State, s.bounded →
    (s.readRegister 0x18).extractLsb' 0 4 = BitVec.ofNat 4 (match s.engine with
      | .off => 0 | .loading => 1 | .standby => 2 | .running => 3 | .stopping => 4 | .tampered => 5) ∧
    ((s.readRegister 0x18).extractLsb' 8 6).toNat = s.intake.table.length ∧
    ((s.readRegister 0x18).extractLsb' 16 5).toNat = s.writer.queue.length ∧
    (s.readRegister 0x18).getLsbD 24 = s.writer.roll.isSome ∧
    (s.readRegister 0x18) &&& ~~~0x011F3F0F#32 = 0#32

/-! ## Resets, main power, tamper, the load -/

/-- RESET and PCIE_LINK_RESET with a serial memory that answers give every block its reset values; the tamper latch stays, INT#
is high (R8, R78, R88, R112, R138, R153, R158, R175). The queue of waiting commands, the model's own, stays too (the model's
choice, log 25); that a console frame on its way is cut is the model's reading (log 12), and the group sources and changed
marks wait for the load (log 28). With a status byte FFh every group keeps its defaults and is FAULTED, PROFILE_FAULT is
set, and the load ends at once, in STANDBY or with the latch set in TAMPERED, each presence recogniser looking at its input
(R4, R106, R158, R160). -/
def Obligations.ResetGivesResetValues : Prop :=
  (∀ (s : State) (mem : MemoryStart) (c : Instr), s.engine ≠ .off → mem.status ≠ 0xFF → (c = .reset mem ∨ c = .pcieLinkReset mem) →
     ∃ t, exec c s = .next t ∧ t.pending = s.pending ∧ t.engine = .loading ∧ t.clock = 0 ∧ t.out = [] ∧
       t.intake = { areaLo := 0, areaHi := 0, area := none, table := [], answers := [], atTake := none, sweep := none,
                    pointer := 0, sweepAgain := false, backlog := false, sweepTimer := none } ∧
       t.events.flags = 0 ∧ t.events.mask = 0 ∧ (∀ n : Fin 4, t.events.watches[n] = .off) ∧ t.events.room = 0 ∧
       t.events.startReport = true ∧ t.events.intPin = true ∧
       t.ks.requests = [] ∧ t.ks.closure = none ∧ t.ks.grant = none ∧ (∀ b : BayId, t.ks.deferred[b] = none) ∧
       t.ks.latch = s.ks.latch ∧ t.ks.tmpCase = s.ks.tmpCase ∧ t.ks.tmpBatlow = s.ks.tmpBatlow ∧
       t.ceu.record = .empty ∧ t.ceu.arrivals = [] ∧ t.ceu.inCheck = none ∧ t.ceu.busy = false ∧ t.ceu.discard = false ∧
       (∀ k : ConsoleId, (t.console k).card = none ∧ (t.console k).pending = false ∧ (t.console k).receiver = .hunt ∧
         (t.console k).sending = none ∧ (t.console k).queue = [] ∧ (t.console k).seq = 0) ∧
       t.cipher.running = none ∧ t.cipher.waiting = [] ∧
       (∀ b : BayId, (t.bay b).running = none ∧ (t.bay b).held = none ∧ (t.bay b).cache = none ∧ (t.bay b).buffer = [] ∧
         (t.bay b).halt = none ∧ (t.session b).state = .idle ∧
         (t.bay b).counters = { attempted := 0, loaded := 0, voided := 0, unmatched := 0, skippedTerminals := 0, skippedItems := 0 } ∧
         (t.bay b).link.rate = .r9600 ∧ (t.bay b).link.sending = none ∧ (t.bay b).link.following = [] ∧
         (t.bay b).link.presenceTimer = none ∧ (t.bay b).link.exchange = none ∧ (t.bay b).link.receiver = .hunt ∧
         (t.bay b).link.seq = 0 ∧ (t.bay b).link.strays = 0 ∧ (t.bay b).link.lineErrors = 0 ∧ (t.bay b).link.lastNak = none ∧
         (t.bay b).link.dropped = false ∧ (t.bay b).link.presence = .absent ∧ (t.bay b).link.input = (s.bay b).link.input) ∧
       t.writer.state = .inactive ∧ t.writer.queue = [] ∧ t.writer.line = [] ∧ t.writer.roll = none ∧ t.writer.rollCount = 0 ∧
       t.writer.readAgain = false ∧
       (∀ p : Fin 16, t.prof.profiles[p] = { replyTimeout := 500, retryLimit := 3, chunkSize := 16, settleTime := 500,
                                             removalTimeout := 0, wrapOnly := false }) ∧
       (∀ n : Fin 64, t.prof.map[n] = { model := 0, profile := 0 }) ∧ t.prof.persist = none ∧
       (mem.status.getLsbD 0 = false → t.prof.load = some (.group 0) ∧ t.prof.control = mem.control) ∧
       (mem.status.getLsbD 0 = true → t.prof.load = some (.waiting { start := 0, interval := 100 }))) ∧
  (∀ (s : State) (control : BitVec 16) (c : Instr), s.engine ≠ .off →
     (c = .reset { status := 0xFF, control := control } ∨ c = .pcieLinkReset { status := 0xFF, control := control }) →
     ∃ t, exec c s = .next t ∧
       (s.ks.latch = false → t.engine = .standby) ∧ (s.ks.latch = true → t.engine = .tampered ∧ t.hasFlag .tamper) ∧
       t.hasFlag .profileFault ∧ t.prof.load = none ∧ t.prof.unreadable = true ∧
       (∀ g : Fin 4, t.prof.groups[g] = { source := .faulted, changed := false }) ∧
       (∀ p : Fin 16, t.prof.profiles[p] = Profile.default) ∧ (∀ n : Fin 64, t.prof.map[n] = MapEntry.unused) ∧
       (∀ b : BayId, (Bay.reset (s.bay b).link.input).looksAtInput (t.bay b) 0 500) ∧
       t.clock = 0 ∧ t.ks.latch = s.ks.latch ∧ t.intake.area = none ∧ t.writer.state = .inactive)

/-- What a reset makes of the 64 slots (R44, R45, R60, R153). A pending closure is carried out first, on the slot record alone
(the model's reading, log 16). A persistent slot keeps its record, by the table of R44, with every live claim an orphan; a
volatile slot is EMPTY and undefined at the next generation. -/
def Obligations.ResetOfSlots : Prop :=
  ∀ (s : State) (mem : MemoryStart), s.engine ≠ .off →
    ∃ t, exec (.reset mem) s = .next t ∧ exec (.pcieLinkReset mem) s = .next t ∧
      (∀ i : SlotId, i.val < 48 → Slot.keptByReset ((s.slot i).closedBy i s.ks.closure) (t.slot i)) ∧
      (∀ i : SlotId, i.val < 48 → (s.slot i).state = .ready ∨ (s.slot i).state = .draining →
        (t.slot i).state = .ready ∧ (t.slot i).stored = (s.slot i).stored ∧
        (t.slot i).checkValue = (s.slot i).checkValue ∧ (t.slot i).keyholders = (s.slot i).keyholders) ∧
      (∀ i : SlotId, i.val < 48 → (s.slot i).state = .empty ∨ (s.slot i).state = .assembling →
        (t.slot i).state = .empty ∧ (t.slot i).stored = (s.slot i).stored) ∧
      (∀ i : SlotId, i.val < 48 → (s.slot i).state = .writing → (s.slot i).target ≠ some .empty →
        (t.slot i).state = .empty ∧ (t.slot i).keyholders = [] ∧ (t.slot i).checkValue = none ∧ (t.slot i).stored = .noKey) ∧
      (∀ i : SlotId, i.val < 48 → (s.slot i).state = .writing → (s.slot i).target = some .empty →
        (t.slot i).state = .writing ∧ (t.slot i).target = some .empty ∧
        (i ∈ t.ks.writeQueue ∨ t.ks.arrayWrite = some i)) ∧
      (∀ i : SlotId, 48 ≤ i.val → Slot.zeroizedFrom (s.slot i) (t.slot i) ∧ (t.slot i).stored = .zeros)

/-- MAIN_POWER_LOSS stops the engine: the tamper latch and the records of persistent slots are kept in the battery domain (R20,
R42; that every other part is lost at this moment is the model's choice, log 26). POWER_ON_RESET enters LOADING with the
clock at 0, no event flag, no open order, no receipt queued, no cipher operation and no ceremony, resets the slots, and
clears the latch exactly when both tamper inputs are inactive during it (R8, R42, R44, R45). That POWER_ON_RESET with power
still present does the same is the model's reading (log 26), and so is that a latch that is clear stays clear with an input
active (log 38); the kept queue of waiting commands is the model's own (log 25). -/
def Obligations.PowerLossAndPowerOn : Prop :=
  (∀ s : State, s.engine ≠ .off →
    ∃ t, exec .mainPowerLoss s = .next t ∧ t.engine = .off ∧ t.pending = s.pending ∧ t.ks.latch = s.ks.latch ∧
      ∀ i : SlotId, i.val < 48 → (t.slot i).state = (s.slot i).state ∧ (t.slot i).definition = (s.slot i).definition ∧
        (t.slot i).generation = (s.slot i).generation ∧ (t.slot i).claims = (s.slot i).claims ∧
        (t.slot i).nextSerial = (s.slot i).nextSerial ∧ (t.slot i).receipted = (s.slot i).receipted ∧
        (t.slot i).allowance = (s.slot i).allowance ∧ (t.slot i).keyholders = (s.slot i).keyholders ∧
        (t.slot i).checkValue = (s.slot i).checkValue ∧ (t.slot i).force = (s.slot i).force ∧
        (t.slot i).target = (s.slot i).target ∧ (t.slot i).settle.isSome = (s.slot i).settle.isSome) ∧
  ∀ (s : State) (a b : Bool) (mem : MemoryStart), mem.status ≠ 0xFF →
    ∃ t, exec (.powerOnReset a b mem) s = .next t ∧ t.engine = .loading ∧ t.clock = 0 ∧ t.events.flags = 0 ∧
      t.ks.tmpCase = a ∧ t.ks.tmpBatlow = b ∧ t.ks.latch = (s.ks.latch && (a || b)) ∧ t.intake.area = none ∧
      t.intake.table = [] ∧ t.writer.state = .inactive ∧ t.writer.queue = [] ∧ t.writer.rollCount = 0 ∧
      t.cipher.running = none ∧ t.ceu.record = .empty ∧ t.pending = s.pending ∧
      (∀ i : SlotId, i.val < 48 → s.ks.closure = none → Slot.keptByReset (s.slot i) (t.slot i)) ∧
      ∀ i : SlotId, 48 ≤ i.val → Slot.zeroizedFrom (s.slot i) (t.slot i)

/-- TMP_CASE becoming active with main power present sets the latch: every slot is zeroized, the overwrite of the key array
begins, every block's own part ends, and outside LOADING the engine is TAMPERED with TAMPER set and every open order due the
answer TAMPERED; the main-power key of a volatile slot is cleared; a sweep timer that STOP had stopped starts again when
SWEEP_MS is not 0, and one that runs goes on (R9); a watch of a slot's state, of its allowance or of the roll's room fires
at the change (R172 to R174); the terminal profiles, the plan caches, the counters and the roll count stay (R4, R9, R42,
R43, R79, R88, R113, R139, R154). -/
def Obligations.TamperZeroizesAndEndsEverything : Prop :=
  ∀ s : State, s.engine ≠ .off → s.ks.latch = false →
    ∃ t, exec .tmpCaseActive s = .next t ∧ t.ks.latch = true ∧ t.ks.tmpCase = true ∧
      (s.engine = .loading → t.engine = .loading) ∧ (s.engine ≠ .loading → t.engine = .tampered ∧ t.hasFlag .tamper) ∧
      (∀ i : SlotId, Slot.zeroizedFrom (s.slot i) (t.slot i) ∧ (48 ≤ i.val → (t.slot i).stored = .zeros)) ∧
      t.ks.overwrite = some 0 ∧ t.ks.requests = [] ∧ t.ks.closure = none ∧ t.ks.writeQueue = [] ∧ t.ks.arrayWrite = none ∧
      t.ks.grant = none ∧ (∀ b : BayId, t.ks.deferred[b] = none) ∧
      t.cipher.running = none ∧ t.cipher.waiting = [] ∧
      t.ceu.record = .empty ∧ t.ceu.arrivals = [] ∧ t.ceu.inCheck = none ∧ t.ceu.busy = false ∧ t.ceu.discard = false ∧
      (∀ k : ConsoleId, (t.console k).card = none ∧ (t.console k).pending = false) ∧
      (∀ b : BayId, (t.session b).state = .idle ∧ (t.bay b).running = none ∧ (t.bay b).held = none ∧ (t.bay b).buffer = [] ∧
        (t.bay b).link.exchange = none ∧ (t.bay b).link.sending = none ∧ (t.bay b).link.receiver = .hunt ∧
        (t.bay b).cache = (s.bay b).cache ∧ (t.bay b).counters = (s.bay b).counters ∧
        (t.bay b).link.strays = (s.bay b).link.strays ∧ (t.bay b).link.lineErrors = (s.bay b).link.lineErrors) ∧
      t.writer.state = .inactive ∧ t.writer.queue = [] ∧ t.writer.line = [] ∧ t.writer.roll = none ∧
      t.writer.rollCount = s.writer.rollCount ∧
      (s.engine ≠ .loading → s.intake.area.isSome = true →
        t.intake.answers = s.intake.table.map fun e => { cell := e.cell, result := .tampered, data := [] }) ∧
      t.intake.area = s.intake.area ∧
      (∀ a w, s.engine ≠ .loading → s.intake.area = some a →
        (s.intake.sweepTimer = none ∧ a.sweepMs ≠ 0 ∧ w = { start := s.clock, interval := a.sweepMs }) ∨
            s.intake.sweepTimer = some w →
          t.intake.sweepTimer = some w) ∧
      (∀ a, s.engine ≠ .loading → s.intake.area = some a → s.intake.sweepTimer = none → a.sweepMs = 0 →
        t.intake.sweepTimer = none) ∧
      s.watchesFire t none ∧
      t.prof.profiles = s.prof.profiles ∧ t.prof.map = s.prof.map ∧ t.clock = s.clock ∧ t.events.mask = s.events.mask

/-- Without main power either tamper input zeroizes the slots, the main-power keys of volatile slots with them, and the engine
stays off; TMP_BATLOW with main power present, and an input that becomes active while the latch is set, have no further
effect (R42, R43). ZEROIZE_OVERWRITE_DONE leaves the position with zeros, or after a failure with no key and STORE_FAULT
set, and the overwrite goes on to slot 47 (R43). -/
def Obligations.TamperByPowerAndOverwrite : Prop :=
  ((∀ (s : State) (c : Instr), s.engine = .off → s.ks.latch = false → (c = .tmpCaseActive ∨ c = .tmpBatlowActive) →
     ∃ t, exec c s = .next t ∧ t.engine = .off ∧ t.ks.latch = true ∧
       (∀ i : SlotId, Slot.zeroizedFrom (s.slot i) (t.slot i) ∧ (48 ≤ i.val → (t.slot i).stored = .zeros)) ∧
       t.ks.overwrite = some 0 ∧ t.prof = s.prof ∧ t.clock = s.clock) ∧
   (∀ s : State, s.engine ≠ .off →
     exec .tmpBatlowActive s = .next { s with ks := { s.ks with tmpBatlow := true }, out := [] }) ∧
   ∀ s : State, s.ks.latch = true →
     exec .tmpCaseActive s = .next { s with ks := { s.ks with tmpCase := true }, out := [] } ∧
     exec .tmpBatlowActive s = .next { s with ks := { s.ks with tmpBatlow := true }, out := [] }) ∧
  (∀ (s : State) (p : Fin 48) (ok : Bool), s.engine ≠ .off → s.ks.overwrite = some p →
     ∃ t, exec (.zeroizeOverwriteDone ok) s = .next t ∧
       (∀ i : SlotId, t.slot i = if i.val = p.val then { s.slot i with stored := if ok then .zeros else .noKey } else s.slot i) ∧
       (∀ q, t.ks.overwrite = some q ↔ q.val = p.val + 1) ∧ (ok = false → t.hasFlag .storeFault) ∧
       t.ks.requests = s.ks.requests ∧ t.ks.latch = s.ks.latch ∧ t.ks.closure = s.ks.closure ∧
       t.ceu = s.ceu ∧ t.cipher = s.cipher ∧ t.bays = s.bays ∧ t.prof = s.prof ∧ t.clock = s.clock ∧
       t.intake.table = s.intake.table ∧ t.writer.queue = s.writer.queue)

/-- SERIAL_MEMORY_READY reads the control word and the group areas come next; MEMORY_BUSY_TIMEOUT after 100 ms leaves every
group at its defaults, FAULTED, sets PROFILE_FAULT and ends the load (R158, R160). GROUP_AREA_READ judges one group by the
table of R159: code other than 01b BLANK, a bad check or a record out of range FAULTED with PROFILE_FAULT, otherwise MEMORY
with the records in use; BLANK and FAULTED give defaults. After group 3 the load ends. At the end of the load each bay's
presence recogniser looks at its input: a high one enters SETTLING with profile 0's settle time as loaded, a low one leaves
ABSENT (R106, R160). -/
def Obligations.StartUpLoadByRule : Prop :=
  (∀ (s : State) (w : Timer), s.engine = .loading → s.prof.load = some (.waiting w) → s.settled →
     (∀ control : BitVec 16, exec (.serialMemoryReady control) s =
       .next { s with prof := { s.prof with control := control, load := some (.group 0) }, out := [] }) ∧
     (w.due s.clock = false → exec .memoryBusyTimeout s = .next s.quiet) ∧
     (w.due s.clock = true → ∃ t, exec .memoryBusyTimeout s = .next t ∧
       (∀ g : Fin 4, t.prof.groups[g] = { source := .faulted, changed := false }) ∧ t.prof.load = none ∧
       t.prof.unreadable = true ∧ t.hasFlag .profileFault ∧ (s.ks.latch = false → t.engine = .standby) ∧
       (s.ks.latch = true → t.engine = .tampered ∧ t.hasFlag .tamper) ∧ t.prof.profiles = s.prof.profiles ∧
       t.prof.map = s.prof.map ∧
       (∀ b : BayId, (s.bay b).looksAtInput (t.bay b) s.clock s.prof.profiles[(0 : Fin 16)].settleTime) ∧
       t.ks = s.ks ∧ t.cipher = s.cipher ∧ t.clock = s.clock)) ∧
  (∀ (s : State) (g : Fin 4) (area : Vector Byte 130), s.engine = .loading → s.prof.load = some (.group g) →
     ∃ t, exec (.groupAreaRead area) s = .next t ∧
       (s.prof.control.toNat / 4 ^ g.val % 4 ≠ 1 →
         t.prof.groups[g] = { source := .blank, changed := false } ∧
         (s.ks.latch = false → t.events.flags = s.events.flags)) ∧
       (s.prof.control.toNat / 4 ^ g.val % 4 = 1 →
         (numberAt area.toList 128 2 ≠ (crc (field area.toList 0 128)).toNat ∨ groupRecords? g area.toList = none →
           t.prof.groups[g] = { source := .faulted, changed := false } ∧ t.hasFlag .profileFault) ∧
         (numberAt area.toList 128 2 = (crc (field area.toList 0 128)).toNat → groupRecords? g area.toList ≠ none →
           t.prof.groups[g] = { source := .memory, changed := false })) ∧
       (t.prof.groups[g].source ≠ .memory → g.val < 2 → ∀ p : Fin 16, p.val / 8 = g.val → t.prof.profiles[p] = Profile.default) ∧
       (t.prof.groups[g].source ≠ .memory → 2 ≤ g.val → ∀ n : Fin 64, n.val / 32 + 2 = g.val → t.prof.map[n] = MapEntry.unused) ∧
       (t.prof.groups[g].source = .memory → g.val < 2 → ∀ p : Fin 16, p.val / 8 = g.val →
         profile? (field area.toList (p.val % 8 * 16) 16) = some t.prof.profiles[p]) ∧
       (t.prof.groups[g].source = .memory → 2 ≤ g.val → ∀ n : Fin 64, n.val / 32 + 2 = g.val →
         mapEntry? (field area.toList (n.val % 32 * 4) 4) = some t.prof.map[n]) ∧
       (∀ k : Fin 4, k ≠ g → t.prof.groups[k] = s.prof.groups[k]) ∧
       (∀ p : Fin 16, p.val / 8 ≠ g.val → t.prof.profiles[p] = s.prof.profiles[p]) ∧
       (∀ n : Fin 64, n.val / 32 + 2 ≠ g.val → t.prof.map[n] = s.prof.map[n]) ∧
       (∀ h : Fin 4, h.val = g.val + 1 → t.prof.load = some (.group h) ∧ t.bays = s.bays) ∧
       (g = 3 → t.prof.load = none ∧ (s.ks.latch = false → t.engine = .standby) ∧
         (s.ks.latch = true → t.engine = .tampered ∧ t.hasFlag .tamper) ∧
         ∀ b : BayId, (s.bay b).looksAtInput (t.bay b) s.clock t.prof.profiles[(0 : Fin 16)].settleTime) ∧
       t.ks = s.ks ∧ t.cipher = s.cipher ∧ t.clock = s.clock)

/-! ## The tray -/

/-- A visit to a POSTED cell with room in the order table takes it: OWNER = TAKEN is written, the sweep pointer follows, and the
cell joins the table in take order. In TAMPERED it is answered TAMPERED, an unknown KIND REFUSED_KIND, a FLAGS bit that its
KIND does not define REFUSED_FIELD (R9, R14, R15, R16); otherwise the order is in hand until its owner's command decides it.
That it stands in hand in between, and that an answer given at take waits for its OWNER check before the sweep goes on, is
the model's choice (log 7). -/
def Obligations.VisitTakesPostedCell : Prop :=
  ∀ (s : State) (a : Area) (w : Sweep) (cell : Vector Byte 80), s.engine ≠ .off → s.intake.area = some a →
    s.intake.sweep = some w → s.visitDone = true → (∀ e ∈ s.intake.table, e.cell ≠ w.position) → cell[0] = 0x01 →
    s.intake.table.length < 32 →
    ∃ t e, exec (.sweepCellVisit cell) s = .next t ∧
      e.cell = w.position ∧ e.kind = cell[1] ∧
      e.tag.toNat = cell[4].toNat + 256 * cell[5].toNat + 65536 * cell[6].toNat + 16777216 * cell[7].toNat ∧
      e.flags.toNat = cell[8].toNat + 256 * cell[9].toNat ∧ e.params = cell.toList.drop 16 ∧
      t.intake.table = s.intake.table ++ [e] ∧ t.intake.pointer = (w.position + 1) % a.cells ∧
      t.intake.sweep = some { w with position := (w.position + 1) % a.cells, left := w.left - 1 } ∧
      t.out = [.busWrite (a.base + BitVec.ofNat 64 (0x100 + w.position * 0x80)) [0x02]] ∧
      (s.engine = .tampered →
        e.condition = .answerDue ∧ t.intake.atTake = some { cell := w.position, result := .tampered, data := [] }) ∧
      (s.engine ≠ .tampered → cell[1].toNat = 0 ∨ 14 < cell[1].toNat →
        e.condition = .answerDue ∧ t.intake.atTake = some { cell := w.position, result := .refusedKind, data := [] }) ∧
      (s.engine ≠ .tampered → 1 ≤ cell[1].toNat → cell[1].toNat ≤ 14 →
        (e.flags &&& ~~~(if cell[1] = 0x03 then 1 else if cell[1] = 0x0C ∨ cell[1] = 0x0D then 2 else 0) ≠ 0 →
          e.condition = .answerDue ∧ t.intake.atTake = some { cell := w.position, result := .refusedField, data := [] }) ∧
        (e.flags &&& ~~~(if cell[1] = 0x03 then 1 else if cell[1] = 0x0C ∨ cell[1] = 0x0D then 2 else 0) = 0 →
          e.condition = .validating ∧ t.intake.atTake = none ∧ t.validating = some e)) ∧
      t.intake.answers = s.intake.answers ∧ t.engine = s.engine ∧ t.events = s.events ∧ t.writer = s.writer ∧ t.ks = s.ks ∧
      t.ceu = s.ceu ∧ t.cipher = s.cipher ∧ t.bays = s.bays ∧ t.prof = s.prof ∧ t.clock = s.clock

/-- A visit takes nothing from the cell of an open order or from a cell that is not POSTED; a POSTED cell that the full table
cannot take sets the backlog mark, and TRAY_BACKLOG if it is the first of this sweep (R11, R13, R14). A sweep ends with the
visit to its last cell; with the sweep-again flag set the next starts at once at the sweep pointer (R12, R14). -/
def Obligations.OtherVisits : Prop :=
  (∀ (s : State) (a : Area) (w : Sweep) (cell : Vector Byte 80), s.engine = .running ∨ s.engine = .tampered →
     s.intake.area = some a → s.intake.sweep = some w → s.visitDone = true → 1 < w.left →
     ((∃ e ∈ s.intake.table, e.cell = w.position) ∨ cell[0] ≠ 0x01 →
       exec (.sweepCellVisit cell) s =
         .next { s with intake := { s.intake with sweep := some { w with position := (w.position + 1) % a.cells, left := w.left - 1 } },
                        out := [] }) ∧
     ((∀ e ∈ s.intake.table, e.cell ≠ w.position) → cell[0] = 0x01 → 32 ≤ s.intake.table.length →
       ∃ t, exec (.sweepCellVisit cell) s = .next t ∧ t.intake.backlog = true ∧
         t.intake.sweep = some { position := (w.position + 1) % a.cells, left := w.left - 1, backlogSeen := true } ∧
         (w.backlogSeen = false → t.events.flags = s.events.flags ||| Flag.trayBacklog.bit) ∧
         (w.backlogSeen = true → t.events.flags = s.events.flags) ∧ t.intake.table = s.intake.table ∧
         t.intake.pointer = s.intake.pointer ∧ t.engine = s.engine ∧ t.writer = s.writer ∧ t.ks = s.ks ∧ t.ceu = s.ceu ∧
         t.cipher = s.cipher ∧ t.bays = s.bays ∧ t.prof = s.prof ∧ t.clock = s.clock)) ∧
  (∀ (s : State) (a : Area) (w : Sweep) (cell : Vector Byte 80), s.engine = .running ∨ s.engine = .tampered →
     s.intake.area = some a → s.intake.sweep = some w → s.visitDone = true → w.left = 1 → cell[0] ≠ 0x01 →
     ∃ t, exec (.sweepCellVisit cell) s = .next t ∧ t.intake.sweepAgain = false ∧
       (s.intake.sweepAgain = false → t.intake.sweep = none ∧ t.writer = s.writer) ∧
       (s.intake.sweepAgain = true →
         t.intake.sweep = some { position := s.intake.pointer, left := a.cells, backlogSeen := false } ∧
         (s.writer.state = .awaitRoll → t.writer.state = .taking)) ∧
       t.intake.table = s.intake.table ∧ t.intake.pointer = s.intake.pointer ∧ t.engine = s.engine ∧ t.events = s.events ∧
       t.ks = s.ks ∧ t.ceu = s.ceu ∧ t.cipher = s.cipher ∧ t.bays = s.bays ∧ t.prof = s.prof ∧ t.clock = s.clock)

/-- OWNER_CHECK on the next answer: with OWNER at TAKEN the result, the 46 data bytes and OWNER = ANSWERED are written in that
order, otherwise nothing; either way ORDER_ANSWERED is set, the answer and its entry are gone, and in RUNNING the backlog
mark starts a sweep (R13, R18). -/
def Obligations.OwnerCheckWritesAnswer : Prop :=
  ∀ (s : State) (a : Area) (x : Answer) (owner : Byte), s.engine ≠ .off → s.intake.areaLegal → s.intake.area = some a →
    (s.intake.atTake = some x ∨ (s.intake.atTake = none ∧ s.intake.answers.head? = some x)) →
    ∃ t, exec (.ownerCheck owner) s = .next t ∧ t.hasFlag .orderAnswered ∧
      t.intake.table = s.intake.table.filter (fun e => e.cell != x.cell) ∧ t.intake.atTake = none ∧
      (s.intake.atTake = some x → t.intake.answers = s.intake.answers) ∧
      (s.intake.atTake = none → t.intake.answers = s.intake.answers.tail) ∧ t.intake.backlog = false ∧
      (owner = 0x02 → ∃ more, t.out =
        [.busWrite (a.base + BitVec.ofNat 64 (0x100 + x.cell * 0x80 + 0x50)) (toLE 2 x.result.code),
         .busWrite (a.base + BitVec.ofNat 64 (0x100 + x.cell * 0x80 + 0x52)) ((x.data ++ zeroBytes 46).take 46),
         .busWrite (a.base + BitVec.ofNat 64 (0x100 + x.cell * 0x80)) [0x03]] ++ more ∧ ∀ o ∈ more, o = .pcieMessage) ∧
      (owner ≠ 0x02 → ∀ o ∈ t.out, o = .pcieMessage) ∧
      (s.intake.backlog = true → s.engine = .running → s.intake.sweep = none → t.intake.sweep ≠ none) ∧
      t.writer.queue = s.writer.queue ∧ t.ks = s.ks ∧ t.ceu = s.ceu ∧ t.cipher = s.cipher ∧ t.bays = s.bays ∧
      t.prof = s.prof ∧ t.clock = s.clock

/-- An area fault sets AREA_FAULT, takes the area out of use, loses every answer still due (the answers that wait in the list
with them, the model's reading, log 20), ends every drain and the writer's work, and brings RUNNING to STOPPING with the
stop notice, which ends the ceremony and reaches every bay (R75, R134, R135; a reason fixed before stands, log 32); TAMPERED
stays (R19, R36, R152). A settle's submission that waits in the line is withdrawn and its order completed ENGINE_STOPPED,
the answer lost; its mark stays while a receipt it entered is not closed; in RUNNING a settle that has entered its whole
list completes its order too (R56). A watch of a slot's state or of the roll's room fires at the change (R173, R174). That
the read-again mark clears in TAMPERED too, where R154 would keep it, is the model's reading (log 41). -/
def Obligations.AreaFaultTakesAreaOutOfUse : Prop :=
  ∀ (s : State) (access : AreaAccess), s.engine = .running ∨ s.engine = .stopping ∨ s.engine = .tampered →
    s.accessPossible access = true →
    ∃ t, exec (.areaFault access) s = .next t ∧ t.hasFlag .areaFault ∧ t.intake.area = none ∧ t.intake.sweep = none ∧
      t.intake.sweepAgain = false ∧ t.intake.backlog = false ∧ t.intake.sweepTimer = none ∧ t.intake.atTake = none ∧
      t.intake.answers = [] ∧ s.watchesFire t none ∧ (∀ e, s.validating = some e → ∀ f ∈ t.intake.table, f.cell ≠ e.cell) ∧
      (s.intake.atTake.isSome = true ∨ s.intake.answers ≠ [] → t.hasFlag .orderAnswered) ∧
      t.writer.state = .inactive ∧ t.writer.roll = none ∧ t.writer.readAgain = false ∧ t.writer.queue = s.writer.queue ∧
      (s.engine ≠ .tampered → t.engine = .stopping ∨ t.engine = .standby) ∧ (s.engine = .tampered → t.engine = .tampered) ∧
      (s.engine = .running → (∀ b, s.bayStopped t b) ∧
        (∀ b, (t.bay b).running ≠ none → (t.session b).ending ≠ .none) ∧
        (s.ceu.record = .empty ∨ (∃ a, s.ceu.record = .assembly a ∧ a.phase = .committing) → t.ceu = s.ceu) ∧
        ((∃ p, s.ceu.record = .approval p) ∨ (∃ a, s.ceu.record = .assembly a ∧ a.phase ≠ .committing) →
          t.ceu.record = .empty ∧ t.hasFlag .ceremonyEnded)) ∧
      (s.engine ≠ .running → t.bays = s.bays ∧ t.ceu = s.ceu) ∧
      (∀ i, (s.slot i).state = .draining →
        (t.slot i).state = .ready ∧ (t.slot i).claims = (s.slot i).claims ∧ (t.slot i).holds = (s.slot i).holds ∧
        (t.slot i).allowance = (s.slot i).allowance) ∧
      (∀ i, (s.slot i).state ≠ .draining → (s.slot i).state ≠ .assembling →
        t.slot i = { s.slot i with settle := (t.slot i).settle }) ∧
      t.writer.line = s.writer.line.filter (fun x => match x.submitter with | .bay _ => true | .settle _ => false) ∧
      (∀ i, s.settleAtFault t i) ∧
      t.intake.areaLo = s.intake.areaLo ∧ t.intake.areaHi = s.intake.areaHi ∧ t.cipher = s.cipher ∧
      t.prof = s.prof ∧ t.clock = s.clock

/-! ## Orders of the key store -/

/-- The parameters that the field checks of SLOT_DEFINE, CEREMONY_OPEN, PLAN_RUN, PROFILE_WRITE, MODEL_MAP_WRITE and WATCH_SET
refuse, read byte by byte, and the fields of the definition a SLOT_DEFINE carries (R29, R65, R114, R155, R162, R170, section
11.4). -/
def Obligations.OrderFieldChecks : Prop :=
  (∀ p : List Byte,
     (definition? p = none ↔
       63 < byteAt p 0 ∨ (byteAt p 2 ≠ 2 ∧ byteAt p 2 ≠ 3) ∨ (byteAt p 1 ≠ 1 ∧ byteAt p 1 ≠ 2) ∨
       (byteAt p 1 = 1 ∧ (1 < byteAt p 4 ∨ 65536 < numberAt p 8 4)) ∨ (byteAt p 1 = 2 ∧ byteAt p 4 ≠ 0)) ∧
     ∀ i d, definition? p = some (i, d) →
       i.val = byteAt p 0 ∧ d.components = byteAt p 2 ∧ d.bayMask.toNat = byteAt p 3 ∧
       (byteAt p 1 = 1 → d.cls = .base (BitVec.ofNat 40 (ofBE (field p 0x0C 5))) (decide (byteAt p 4 = 1)) (numberAt p 8 4)) ∧
       (byteAt p 1 = 2 → d.cls = .transport)) ∧
  (∀ p : List Byte, openParams? p = none ↔
     63 < byteAt p 0 ∨ byteAt p 1 < 2 ∨ 6 < byteAt p 1 ∨ ¬(idsAt p 8 (byteAt p 1)).Nodup ∨
     (0 : CardId) ∈ idsAt p 8 (byteAt p 1) ∨ numberAt p 2 2 < 30 ∨ 900 < numberAt p 2 2) ∧
  ((∀ p : List Byte, plan? p = none ↔
     7 < byteAt p 0 ∨ byteAt p 1 = 0 ∨ 6 < byteAt p 1 ∨ numberAt p 2 2 < 50 ∨ 5000 < numberAt p 2 2 ∨ numberAt p 2 2 % 10 ≠ 0 ∨
     (15 < byteAt p 4 ∧ byteAt p 4 ≠ 0xFF) ∨ 127 < byteAt p 5 ∨ 1 < byteAt p 6 ∨ byteAt p 7 = 0 ∨ 6 < byteAt p 7 ∨
     ∃ k, k < byteAt p 7 ∧ item? p (8 + k * 8) = none) ∧
   ∀ (p : List Byte) (o : Nat), item? p o = none ↔
     63 < byteAt p o ∨ 7 < byteAt p (o + 1) ∨ (byteAt p (o + 2) ≠ 1 ∧ byteAt p (o + 2) ≠ 2) ∨
     (byteAt p (o + 2) = 2 ∧ 63 < byteAt p (o + 3)) ∨ 3 < byteAt p (o + 4) ∨
     ((byteAt p (o + 4) = 1 ∨ byteAt p (o + 4) = 2) ∧ 7 < byteAt p (o + 5))) ∧
  (∀ r : List Byte, profile? r = none ↔
     numberAt r 0 2 < 50 ∨ 5000 < numberAt r 0 2 ∨ numberAt r 0 2 % 10 ≠ 0 ∨ 7 < byteAt r 2 ∨
     (byteAt r 3 ≠ 8 ∧ byteAt r 3 ≠ 16 ∧ byteAt r 3 ≠ 32) ∨ numberAt r 4 2 < 100 ∨ 2000 < numberAt r 4 2 ∨
     600 < numberAt r 6 2 ∨ 1 < byteAt r 8) ∧
  (∀ p : List Byte,
     (mapWrite? p = none ↔
       63 < byteAt p 0 ∨ byteAt p 1 = 0 ∨ 8 < byteAt p 1 ∨ (byteAt p 0 < 32 ∧ 32 < byteAt p 0 + byteAt p 1) ∨
       (32 ≤ byteAt p 0 ∧ 64 < byteAt p 0 + byteAt p 1) ∨
       ∃ k, k < byteAt p 1 ∧ numberAt p (8 + k * 4) 2 ≠ 0 ∧ 15 < byteAt p (8 + k * 4 + 2)) ∧
     ∀ first l, mapWrite? p = some (first, l) →
       first = byteAt p 0 ∧ l.length = byteAt p 1 ∧
       ∀ k x, l[k]? = some x → x.model.toNat = numberAt p (8 + k * 4) 2 ∧
         x.profile.val = if numberAt p (8 + k * 4) 2 = 0 then 0 else byteAt p (8 + k * 4 + 2)) ∧
  (∀ p : List Byte, watch? p = none ↔
     4 < byteAt p 1 ∨ (byteAt p 1 = 1 ∧ (63 < byteAt p 2 ∨ numberAt p 4 4 = 0 ∨ 1048576 < numberAt p 4 4)) ∨
     (byteAt p 1 = 2 ∧ 63 < byteAt p 2) ∨ (byteAt p 1 = 3 ∧ (7 < byteAt p 2 ∨ byteAt p 3 = 0 ∨ 3 < byteAt p 3)) ∨
     (byteAt p 1 = 4 ∧ (numberAt p 4 4 = 0 ∨ 65535 < numberAt p 4 4)))

/-- SLOT_DEFINE in hand: the checks of R29 in order, those of the fields also while the key array is being overwritten (R16; the
model's reading, log 31), and then the new definition with state, generation and counts as they were, answered OK with slot
and generation (R29, R30). Nothing else changes. -/
def Obligations.SlotDefineByRule : Prop :=
  ∀ (s : State) (e : Entry), s.engine ≠ .off → s.inHand .slotDefine = some e →
    (definition? e.params = none →
      ∃ t, exec .slotDefine s = .next t ∧ s.answersAtTake t e .refusedField [] ∧ s.sameOutsideIntake t) ∧
    ∀ i d, definition? e.params = some (i, d) → s.ks.overwrite = none →
      ((∃ ksi direct limit, d.cls = .base ksi direct limit ∧ ∃ j, j ≠ i ∧ (s.slot j).isBase = true ∧ (s.slot j).ksi = ksi) →
        ∃ t, exec .slotDefine s = .next t ∧ s.answersAtTake t e .refusedField [] ∧ s.sameOutsideIntake t) ∧
      ((d.cls = .transport ∨ ∃ ksi direct limit, d.cls = .base ksi direct limit ∧
          ∀ j, j ≠ i → (s.slot j).isBase = true → (s.slot j).ksi ≠ ksi) →
        ((s.slot i).state ≠ .empty →
          ∃ t, exec .slotDefine s = .next t ∧ s.answersAtTake t e .refusedState [] ∧ s.sameOutsideIntake t) ∧
        ((s.slot i).state = .empty →
          ∃ t, exec .slotDefine s = .next t ∧
            s.answersAtTake t e .ok ([byteOf i.val, 0] ++ toLE 2 (s.slot i).generation.toNat) ∧
            t.slot i = { s.slot i with definition := some d } ∧ s.otherSlotsSame t i ∧
            t.ks.requests = s.ks.requests ∧ t.ks.writeQueue = s.ks.writeQueue ∧ t.ks.arrayWrite = s.ks.arrayWrite ∧
            t.pending = s.pending ∧ t.clock = s.clock ∧ t.ceu = s.ceu ∧ t.cipher = s.cipher ∧ t.bays = s.bays ∧
            t.prof = s.prof ∧ t.writer.queue = s.writer.queue))

/-- SLOT_QUERY in hand: a slot number out of range is refused, also while the key array is being overwritten (R16; the model's
reading, log 31); otherwise OK with the 44 bytes of the record as R31 and section 11.5 list them, in every slot state and
with no effect on any slot; the answer does not depend on any key. -/
def Obligations.SlotQueryReportsAndChangesNothing : Prop :=
  (∀ (s : State) (e : Entry), s.engine ≠ .off → s.inHand .slotQuery = some e →
    (63 < byteAt e.params 0 →
      ∃ t, exec .slotQuery s = .next t ∧ s.answersAtTake t e .refusedField [] ∧ s.sameOutsideIntake t) ∧
    ∀ i : SlotId, i.val = byteAt e.params 0 → s.ks.overwrite = none →
      ∃ t, exec .slotQuery s = .next t ∧ s.answersAtTake t e .ok (s.slot i).queryData ∧ s.sameOutsideIntake t) ∧
  (∀ x y : Slot, x.sameButKeys y → x.queryData = y.queryData) ∧
  ∀ x : Slot, x.queryData.length = 44 ∧
    field x.queryData 0 3 =
      [(match x.state with | .empty => 0 | .assembling => 1 | .writing => 2 | .ready => 3 | .draining => 4),
       (match x.target with | none => 0 | some .ready => 3 | some .empty => 4), if x.definition.isSome then 1 else 0] ∧
    (x.definition = none →
      field x.queryData 3 4 = zeroBytes 4 ∧ field x.queryData 17 5 = zeroBytes 5 ∧ field x.queryData 28 4 = zeroBytes 4) ∧
    (∀ ksi direct limit mask n, x.definition = some { cls := .base ksi direct limit, bayMask := mask, components := n } →
      field x.queryData 3 4 = [1, if direct then 1 else 0, byteOf n, mask] ∧ field x.queryData 17 5 = toBE 5 ksi.toNat ∧
      field x.queryData 28 4 = toLE 4 limit) ∧
    (∀ mask n, x.definition = some { cls := .transport, bayMask := mask, components := n } →
      field x.queryData 3 4 = [2, 0, byteOf n, mask] ∧ field x.queryData 17 5 = zeroBytes 5 ∧
      field x.queryData 28 4 = zeroBytes 4) ∧
    field x.queryData 7 7 =
      byteOf x.keyholders.length :: (toLE 2 (x.keyholders.getD 0 0).toNat ++ toLE 2 (x.keyholders.getD 1 0).toNat ++
        toLE 2 (x.keyholders.getD 2 0).toNat) ∧
    field x.queryData 14 3 = toBE 3 (x.checkValue.getD 0).toNat ∧
    x.queryData.getD 22 0 = (if x.settle.isSome then 1 else 0) ∧
    (∀ b : BayId,
      (x.queryData.getD 23 0).getLsbD b.val = x.claims.any (fun c => decide (c.bay = b) && !c.orphan) ∧
      (x.queryData.getD 24 0).getLsbD b.val = x.claims.any (fun c => decide (c.bay = b) && c.orphan)) ∧
    x.queryData.getD 25 0 = x.holds ∧ field x.queryData 26 2 = toLE 2 x.generation.toNat ∧
    field x.queryData 32 12 = toLE 4 x.nextSerial ++ toLE 4 x.receipted ++ toLE 4 x.allowance

/-- SLOT_ERASE in hand by the table of R32: refused at take for a slot number out of range, an undefined EMPTY slot, ASSEMBLING,
WRITING, DRAINING, a settle mark, or orphans without FORCE (the slot number also while the key array is being overwritten,
R16; that, and that the rest then waits, is the model's reading, log 31); an EMPTY defined slot is undefined at once; a
READY slot enters DRAINING, and where the drain condition holds at once the erase begins: a persistent slot waits in WRITING
with target EMPTY, a volatile one is EMPTY and the order answered OK with the orphans discarded (R32 to R35). A SLOT_STATE
watch of the slot fires at the change, and an ALLOWANCE_BELOW watch where the allowance that goes to 0 stood at its
threshold or above (R172, R173). -/
def Obligations.SlotEraseByRule : Prop :=
  (∀ (s : State) (e : Entry), s.engine ≠ .off → s.inHand .slotErase = some e →
     (63 < byteAt e.params 0 →
       ∃ t, exec .slotErase s = .next t ∧ s.answersAtTake t e .refusedField [] ∧ s.sameOutsideIntake t) ∧
     ∀ i : SlotId, i.val = byteAt e.params 0 → s.ks.overwrite = none →
       ((s.slot i).state = .empty ∧ (s.slot i).definition = none) ∨ (s.slot i).state = .assembling ∨
         (s.slot i).state = .writing ∨ (s.slot i).state = .draining ∨
         ((s.slot i).state = .ready ∧ ((s.slot i).settle ≠ none ∨ ((s.slot i).hasOrphan = true ∧ e.flags.getLsbD 0 = false))) →
       ∃ t, exec .slotErase s = .next t ∧ s.answersAtTake t e .refusedState [] ∧ s.sameOutsideIntake t) ∧
  (∀ (s : State) (e : Entry) (i : SlotId), s.engine ≠ .off → s.ks.overwrite = none → s.inHand .slotErase = some e →
     i.val = byteAt e.params 0 →
     ((s.slot i).state = .empty → (s.slot i).definition ≠ none →
       ∃ t, exec .slotErase s = .next t ∧
         s.answersAtTake t e .ok ([byteOf i.val, 0] ++ toLE 2 ((s.slot i).generation + 1).toNat) ∧
         t.slot i = { s.slot i with definition := none, generation := (s.slot i).generation + 1 } ∧ s.otherSlotsSame t i ∧
         s.watchesFire t none ∧ t.ks.writeQueue = s.ks.writeQueue ∧ t.ceu = s.ceu ∧ t.cipher = s.cipher ∧ t.bays = s.bays ∧ t.prof = s.prof) ∧
     ((s.slot i).state = .ready → (s.slot i).settle = none → (s.slot i).hasOrphan = false ∨ e.flags.getLsbD 0 = true →
       ((s.slot i).holds ≠ 0 ∨ (∃ c ∈ (s.slot i).claims, c.orphan = false) →
         ∃ t, exec .slotErase s = .next t ∧
           t.slot i = { s.slot i with state := .draining, force := e.flags.getLsbD 0, eraseOrder := some e.cell } ∧
           s.otherSlotsSame t i ∧ s.watchesFire t none ∧ t.ks.writeQueue = s.ks.writeQueue ∧ t.intake.answers = s.intake.answers ∧
           t.ceu = s.ceu ∧ t.cipher = s.cipher ∧ t.bays = s.bays ∧ t.prof = s.prof) ∧
       ((s.slot i).holds = 0 → (∀ c ∈ (s.slot i).claims, c.orphan = true) →
         ∃ t, exec .slotErase s = .next t ∧ (t.slot i).generation = (s.slot i).generation + 1 ∧ (t.slot i).claims = [] ∧
           (t.slot i).nextSerial = 0 ∧ (t.slot i).receipted = 0 ∧ (t.slot i).allowance = 0 ∧ (t.slot i).keyholders = [] ∧
           (t.slot i).checkValue = none ∧ s.otherSlotsSame t i ∧ s.watchesFire t none ∧ t.ceu = s.ceu ∧ t.cipher = s.cipher ∧ t.bays = s.bays ∧
           t.prof = s.prof ∧
           (i.val < 48 → (t.slot i).state = .writing ∧ (t.slot i).target = some .empty ∧
             (t.slot i).definition = (s.slot i).definition ∧ (t.slot i).eraseOrder = some e.cell ∧
             (i ∈ t.ks.writeQueue ∨ t.ks.arrayWrite = some i)) ∧
           (48 ≤ i.val → (t.slot i).state = .empty ∧ (t.slot i).definition = none ∧ (t.slot i).stored = .zeros ∧
             s.completes t e.cell .ok ([byteOf i.val, byteOf (s.slot i).claims.length] ++
               toLE 2 ((s.slot i).generation + 1).toNat)))))

/-- ALLOWANCE_GRANT in hand: the tests of R57 in order, those of the fields also while the key array is being overwritten (R16;
the model's reading, log 31); a grant within the free limit adds the smaller of the amount and the room, and changes nothing
else of the slot. Above the limit it is CEREMONY_BUSY with the ceremony record occupied; otherwise the grant is pending, an
approval with a window of 120 seconds stands in the record, and APPROVAL_OPEN goes to the consoles (R57, R58, R76; a
console's queue takes 8 frames besides the one on its way, log 12). A rise of the allowance fires no watch (R172). -/
def Obligations.AllowanceGrantByRule : Prop :=
  (∀ (s : State) (e : Entry), s.engine ≠ .off → s.inHand .allowanceGrant = some e →
     (63 < byteAt e.params 0 ∨ numberAt e.params 4 4 = 0 ∨ 65536 < numberAt e.params 4 4 →
       ∃ t, exec .allowanceGrant s = .next t ∧ s.answersAtTake t e .refusedField [] ∧ s.sameOutsideIntake t) ∧
     ∀ i : SlotId, i.val = byteAt e.params 0 → 1 ≤ numberAt e.params 4 4 → numberAt e.params 4 4 ≤ 65536 →
       s.ks.overwrite = none →
       ((s.slot i).isTransport = true →
         ∃ t, exec .allowanceGrant s = .next t ∧ s.answersAtTake t e .refusedClass [] ∧ s.sameOutsideIntake t) ∧
       ((s.slot i).isTransport = false → (s.slot i).state ≠ .ready →
         ∃ t, exec .allowanceGrant s = .next t ∧ s.answersAtTake t e .refusedState [] ∧ s.sameOutsideIntake t) ∧
       ((s.slot i).isTransport = false → (s.slot i).state = .ready → numberAt e.params 4 4 ≤ (s.slot i).freeLimit →
         ∃ t, exec .allowanceGrant s = .next t ∧
           t.slot i =
             { s.slot i with
               allowance := (s.slot i).allowance +
                 min (numberAt e.params 4 4) (1048576 - (s.slot i).nextSerial - (s.slot i).allowance) } ∧
           s.otherSlotsSame t i ∧ s.watchesFire t none ∧
           s.answersAtTake t e .ok ([byteOf i.val, 0] ++ toLE 2 (s.slot i).generation.toNat ++
             toLE 4 (min (numberAt e.params 4 4) (1048576 - (s.slot i).nextSerial - (s.slot i).allowance)) ++
             toLE 4 (t.slot i).allowance) ∧
           t.ks.grant = s.ks.grant ∧ t.ceu = s.ceu ∧ t.cipher = s.cipher ∧ t.bays = s.bays ∧ t.prof = s.prof ∧
           t.clock = s.clock)) ∧
  (∀ (s : State) (e : Entry) (i : SlotId), s.engine ≠ .off → s.ks.overwrite = none → s.inHand .allowanceGrant = some e →
     i.val = byteAt e.params 0 → 1 ≤ numberAt e.params 4 4 → numberAt e.params 4 4 ≤ 65536 → (s.slot i).isTransport = false →
     (s.slot i).state = .ready → (s.slot i).freeLimit < numberAt e.params 4 4 →
     (s.ceu.record ≠ .empty →
       ∃ t, exec .allowanceGrant s = .next t ∧ s.answersAtTake t e .ceremonyBusy [] ∧ s.sameOutsideIntake t) ∧
     (s.ceu.record = .empty →
       ∃ t, exec .allowanceGrant s = .next t ∧
         t.ceu.record = .approval { slot := i, amount := numberAt e.params 4 4, keyholders := (s.slot i).keyholders,
                                    generation := (s.slot i).generation, window := { start := s.clock, interval := 120000 } } ∧
         t.ks = { s.ks with grant := some { order := e.cell, slot := i, amount := numberAt e.params 4 4,
                                            generation := (s.slot i).generation } } ∧
         (∀ k : ConsoleId, (s.console k).sending = none →
           (t.console k).sending = some (.approvalOpen i (numberAt e.params 4 4))) ∧
         (∀ k : ConsoleId, (s.console k).sending ≠ none → (s.console k).queue.length < 8 →
           (t.console k).queue = (s.console k).queue ++ [.approvalOpen i (numberAt e.params 4 4)]) ∧
         s.watchesFire t none ∧ t.intake.answers = s.intake.answers ∧ t.cipher = s.cipher ∧ t.bays = s.bays ∧ t.prof = s.prof ∧ t.clock = s.clock))

/-- CLAIMS_SETTLE in hand by the table of R55: a slot number out of range is refused at once, also while the key array is being
overwritten (R16; the model's reading, log 31). With room in the queue for every orphan, a VOID receipt UNKNOWN_OUTCOME is
entered for each in claim order; with the queue full the first waits in the line. -/
def Obligations.ClaimsSettleByRule : Prop :=
  ∀ (s : State) (e : Entry), s.engine = .running → s.inHand .claimsSettle = some e →
    (63 < byteAt e.params 0 →
      ∃ t, exec .claimsSettle s = .next t ∧ s.answersAtTake t e .refusedField [] ∧ s.sameOutsideIntake t) ∧
    ∀ i : SlotId, i.val = byteAt e.params 0 → s.ks.overwrite = none →
      ((s.slot i).settle ≠ none ∨ (s.slot i).state ≠ .ready →
        ∃ t, exec .claimsSettle s = .next t ∧ s.answersAtTake t e .refusedState [] ∧ s.sameOutsideIntake t) ∧
      ((s.slot i).settle = none → (s.slot i).state = .ready → (s.slot i).hasOrphan = false →
        ∃ t, exec .claimsSettle s = .next t ∧
          s.answersAtTake t e .ok ([byteOf i.val, 0] ++ toLE 2 (s.slot i).generation.toNat) ∧ s.sameOutsideIntake t) ∧
      ((s.slot i).settle = none → (s.slot i).state = .ready → (s.slot i).hasOrphan = true →
        (s.writer.queue.length + ((s.slot i).claims.filter (·.orphan)).length ≤ 16 →
          ∃ t, exec .claimsSettle s = .next t ∧
            t.writer.queue = s.writer.queue ++ ((s.slot i).claims.filter (·.orphan)).map (fun c =>
              { outcome := .void .unknownOutcome, unconfirmed := false, bay := c.bay, slot := i,
                generation := (s.slot i).generation, ksn := formKsn (s.slot i).ksi c.serial, label := 0, terminal := 0,
                model := 0, profile := 0xFF, register := 0, checkValue := 0, time := s.clock, tag := e.tag }) ∧
            t.slot i =
              { s.slot i with
                settle := some { order := some e.cell, tag := e.tag, remaining := [],
                                 unclosed := (s.slot i).claims.filter (·.orphan),
                                 entered := ((s.slot i).claims.filter (·.orphan)).length } } ∧
            s.otherSlotsSame t i ∧ t.writer.line = s.writer.line ∧ t.ceu = s.ceu ∧ t.cipher = s.cipher ∧ t.bays = s.bays ∧
            t.prof = s.prof ∧ t.clock = s.clock) ∧
        (s.writer.queue.length = 16 → s.intake.area ≠ none →
          ∃ t c rest, exec .claimsSettle s = .next t ∧ (s.slot i).claims.filter (·.orphan) = c :: rest ∧
            t.slot i =
              { s.slot i with
                settle := some { order := some e.cell, tag := e.tag, remaining := rest, unclosed := [], entered := 0 } } ∧
            t.writer.queue = s.writer.queue ∧ t.writer.line.length = s.writer.line.length + 1 ∧
            (t.writer.line.getLast?.map (·.submitter)) = some (.settle i) ∧ s.otherSlotsSame t i ∧ t.ceu = s.ceu ∧
            t.cipher = s.cipher ∧ t.bays = s.bays ∧ t.prof = s.prof ∧ t.clock = s.clock))

/-! ## Requests of the bays and of the receipt writer at the key store -/

/-- The KSN of a serial: the KSI in the first five bytes, then the 20-bit serial with its high four bits of the sixth byte 0
(R46). -/
def Obligations.KsnFormedFromKsiAndSerial : Prop :=
  ∀ (ksi : BitVec 40) (serial : Nat), serial < 2 ^ 20 →
    (formKsn ksi serial).extractLsb' 24 40 = ksi ∧ ((formKsn ksi serial).extractLsb' 0 20).toNat = serial ∧
    (formKsn ksi serial).extractLsb' 20 4 = 0#4 ∧ Ksn.serial (formKsn ksi serial) = serial ∧
    toBE 8 (formKsn ksi serial).toNat =
      toBE 5 ksi.toNat ++ [byteOf (serial / 65536 % 16), byteOf (serial / 256 % 256), byteOf (serial % 256)]

/-- A claim request that fails a test of R48: the first test that fails decides the refusal, or the deferral in the bay's own
place; no slot record changes. A refusal ends claiming (R124): without a granted claim the plan ends with the code; with one
every granted claim is voided CLAIM_REFUSED, and the plan ends with the code when filing is complete (that every receipt
that finds room is entered in the same command is the model's choice, log 48). Under a reason fixed by a drop, a halt or a
stop notice that ending stands (R130, R135; the model's reading, log 11). -/
def Obligations.ClaimRefusedOrDeferred : Prop :=
  ∀ (s : State) (b : BayId) (i : SlotId), s.engine ≠ .off → s.ks.overwrite = none →
    s.ks.requests.head? = some (.claim b i) →
    (¬((s.slot i).state = .ready ∧ (s.slot i).isBase = true) →
      ∃ t, exec .claimRequest s = .next t ∧ s.claimRefusedTo t b i .refusedState) ∧
    ((s.slot i).state = .ready ∧ (s.slot i).isBase = true →
      ((s.slot i).admits b = false → ∃ t, exec .claimRequest s = .next t ∧ s.claimRefusedTo t b i .refusedBay) ∧
      ((s.slot i).admits b = true →
        ((∃ c ∈ (s.slot i).claims, c.bay = b ∧ c.orphan = true) →
          ∃ t, exec .claimRequest s = .next t ∧ s.claimRefusedTo t b i .refusedState) ∧
        ((∀ c ∈ (s.slot i).claims, c.bay = b → c.orphan = false) →
          ((∃ c ∈ (s.slot i).claims, c.bay = b) →
            ∃ t, exec .claimRequest s = .next t ∧ t.ks.slots = s.ks.slots ∧ t.ks.deferred = s.ks.deferred.set b (some i) ∧
              (t.session b).deferral = true ∧ s.otherBaysSame t b ∧
              ((s.session b).reason = none → t.ks.requests = s.ks.requests.tail) ∧
              t.ceu = s.ceu ∧ t.cipher = s.cipher ∧ t.prof = s.prof ∧ t.writer.queue = s.writer.queue ∧ t.clock = s.clock) ∧
          ((∀ c ∈ (s.slot i).claims, c.bay ≠ b) →
            (1048576 ≤ (s.slot i).nextSerial →
              ∃ t, exec .claimRequest s = .next t ∧ s.claimRefusedTo t b i .serialsSpent) ∧
            ((s.slot i).nextSerial < 1048576 → (s.slot i).allowance = 0 →
              ∃ t, exec .claimRequest s = .next t ∧ s.claimRefusedTo t b i .allowanceSpent)))))

/-- A claim request that passes the six tests is granted: next serial up by one, allowance down by one, a live claim at the end
of the list, the bay in the hold set, and nothing else of any slot; the bay records serial, KSN and generation in the item
in hand (R48, R50). With no reason fixed for the terminal claiming goes on (R123, R125): the first item that still needs one
has its claim or wrap use requested next, and with none left the session is PREPARING, the first applicable item's DERIVE
submitted. With a reason fixed the new claim is voided with the others (R130, R135; that every receipt that finds room is
entered in the same command is the model's choice, log 48). An ALLOWANCE_BELOW watch of the slot fires where the allowance
falls from its threshold to below it, and no other watch of a slot or bay fires (R172 to R174). -/
def Obligations.ClaimGranted : Prop :=
  ∀ (s : State) (b : BayId) (i : SlotId), s.engine ≠ .off → s.ks.overwrite = none →
    s.ks.requests.head? = some (.claim b i) → (s.slot i).state = .ready → (s.slot i).isBase = true →
    (s.slot i).admits b = true → (∀ c ∈ (s.slot i).claims, c.bay ≠ b) → (s.slot i).nextSerial < 1048576 →
    0 < (s.slot i).allowance →
    ∃ t, exec .claimRequest s = .next t ∧
      t.slot i =
        { s.slot i with
          nextSerial := (s.slot i).nextSerial + 1, allowance := (s.slot i).allowance - 1,
          claims := (s.slot i).claims ++ [{ bay := b, serial := (s.slot i).nextSerial, orphan := false }],
          holds := (s.slot i).holds ||| (1#8 <<< b.val) } ∧
      s.otherSlotsSame t i ∧ t.ks.deferred = s.ks.deferred ∧ t.ks.closure = s.ks.closure ∧ t.ks.grant = s.ks.grant ∧
      t.ceu = s.ceu ∧ t.prof = s.prof ∧ t.clock = s.clock ∧ s.watchesFire t none ∧
      ∀ (n : Nat) (r : ItemRecord) (records : List ItemRecord), (s.session b).current = some n →
        (s.session b).records[n]? = some r →
        records = (s.session b).records.set n
          { r with
            stage := .claimed
            claim := some { slot := i, generation := (s.slot i).generation, serial := (s.slot i).nextSerial,
                            ksn := formKsn (s.slot i).ksi (s.slot i).nextSerial } } →
        ((s.session b).reason = none →
          s.claimingGoesOn t b records ∧
          (s.cipher.running ≠ none ∨ (s.cipher.waiting = [] ∧ (s.session b).gone = false) →
            (t.session b).records = records ∧ s.otherBaysSame t b)) ∧
        ∀ reason, (s.session b).reason = some reason →
          s.claimingEnded t b { s.session b with records := records } reason

/-- A wrap use by the table of R38: granted to a bay in the hold set of a READY or DRAINING slot and to a bay in the mask of a
READY TRANSPORT slot, which then holds it; otherwise REFUSED_BAY or REFUSED_STATE. The generation returned stands in every
item of the terminal on that slot, each WRAP names it, and no item that has it asks again. With no reason fixed for the
terminal claiming goes on after a grant (R123, R125): the first item that still needs one has its claim or wrap use
requested next, and with none left the session is PREPARING, the first applicable item's DERIVE submitted; with a reason
fixed every granted claim is voided with it (R130, R135). A grant changes no state and no allowance, so no watch of a slot
fires (R172, R173). A refusal ends claiming (R124): every granted claim is voided CLAIM_REFUSED, and the plan ends with the
code when filing is complete (that every receipt that finds room is entered in the same command is the model's choice, log
48). -/
def Obligations.WrapUseByRule : Prop :=
  (∀ (s : State) (b : BayId) (i : SlotId), s.engine ≠ .off → s.ks.overwrite = none →
     s.ks.requests.head? = some (.wrapUse b i) →
     (((s.slot i).heldBy b = true ∧ ((s.slot i).state = .ready ∨ (s.slot i).state = .draining)) ∨
         ((s.slot i).state = .ready ∧ (s.slot i).isTransport = true ∧ (s.slot i).admits b = true) →
       ∃ t, exec .wrapUse s = .next t ∧ t.slot i = { s.slot i with holds := (s.slot i).holds ||| (1#8 <<< b.val) } ∧
         s.otherSlotsSame t i ∧ t.ks.deferred = s.ks.deferred ∧ t.ceu = s.ceu ∧ t.prof = s.prof ∧ t.clock = s.clock ∧
         s.watchesFire t none ∧
         ∀ records, records = (s.session b).records.map (fun r =>
             if r.applies = true ∧ r.item.delivery = .wrapped i then { r with wrapGeneration := some (s.slot i).generation } else r) →
           ((s.session b).reason = none →
             s.claimingGoesOn t b records ∧
             (s.cipher.running ≠ none ∨ (s.cipher.waiting = [] ∧ (s.session b).gone = false) →
               (t.session b).records = records ∧ s.otherBaysSame t b)) ∧
           ∀ reason, (s.session b).reason = some reason →
             s.claimingEnded t b { s.session b with records := records } reason) ∧
     ((s.slot i).heldBy b = false → (s.slot i).state = .ready → (s.slot i).isTransport = true → (s.slot i).admits b = false →
       ∃ t, exec .wrapUse s = .next t ∧ s.claimRefusedTo t b i .refusedBay) ∧
     (((s.slot i).state ≠ .ready ∧ ((s.slot i).state ≠ .draining ∨ (s.slot i).heldBy b = false)) ∨
         ((s.slot i).state = .ready ∧ (s.slot i).isTransport = false ∧ (s.slot i).heldBy b = false) →
       ∃ t, exec .wrapUse s = .next t ∧ s.claimRefusedTo t b i .refusedState)) ∧
  (∀ (x : ItemRecord) (i : SlotId), x.need = some (.wrap i) → x.item.delivery = .wrapped i ∧ x.wrapGeneration = none) ∧
  ∀ (x : ItemRecord) (k : KeyPlace) (i : SlotId) (g : BitVec 16) (key : Key), x.nextOp k = some (.wrap i g key) →
    x.item.delivery = .wrapped i ∧ x.wrapGeneration = some g

/-- A withdrawal that finds a deferred request takes it out of its place and clears the deferral mark, and claiming is over
under the reason fixed for the terminal (R130, R135; log 11): with no claim granted the hold release is given and the plan
ends with its recorded ending, or after a mere drop the removal is taken; granted claims are voided with the reason, and the
bay goes on in the same way with room for its receipts and otherwise waits in FILING (R131; that every receipt that finds
room is entered in the one command is the model's choice, log 48). One that finds none changes nothing else; no slot record
changes (R49). A hold release takes the bay out of every hold set; a slot that is not DRAINING changes in nothing else, and
a DRAINING slot with no hold and no live claim left is erased, which fires the watches of its state and of its allowance
(R33, R34, R39, R172, R173). -/
def Obligations.WithdrawalAndRelease : Prop :=
  (∀ (s : State) (b : BayId), s.engine ≠ .off → s.ks.overwrite = none → s.ks.requests.head? = some (.withdraw b) →
     (∀ i, s.ks.deferred[b] = some i →
       ∃ t, exec .claimWithdrawal s = .next t ∧ t.ks.deferred = s.ks.deferred.set b none ∧ t.ks.slots = s.ks.slots ∧
         (t.session b).deferral = false ∧
         (∀ reason, (s.session b).reason = some reason → s.claimingEnded t b (s.session b) reason) ∧
         s.otherBaysSame t b ∧ t.ceu = s.ceu ∧ t.cipher = s.cipher ∧ t.prof = s.prof ∧ t.clock = s.clock) ∧
     (s.ks.deferred[b] = none →
       ∃ t, exec .claimWithdrawal s = .next t ∧ t.ks = { s.ks with requests := s.ks.requests.tail } ∧ t.bays = s.bays ∧
         t.ceu = s.ceu ∧ t.cipher = s.cipher ∧ t.prof = s.prof ∧ t.clock = s.clock)) ∧
  (∀ (s : State) (b : BayId), s.engine ≠ .off → s.ks.overwrite = none → s.ks.requests.head? = some (.release b) →
     ∃ t, exec .holdRelease s = .next t ∧ t.ks.requests = s.ks.requests.tail ∧
       (∀ i, (s.slot i).state ≠ .draining →
         t.slot i = { s.slot i with holds := (s.slot i).holds &&& ~~~(1#8 <<< b.val) }) ∧
       (∀ i, (s.slot i).state = .draining → (s.slot i).heldBy b = false → t.slot i = s.slot i) ∧
       (∀ i, (s.slot i).state = .draining → (s.slot i).heldBy b = true →
         ((s.slot i).holds &&& ~~~(1#8 <<< b.val) ≠ 0 ∨ (∃ c ∈ (s.slot i).claims, c.orphan = false) →
           t.slot i = { s.slot i with holds := (s.slot i).holds &&& ~~~(1#8 <<< b.val) }) ∧
         ((s.slot i).holds &&& ~~~(1#8 <<< b.val) = 0 → (∀ c ∈ (s.slot i).claims, c.orphan = true) →
           (t.slot i).generation = (s.slot i).generation + 1 ∧ (t.slot i).claims = [] ∧ (t.slot i).nextSerial = 0 ∧
           (t.slot i).allowance = 0 ∧ (i.val < 48 → (t.slot i).state = .writing) ∧ (48 ≤ i.val → (t.slot i).state = .empty))) ∧
       s.watchesFire t none ∧ t.ceu = s.ceu ∧ t.cipher = s.cipher ∧ t.bays = s.bays ∧ t.prof = s.prof ∧
       t.writer.queue = s.writer.queue ∧ t.clock = s.clock)

/-- A closure that names an open claim of the slot at its generation takes the claim from the list, keeps the order of the rest,
and raises the receipted count; any other leaves every slot as it was (R52). Then the bay's claim deferred on the slot is
taken again: granted, claiming going on from there or over under a fixed reason (R123, R130, R135; that every receipt that
finds room is entered in the same command is the model's choice, log 48), or refused where the slot is DRAINING (R49). An
ALLOWANCE_BELOW watch fires where that grant takes the allowance below its threshold (R172). A DRAINING slot is tested, and
erased with no hold and no live claim left (R33, R34). An orphan's closure is reported to its settle, which ends OK with the
last one (R55). -/
def Obligations.ClosureByRule : Prop :=
  ∀ (s : State) (c : Closure), s.engine ≠ .off → s.ks.overwrite = none → s.ks.requests.head? = some .closure →
    s.ks.closure = some c →
    ((s.slot c.slot).generation ≠ c.generation ∨
        (∀ d ∈ (s.slot c.slot).claims, ¬(d.bay = c.bay ∧ d.serial = c.serial)) →
      ∃ t, exec .claimClosure s = .next t ∧
        t.ks = { s.ks with requests := s.ks.requests.tail, closure := none } ∧ t.bays = s.bays ∧ t.ceu = s.ceu ∧
        t.cipher = s.cipher ∧ t.prof = s.prof ∧ t.clock = s.clock) ∧
    (∀ before d after, (s.slot c.slot).generation = c.generation → (s.slot c.slot).claims = before ++ d :: after →
      (d.bay = c.bay ∧ d.serial = c.serial) → (∀ e ∈ before, ¬(e.bay = c.bay ∧ e.serial = c.serial)) →
      (s.ks.deferred[c.bay] ≠ some c.slot → (s.slot c.slot).settle = none →
        ((s.slot c.slot).state ≠ .draining ∨ (s.slot c.slot).holds ≠ 0 ∨ (∃ e ∈ before ++ after, e.orphan = false) →
          ∃ t, exec .claimClosure s = .next t ∧
            t.slot c.slot = { s.slot c.slot with claims := before ++ after, receipted := (s.slot c.slot).receipted + 1 } ∧
            s.otherSlotsSame t c.slot ∧ t.ks.closure = none ∧ t.ks.requests = s.ks.requests.tail ∧
            t.ks.deferred = s.ks.deferred ∧ t.bays = s.bays ∧ t.ceu = s.ceu ∧ t.cipher = s.cipher ∧ t.prof = s.prof ∧
            t.writer.queue = s.writer.queue ∧ t.clock = s.clock) ∧
        ((s.slot c.slot).state = .draining → (s.slot c.slot).holds = 0 → (∀ e ∈ before ++ after, e.orphan = true) →
          ∃ t, exec .claimClosure s = .next t ∧ (t.slot c.slot).generation = (s.slot c.slot).generation + 1 ∧
            (t.slot c.slot).claims = [] ∧ (t.slot c.slot).nextSerial = 0 ∧ (t.slot c.slot).receipted = 0 ∧
            (t.slot c.slot).allowance = 0 ∧ (t.slot c.slot).keyholders = [] ∧ (t.slot c.slot).checkValue = none ∧
            (c.slot.val < 48 → (t.slot c.slot).state = .writing ∧ (t.slot c.slot).target = some .empty) ∧
            (48 ≤ c.slot.val → (t.slot c.slot).state = .empty ∧ (t.slot c.slot).definition = none) ∧
            s.otherSlotsSame t c.slot ∧ t.ks.closure = none ∧ t.ks.requests = s.ks.requests.tail ∧
            t.bays = s.bays ∧ t.ceu = s.ceu ∧ t.cipher = s.cipher ∧ t.prof = s.prof ∧ t.clock = s.clock)) ∧
      (∀ v left, s.ks.deferred[c.bay] ≠ some c.slot → (s.slot c.slot).state = .ready → (s.slot c.slot).settle = some v →
        left = v.unclosed.filter (fun e => !(decide (e.bay = c.bay) && decide (e.serial = c.serial))) →
        ∃ t, exec .claimClosure s = .next t ∧ (t.slot c.slot).claims = before ++ after ∧
          (t.slot c.slot).receipted = (s.slot c.slot).receipted + 1 ∧ (t.slot c.slot).state = .ready ∧
          s.otherSlotsSame t c.slot ∧ t.bays = s.bays ∧ t.ceu = s.ceu ∧ t.cipher = s.cipher ∧ t.prof = s.prof ∧
          (v.remaining = [] → s.settleWaits c.slot = false → left = [] →
            (t.slot c.slot).settle = none ∧ ∀ cell, v.order = some cell → s.completes t cell .ok
              ([byteOf c.slot.val, byteOf v.entered] ++ toLE 2 (s.slot c.slot).generation.toNat)) ∧
          (v.remaining ≠ [] ∨ s.settleWaits c.slot = true ∨ (left ≠ [] ∧ s.engine ≠ .stopping) →
            (t.slot c.slot).settle = some { v with unclosed := left })) ∧
      (s.ks.deferred[c.bay] = some c.slot → (s.slot c.slot).settle = none →
        ((s.slot c.slot).state = .ready → (s.slot c.slot).isBase = true → (s.slot c.slot).admits c.bay = true →
          (∀ e ∈ before ++ after, e.bay ≠ c.bay) → (s.slot c.slot).nextSerial < 1048576 → 0 < (s.slot c.slot).allowance →
          ∃ t, exec .claimClosure s = .next t ∧
            t.slot c.slot =
              { s.slot c.slot with
                nextSerial := (s.slot c.slot).nextSerial + 1, allowance := (s.slot c.slot).allowance - 1,
                receipted := (s.slot c.slot).receipted + 1,
                claims := before ++ after ++ [{ bay := c.bay, serial := (s.slot c.slot).nextSerial, orphan := false }],
                holds := (s.slot c.slot).holds ||| (1#8 <<< c.bay.val) } ∧
            s.otherSlotsSame t c.slot ∧ t.ks.deferred = s.ks.deferred.set c.bay none ∧ t.ks.closure = none ∧
            (t.session c.bay).deferral = false ∧ t.ceu = s.ceu ∧ t.prof = s.prof ∧ s.watchesFire t none ∧
            ∀ (n : Nat) (r : ItemRecord) (records : List ItemRecord), (s.session c.bay).current = some n →
              (s.session c.bay).records[n]? = some r →
              records = (s.session c.bay).records.set n
                { r with
                  stage := .claimed
                  claim := some { slot := c.slot, generation := (s.slot c.slot).generation, serial := (s.slot c.slot).nextSerial,
                                  ksn := formKsn (s.slot c.slot).ksi (s.slot c.slot).nextSerial } } →
              ((s.session c.bay).reason = none → s.claimingGoesOn t c.bay records) ∧
              ∀ reason, (s.session c.bay).reason = some reason →
                s.claimingEnded t c.bay { s.session c.bay with records := records } reason) ∧
        ((s.slot c.slot).state = .draining → (s.slot c.slot).holds ≠ 0 →
          ∃ t, exec .claimClosure s = .next t ∧
            t.slot c.slot = { s.slot c.slot with claims := before ++ after, receipted := (s.slot c.slot).receipted + 1 } ∧
            s.otherSlotsSame t c.slot ∧ t.ks.deferred = s.ks.deferred.set c.bay none ∧ t.ks.closure = none ∧
            (t.session c.bay).deferral = false ∧ t.ceu = s.ceu ∧ t.cipher = s.cipher ∧ t.prof = s.prof ∧
            ∀ r, (s.bay c.bay).running = some r → (s.session c.bay).reason = none → (s.session c.bay).hasClaim = false →
              s.completes t r.order .refusedState (planData c.bay (byteOf c.slot.val) (s.bay c.bay).counters))))

/-- The key that the key store gives the cipher unit: only from a slot READY or DRAINING, at the generation named, and of class
BASE for derivation or TRANSPORT for wrapping (R41). -/
def Obligations.KeyGivenOnlyByRule : Prop :=
  ∀ (x : Slot) (generation : BitVec 16) (k : Key),
    (x.keyFor generation false = some k →
      (x.state = .ready ∨ x.state = .draining) ∧ x.generation = generation ∧ x.isBase = true) ∧
    (x.keyFor generation true = some k →
      (x.state = .ready ∨ x.state = .draining) ∧ x.generation = generation ∧ x.isTransport = true) ∧
    (x.state = .ready ∨ x.state = .draining → x.stored = .key k →
      (x.isBase = true → x.keyFor x.generation false = some k) ∧ (x.isTransport = true → x.keyFor x.generation true = some k))

/-- The end of a key array write: target READY gives READY, or EMPTY still defined without keyholders and check value; target
EMPTY gives EMPTY and undefined; a failure sets STORE_FAULT; the open erase is completed (R27, R28, R35). The result of a
commit completes the CEREMONY_OPEN that waits for it, OK or STORE_FAULT, tells the consoles, and empties the record (R64,
R70); with no such assembly in the record it is discarded. A SLOT_STATE watch of the slot fires at the change of its state
(R173). A console's queue takes 8 frames besides the one on its way (log 12). -/
def Obligations.KeyArrayWriteEnds : Prop :=
  ∀ (s : State) (i : SlotId) (ok : Bool), s.engine ≠ .off → s.ks.arrayWrite = some i →
    ∃ t, exec (if ok then .keyArrayWriteComplete else .keyArrayWriteFail) s = .next t ∧
      (t.slot i).target = none ∧ (t.slot i).generation = (s.slot i).generation ∧
      (t.slot i).nextSerial = (s.slot i).nextSerial ∧ (t.slot i).allowance = (s.slot i).allowance ∧
      (t.slot i).claims = (s.slot i).claims ∧ s.otherSlotsSame t i ∧ (ok = false → t.hasFlag .storeFault) ∧
      ((s.slot i).target = some .ready →
        (t.slot i).definition = (s.slot i).definition ∧
        (ok = true → (t.slot i).state = .ready ∧ (t.slot i).keyholders = (s.slot i).keyholders ∧
          (t.slot i).checkValue = (s.slot i).checkValue ∧ ∀ k, (s.slot i).committed = some k → (t.slot i).stored = .key k) ∧
        (ok = false → (t.slot i).state = .empty ∧ (t.slot i).keyholders = [] ∧ (t.slot i).checkValue = none ∧
          (t.slot i).stored = .noKey) ∧
        (∀ a value, s.ceu.record = .assembly a → a.slot = i → a.phase = .committing →
          value = (if ok then (s.slot i).checkValue.getD 0 else 0) →
          t.ceu.record = .empty ∧ s.completes t a.order (if ok then .ok else .storeFault) (a.answerData value) ∧
          (∀ k : ConsoleId, s.sends t k (.assemblyClosed i (if ok then .ok else .storeFault) value)) ∧
          (s.engine = .running ∨ s.engine = .stopping → t.hasFlag .ceremonyEnded)) ∧
        ((∀ a, s.ceu.record = .assembly a → a.slot ≠ i ∨ a.phase ≠ .committing) → t.ceu = s.ceu)) ∧
      ((s.slot i).target = some .empty → t.ceu = s.ceu ∧
        (t.slot i).state = .empty ∧ (t.slot i).definition = none ∧
        (t.slot i).stored = (if ok then .zeros else .noKey) ∧
        ∀ cell, (s.slot i).eraseOrder = some cell →
          s.completes t cell (if ok then .ok else .storeFault)
            ([byteOf i.val, byteOf (s.slot i).discarded] ++ toLE 2 (s.slot i).generation.toNat)) ∧
      (s.ks.overwrite = none → ∀ j rest, s.ks.writeQueue = j :: rest → t.ks.arrayWrite = some j ∧ t.ks.writeQueue = rest) ∧
      (s.ks.writeQueue = [] → t.ks.arrayWrite = none ∧ t.ks.writeQueue = []) ∧
      s.watchesFire t none ∧
      t.ks.requests = s.ks.requests ∧ t.bays = s.bays ∧ t.cipher = s.cipher ∧ t.prof = s.prof ∧ t.clock = s.clock

/-! ## Ceremonies and consoles -/

/-- CEREMONY_OPEN in hand: the tests of R65 in order, with no change but the answer when one fails. One that passes makes the
slot ASSEMBLING, fills the record with an assembly in GATHERING and its deadline, and sends ASSEMBLY_OPEN to the three
consoles, behind at most 8 waiting frames besides the one on its way (R23, R62, R65; the count is the model's reading, log
12). -/
def Obligations.CeremonyOpenByRule : Prop :=
  (∀ (s : State) (e : Entry), s.engine ≠ .off → s.inHand .ceremonyOpen = some e →
     (openParams? e.params = none →
       ∃ t, exec .ceremonyOpen s = .next t ∧ s.answersAtTake t e .refusedField [] ∧ s.sameOutsideIntake t) ∧
     ∀ p, openParams? e.params = some p →
       (s.ceu.record ≠ .empty →
         ∃ t, exec .ceremonyOpen s = .next t ∧ s.answersAtTake t e .ceremonyBusy [] ∧ s.sameOutsideIntake t) ∧
       (s.ceu.record = .empty → s.ks.overwrite = none →
         ((s.slot p.slot).state ≠ .empty ∨ (s.slot p.slot).definition = none →
           ∃ t, exec .ceremonyOpen s = .next t ∧ s.answersAtTake t e .refusedState [] ∧ s.sameOutsideIntake t) ∧
         ∀ d, (s.slot p.slot).state = .empty → (s.slot p.slot).definition = some d → p.permitted.length < d.components →
           ∃ t, exec .ceremonyOpen s = .next t ∧ s.answersAtTake t e .refusedField [] ∧ s.sameOutsideIntake t)) ∧
  (∀ (s : State) (e : Entry) (p : OpenParams) (d : Definition), s.engine ≠ .off → s.inHand .ceremonyOpen = some e →
     openParams? e.params = some p → s.ceu.record = .empty → s.ks.overwrite = none → (s.slot p.slot).state = .empty →
     (s.slot p.slot).definition = some d → d.components ≤ p.permitted.length →
     ∃ t, exec .ceremonyOpen s = .next t ∧
       p.slot.val = byteAt e.params 0 ∧ p.permitted = idsAt e.params 8 (byteAt e.params 1) ∧ p.deadline = numberAt e.params 2 2 ∧
       t.ceu.record = .assembly { order := e.cell, slot := p.slot, generation := (s.slot p.slot).generation, phase := .gathering,
                                  permitted := p.permitted, expected := p.expected, target := d.components,
                                  deadline := some { start := s.clock, interval := p.deadline * 1000 }, contributors := [],
                                  accumulator := 0, rejects := 0 } ∧
       t.slot p.slot = { s.slot p.slot with state := .assembling } ∧ s.otherSlotsSame t p.slot ∧
       (∀ c : ConsoleId, s.sends t c (.assemblyOpen p.slot p.expected 0 d.components) ∧
         (t.console c).card = (s.console c).card ∧ (t.console c).pending = (s.console c).pending) ∧
       t.intake.answers = s.intake.answers ∧ t.ks.requests = s.ks.requests ∧ t.cipher = s.cipher ∧ t.bays = s.bays ∧
       t.prof = s.prof ∧ t.writer.queue = s.writer.queue ∧ t.clock = s.clock)

/-- CEREMONY_CANCEL in hand, by the table of R74: an assembly before its commit ends CANCELLED, an approval ends not approved
(its grant answered without data, the model's reading, log 35), and the cancel is answered OK with the slot; otherwise it is
refused. DEADLINE_EXPIRY ends an assembly in GATHERING with DEADLINE, and nothing before its time or in a later phase (R73). -/
def Obligations.CeremonyCancelOrDeadline : Prop :=
  (∀ (s : State) (e : Entry), s.engine ≠ .off → s.inHand .ceremonyCancel = some e →
     (63 < byteAt e.params 0 →
       ∃ t, exec .ceremonyCancel s = .next t ∧ s.answersAtTake t e .refusedField [] ∧ s.sameOutsideIntake t) ∧
     ∀ i : SlotId, i.val = byteAt e.params 0 →
       (s.ceu.record = .empty ∨ (∃ a, s.ceu.record = .assembly a ∧ (a.slot ≠ i ∨ a.phase = .committing)) ∨
           (∃ p, s.ceu.record = .approval p ∧ p.slot ≠ i) →
         ∃ t, exec .ceremonyCancel s = .next t ∧ s.answersAtTake t e .refusedState [] ∧ s.sameOutsideIntake t) ∧
       (∀ a, s.ceu.record = .assembly a → a.slot = i → a.phase ≠ .committing →
         ∃ t, exec .ceremonyCancel s = .next t ∧ s.answersAtTake t e .ok [byteOf i.val] ∧ s.assemblyEnded t a .cancelled ∧
           t.cipher = s.cipher ∧ (s.ceu.busy = true → t.ceu.discard = true ∧ t.ceu.inCheck = none)) ∧
       (∀ p g, s.ceu.record = .approval p → p.slot = i → s.ks.grant = some g →
         ∃ t, exec .ceremonyCancel s = .next t ∧ s.answersAtTake t e .ok [byteOf i.val] ∧
           s.approvalEnded t g .notApproved)) ∧
  (∀ (s : State) (a : Assembly) (w : Timer), s.engine ≠ .off → s.settled → s.ceu.record = .assembly a → a.deadline = some w →
     (a.phase = .gathering → w.due s.clock = true →
       ∃ t, exec .deadlineExpiry s = .next t ∧ s.assemblyEnded t a .deadline ∧ t.cipher = s.cipher ∧
         (s.ceu.busy = true → t.ceu.discard = true ∧ t.ceu.inCheck = none)) ∧
     (a.phase ≠ .gathering ∨ w.due s.clock = false → exec .deadlineExpiry s = .next s.quiet))

/-- An APPROVE or DECLINE from a keyholder's card ends the approval, granted or not approved, and is answered ACCEPTED (R59,
R77); a grant not applied is answered without data (the model's reading, log 35). One that does not end an approval is
answered REJECTED with the reason R77 gives, and the record, the slots and the pending grant stay. The window's expiry ends
the approval not approved, and nothing before its time. A console's queue takes 8 frames besides the one on its way (log
12). -/
def Obligations.ApprovalEndings : Prop :=
  (∀ (s : State) (c : ConsoleId) (seq : Byte) (p : Approval) (g : PendingGrant) (id : CardId), s.engine ≠ .off →
     s.engine ≠ .tampered → s.ceu.record = .approval p → s.ks.grant = some g → (s.console c).card = some id →
     id ∈ p.keyholders →
     (∃ t, exec (.approve c seq) s = .next t ∧ s.approvalEnded t g .ok ∧
       ((s.console c).sending = none → (t.console c).sending = some (.accepted seq)) ∧ (t.console c).card = some id) ∧
     (∃ t, exec (.decline c seq) s = .next t ∧ s.approvalEnded t g .notApproved ∧
       ((s.console c).sending = none → (t.console c).sending = some (.accepted seq)) ∧ (t.console c).card = some id)) ∧
  ((∀ (s : State) (c : ConsoleId) (seq : Byte) (i : Instr), s.engine ≠ .off → s.engine ≠ .tampered →
     (i = .approve c seq ∨ i = .decline c seq) →
     ((∀ p, s.ceu.record ≠ .approval p) →
       ∃ t, exec i s = .next t ∧ s.sends t c (.rejected seq .nothingOpen) ∧ t.ceu.record = s.ceu.record ∧ t.ks = s.ks ∧
         s.otherConsolesSame t c) ∧
     (∀ p, s.ceu.record = .approval p →
       ((s.console c).card = none →
         ∃ t, exec i s = .next t ∧ s.sends t c (.rejected seq .noCard) ∧ t.ceu.record = s.ceu.record ∧ t.ks = s.ks ∧
           s.otherConsolesSame t c) ∧
       (∀ id, (s.console c).card = some id → id ∉ p.keyholders →
         ∃ t, exec i s = .next t ∧ s.sends t c (.rejected seq .notKeyholder) ∧ t.ceu.record = s.ceu.record ∧ t.ks = s.ks ∧
           s.otherConsolesSame t c))) ∧
   ∀ (s : State) (p : Approval) (g : PendingGrant), s.engine ≠ .off → s.settled → s.ceu.record = .approval p →
     s.ks.grant = some g →
     (p.window.due s.clock = true → ∃ t, exec .windowExpiry s = .next t ∧ s.approvalEnded t g .notApproved) ∧
     (p.window.due s.clock = false → exec .windowExpiry s = .next s.quiet))

/-- CARD_IN and CARD_OUT set the console's card state and change nothing else but the receiver, which is back in HUNT whatever
partial frame it held (the model's choice, log 36); in TAMPERED the card state stays (R63, R79). -/
def Obligations.CardStateFollowsConsole : Prop :=
  ∀ (s : State) (c : ConsoleId) (seq : Byte) (id : CardId), s.engine ≠ .off → s.settled →
    (s.engine ≠ .tampered →
      (∃ t, exec (.cardIn c seq id) s = .next t ∧ t.console c = { s.console c with card := some id, receiver := .hunt } ∧
        s.otherConsolesSame t c ∧ t = { s.quiet with ceu := { s.ceu with consoles := t.ceu.consoles } }) ∧
      (∃ t, exec (.cardOut c seq) s = .next t ∧ t.console c = { s.console c with card := none, receiver := .hunt } ∧
        s.otherConsolesSame t c ∧ t = { s.quiet with ceu := { s.ceu with consoles := t.ceu.consoles } })) ∧
    (s.engine = .tampered →
      (∃ t, exec (.cardIn c seq id) s = .next t ∧ t.console c = { s.console c with receiver := .hunt } ∧
        s.otherConsolesSame t c ∧ t.ks = s.ks ∧ t.ceu.record = s.ceu.record) ∧
      (∃ t, exec (.cardOut c seq) s = .next t ∧ t.console c = { s.console c with receiver := .hunt } ∧
        s.otherConsolesSame t c ∧ t.ks = s.ks ∧ t.ceu.record = s.ceu.record))

/-- A COMPONENT that fails a test of R66 is answered REJECTED with the first failing test's reason (the frame joins a queue of
at most 8 besides the one on its way, log 12), and record, arrivals, component in check and slots stay. One that passes sets
the console's pending flag: it waits in the arrival list while a check is under way, and is submitted for its check at once
when none is and the list is empty (R66, R67). -/
def Obligations.ComponentByRule : Prop :=
  (∀ (s : State) (c : ConsoleId) (seq : Byte) (value : Key) (entered : CheckValue) (reason : RejectReason), s.engine ≠ .off →
     s.engine ≠ .tampered →
     (((∀ a, s.ceu.record ≠ .assembly a) ∧ reason = .nothingOpen) ∨
       (∃ a, s.ceu.record = .assembly a ∧
         ((a.phase ≠ .gathering ∧ reason = .assemblyComplete) ∨
          (a.phase = .gathering ∧ (s.console c).pending = true ∧ reason = .pending) ∨
          (a.phase = .gathering ∧ (s.console c).pending = false ∧ (s.console c).card = none ∧ reason = .noCard) ∨
          (a.phase = .gathering ∧ (s.console c).pending = false ∧
            ∃ id, (s.console c).card = some id ∧
              ((id ∉ a.permitted ∧ reason = .notPermitted) ∨
               (id ∈ a.permitted ∧ (∃ x ∈ a.contributors, x.1 = id) ∧ reason = .alreadyContributed)))))) →
     ∃ t, exec (.component c seq value entered) s = .next t ∧ s.sends t c (.rejected seq reason) ∧
       t.ceu.record = s.ceu.record ∧ t.ceu.arrivals = s.ceu.arrivals ∧ t.ceu.inCheck = s.ceu.inCheck ∧
       (t.console c).pending = (s.console c).pending ∧ s.otherConsolesSame t c ∧ t.ks = s.ks ∧ t.cipher = s.cipher ∧
       t.bays = s.bays ∧ t.prof = s.prof ∧ t.clock = s.clock) ∧
  (∀ (s : State) (c : ConsoleId) (seq : Byte) (value : Key) (entered : CheckValue) (a : Assembly) (id : CardId),
     s.engine ≠ .off → s.engine ≠ .tampered → s.ceu.record = .assembly a → a.phase = .gathering →
     (s.console c).pending = false → (s.console c).card = some id → id ∈ a.permitted → (∀ x ∈ a.contributors, x.1 ≠ id) →
     (s.ceu.busy = true →
       ∃ t, exec (.component c seq value entered) s = .next t ∧ (t.console c).pending = true ∧
         t.ceu.arrivals = s.ceu.arrivals ++ [{ console := c, seq := seq, id := id, value := value, entered := entered }] ∧
         t.ceu.inCheck = s.ceu.inCheck ∧ t.ceu.record = s.ceu.record ∧ s.otherConsolesSame t c ∧ t.cipher = s.cipher ∧
         t.ks = s.ks ∧ t.bays = s.bays ∧ t.prof = s.prof ∧ t.clock = s.clock) ∧
     (s.ceu.busy = false → s.ceu.arrivals = [] →
       ∃ t, exec (.component c seq value entered) s = .next t ∧ (t.console c).pending = true ∧ t.ceu.arrivals = [] ∧
         t.ceu.busy = true ∧
         t.ceu.inCheck = some { console := c, seq := seq, id := id, value := value, entered := entered } ∧
         t.ceu.record = s.ceu.record ∧ s.otherConsolesSame t c ∧ t.ks.slots = s.ks.slots ∧ t.prof = s.prof ∧
         t.clock = s.clock ∧
         (s.cipher.running ≠ none →
           t.cipher = { s.cipher with waiting := s.cipher.waiting ++ [{ requester := .component, op := .checkval value }] }) ∧
         (s.cipher.running = none → s.cipher.waiting = [] →
           t.cipher = { running := some { request := { requester := .component, op := .checkval value }, working := none },
                        waiting := [] })))

/-- The check of a component completes (R68, R72): a mismatch rejects it and counts, the third ends the assembly; a match
combines it by exclusive-or and takes the contributor, the last one begins the final check; a result to be discarded changes
no assembly. A rejection joins a console queue of at most 8 frames besides the one on its way (log 12). -/
def Obligations.ComponentCheckCompletes : Prop :=
  (∀ (s : State) (v : Key) (w : Option Key), s.engine ≠ .off →
    s.cipher.running = some { request := { requester := .component, op := .checkval v }, working := w } →
    s.ceu.discard = true →
    ∃ t, exec .checkvalDone s = .next t ∧ t.ceu.record = s.ceu.record ∧ t.ceu.discard = false ∧ t.ks.slots = s.ks.slots ∧
      t.prof = s.prof ∧ t.clock = s.clock ∧
      (s.ceu.arrivals = [] ∨ (∀ y, s.ceu.record = .assembly y → y.phase ≠ .gathering) →
        t.ceu = { s.ceu with busy := false, discard := false, inCheck := none }) ∧
      ∀ y x rest, s.ceu.record = .assembly y → y.phase = .gathering → s.ceu.arrivals = x :: rest →
        (∀ k ∈ y.contributors, k.1 ≠ x.id) → t.ceu.busy = true ∧ t.ceu.inCheck = some x ∧ t.ceu.arrivals = rest) ∧
  ∀ (s : State) (v : Key) (w : Option Key) (y : Assembly) (a : Arrival), s.engine ≠ .off →
    s.cipher.running = some { request := { requester := .component, op := .checkval v }, working := w } →
    s.ceu.record = .assembly y → s.ceu.inCheck = some a → s.ceu.arrivals = [] →
    (s.ceu.discard = false → Config.checkValue v ≠ a.entered →
      (y.rejects + 1 ≠ 3 →
        ∃ t, exec .checkvalDone s = .next t ∧ t.ceu.record = .assembly { y with rejects := y.rejects + 1 } ∧
          t.ceu.busy = false ∧ t.ceu.inCheck = none ∧ (t.console a.console).pending = false ∧
          s.sends t a.console (.rejected a.seq .checkFailed) ∧ t.ks.slots = s.ks.slots ∧ t.prof = s.prof) ∧
      (y.rejects + 1 = 3 → s.cipher.waiting = [] →
        ∃ t, exec .checkvalDone s = .next t ∧ s.assemblyEnded t { y with rejects := 3 } .componentRejects)) ∧
    (s.ceu.discard = false → Config.checkValue v = a.entered →
      (y.contributors.length + 1 ≠ y.target →
        ∃ t, exec .checkvalDone s = .next t ∧
          t.ceu.record = .assembly { y with accumulator := y.accumulator ^^^ a.value,
                                            contributors := y.contributors ++ [(a.id, a.console)] } ∧
          t.ceu.busy = false ∧ t.ceu.inCheck = none ∧ (t.console a.console).pending = false ∧ t.hasFlag .ceremonyStep ∧
          ((s.console a.console).sending = none → (t.console a.console).sending = some (.accepted a.seq)) ∧
          t.ks.slots = s.ks.slots ∧ t.prof = s.prof) ∧
      (y.contributors.length + 1 = y.target →
        ∃ t, exec .checkvalDone s = .next t ∧
          t.ceu.record = .assembly { y with accumulator := y.accumulator ^^^ a.value, deadline := none, phase := .finalCheck,
                                            contributors := y.contributors ++ [(a.id, a.console)] } ∧
          t.ceu.busy = true ∧ t.hasFlag .ceremonyStep ∧ t.ks.slots = s.ks.slots ∧ t.prof = s.prof))

/-- The check of the accumulator completes (R24, R69, R70): a mismatch ends the assembly; a match commits the key with the
contributors as keyholders, a volatile slot being READY and the ceremony answered OK at once, a persistent one waiting for
its key array write. -/
def Obligations.AccumulatorCheckCompletes : Prop :=
  ∀ (s : State) (v : Key) (w : Option Key) (y : Assembly), s.engine ≠ .off → s.cipher.waiting = [] →
    s.cipher.running = some { request := { requester := .accumulator, op := .checkval v }, working := w } →
    s.ceu.record = .assembly y → s.ceu.discard = false →
    (Config.checkValue v ≠ y.expected → ∃ t, exec .checkvalDone s = .next t ∧ s.assemblyEnded t y .checkMismatch) ∧
    (Config.checkValue v = y.expected →
      ∃ t, exec .checkvalDone s = .next t ∧ t.cipher.running = none ∧ s.otherSlotsSame t y.slot ∧
        (t.slot y.slot).keyholders = y.contributors.map (·.1) ∧ (t.slot y.slot).checkValue = some y.expected ∧
        (t.slot y.slot).nextSerial = 0 ∧ (t.slot y.slot).receipted = 0 ∧ (t.slot y.slot).allowance = 0 ∧
        (t.slot y.slot).claims = [] ∧ (t.slot y.slot).generation = (s.slot y.slot).generation ∧
        (t.slot y.slot).definition = (s.slot y.slot).definition ∧ t.bays = s.bays ∧ t.prof = s.prof ∧
        (y.slot.val < 48 →
          (t.slot y.slot).state = .writing ∧ (t.slot y.slot).target = some .ready ∧
          (t.slot y.slot).committed = some y.accumulator ∧
          t.ceu.record = .assembly { y with accumulator := 0, phase := .committing } ∧
          (s.ks.overwrite = none → y.slot ∈ t.ks.writeQueue ∨ t.ks.arrayWrite = some y.slot)) ∧
        (48 ≤ y.slot.val →
          (t.slot y.slot).state = .ready ∧ (t.slot y.slot).stored = .key y.accumulator ∧ t.ceu.record = .empty ∧
          s.completes t y.order .ok (y.answerData y.expected)))

/-- Bytes at a console with a LEN outside 2 to 42, with a bad check, of no console kind, or of a kind with another payload
length change nothing (that a bad LEN is not looked at again is the model's reading, log 40). A part of a frame arms the 20
ms gap timer; its expiry discards the part when it is due and does nothing before, the bytes that come with the expiry
follow it, and a byte later than the limit finds HUNT (R10, R62; log 36). At the end of a transmission the next frame of the
queue begins with the console's next SEQ, or the transmitter is free (R62, R92). -/
def Obligations.ConsoleLinkBytesAndFrames : Prop :=
  (∀ (s : State) (c : ConsoleId), s.engine ≠ .off → s.settled →
     ((s.console c).receiver = .hunt →
       (∀ n : Byte, n.toNat < 2 ∨ 42 < n.toNat → exec (.consoleBadFrame c [0xA5, n]) s = .next s.quiet) ∧
       (∀ (counted : List Byte) (high low : Byte), 2 ≤ counted.length → counted.length ≤ 42 →
         toBE 2 (crc (byteOf counted.length :: counted)).toNat ≠ [high, low] →
         exec (.consoleBadFrame c (0xA5 :: byteOf counted.length :: counted ++ [high, low])) s = .next s.quiet) ∧
       (∀ (kind seq : Byte) (payload : List Byte), payload.length ≤ 40 →
         kind.toNat < 0x40 ∨ 0x44 < kind.toNat ∨
           payload.length ≠ (if kind = 0x40 then 2 else if kind = 0x42 then 19 else 0) →
         exec (.consoleBadFrame c (buildFrame kind seq payload)) s = .next s.quiet) ∧
       (∀ (n : Byte) (part : List Byte), 2 ≤ n.toNat → n.toNat ≤ 42 → part.length < n.toNat →
         ∃ t, exec (.consoleBadFrame c (0xA5 :: n :: part)) s = .next t ∧
           t.console c = { s.console c with receiver := .body { start := s.clock, interval := 20 } n.toNat part } ∧
           s.otherConsolesSame t c ∧ t = { s.quiet with ceu := { s.ceu with consoles := t.ceu.consoles } }) ∧
       exec (.consoleGapExpiry c []) s = .next s.quiet) ∧
     (∀ bytes, exec (.consoleGapExpiry c bytes) s = exec (.consoleBadFrame c bytes) (s.consoleGap c)) ∧
     ∀ w, (s.console c).receiver.gap? = some w →
       (w.due s.clock = false → exec (.consoleGapExpiry c []) s = .next s.quiet) ∧
       (w.due s.clock = true →
         ∃ t, exec (.consoleGapExpiry c []) s = .next t ∧ t.console c = { s.console c with receiver := .hunt } ∧
           s.otherConsolesSame t c ∧ t = { s.quiet with ceu := { s.ceu with consoles := t.ceu.consoles } }) ∧
       (w.interval < (s.clock - w.start).toNat → ∀ y : Byte,
         ∃ t, exec (.consoleBadFrame c [y]) s = .next t ∧
           t.console c = { s.console c with
             receiver := if y = 0xA5 then .length { start := s.clock, interval := 20 } else .hunt } ∧
           s.otherConsolesSame t c ∧ t = { s.quiet with ceu := { s.ceu with consoles := t.ceu.consoles } })) ∧
  (∀ (s : State) (c : ConsoleId) (m : ConsoleMessage), s.engine ≠ .off → s.settled → (s.console c).sending = some m →
     ((s.console c).queue = [] →
       ∃ t, exec (.consoleTransmitEnd c) s = .next t ∧ t.console c = { s.console c with sending := none } ∧
         s.otherConsolesSame t c ∧ t = { s.quiet with ceu := { s.ceu with consoles := t.ceu.consoles } }) ∧
     (∀ n rest, (s.console c).queue = n :: rest →
       ∃ t, exec (.consoleTransmitEnd c) s = .next t ∧
         t.console c = { s.console c with sending := some n, queue := rest, seq := (s.console c).seq + 1 } ∧
         s.otherConsolesSame t c ∧
         t = { s.quiet with ceu := { s.ceu with consoles := t.ceu.consoles },
                            out := [.consoleFrame c (n.bytes (s.console c).seq)] }))

/-! ## Orders of the bays -/

/-- PLAN_RUN and PLAN_REPEAT in hand: the checks of R114 and R115 in order. A plan that passes starts on a bay without an order
in its running place, waits in the holder of a bay with one, and is answered BAY_BUSY where both are taken; a repeat runs
the cached plan with its own K (R114 to R117). -/
def Obligations.PlanOrdersByRule : Prop :=
  (∀ (s : State) (e : Entry), s.engine ≠ .off → s.inHand .planRun = some e →
     (plan? e.params = none →
       ∃ t, exec .planRun s = .next t ∧ s.answersAtTake t e .refusedField [] ∧ s.sameOutsideIntake t) ∧
     ∀ p, plan? e.params = some p →
       (¬(p.items.map (·.base)).Nodup ∨ ¬(p.items.map (·.register)).Nodup →
         ∃ t, exec .planRun s = .next t ∧ s.answersAtTake t e .refusedField [] ∧ s.sameOutsideIntake t) ∧
       ((p.items.map (·.base)).Nodup → (p.items.map (·.register)).Nodup →
         ((∃ x ∈ p.items, (s.slot x.base).isBase = false ∨
             (∃ k, x.delivery = .wrapped k ∧ (s.slot k).isTransport = false) ∨
             (x.delivery = .direct ∧ (s.slot x.base).direct = false)) →
           ∃ t, exec .planRun s = .next t ∧ s.answersAtTake t e .refusedClass [] ∧ s.sameOutsideIntake t) ∧
         ((∀ x ∈ p.items, (s.slot x.base).isBase = true ∧ (∀ k, x.delivery = .wrapped k → (s.slot k).isTransport = true) ∧
             (x.delivery = .direct → (s.slot x.base).direct = true)) →
           ((s.bay p.bay).running = none →
             ∃ t, exec .planRun s = .next t ∧
               (t.bay p.bay).running = some { order := e.cell, tag := e.tag, isRepeat := false, plan := p } ∧
               (t.bay p.bay).cache = some p ∧
               (t.bay p.bay).counters = { attempted := 0, loaded := 0, voided := 0, unmatched := 0, skippedTerminals := 0,
                                          skippedItems := 0 } ∧
               (t.session p.bay).state = .awaitTerminal ∧ (t.session p.bay).attempted = 0 ∧
               (t.session p.bay).ending = .none ∧ (t.bay p.bay).link.rate = p.rate ∧ (t.bay p.bay).link.strays = 0 ∧
               (t.bay p.bay).link.lineErrors = 0 ∧ (t.bay p.bay).link.lastNak = none ∧
               (t.bay p.bay).link.dropped = (s.bay p.bay).link.dropped ∧ (t.bay p.bay).held = (s.bay p.bay).held ∧
               s.otherBaysSame t p.bay ∧ t.intake.answers = s.intake.answers ∧ t.ks = s.ks ∧ t.ceu = s.ceu ∧
               t.cipher = s.cipher ∧ t.prof = s.prof ∧ t.clock = s.clock) ∧
           ((s.bay p.bay).running ≠ none → (s.bay p.bay).held = none →
             ∃ t, exec .planRun s = .next t ∧
               t.bay p.bay = { s.bay p.bay with held := some { order := e.cell, tag := e.tag, source := .run p } } ∧
               s.otherBaysSame t p.bay ∧ t.intake.answers = s.intake.answers ∧ t.ks = s.ks ∧ t.ceu = s.ceu ∧
               t.cipher = s.cipher ∧ t.prof = s.prof ∧ t.clock = s.clock) ∧
           ((s.bay p.bay).running ≠ none → (s.bay p.bay).held ≠ none →
             ∃ t, exec .planRun s = .next t ∧ s.answersAtTake t e .bayBusy [] ∧ s.sameOutsideIntake t)))) ∧
  (∀ (s : State) (e : Entry), s.engine ≠ .off → s.inHand .planRepeat = some e →
     (7 < byteAt e.params 0 ∨ 127 < byteAt e.params 1 →
       ∃ t, exec .planRepeat s = .next t ∧ s.answersAtTake t e .refusedField [] ∧ s.sameOutsideIntake t) ∧
     ∀ b : BayId, b.val = byteAt e.params 0 → byteAt e.params 1 ≤ 127 →
       ((s.bay b).running = none → (s.bay b).cache = none →
         ∃ t, exec .planRepeat s = .next t ∧ s.answersAtTake t e .noPlan [] ∧ s.sameOutsideIntake t) ∧
       (∀ p, (s.bay b).running = none → (s.bay b).cache = some p →
         ∃ t, exec .planRepeat s = .next t ∧
           (t.bay b).running =
             some { order := e.cell, tag := e.tag, isRepeat := true, plan := { p with repeats := byteAt e.params 1 } } ∧
           (t.bay b).cache = some p ∧ (t.bay b).counters = Counters.zero ∧ (t.session b).state = .awaitTerminal ∧
           (t.bay b).link.rate = p.rate ∧ s.otherBaysSame t b ∧ t.intake.answers = s.intake.answers ∧ t.ks = s.ks ∧
           t.ceu = s.ceu ∧ t.cipher = s.cipher ∧ t.prof = s.prof ∧ t.clock = s.clock) ∧
       ((s.bay b).running ≠ none → (s.bay b).held = none →
         ∃ t, exec .planRepeat s = .next t ∧
           t.bay b = { s.bay b with held := some { order := e.cell, tag := e.tag, source := .again (byteAt e.params 1) } } ∧
           s.otherBaysSame t b ∧ t.intake.answers = s.intake.answers ∧ t.ks = s.ks ∧ t.ceu = s.ceu ∧ t.cipher = s.cipher ∧
           t.prof = s.prof ∧ t.clock = s.clock) ∧
       ((s.bay b).running ≠ none → (s.bay b).held ≠ none →
         ∃ t, exec .planRepeat s = .next t ∧ s.answersAtTake t e .bayBusy [] ∧ s.sameOutsideIntake t))

/-- BAY_HALT in hand (R134, R135): refused on a bay without a running order or with an ending; otherwise a held order ends
HALTED (with the bay, FFh and zero counters as its data, the model's reading, log 34) and the session acts by its state: the
plan ends, a reason is fixed, or the terminal is unwound. A reason fixed before the halt stands (the model's reading, log
32). -/
def Obligations.BayHaltByState : Prop :=
  ∀ (s : State) (e : Entry), s.engine ≠ .off → s.inHand .bayHalt = some e →
    (7 < byteAt e.params 0 →
      ∃ t, exec .bayHalt s = .next t ∧ s.answersAtTake t e .refusedField [] ∧ s.sameOutsideIntake t) ∧
    ∀ b : BayId, b.val = byteAt e.params 0 →
      ((s.bay b).running = none ∨ (s.session b).ending ≠ .none →
        ∃ t, exec .bayHalt s = .next t ∧ s.answersAtTake t e .refusedState [] ∧ s.sameOutsideIntake t) ∧
      ∀ r, (s.bay b).running = some r → (s.session b).ending = .none →
        ∃ t, exec .bayHalt s = .next t ∧ (t.bay b).held = none ∧ s.otherBaysSame t b ∧ t.ks.slots = s.ks.slots ∧
          (t.bay b).cache = (s.bay b).cache ∧ (t.bay b).counters = (s.bay b).counters ∧
          t.ceu = s.ceu ∧ t.cipher = s.cipher ∧ t.prof = s.prof ∧ t.writer.queue = s.writer.queue ∧ t.clock = s.clock ∧
          (∀ h, (s.bay b).held = some h → s.completes t h.order .halted (planData b 0xFF Counters.zero)) ∧
          ((s.session b).state = .awaitTerminal ∨ (s.session b).state = .awaitRemoval ∨ (s.session b).state = .probing ∨
              ((s.session b).state = .releasing ∧ (s.session b).begun = false) →
            (t.bay b).running = none ∧ (t.session b).state = .idle ∧
            s.completes t r.order .halted (planData b 0xFF (s.bay b).counters) ∧
            s.completes t e.cell .ok [byteOf b.val, (s.session b).state.code]) ∧
          ((s.session b).state = .claiming ∨ (s.session b).state = .preparing →
            (t.bay b).running = some r ∧ (t.session b).state = (s.session b).state ∧ (t.session b).ending = .halted ∧
            (t.session b).reason = some ((s.session b).reason.getD .halted) ∧
            (t.bay b).halt = some { order := e.cell, state := (s.session b).state }) ∧
          ((s.session b).state = .loading ∨ ((s.session b).state = .releasing ∧ (s.session b).begun = true) →
            (t.bay b).running = some r ∧ (t.session b).state = .unwinding ∧ (t.session b).ending = .halted ∧
            (t.session b).reason = some ((s.session b).reason.getD .halted) ∧
            (t.bay b).halt = some { order := e.cell, state := (s.session b).state } ∧
            ∀ q p, (s.session b).latched = some (q, p) →
              ((t.bay b).link.exchange.map (·.frame)) = some .rollback) ∧
          ((s.session b).state = .unwinding ∨ (s.session b).state = .filing →
            t.bay b = { s.bay b with session := { s.session b with ending := .halted }, held := none,
                                     halt := some { order := e.cell, state := (s.session b).state } })

/-- BAY_QUERY in hand: OK with the report of R137, with the running and held orders, the session, the counters, the link and the
dropped latch, which the read clears; the rest of the bay, and everything else, is as it was (R108, R137). -/
def Obligations.BayQueryReportsAndClearsDropped : Prop :=
  ∀ (s : State) (e : Entry), s.engine ≠ .off → s.inHand .bayQuery = some e →
    (7 < byteAt e.params 0 →
      ∃ t, exec .bayQuery s = .next t ∧ s.answersAtTake t e .refusedField [] ∧ s.sameOutsideIntake t) ∧
    ∀ b : BayId, b.val = byteAt e.params 0 →
      ∃ t, exec .bayQuery s = .next t ∧ s.answersAtTake t e .ok (s.bay b).queryData ∧
        t.bay b = { s.bay b with link := { (s.bay b).link with dropped := false } } ∧ s.otherBaysSame t b ∧
        (s.bay b).queryData.length = 40 ∧ (s.bay b).queryData.getD 0 0 = (s.session b).state.code ∧
        (∀ r, (s.bay b).running = some r →
          field (s.bay b).queryData 1 7 =
            [if r.isRepeat then 0x09 else 0x08, (s.session b).ending.code, byteOf r.plan.repeats] ++ toLE 4 r.tag.toNat ∧
          field (s.bay b).queryData 12 2 = toLE 2 (s.session b).attempted) ∧
        field (s.bay b).queryData 8 4 = toLE 4 (match (s.bay b).held with | some h => h.tag.toNat | none => 0) ∧
        field (s.bay b).queryData 15 8 =
          [boolByte (s.session b).deferral, boolByte (s.bay b).cache.isSome, (s.session b).outcome.codes.1,
           (s.session b).outcome.codes.2, (s.bay b).link.rate.code, boolByte (s.bay b).link.presence.isPresent,
           boolByte (s.bay b).link.dropped, nakCode (s.bay b).link.lastNak] ∧
        field (s.bay b).queryData 24 12 = (s.bay b).counters.bytes ∧
        field (s.bay b).queryData 36 4 = toLE 2 (s.bay b).link.strays ++ toLE 2 (s.bay b).link.lineErrors ∧
        t.ks = s.ks ∧ t.ceu = s.ceu ∧ t.cipher = s.cipher ∧ t.prof = s.prof ∧ t.writer.queue = s.writer.queue ∧
        t.clock = s.clock

/-! ## Profile store and watches -/

/-- PROFILE_WRITE and MODEL_MAP_WRITE in hand: REFUSED_FIELD for a field out of range, STORE_BUSY for a PERSIST while one is in
progress, and then the records are written and their group marked changed; without PERSIST answered OK at take, with PERSIST
the order stays open, the group is captured with its check, and its area is written to the serial memory; the control word
is not yet written (R161 to R163, R178). -/
def Obligations.ProfileStoreWrites : Prop :=
  (∀ (s : State) (e : Entry), s.engine ≠ .off → s.inHand .profileWrite = some e →
     (15 < byteAt e.params 0 ∨ profile? (field e.params 8 16) = none →
       ∃ t, exec .profileWrite s = .next t ∧ s.answersAtTake t e .refusedField [] ∧ s.sameOutsideIntake t) ∧
     ∀ (i : Fin 16) (x : Profile), i.val = byteAt e.params 0 → profile? (field e.params 8 16) = some x →
       (e.flags.getLsbD 1 = true → s.prof.persist ≠ none →
         ∃ t, exec .profileWrite s = .next t ∧ s.answersAtTake t e .storeBusy [] ∧ s.sameOutsideIntake t) ∧
       (e.flags.getLsbD 1 = false ∨ s.prof.persist = none →
         ∃ t, exec .profileWrite s = .next t ∧ t.prof.profiles[i] = x ∧
           (∀ j : Fin 16, j ≠ i → t.prof.profiles[j] = s.prof.profiles[j]) ∧ t.prof.map = s.prof.map ∧
           t.prof.control = s.prof.control ∧ t.prof.groups[profileGroup i].changed = true ∧
           t.prof.groups[profileGroup i].source = s.prof.groups[profileGroup i].source ∧
           (∀ g, g ≠ profileGroup i → t.prof.groups[g] = s.prof.groups[g]) ∧
           (e.flags.getLsbD 1 = false →
             s.answersAtTake t e .ok ([byteOf i.val, 0, 0, 0] ++ t.prof.groupSummary ++ x.bytes) ∧
             ∀ y, s.prof.persist = some y →
               t.prof.persist = some { y with touched := y.touched || decide (y.group = profileGroup i) }) ∧
           (e.flags.getLsbD 1 = true →
             (∃ y, t.prof.persist = some y ∧ y.group = profileGroup i ∧ y.order = some e.cell ∧ y.touched = false ∧
               y.subject = .profile i ∧ y.step = .area ∧ y.capture = withGroupCheck (t.prof.groupBytes (profileGroup i)) ∧
               Output.serialWrite (0x100 * ((profileGroup i).val + 1)) y.capture ∈ t.out ∧
               ∀ bytes, Output.serialWrite 0 bytes ∉ t.out) ∧
             t.intake.answers = s.intake.answers) ∧
           t.ks = s.ks ∧ t.ceu = s.ceu ∧ t.cipher = s.cipher ∧ t.bays = s.bays ∧ t.clock = s.clock)) ∧
  (∀ (s : State) (e : Entry), s.engine ≠ .off → s.inHand .modelMapWrite = some e →
     (63 < byteAt e.params 0 ∨ byteAt e.params 1 = 0 ∨ 8 < byteAt e.params 1 ∨
         (byteAt e.params 0 < 32 ∧ 32 < byteAt e.params 0 + byteAt e.params 1) ∨
         (32 ≤ byteAt e.params 0 ∧ 64 < byteAt e.params 0 + byteAt e.params 1) ∨
         (∃ k, k < byteAt e.params 1 ∧ mapEntry? (field e.params (8 + k * 4) 4) = none) →
       ∃ t, exec .modelMapWrite s = .next t ∧ s.answersAtTake t e .refusedField [] ∧ s.sameOutsideIntake t) ∧
     ∀ (first : Nat) (l : List MapEntry), mapWrite? e.params = some (first, l) →
       (e.flags.getLsbD 1 = true → s.prof.persist ≠ none →
         ∃ t, exec .modelMapWrite s = .next t ∧ s.answersAtTake t e .storeBusy [] ∧ s.sameOutsideIntake t) ∧
       (e.flags.getLsbD 1 = false ∨ s.prof.persist = none →
         ∃ t, exec .modelMapWrite s = .next t ∧ first = byteAt e.params 0 ∧ l.length = byteAt e.params 1 ∧
           (∀ (n : Fin 64) (k : Nat), n.val = first + k → k < l.length →
             mapEntry? (field e.params (8 + k * 4) 4) = some t.prof.map[n]) ∧
           (∀ n : Fin 64, n.val < first ∨ first + l.length ≤ n.val → t.prof.map[n] = s.prof.map[n]) ∧
           t.prof.profiles = s.prof.profiles ∧ t.prof.control = s.prof.control ∧
           t.prof.groups[mapGroup first].changed = true ∧
           (∀ g, g ≠ mapGroup first → t.prof.groups[g] = s.prof.groups[g]) ∧
           (e.flags.getLsbD 1 = false →
             s.answersAtTake t e .ok ([byteOf first, byteOf l.length, 0, 0] ++ t.prof.groupSummary ++ l.flatMap (·.bytes))) ∧
           (e.flags.getLsbD 1 = true →
             ∃ y, t.prof.persist = some y ∧ y.group = mapGroup first ∧ y.order = some e.cell ∧ y.touched = false ∧
               y.subject = .map first l.length ∧ y.step = .area ∧
               y.capture = withGroupCheck (t.prof.groupBytes (mapGroup first)) ∧
               Output.serialWrite (0x100 * ((mapGroup first).val + 1)) y.capture ∈ t.out ∧
               ∀ bytes, Output.serialWrite 0 bytes ∉ t.out) ∧
           t.ks = s.ks ∧ t.ceu = s.ceu ∧ t.cipher = s.cipher ∧ t.bays = s.bays ∧ t.clock = s.clock))

/-- The steps of a persist (R163, R164, R178): when the memory is ready after the write of the group area, the control word is
written with the group's code as 01b and bits 15:8 as 0; when it is ready after that, the area is to be read back (that
SERIAL_MEMORY_READY is this event, whatever its operand, is the model's choice, log 21). PERSIST_END with a read-back equal
to the capture, on a readable memory, gives the group source MEMORY, the changed mark only if it was touched, and the code
01b in the control word copy, answered OK; a memory not ready after a write, a read-back that differs and an unreadable
memory give FAULTED and STORE_FAULT, answered STORE_FAULT. A report that the step cannot bring changes nothing (log 1). -/
def Obligations.PersistStepsAndEnds : Prop :=
  (∀ (s : State) (x : Persist) (control : BitVec 16), s.engine ≠ .off → s.settled → s.prof.load = none →
    s.prof.persist = some x →
    (x.step = .area → exec (.serialMemoryReady control) s =
      .next { s with prof := { s.prof with persist := some { x with step := .control } },
                     out := [.serialWrite 0 (toLE 2 (withGroupCode s.prof.control x.group &&& 0x00FF#16).toNat)] }) ∧
    (x.step = .control → exec (.serialMemoryReady control) s =
      .next { s with prof := { s.prof with persist := some { x with step := .readBack } }, out := [] }) ∧
    (x.step = .readBack → exec (.serialMemoryReady control) s = .next s.quiet)) ∧
  ∀ (s : State) (x : Persist) (r : Option (Vector Byte 130)), s.engine ≠ .off → s.prof.persist = some x →
    ((x.step = .readBack ↔ r ≠ none) →
      ∃ t, exec (.persistEnd r) s = .next t ∧ t.prof.persist = none ∧ t.prof.profiles = s.prof.profiles ∧
        t.prof.map = s.prof.map ∧ (∀ g, g ≠ x.group → t.prof.groups[g] = s.prof.groups[g]) ∧
        (∀ bytes, r = some bytes → bytes.toList = x.capture → s.prof.unreadable = false →
          t.prof.groups[x.group] = { source := .memory, changed := s.prof.groups[x.group].changed && x.touched } ∧
          groupCode t.prof.control x.group = 1 ∧
          (∀ g, g ≠ x.group → groupCode t.prof.control g = groupCode s.prof.control g) ∧
          ∀ cell, x.order = some cell → s.completes t cell .ok (t.prof.answerData x.subject)) ∧
        (r = none ∨ (∃ bytes, r = some bytes ∧ bytes.toList ≠ x.capture) ∨ s.prof.unreadable = true →
          t.prof.groups[x.group] = { s.prof.groups[x.group] with source := .faulted } ∧ t.prof.control = s.prof.control ∧
          t.hasFlag .storeFault ∧
          ∀ cell, x.order = some cell → s.completes t cell .storeFault (t.prof.answerData x.subject)) ∧
        t.ks = s.ks ∧ t.ceu = s.ceu ∧ t.cipher = s.cipher ∧ t.bays = s.bays ∧ t.writer.queue = s.writer.queue ∧
        t.clock = s.clock) ∧
    (¬(x.step = .readBack ↔ r ≠ none) → s.settled → exec (.persistEnd r) s = .next s.quiet)

/-- WATCH_SET in hand: a number or parameter out of range is refused; otherwise the watch takes its source, its flag shows the
set-time test and nothing else of the flags changes, and the order is answered OK (R170, R171). -/
def Obligations.WatchSetByRule : Prop :=
  ∀ (s : State) (e : Entry), s.engine ≠ .off → s.inHand .watchSet = some e →
    (3 < byteAt e.params 0 ∨ watch? e.params = none →
      ∃ t, exec .watchSet s = .next t ∧ s.answersAtTake t e .refusedField [] ∧ s.sameOutsideIntake t) ∧
    ∀ (n : Fin 4) (w : Watch), n.val = byteAt e.params 0 → watch? e.params = some w →
      ∃ t fired, exec .watchSet s = .next t ∧
        fired = (match w with
          | .allowanceBelow i threshold => decide ((s.slot i).allowance < threshold)
          | .rollRoomBelow threshold => decide (s.events.room < threshold)
          | .off | .slotState _ | .bayPresence _ _ => false) ∧
        t.events.watches[n] = w ∧ (∀ m, m ≠ n → t.events.watches[m] = s.events.watches[m]) ∧
        t.events.mask = s.events.mask ∧ s.answersAtTake t e .ok (w.answerData n fired) ∧
        (s.intake.area.isSome = true →
          ∀ k, t.events.flags.getLsbD k = if k = 12 + n.val then fired else s.events.flags.getLsbD k) ∧
        t.ks = s.ks ∧ t.ceu = s.ceu ∧ t.cipher = s.cipher ∧ t.bays = s.bays ∧ t.prof = s.prof ∧ t.clock = s.clock

/-! ## Bay links and sessions -/

/-- An IDENT accepted in PROBING resolves the terminal (R120 to R123): unmatched without a profile, or for a wrap-only profile
with a DIRECT item; otherwise the profile is latched, the conditions are evaluated, and the first applicable item's claim is
requested, or with none the terminal is released as skipped. The profile is the plan's override, or the model map's: that of
the first used entry with the model code, from entry 0 upward, with a miss where no used entry matches and for 0000h always
(R156). -/
def Obligations.IdentResolvesTerminal : Prop :=
  (∀ (s : State) (b : BayId) (seq : Byte) (terminal : BitVec 128) (model : BitVec 16) (caps occupancy : Byte) (r : RunningOrder)
     (x : Exchange), s.engine ≠ .off → s.engine ≠ .loading → (s.bay b).running = some r → (s.bay b).link.exchange = some x →
     x.seq = seq → x.expected = .ident → (s.session b).state = .probing → (s.session b).gone = false →
     ∃ t, exec (.ident b seq terminal model caps occupancy) s = .next t ∧
       (t.session b).identity = some { terminal := terminal, model := model, caps := caps, occupancy := occupancy } ∧
       s.otherBaysSame t b ∧ t.ks.slots = s.ks.slots ∧ t.ceu = s.ceu ∧ t.cipher = s.cipher ∧ t.prof = s.prof ∧
       t.clock = s.clock ∧ t.writer.queue = s.writer.queue ∧
       (∀ q : Option (Fin 16), q = (match r.plan.override with | some k => some k | none => s.prof.lookup model) →
         (q = none ∨ (∃ k, q = some k ∧ s.prof.profiles[k].wrapOnly = true ∧ ∃ i ∈ r.plan.items, i.delivery = .direct) →
           (t.bay b).counters.unmatched = countUp (s.bay b).counters.unmatched ∧ (t.session b).state = .awaitRemoval ∧
           t.ks.requests = s.ks.requests ∧ (t.bay b).link.exchange = none) ∧
         ∀ k, q = some k → (s.prof.profiles[k].wrapOnly = false ∨ ∀ i ∈ r.plan.items, i.delivery ≠ .direct) →
           (t.session b).latched = some (k, s.prof.profiles[k]) ∧
           (t.session b).records.map (·.item) = r.plan.items ∧
           (∀ i ∈ (t.session b).records, i.claim = none ∧ i.wrapGeneration = none ∧ i.stage = .waiting ∧
             i.applies = (match i.item.condition with
               | .always => true | .ifCap n => caps.getLsbD n.val | .ifNotCap n => !caps.getLsbD n.val
               | .ifRegEmpty => !occupancy.getLsbD i.item.register.val)) ∧
           (t.bay b).counters.skippedItems =
             min ((s.bay b).counters.skippedItems + (t.session b).records.countP (fun i => !i.applies)) 65535 ∧
           ((∃ i ∈ (t.session b).records, i.applies = true) →
             (t.session b).state = .claiming ∧ (t.bay b).link.exchange = none ∧
             ∃ n i, (t.session b).current = some n ∧ (t.session b).records[n]? = some i ∧ i.applies = true ∧
               (∀ j ∈ (t.session b).records.take n, j.applies = false) ∧
               t.ks.requests = s.ks.requests ++ [.claim b i.item.base]) ∧
           ((∀ i ∈ (t.session b).records, i.applies = false) →
             (t.session b).state = .releasing ∧
             (t.bay b).counters.skippedTerminals = countUp (s.bay b).counters.skippedTerminals ∧
             (t.bay b).link.exchange.map (·.frame) = some .release ∧ t.ks.requests = s.ks.requests))) ∧
  (∀ (p : ProfileStore) (model : BitVec 16),
     (model = 0 → p.lookup model = none) ∧
     ((∀ n : Fin 64, p.map[n].model ≠ model) → p.lookup model = none) ∧
     ∀ n : Fin 64, model ≠ 0 → p.map[n].model = model → (∀ k : Fin 64, k < n → p.map[k].model ≠ model) →
       p.lookup model = some p.map[n].profile)

/-- The deliveries of LOADING (R109, R110, R127): the ACK of BEGIN is followed by the first PART of the first applicable item,
the ACK of a PART by the next chunk or by END. The CHECK of an END with register and check value right delivers the item,
and the next one or RELEASE follows; otherwise the terminal fails with CHECK_MISMATCH and ROLLBACK is sent. -/
def Obligations.DeliveryByReplies : Prop :=
  (∀ (s : State) (b : BayId) (seq : Byte) (x : Exchange) (q : Fin 16) (p : Profile), s.engine ≠ .off → s.engine ≠ .loading →
     (s.bay b).running ≠ none → (s.bay b).link.exchange = some x → x.seq = seq → x.expected = .ack →
     (s.session b).state = .loading → (s.session b).latched = some (q, p) →
     ∃ t, exec (.ack b seq) s = .next t ∧ s.otherBaysSame t b ∧ t.ks = s.ks ∧ t.ceu = s.ceu ∧ t.cipher = s.cipher ∧
       t.prof = s.prof ∧ t.writer.queue = s.writer.queue ∧ t.clock = s.clock ∧
       (t.bay b).buffer = (s.bay b).buffer ∧ (t.bay b).counters = (s.bay b).counters ∧
       (∀ (n : Nat) (i : ItemRecord) (block : List Byte), (s.session b).delivery = .begin →
         (s.session b).records[n]? = some i → i.applies = true →
         (∀ j ∈ (s.session b).records.take n, j.applies = false) → ((s.bay b).buffer[n]?).bind (·.block) = some block →
         (t.session b).state = .loading ∧ (t.session b).current = some n ∧ (t.session b).delivery = .part 1 ∧
         (t.bay b).link.seq = (s.bay b).link.seq + 1 ∧
         (t.bay b).link.exchange.map (·.frame) =
           some (.part i.item.register 1 (chunkCount block.length p.chunkSize) (block.take p.chunkSize))) ∧
       ∀ (n k : Nat) (i : ItemRecord) (block : List Byte), (s.session b).delivery = .part k →
         (s.session b).current = some n → (s.session b).records[n]? = some i →
         ((s.bay b).buffer[n]?).bind (·.block) = some block →
         (t.session b).state = .loading ∧
         (k < chunkCount block.length p.chunkSize →
           (t.session b).delivery = .part (k + 1) ∧ (t.bay b).link.exchange.map (·.frame) =
             some (.part i.item.register (k + 1) (chunkCount block.length p.chunkSize) (chunkOf block p.chunkSize (k + 1)))) ∧
         (chunkCount block.length p.chunkSize ≤ k →
           (t.session b).delivery = .endItem ∧
           (t.bay b).link.exchange.map (·.frame) = some (.endItem i.item.register i.item.delivery.isWrapped))) ∧
  (∀ (s : State) (b : BayId) (seq register : Byte) (value : CheckValue) (x : Exchange) (q : Fin 16) (p : Profile) (n : Nat)
     (i : ItemRecord) (k : KeyPlace), s.engine ≠ .off → s.engine ≠ .loading → (s.bay b).running ≠ none →
     (s.bay b).link.exchange = some x → x.seq = seq → x.expected = .check → (s.session b).state = .loading →
     (s.session b).latched = some (q, p) → (s.session b).delivery = .endItem → (s.session b).current = some n →
     (s.session b).records[n]? = some i → (s.bay b).buffer[n]? = some k →
     ∃ t, exec (.check b seq register value) s = .next t ∧ s.otherBaysSame t b ∧ t.ks = s.ks ∧ t.ceu = s.ceu ∧
       t.cipher = s.cipher ∧ t.prof = s.prof ∧ t.writer.queue = s.writer.queue ∧ t.clock = s.clock ∧
       (register.toNat = i.item.register.val → k.checkValue = some value →
         (t.session b).records = (s.session b).records.set n { i with stage := .delivered } ∧
         ((∀ j ∈ (s.session b).records.drop (n + 1), j.applies = false) →
           (t.session b).state = .releasing ∧ (t.bay b).link.exchange.map (·.frame) = some .release) ∧
         ∀ m j block, n < m → (s.session b).records[m]? = some j → j.applies = true →
           (∀ l ∈ ((s.session b).records.take m).drop (n + 1), l.applies = false) →
           ((s.bay b).buffer[m]?).bind (·.block) = some block →
           (t.session b).state = .loading ∧ (t.session b).current = some m ∧ (t.session b).delivery = .part 1 ∧
           (t.bay b).link.exchange.map (·.frame) =
             some (.part j.item.register 1 (chunkCount block.length p.chunkSize) (chunkOf block p.chunkSize 1))) ∧
       (register.toNat ≠ i.item.register.val ∨ k.checkValue ≠ some value →
         (t.session b).state = .unwinding ∧ (t.session b).reason = some ((s.session b).reason.getD .checkMismatch) ∧
         (t.bay b).link.exchange.map (·.frame) = some .rollback))

/-- The ACK of RELEASE makes the terminal LOADED, the ACK of ROLLBACK VOID with the reason fixed; with room in the receipt queue
its receipts are entered in plan order, the key buffer is cleared, the hold release is given and the removal is awaited
(R128, R129, R131; that all are entered in the one command is the model's choice, log 48). Its receipts: one for each
granted claim, with the claim's slot, generation and KSN, the item's label and register, the terminal's identity, the
profile index, and the check value only when LOADED (R131, R140). -/
def Obligations.AckFilesTerminal : Prop :=
  (∀ (s : State) (b : BayId) (seq : Byte) (x : Exchange) (r : RunningOrder) (outcome : TerminalOutcome), s.engine ≠ .off →
     s.engine ≠ .loading → (s.bay b).running = some r → (s.bay b).link.exchange = some x → x.seq = seq → x.expected = .ack →
     (((s.session b).state = .releasing ∧ (s.session b).begun = true ∧ outcome = .loaded) ∨
       ((s.session b).state = .unwinding ∧ outcome = .void ((s.session b).reason.getD .terminalLost))) →
     (s.session b).refusal = none → (s.session b).ending = .none → (s.session b).gone = false →
     s.writer.queue.length + ((s.session b).receipts b r.tag outcome (s.bay b).buffer).length ≤ 16 →
     ∃ t, exec (.ack b seq) s = .next t ∧ (t.session b).state = .awaitRemoval ∧ (t.session b).outcome = outcome ∧
       t.writer.queue = s.writer.queue ++
         ((s.session b).receipts b r.tag outcome (s.bay b).buffer).map (fun y => { y with time := s.clock }) ∧
       (t.bay b).buffer = [] ∧ t.ks.requests = s.ks.requests ++ [.release b] ∧ (t.bay b).running = some r ∧
       (outcome = .loaded → (t.bay b).counters = { (s.bay b).counters with loaded := countUp (s.bay b).counters.loaded }) ∧
       (outcome ≠ .loaded → (t.bay b).counters = { (s.bay b).counters with voided := countUp (s.bay b).counters.voided }) ∧
       s.otherBaysSame t b ∧ t.ks.slots = s.ks.slots ∧ t.ceu = s.ceu ∧ t.cipher = s.cipher ∧ t.prof = s.prof ∧
       t.clock = s.clock) ∧
  (∀ (x : Session) (b : BayId) (tag : BitVec 32) (outcome : TerminalOutcome) (buffer : List KeyPlace) (d : Identity) (q : Fin 16)
     (p : Profile), x.identity = some d → x.latched = some (q, p) →
     (x.receipts b tag outcome buffer).map (·.ksn) = (x.records.filterMap (·.claim)).map (·.ksn) ∧
     (x.receipts b tag outcome buffer).map (·.slot) = (x.records.filterMap (·.claim)).map (·.slot) ∧
     (x.receipts b tag outcome buffer).map (·.generation) = (x.records.filterMap (·.claim)).map (·.generation) ∧
     (x.receipts b tag outcome buffer).map (·.label) = (x.records.filter (·.claim.isSome)).map (·.item.label) ∧
     (x.receipts b tag outcome buffer).map (·.register) = (x.records.filter (·.claim.isSome)).map (·.item.register) ∧
     (outcome = .loaded → (x.receipts b tag outcome buffer).map (·.checkValue) = x.records.zipIdx.filterMap fun y =>
       y.1.claim.map fun _ => ((buffer[y.2]?).bind (·.checkValue)).getD 0) ∧
     ∀ r ∈ x.receipts b tag outcome buffer, r.outcome = outcome ∧ r.unconfirmed = x.unconfirmed ∧ r.bay = b ∧
       r.terminal = d.terminal ∧ r.model = d.model ∧ r.profile = byteOf q.val ∧ r.tag = tag ∧
       (outcome ≠ .loaded → r.checkValue = 0))

/-- A terminal frame at a bay without a plan is discarded; with a plan it is a stray, counted up to 65535, when no exchange is
open, its SEQ differs, or it is of another kind than the one expected and no NAK (R94, R98). A part of a frame that the
receiver held is a line error if its gap has passed the limit and is otherwise dropped (the model's choice, log 36). A NAK
BUSY_RETRY uses a retry and asks for a resend, is a stray while one is pending, and with no retry left ends the exchange
with NO_REPLY (R101); any other reason is recorded and ends it with TERMINAL_REFUSED (R102). In LOADING both ends unwind the
terminal, in PROBING its removal is awaited. -/
def Obligations.StraysAndNaks : Prop :=
  (∀ (s : State) (b : BayId) (c : Instr) (f : TerminalFrame), s.engine ≠ .off → s.engine ≠ .loading → s.settled →
     ((∃ seq terminal model caps occupancy, c = .ident b seq terminal model caps occupancy ∧
         f = .ident seq terminal model caps occupancy) ∨
       (∃ seq, c = .ack b seq ∧ f = .ack seq) ∨
       (∃ seq register value, c = .check b seq register value ∧ f = .check seq register value) ∨
       (∃ seq reason, c = .nak b seq reason ∧ f = .nak seq reason)) →
     ((s.bay b).running = none →
       ∃ t, exec c s = .next t ∧
         t.bay b = { s.bay b with link := { (s.bay b).link.gapClosed s.clock with receiver := .hunt } } ∧
         t = { s.quiet with bays := t.bays } ∧ s.otherBaysSame t b) ∧
     ((s.bay b).running ≠ none →
       ((s.bay b).link.exchange = none ∨ ∃ x, (s.bay b).link.exchange = some x ∧
         (f.seq ≠ x.seq ∨ (f.matches x.expected = false ∧ ∀ seq reason, f ≠ .nak seq reason))) →
       ∃ t, exec c s = .next t ∧
         t.bay b = { s.bay b with
           link := { (s.bay b).link.gapClosed s.clock with
             receiver := .hunt
             strays := min ((s.bay b).link.strays + 1) 65535 } } ∧
         t = { s.quiet with bays := t.bays } ∧ s.otherBaysSame t b)) ∧
  (∀ (s : State) (b : BayId) (seq reason : Byte) (x : Exchange), s.engine ≠ .off → s.engine ≠ .loading → s.settled →
     (s.bay b).running ≠ none → (s.bay b).link.exchange = some x → x.seq = seq →
     (reason = 1 → x.resendPending = true →
       ∃ t, exec (.nak b seq reason) s = .next t ∧
         t.bay b = { s.bay b with
           link := { (s.bay b).link.gapClosed s.clock with
             receiver := .hunt
             strays := min ((s.bay b).link.strays + 1) 65535 } } ∧
         s.otherBaysSame t b ∧ t = { s.quiet with bays := t.bays }) ∧
     (reason = 1 → x.resendPending = false → x.retriesUsed < x.retryLimit →
       ∃ t, exec (.nak b seq reason) s = .next t ∧
         t.bay b = { s.bay b with
           link := { (s.bay b).link.gapClosed s.clock with
             receiver := .hunt
             exchange := some { x with retriesUsed := x.retriesUsed + 1, resendPending := true } } } ∧
         s.otherBaysSame t b ∧ t = { s.quiet with bays := t.bays }) ∧
     ((reason = 1 → x.resendPending = false ∧ x.retryLimit ≤ x.retriesUsed) →
       ∃ t, exec (.nak b seq reason) s = .next t ∧ s.otherBaysSame t b ∧ t.ks.slots = s.ks.slots ∧ t.cipher = s.cipher ∧
         t.ceu = s.ceu ∧ t.prof = s.prof ∧ t.clock = s.clock ∧
         (reason ≠ 1 → ((s.session b).state = .probing ∧ (s.session b).gone = false) ∨ (s.session b).state = .loading →
           (t.bay b).link.lastNak =
             some (if reason = 3 then .registerLocked else if reason = 4 then .badBlock else .refused)) ∧
         ((s.session b).state = .probing → (s.session b).gone = false →
           (t.session b).state = .awaitRemoval ∧ (t.bay b).link.exchange = none) ∧
         ((s.session b).state = .loading →
           (t.session b).state = .unwinding ∧ (t.session b).reason =
             some ((s.session b).reason.getD (if reason = 1 then .noReply else .terminalRefused)) ∧
           ((s.session b).latched ≠ none → (t.bay b).link.exchange.map (·.frame) = some .rollback))))

/-- REPLY_TIMER_EXPIRY by the table of R100: a pending resend is sent without a new retry, a retry is used, or the exchange ends
with NO_REPLY; the resend has the same SEQ and bytes and leaves the timer disarmed (R96, R100). -/
def Obligations.ReplyTimerByTable : Prop :=
  ∀ (s : State) (b : BayId) (x : Exchange) (w : Timer), s.engine ≠ .off → s.engine ≠ .loading → s.settled →
    (s.bay b).link.exchange = some x → x.timer = some w →
    (w.due s.clock = false → exec (.replyTimerExpiry b) s = .next s.quiet) ∧
    (w.due s.clock = true → x.resendPending = true ∨ x.retriesUsed < x.retryLimit →
      ∃ t, exec (.replyTimerExpiry b) s = .next t ∧
        (t.bay b).link.exchange =
          some { x with timer := none, resendPending := false,
                        retriesUsed := if x.resendPending then x.retriesUsed else x.retriesUsed + 1 } ∧
        ((s.bay b).link.sending = none →
          (t.bay b).link.sending = some ({ seq := x.seq, bytes := x.bytes }, (s.bay b).link.rate) ∧
          t.out = [.bayFrame b (s.bay b).link.rate x.bytes]) ∧
        ((s.bay b).link.sending ≠ none →
          (t.bay b).link.following = (s.bay b).link.following ++ [{ seq := x.seq, bytes := x.bytes }] ∧ t.out = []) ∧
        (t.bay b).session = (s.bay b).session ∧ s.otherBaysSame t b ∧ t.ks = s.ks ∧ t.ceu = s.ceu ∧ t.cipher = s.cipher ∧
        t.writer = s.writer ∧ t.prof = s.prof ∧ t.events = s.events ∧ t.intake = s.intake ∧ t.clock = s.clock) ∧
    (w.due s.clock = true → x.resendPending = false → x.retryLimit ≤ x.retriesUsed →
      ∃ t, exec (.replyTimerExpiry b) s = .next t ∧ s.otherBaysSame t b ∧ t.ks.slots = s.ks.slots ∧ t.ceu = s.ceu ∧
        t.cipher = s.cipher ∧ t.prof = s.prof ∧ t.clock = s.clock ∧
        ((s.session b).state = .probing → (s.session b).gone = false → (s.bay b).running ≠ none →
          (t.session b).state = .awaitRemoval ∧ (t.bay b).link.exchange = none) ∧
        ((s.session b).state = .loading ∨ ((s.session b).state = .releasing ∧ (s.session b).begun = true) →
          (t.session b).state = .unwinding ∧ (t.session b).reason = some ((s.session b).reason.getD .noReply) ∧
          ((s.session b).latched ≠ none → (t.bay b).link.exchange.map (·.frame) = some .rollback)) ∧
        ((s.session b).state = .unwinding → 16 ≤ s.writer.queue.length →
          (∃ i ∈ (s.session b).records, i.claim ≠ none) →
          (t.session b).state = .filing ∧ (t.session b).unconfirmed = true ∧
          (t.session b).outcome = .void ((s.session b).reason.getD .noReply)))

/-- Bytes on a bay link with a LEN outside 2 to 42, a bad check, no terminal kind or another payload length than the kind's are
a line error, counted up to 65535; bytes before a lead byte are discarded (R93, R94). Line errors are counted with no plan
and in TAMPERED too (the model's reading, log 13). A part of a frame arms the 20 ms gap timer (R10, R105): its expiry when
due is a line error and before does nothing, the bytes that come with the expiry follow it, and a byte later than the limit
ends the part first (log 36). The end of a transmission arms the reply timer of the open exchange when the frame was its
own, and the next frame begins at the link's rate (R90, R91, R99). -/
def Obligations.BayLinkBytesAndFrames : Prop :=
  (∀ (s : State) (b : BayId), s.engine ≠ .off → s.engine ≠ .loading → s.settled →
     ((s.bay b).link.receiver = .hunt →
       (∀ n : Byte, n.toNat < 2 ∨ 42 < n.toNat →
         ∃ t, exec (.bayLineError b [0xA5, n]) s = .next t ∧
           t.bay b = { s.bay b with link := { (s.bay b).link with lineErrors := min ((s.bay b).link.lineErrors + 1) 65535 } } ∧
           s.otherBaysSame t b ∧ t = { s.quiet with bays := t.bays }) ∧
       (∀ (counted : List Byte) (high low : Byte), 2 ≤ counted.length → counted.length ≤ 42 →
         toBE 2 (crc (byteOf counted.length :: counted)).toNat ≠ [high, low] →
         ∃ t, exec (.bayLineError b (0xA5 :: byteOf counted.length :: counted ++ [high, low])) s = .next t ∧
           t.bay b = { s.bay b with link := { (s.bay b).link with lineErrors := min ((s.bay b).link.lineErrors + 1) 65535 } } ∧
           s.otherBaysSame t b ∧ t = { s.quiet with bays := t.bays }) ∧
       (∀ (kind seq : Byte) (payload : List Byte), payload.length ≤ 40 →
         kind.toNat < 0x20 ∨ 0x23 < kind.toNat ∨
           payload.length ≠ (if kind = 0x20 then 20 else if kind = 0x22 then 4 else if kind = 0x23 then 1 else 0) →
         ∃ t, exec (.bayLineError b (buildFrame kind seq payload)) s = .next t ∧
           t.bay b = { s.bay b with link := { (s.bay b).link with lineErrors := min ((s.bay b).link.lineErrors + 1) 65535 } } ∧
           s.otherBaysSame t b ∧ t = { s.quiet with bays := t.bays }) ∧
       (∀ (n : Byte) (part : List Byte), 2 ≤ n.toNat → n.toNat ≤ 42 → part.length < n.toNat →
         ∃ t, exec (.bayLineError b (0xA5 :: n :: part)) s = .next t ∧
           t.bay b = { s.bay b with
             link := { (s.bay b).link with receiver := .body { start := s.clock, interval := 20 } n.toNat part } } ∧
           s.otherBaysSame t b ∧ t = { s.quiet with bays := t.bays }) ∧
       (∀ bytes : List Byte, (∀ y ∈ bytes, y ≠ 0xA5) → exec (.bayLineError b bytes) s = .next s.quiet) ∧
       exec (.bayGapExpiry b []) s = .next s.quiet) ∧
     (∀ bytes, exec (.bayGapExpiry b bytes) s = exec (.bayLineError b bytes) (s.bayGap b)) ∧
     ∀ w, (s.bay b).link.receiver.gap? = some w →
       (w.due s.clock = false → exec (.bayGapExpiry b []) s = .next s.quiet) ∧
       (w.due s.clock = true →
         ∃ t, exec (.bayGapExpiry b []) s = .next t ∧
           t.bay b = { s.bay b with
             link := { (s.bay b).link with
               receiver := .hunt
               lineErrors := min ((s.bay b).link.lineErrors + 1) 65535 } } ∧
           s.otherBaysSame t b ∧ t = { s.quiet with bays := t.bays }) ∧
       (w.interval < (s.clock - w.start).toNat → ∀ y : Byte,
         ∃ t, exec (.bayLineError b [y]) s = .next t ∧
           t.bay b = { s.bay b with
             link := { (s.bay b).link with
               receiver := if y = 0xA5 then .length { start := s.clock, interval := 20 } else .hunt
               lineErrors := min ((s.bay b).link.lineErrors + 1) 65535 } } ∧
           s.otherBaysSame t b ∧ t = { s.quiet with bays := t.bays })) ∧
  (∀ (s : State) (b : BayId) (m : Transmission) (rate : LineRate), s.engine ≠ .off → s.engine ≠ .loading → s.settled →
     (s.bay b).link.sending = some (m, rate) →
     ∃ t, exec (.bayTransmitEnd b) s = .next t ∧ s.otherBaysSame t b ∧ (t.bay b).session = (s.bay b).session ∧
       (∀ x, (s.bay b).link.exchange = some x →
         (x.seq = m.seq → (t.bay b).link.exchange = some { x with timer := some { start := s.clock, interval := x.timeout } }) ∧
         (x.seq ≠ m.seq → (t.bay b).link.exchange = some x)) ∧
       ((s.bay b).link.exchange = none → (t.bay b).link.exchange = none) ∧
       ((s.bay b).link.following = [] → (t.bay b).link.sending = none ∧ t.out = []) ∧
       (∀ n rest, (s.bay b).link.following = n :: rest →
         (t.bay b).link.sending = some (n, (s.bay b).link.rate) ∧ (t.bay b).link.following = rest ∧
         t.out = [.bayFrame b (s.bay b).link.rate n.bytes]) ∧
       t.ks = s.ks ∧ t.ceu = s.ceu ∧ t.cipher = s.cipher ∧ t.writer = s.writer ∧ t.prof = s.prof ∧ t.events = s.events ∧
       t.intake = s.intake ∧ t.clock = s.clock)

/-- The presence recogniser's table (R106): the input's changes, and in LOADING the input alone; at the timer in SETTLING a
rise, which a session in AWAIT_TERMINAL takes with a PROBE; in DROPPING a drop, which sets the dropped latch, abandons the
exchange without a new frame, and acts on the session by its state (R106 to R108, R119, R130): IDLE and AWAIT_TERMINAL stay;
CLAIMING and PREPARING wait with TERMINAL_LOST fixed; LOADING, a begun RELEASING and UNWINDING file the terminal VOID, and
with room for its last receipt leave it at once, removed (R131, R132; that every receipt that finds room is entered in this
one command is the model's choice, log 48); FILING keeps the gone mark; in PROBING, an unbegun RELEASING and AWAIT_REMOVAL
the removal is taken at once (R132). A reason fixed before the drop stands (the model's reading, log 32). A BAY_PRESENCE
watch of the bay fires at a rise or drop of its edge, and no other watch of a bay or slot (R173). -/
def Obligations.PresenceByTable : Prop :=
  (∀ (s : State) (b : BayId),
     ((s.bay b).link.input = false →
       ∃ t, exec (.bayPresHigh b) s = .next t ∧ (t.bay b).link.input = true ∧ s.otherBaysSame t b ∧
         t = { s.quiet with bays := t.bays } ∧ (t.bay b).session = (s.bay b).session ∧
         (s.engine = .loading ∨ s.engine = .off → (t.bay b).link.presence = (s.bay b).link.presence) ∧
         (s.engine ≠ .loading → s.engine ≠ .off →
           ((s.bay b).link.presence = .absent → (t.bay b).link.presence = .settling ∧
             (t.bay b).link.presenceTimer = some { start := s.clock, interval := s.settleTime b }) ∧
           ((s.bay b).link.presence = .dropping →
             (t.bay b).link.presence = .present ∧ (t.bay b).link.presenceTimer = none))) ∧
     ((s.bay b).link.input = true →
       ∃ t, exec (.bayPresLow b) s = .next t ∧ (t.bay b).link.input = false ∧ s.otherBaysSame t b ∧
         t = { s.quiet with bays := t.bays } ∧ (t.bay b).session = (s.bay b).session ∧
         (s.engine = .loading ∨ s.engine = .off → (t.bay b).link.presence = (s.bay b).link.presence) ∧
         (s.engine ≠ .loading → s.engine ≠ .off →
           ((s.bay b).link.presence = .settling →
             (t.bay b).link.presence = .absent ∧ (t.bay b).link.presenceTimer = none) ∧
           ((s.bay b).link.presence = .present → (t.bay b).link.presence = .dropping ∧
             (t.bay b).link.presenceTimer = some { start := s.clock, interval := 20 })))) ∧
  (∀ (s : State) (b : BayId) (w : Timer), s.engine ≠ .off → s.engine ≠ .loading → s.settled →
     (s.bay b).link.presenceTimer = some w →
     (w.due s.clock = false → exec (.presenceTimerExpiry b) s = .next s.quiet) ∧
     (w.due s.clock = true → (s.bay b).link.presence = .settling →
       ∃ t, exec (.presenceTimerExpiry b) s = .next t ∧ (t.bay b).link.presence = .present ∧
         (t.bay b).link.presenceTimer = none ∧ (t.bay b).link.dropped = (s.bay b).link.dropped ∧
         ((s.session b).state ≠ .awaitTerminal → (t.bay b).session = (s.bay b).session) ∧
         (∀ r, (s.session b).state = .awaitTerminal → (s.bay b).running = some r →
           (t.session b).state = .probing ∧ (t.session b).attempted = countUp (s.session b).attempted ∧
           (t.bay b).counters.attempted = countUp (s.bay b).counters.attempted ∧
           (t.bay b).link.exchange.map (fun x => (x.frame, x.retryLimit, x.timeout)) =
             some (.probe, s.prof.profiles[(0 : Fin 16)].retryLimit, r.plan.probeTimeout)) ∧
         s.otherBaysSame t b ∧ s.watchesFire t (some (b, .rise)) ∧ t.ks = s.ks ∧ t.ceu = s.ceu ∧ t.cipher = s.cipher ∧ t.prof = s.prof ∧ t.clock = s.clock) ∧
     (w.due s.clock = true → (s.bay b).link.presence = .dropping →
       ∃ t, exec (.presenceTimerExpiry b) s = .next t ∧ (t.bay b).link.dropped = true ∧ (t.bay b).link.receiver = .hunt ∧
         (t.bay b).link.presence = .absent ∧ (t.bay b).link.presenceTimer = none ∧ (t.bay b).link.exchange = none ∧
         (t.bay b).link.sending = (s.bay b).link.sending ∧ (∀ x ∈ t.out, x = .pcieMessage) ∧
         s.otherBaysSame t b ∧ t.ks.slots = s.ks.slots ∧ t.ceu = s.ceu ∧ t.cipher = s.cipher ∧ t.prof = s.prof ∧
         t.clock = s.clock ∧ s.watchesFire t (some (b, .fall)) ∧
         ((s.session b).state = .idle ∨ (s.session b).state = .awaitTerminal → (t.bay b).session = (s.bay b).session) ∧
         ((s.session b).state = .claiming ∨ (s.session b).state = .preparing →
           (t.session b).state = (s.session b).state ∧ (t.session b).gone = true ∧
           (t.session b).reason = some ((s.session b).reason.getD .terminalLost) ∧
           ((s.session b).state = .claiming → (s.session b).deferral = true → (s.session b).reason = none →
             t.ks.requests = s.ks.requests ++ [.withdraw b])) ∧
         ((s.session b).state = .filing →
           (t.bay b).session = { s.session b with gone := true } ∧ (t.bay b).running = (s.bay b).running ∧
           (t.bay b).held = (s.bay b).held ∧ (t.bay b).buffer = (s.bay b).buffer ∧
           (t.bay b).counters = (s.bay b).counters ∧ t.writer.queue = s.writer.queue ∧ t.ks.requests = s.ks.requests) ∧
         (∀ r, (s.bay b).running = some r →
           (s.session b).state = .probing ∨ (s.session b).state = .awaitRemoval ∨
             ((s.session b).state = .releasing ∧ (s.session b).begun = false) →
           s.removalTaken t b r (s.session b).outcome (s.bay b).counters false ∧ t.writer.queue = s.writer.queue ∧
           t.ks.requests = s.ks.requests) ∧
         ((s.session b).state = .loading ∨ (s.session b).state = .unwinding ∨
             ((s.session b).state = .releasing ∧ (s.session b).begun = true) →
           (16 ≤ s.writer.queue.length → (∃ i ∈ (s.session b).records, i.claim ≠ none) →
             (t.session b).state = .filing ∧ (t.session b).gone = true ∧ (t.session b).unconfirmed = true ∧
             (t.session b).outcome = .void ((s.session b).reason.getD .terminalLost)) ∧
           ∀ r receipts, (s.bay b).running = some r →
             receipts = { s.session b with unconfirmed := true }.receipts b r.tag
               (.void ((s.session b).reason.getD .terminalLost)) (s.bay b).buffer →
             t.writer.queue =
               s.writer.queue ++ (receipts.take (16 - s.writer.queue.length)).map (fun y => { y with time := s.clock }) ∧
             (16 - s.writer.queue.length < receipts.length →
               (t.session b).state = .filing ∧ (t.session b).gone = true ∧ (t.session b).unconfirmed = true ∧
               (t.session b).outcome = .void ((s.session b).reason.getD .terminalLost) ∧ (t.bay b).running = some r ∧
               t.ks.requests = s.ks.requests ∧ (t.bay b).buffer = (s.bay b).buffer) ∧
             (receipts.length ≤ 16 - s.writer.queue.length → (s.session b).refusal = none →
               t.ks.requests = s.ks.requests ++ [.release b] ∧ (t.bay b).buffer = [] ∧
               ((s.session b).ending = .none →
                 s.removalTaken t b r (.void ((s.session b).reason.getD .terminalLost))
                   { (s.bay b).counters with voided := countUp (s.bay b).counters.voided } false) ∧
               (∀ code, ((s.session b).ending = .halted ∧ code = .halted) ∨
                   ((s.session b).ending = .engineStopped ∧ code = .engineStopped) →
                 s.planEnded t b r code 0xFF
                   { (s.bay b).counters with voided := countUp (s.bay b).counters.voided })))))

/-- How a bay leaves a terminal (R131, R132). REMOVAL_TIMER_EXPIRY in AWAIT_REMOVAL ends the plan with STUCK_TERMINAL; before
its time or in another state it does nothing. The ACK of a skipped terminal's RELEASE (R122) leads to AWAIT_REMOVAL, with
the timer of the latched profile or of profile 0. A receipt that waited as the last of its terminal is entered when the
writer's entry leaves: the key buffer is cleared, the hold release given, a void counted, and the bay goes on with the
refusal's code, its recorded ending, AWAIT_REMOVAL, or with the gone mark as the table of R132 says: STOPPED_ON_VOID, OK or
PARTIAL, or AWAIT_TERMINAL, where a terminal already PRESENT is taken at once (R119, R133). A plan's end completes its order
and a waiting BAY_HALT, and starts a held order (R117, R118). -/
def Obligations.RemovalTimerEndsPlan : Prop :=
  (∀ (s : State) (b : BayId) (w : Timer) (r : RunningOrder), s.engine ≠ .off → s.engine ≠ .loading → s.settled →
     (s.session b).removal = some w → (s.bay b).running = some r →
     ((s.session b).state ≠ .awaitRemoval ∨ w.due s.clock = false → exec (.removalTimerExpiry b) s = .next s.quiet) ∧
     ((s.session b).state = .awaitRemoval → w.due s.clock = true →
       ∃ t, exec (.removalTimerExpiry b) s = .next t ∧
         s.planEnded t b r .stuckTerminal 0xFF (s.bay b).counters ∧
         s.otherBaysSame t b ∧ t.ks = s.ks ∧ t.ceu = s.ceu ∧ t.cipher = s.cipher ∧ t.prof = s.prof ∧
         t.writer.queue = s.writer.queue ∧ t.clock = s.clock)) ∧
  (∀ (s : State) (b : BayId) (seq : Byte) (x : Exchange) (r : RunningOrder), s.engine ≠ .off → s.engine ≠ .loading →
     (s.bay b).running = some r → (s.bay b).link.exchange = some x → x.seq = seq → x.expected = .ack →
     (s.session b).state = .releasing → (s.session b).begun = false →
     ∃ t, exec (.ack b seq) s = .next t ∧
       ((s.session b).gone = false →
         (∀ q p, (s.session b).latched = some (q, p) → s.removalAwaited t b r p.removalTimeout) ∧
         ((s.session b).latched = none → s.removalAwaited t b r s.prof.profiles[(0 : Fin 16)].removalTimeout) ∧
         (t.bay b).link.exchange = none ∧ (t.bay b).counters = (s.bay b).counters) ∧
       ((s.session b).gone = true →
         s.removalTaken t b r (s.session b).outcome (s.bay b).counters (s.bay b).link.presence.isPresent) ∧
       s.otherBaysSame t b ∧ t.ks = s.ks ∧ t.ceu = s.ceu ∧ t.cipher = s.cipher ∧ t.prof = s.prof ∧
       t.writer.queue = s.writer.queue ∧ t.clock = s.clock) ∧
  (∀ (s : State) (a : Area) (roll : Roll) (y z : Receipt) (rest : List Receipt) (more : List Submission) (b : BayId)
     (r : RunningOrder) (counters : Counters), s.engine = .running ∨ s.engine = .stopping → s.intake.area = some a →
     s.writer.state = .writing → s.writer.roll = some roll → s.writer.queue = y :: rest → s.ks.closure = none →
     roll.written < roll.capacity → s.writer.line = { submitter := .bay b, receipt := z } :: more →
     (s.session b).state = .filing → (s.session b).toFile = [] → (s.bay b).running = some r →
     (∀ reason, (s.session b).outcome = .void reason →
       counters = { (s.bay b).counters with voided := countUp (s.bay b).counters.voided }) →
     ((∀ reason, (s.session b).outcome ≠ .void reason) → counters = (s.bay b).counters) →
     ∃ t, exec .receiptWriteSequence s = .next t ∧
       t.writer.queue = rest ++ [{ z with time := s.clock }] ∧ t.writer.line = more ∧
       t.ks.requests = s.ks.requests ++ [.closure, .release b] ∧ (t.bay b).buffer = [] ∧
       (∀ code i, (s.session b).refusal = some (code, i) → s.planEnded t b r code (byteOf i.val) counters) ∧
       (∀ code, (s.session b).refusal = none →
         ((s.session b).ending = .halted ∧ code = .halted) ∨
           ((s.session b).ending = .engineStopped ∧ code = .engineStopped) →
         s.planEnded t b r code 0xFF counters) ∧
       ((s.session b).refusal = none → (s.session b).ending = .none → (s.session b).gone = false →
         (∀ q p, (s.session b).latched = some (q, p) → s.removalAwaited t b r p.removalTimeout) ∧
         (t.bay b).counters = counters) ∧
       ((s.session b).refusal = none → (s.session b).ending = .none → (s.session b).gone = true →
         s.removalTaken t b r (s.session b).outcome counters (s.bay b).link.presence.isPresent) ∧
       s.otherBaysSame t b ∧ t.ks.slots = s.ks.slots ∧ t.ceu = s.ceu ∧ t.cipher = s.cipher ∧ t.prof = s.prof ∧
       t.clock = s.clock)

/-! ## Cipher unit -/

/-- A bay's cipher results (R82 to R86, R125 to R127): the terminal key, the check value and the block are placed in the key
buffer and the item's next operation is submitted; after the last item BEGIN opens LOADING. A session that is not PREPARING
takes no result, one with a reason fixed files its terminal VOID, and a request that starts on a key the key store does not
give voids its terminal KEY_UNAVAILABLE. -/
def Obligations.CipherResultsOfBays : Prop :=
  (∀ (s : State) (b : BayId) (n : Nat) (i : SlotId) (g : BitVec 16) (ksn : Ksn) (key : Key), s.engine ≠ .off →
     s.cipher.waiting = [] →
     s.cipher.running = some { request := { requester := .bay b n, op := .derive i g ksn }, working := some key } →
     (∀ (x : ItemRecord) (k : KeyPlace), (s.session b).state = .preparing → (s.session b).reason = none →
       (s.session b).records[n]? = some x → (s.bay b).buffer[n]? = some k → x.applies = true → x.stage = .claimed →
       (∀ y ∈ (s.session b).records.take n, y.applies = true → y.stage = .prepared) →
       ∃ t, exec .deriveDone s = .next t ∧
         (t.bay b).buffer = (s.bay b).buffer.set n { k with terminalKey := some (Config.derive key ksn) } ∧
         (t.session b).records = (s.session b).records.set n { x with stage := .derived } ∧
         t.cipher = { running := some { request := { requester := .bay b n, op := .checkval (Config.derive key ksn) },
                                        working := none }, waiting := [] } ∧
         s.otherBaysSame t b ∧ t.ks = s.ks ∧ t.ceu = s.ceu ∧ t.writer.queue = s.writer.queue ∧ t.prof = s.prof ∧
         t.clock = s.clock) ∧
     ((s.session b).state ≠ .preparing →
       ∃ t, exec .deriveDone s = .next t ∧ t.bays = s.bays ∧ t.cipher = { running := none, waiting := [] } ∧ t.ks = s.ks ∧
         t.ceu = s.ceu ∧ t.writer.queue = s.writer.queue) ∧
     (∀ reason, (s.session b).state = .preparing → (s.session b).reason = some reason →
       ∃ t, exec .deriveDone s = .next t ∧ t.cipher = { running := none, waiting := [] } ∧ s.otherBaysSame t b ∧
         t.ks.slots = s.ks.slots ∧
         (16 ≤ s.writer.queue.length → (∃ y ∈ (s.session b).records, y.claim ≠ none) →
           (t.session b).state = .filing ∧ (t.session b).outcome = .void reason))) ∧
  (∀ (s : State) (b : BayId) (n : Nat) (key : Key) (w : Option Key) (x : ItemRecord) (k : KeyPlace), s.engine ≠ .off →
     s.cipher.waiting = [] →
     s.cipher.running = some { request := { requester := .bay b n, op := .checkval key }, working := w } →
     (s.session b).state = .preparing → (s.session b).reason = none → (s.session b).records[n]? = some x →
     (s.bay b).buffer[n]? = some k → x.applies = true → k.terminalKey = some key →
     (∀ y ∈ (s.session b).records.take n, y.applies = true → y.stage = .prepared) →
     (x.item.delivery = .direct → (∀ y ∈ (s.session b).records.drop (n + 1), y.applies = false) →
       ∃ t, exec .checkvalDone s = .next t ∧
         (t.bay b).buffer = (s.bay b).buffer.set n
           { k with checkValue := some (Config.checkValue key), block := some (keyBytes key) } ∧
         (t.session b).records = (s.session b).records.set n { x with stage := .prepared } ∧
         (t.session b).state = .loading ∧ (t.session b).begun = true ∧ (t.session b).delivery = .begin ∧
         ((s.session b).latched ≠ none → (t.bay b).link.exchange.map (·.frame) =
           some (.begin ((s.session b).records.countP (·.applies)))) ∧
         t.cipher = { running := none, waiting := [] } ∧ s.otherBaysSame t b ∧ t.ks = s.ks ∧ t.ceu = s.ceu ∧
         t.writer.queue = s.writer.queue ∧ t.clock = s.clock) ∧
     (∀ tr g key2, x.item.delivery = .wrapped tr → x.wrapGeneration = some g → (s.slot tr).keyFor g true = some key2 →
       ∃ t, exec .checkvalDone s = .next t ∧
         (t.bay b).buffer = (s.bay b).buffer.set n { k with checkValue := some (Config.checkValue key) } ∧
         (t.session b).records = (s.session b).records.set n { x with stage := .checked } ∧
         t.cipher = { running := some { request := { requester := .bay b n, op := .wrap tr g key }, working := some key2 },
                      waiting := [] } ∧
         s.otherBaysSame t b ∧ t.ks = s.ks ∧ t.ceu = s.ceu ∧ t.writer.queue = s.writer.queue ∧ t.clock = s.clock)) ∧
  ((∀ (s : State) (b : BayId) (n : Nat) (tr : SlotId) (g : BitVec 16) (operand key : Key) (x : ItemRecord) (k : KeyPlace),
     s.engine ≠ .off → s.cipher.waiting = [] →
     s.cipher.running = some { request := { requester := .bay b n, op := .wrap tr g operand }, working := some key } →
     (s.session b).state = .preparing → (s.session b).reason = none → (s.session b).records[n]? = some x →
     (s.bay b).buffer[n]? = some k → x.applies = true →
     (∀ y ∈ (s.session b).records.take n, y.applies = true → y.stage = .prepared) →
     (∀ y ∈ (s.session b).records.drop (n + 1), y.applies = false) →
     ∃ t, exec .wrapDone s = .next t ∧
       (t.bay b).buffer = (s.bay b).buffer.set n
         { k with block := some (toBE 32 (Config.wrap key operand).toNat), terminalKey := none } ∧
       (t.session b).records = (s.session b).records.set n { x with stage := .prepared } ∧
       (t.session b).state = .loading ∧ (t.session b).begun = true ∧
       ((s.session b).latched ≠ none → (t.bay b).link.exchange.map (·.frame) =
         some (.begin ((s.session b).records.countP (·.applies)))) ∧
       t.cipher = { running := none, waiting := [] } ∧ s.otherBaysSame t b ∧ t.ks = s.ks ∧ t.ceu = s.ceu ∧
       t.writer.queue = s.writer.queue ∧ t.clock = s.clock) ∧
   ∀ (s : State) (b : BayId) (n : Nat) (i : SlotId) (g : BitVec 16) (ksn : Ksn) (rest : List CipherRequest) (w : Option Key)
     (v : Key), s.engine ≠ .off → s.cipher.waiting = { requester := .bay b n, op := .derive i g ksn } :: rest →
     s.cipher.running = some { request := { requester := .component, op := .checkval v }, working := w } →
     s.ceu.record = .empty → s.ceu.arrivals = [] → (s.slot i).keyFor g false = none → rest = [] →
     (s.session b).state = .preparing → 16 ≤ s.writer.queue.length → (∃ y ∈ (s.session b).records, y.claim ≠ none) →
     ∃ t, exec .checkvalDone s = .next t ∧ t.cipher = { running := none, waiting := [] } ∧ (t.session b).state = .filing ∧
       (t.session b).outcome = .void ((s.session b).reason.getD .keyUnavailable) ∧ t.ks = s.ks)

/-! ## Receipt writer -/

/-- RECEIPT_WRITE_SEQUENCE, in RUNNING and STOPPING alike (R145, R151): the 64 bytes of the head receipt (section 11.6) go to
their place in the roll and CUR_ROLL_WRITTEN is updated, its closure is handed to the key store, and its entry leaves the
queue; a waiting submission is entered in its place (R143). The writer goes to WRITING again, to TAKING where the roll is
now full, or to IDLE with no entry left (R144). While a closure is pending a write sequence changes nothing (R145; that the
state moves and its access waits is the model's reading, log 30). In STOPPING the engine enters STANDBY where this write was
the last thing open, and the writer goes to INACTIVE (R7, R151). A ROLL_ROOM_BELOW watch fires where the room falls from its
threshold to below it, at the write or at the dropping of the roll (R174). -/
def Obligations.ReceiptWritten : Prop :=
  (∀ (r : Receipt) (sequence : BitVec 32) (index : Nat),
     (r.bytes sequence index).length = 64 ∧
     field (r.bytes sequence index) 0x00 8 =
       [r.outcome.codes.1, r.outcome.codes.2, if r.unconfirmed then 1 else 0, byteOf r.bay.val, byteOf r.slot.val,
        byteOf r.register.val, r.profile, 0] ∧
     field (r.bytes sequence index) 0x08 8 =
       toLE 2 r.generation.toNat ++ toLE 2 r.label.toNat ++ toLE 2 r.model.toNat ++ [0, 0] ∧
     field (r.bytes sequence index) 0x10 8 = toBE 8 r.ksn.toNat ∧
     field (r.bytes sequence index) 0x18 16 = toBE 16 r.terminal.toNat ∧
     field (r.bytes sequence index) 0x28 4 = toBE 3 r.checkValue.toNat ++ [0] ∧
     field (r.bytes sequence index) 0x2C 20 =
       toLE 4 r.time.toNat ++ toLE 4 r.tag.toNat ++ toLE 4 sequence.toNat ++ toLE 4 index ++ [0, 0, 0, 0]) ∧
  (∀ (s : State) (a : Area) (roll : Roll) (r : Receipt) (rest : List Receipt), s.engine = .running ∨ s.engine = .stopping →
     s.intake.area = some a → s.writer.state = .writing → s.writer.roll = some roll → s.writer.queue = r :: rest →
     roll.written < roll.capacity →
     (s.settled → s.ks.closure ≠ none → exec .receiptWriteSequence s = .next s.quiet) ∧
     (s.ks.closure = none → ∃ t, exec .receiptWriteSequence s = .next t ∧
       (∃ more, t.out =
         [.busWrite (roll.base + BitVec.ofNat 64 (roll.written * 64)) (r.bytes roll.sequence roll.written),
          .busWrite (a.base + BitVec.ofNat 64 0x2C) (toLE 4 (roll.written + 1))] ++ more) ∧
       t.ks.closure = some { slot := r.slot, generation := r.generation, bay := r.bay, serial := r.ksn.toNat % 2 ^ 20 } ∧
       (s.engine = .running → t.engine = .running) ∧
       (t.engine = s.engine → t.writer.roll = some { roll with written := roll.written + 1 } ∧
         t.events.room = roll.capacity - (roll.written + 1)) ∧
       (t.engine = s.engine → s.watchesFire t none) ∧
       (t.engine ≠ s.engine → s.writerLeft t ∧ s.dropFiresRoomWatches t) ∧
       (s.writer.line = [] → t.ks.slots = s.ks.slots ∧ t.writer.queue = rest ∧
         (t.engine ≠ s.engine ↔ s.engine = .stopping ∧ rest = [] ∧ s.nothingOpen) ∧
         (t.engine = s.engine →
           t.writer.state = (if rest = [] then .idle else if roll.written + 1 < roll.capacity then .writing else .taking)) ∧
         t.ks.requests = s.ks.requests ++ [.closure] ∧ t.bays = s.bays) ∧
       (∀ x more, s.writer.line = x :: more → ∃ tail, t.writer.queue = rest ++ { x.receipt with time := s.clock } :: tail) ∧
       t.writer.rollCount = s.writer.rollCount ∧ t.ceu = s.ceu ∧ t.cipher = s.cipher ∧ t.prof = s.prof ∧ t.clock = s.clock))

/-- TAKE_ATTEMPT, in RUNNING and STOPPING alike (R147 to R149, R151): while a closure is pending it changes nothing (R145; log
30). Otherwise a usable offer is taken with the next roll sequence; an offer that is not usable is declined with ROLL_FULL;
an attempt without an offer begins again with the read-again mark, and otherwise ends in IDLE or AWAIT_ROLL, which sets
ROLL_FULL unless the attempt began there and found READY at 0 (that a declined offer's write precedes the message of
ROLL_FULL is the model's choice, log 47; an attempt repeated from AWAIT_ROLL counts as begun there, the model's reading, log
41). In STOPPING the engine enters STANDBY where the attempt was the last thing open, and the writer goes to INACTIVE (R7),
which fires the ROLL_ROOM_BELOW watches that the room stood at or above; the taking of a roll fires none (R174). -/
def Obligations.TakeAttemptByOffer : Prop :=
  ∀ (s : State) (a : Area) (ready : BitVec 32) (base : BitVec 64) (capacity : BitVec 32),
    s.engine = .running ∨ s.engine = .stopping → s.settled → s.intake.area = some a → s.writer.state = .taking →
    (s.ks.closure ≠ none → exec (.takeAttempt ready base capacity) s = .next s.quiet) ∧
    (s.ks.closure = none → ∃ t, exec (.takeAttempt ready base capacity) s = .next t ∧ t.writer.queue = s.writer.queue ∧
      t.ks = s.ks ∧ t.ceu = s.ceu ∧ t.cipher = s.cipher ∧ t.bays = s.bays ∧ t.prof = s.prof ∧ t.clock = s.clock ∧
      (s.engine = .running → t.engine = .running) ∧ (t.engine = s.engine → s.watchesFire t none) ∧
      (t.engine ≠ s.engine → s.writerLeft t ∧ s.dropFiresRoomWatches t) ∧
      (ready = 1 → 16 ≤ capacity.toNat → capacity.toNat ≤ 65535 → base.toNat % 64 = 0 →
        (t.engine ≠ s.engine ↔ s.engine = .stopping ∧ s.writer.queue = [] ∧ s.nothingOpen) ∧
        (t.engine = s.engine →
          t.writer.roll =
            some { base := base, capacity := capacity.toNat, written := 0, sequence := s.writer.rollCount + 1 } ∧
          t.events.room = capacity.toNat ∧ t.writer.state = (if s.writer.queue = [] then .idle else .writing)) ∧
        t.writer.rollCount = s.writer.rollCount + 1 ∧ t.writer.readAgain = false ∧ t.hasFlag .rollTaken ∧
        ∃ more, t.out =
          [.busWrite (a.base + BitVec.ofNat 64 0x20) (toLE 8 base.toNat),
           .busWrite (a.base + BitVec.ofNat 64 0x28) (toLE 4 capacity.toNat),
           .busWrite (a.base + BitVec.ofNat 64 0x2C) (toLE 4 0),
           .busWrite (a.base + BitVec.ofNat 64 0x30) (toLE 4 (s.writer.rollCount + 1).toNat),
           .busWrite (a.base + BitVec.ofNat 64 0x1C) (toLE 4 0)] ++ more) ∧
      (ready = 1 → capacity.toNat < 16 ∨ 65535 < capacity.toNat ∨ base.toNat % 64 ≠ 0 →
        t.hasFlag .rollFull ∧ ∃ more, t.out = .busWrite (a.base + BitVec.ofNat 64 0x1C) (toLE 4 0) :: more) ∧
      (ready ≠ 1 ∨ capacity.toNat < 16 ∨ 65535 < capacity.toNat ∨ base.toNat % 64 ≠ 0 →
        t.writer.rollCount = s.writer.rollCount ∧ (t.engine = s.engine → t.writer.roll = s.writer.roll) ∧
        (s.writer.readAgain = true → t.engine = s.engine ∧ t.writer.state = .taking ∧ t.writer.readAgain = false) ∧
        (s.writer.readAgain = false →
          (t.engine ≠ s.engine ↔ s.engine = .stopping ∧ s.nothingOpen) ∧
          (s.writer.queue = [] → t.engine = s.engine → t.writer.state = .idle) ∧
          (s.writer.queue ≠ [] → (t.engine = s.engine → t.writer.state = .awaitRoll) ∧
            (s.writer.fromAwait = false ∨ ready ≠ 0 → t.hasFlag .rollFull)) ∧
          (s.writer.fromAwait = true → ready = 0 → t.engine = s.engine → t.events.flags = s.events.flags))))

/-! ## What every step keeps, and what the bytes of a link spell -/

/-- Every step keeps every slot's serials accounted for: next serial equals the receipted count plus the open claims, and with
the allowance it stays within the serial space (R53, R57). -/
def Obligations.SerialsAccountedAtEveryStep : Prop :=
  ∀ s t : State, step s = .next t → s.accounted → t.accounted

/-- Every step keeps the bounds of the order table, the receipt queue and the console queues (R17, R62, R142), every profile in
its range and every unused map entry as it is held (R155, R156), and a legal area with no sweep past its last visit and the
engine not left in STOPPING with the conditions of R7 met (R5, R7, R14). -/
def Obligations.StoresLegalAtEveryStep : Prop :=
  (∀ s t : State, step s = .next t → s.bounded → t.bounded) ∧
  (∀ s t : State, step s = .next t → s.prof.legal → t.prof.legal) ∧
  (∀ s t : State, step s = .next t → s.atRest → t.atRest)

/-- The machine after reset has the four invariants of the statements above about every step. -/
def Obligations.InvariantsHoldAtReset : Prop :=
  State.reset.accounted ∧ State.reset.bounded ∧ State.reset.prof.legal ∧ State.reset.atRest

/-- The receiver reads back every frame that is built, whatever gap timer its bytes arm, and is in HUNT again. The bytes of each
terminal frame and each console frame, arriving at a receiver in HUNT, have the effect of the command of that frame with the
operands the bytes carry (R62, R92 to R95). -/
def Obligations.FrameBytesSpellCommands : Prop :=
  (∀ (gap : Timer) (kind seq : Byte) (payload : List Byte), payload.length ≤ 40 →
     receiveBytes gap .hunt (buildFrame kind seq payload) = (.hunt, [.frame (kind :: seq :: payload)])) ∧
  ((∀ (s : State) (b : BayId), (s.bay b).link.receiver = .hunt →
     (∀ seq terminal model caps occupancy,
       exec (.bayLineError b (buildFrame 0x20 seq (toBE 16 (BitVec.toNat (w := 128) terminal) ++
         toBE 2 (BitVec.toNat (w := 16) model) ++ [caps, occupancy]))) s = exec (.ident b seq terminal model caps occupancy) s) ∧
     (∀ seq, exec (.bayLineError b (buildFrame 0x21 seq [])) s = exec (.ack b seq) s) ∧
     (∀ seq register value, exec (.bayLineError b (buildFrame 0x22 seq (register :: toBE 3 (BitVec.toNat (w := 24) value)))) s =
       exec (.check b seq register value) s) ∧
     ∀ seq reason, exec (.bayLineError b (buildFrame 0x23 seq [reason])) s = exec (.nak b seq reason) s) ∧
   ∀ (s : State) (c : ConsoleId), (s.console c).receiver = .hunt →
     (∀ seq id, exec (.consoleBadFrame c (buildFrame 0x40 seq (toBE 2 (BitVec.toNat (w := 16) id)))) s =
       exec (.cardIn c seq id) s) ∧
     (∀ seq, exec (.consoleBadFrame c (buildFrame 0x41 seq [])) s = exec (.cardOut c seq) s) ∧
     (∀ seq value entered, exec (.consoleBadFrame c (buildFrame 0x42 seq (toBE 16 (BitVec.toNat (w := 128) value) ++
       toBE 3 (BitVec.toNat (w := 24) entered)))) s = exec (.component c seq value entered) s) ∧
     (∀ seq, exec (.consoleBadFrame c (buildFrame 0x43 seq [])) s = exec (.approve c seq) s) ∧
     ∀ seq, exec (.consoleBadFrame c (buildFrame 0x44 seq [])) s = exec (.decline c seq) s)
end

