-- ==== Sys2Proof/Laws/Claiming.lean ====
section
/-!
SUPPORT. Laws/Claiming.lean: what an item needs from the key store, and the first item of a list that needs something (R123, R125).
-/

namespace Sys2Proof.Machine

theorem need_claim (x : ItemRecord) (h : x.needsClaim) : x.need = some (.claim x.item.base) := by
  simp [ItemRecord.need, h.1, h.2]

theorem need_wrap (x : ItemRecord) (i : SlotId) (h : x.needsWrap i) : x.need = some (.wrap i) := by
  obtain ⟨a, c, d, g⟩ := h
  obtain ⟨c', hc⟩ := Option.ne_none_iff_exists'.mp c
  simp [ItemRecord.need, a, hc, d, g]

theorem need_nothing (x : ItemRecord) (h : x.needsNothing) : x.need = none := by
  unfold ItemRecord.need
  split
  · rename_i a
    obtain ⟨c, d⟩ := h a
    obtain ⟨c', hc⟩ := Option.ne_none_iff_exists'.mp c
    rcases d with d | d
    · simp [hc, d]
    · obtain ⟨g, hg⟩ := Option.ne_none_iff_exists'.mp d
      simp [hc, hg]
  · rfl

/-- Items that need nothing are passed over. -/
theorem nextNeed_append (before rest : List ItemRecord) (n : Nat) (h : ∀ y ∈ before, y.needsNothing) :
    nextNeed (before ++ rest) n = nextNeed rest (n + before.length) := by
  induction before generalizing n with
  | nil => rfl
  | cons y before ih =>
    simp only [List.cons_append, nextNeed, need_nothing y (h y (by simp))]
    rw [ih (n + 1) fun z hz => h z (by simp [hz])]
    congr 1
    simp only [List.length_cons]
    omega

/-- With nothing needed CLAIMING is complete. -/
theorem nextNeed_none (l : List ItemRecord) (n : Nat) (h : ∀ y ∈ l, y.needsNothing) : nextNeed l n = none := by
  have k := nextNeed_append l [] n h
  rw [List.append_nil] at k
  rw [k]
  rfl

/-- Items whose condition does not hold are passed over in PREPARING. -/
theorem nextPreparation_append (buffer : List KeyPlace) (before rest : List ItemRecord) (n : Nat)
    (h : ∀ y ∈ before, y.applies = false) :
    nextPreparation buffer (before ++ rest) n = nextPreparation buffer rest (n + before.length) := by
  induction before generalizing n with
  | nil => rfl
  | cons y before ih =>
    simp only [List.cons_append, nextPreparation, h y (by simp)]
    rw [← show n + 1 + before.length = n + (y :: before).length by simp only [List.length_cons]; omega]
    exact ih (n + 1) fun z hz => h z (by simp [hz])

end Sys2Proof.Machine
end

