-- ==== Sys2Proof/Laws/State.lean ====
section
/-!
SUPPORT. Laws/State.lean: one simp lemma per field and update of State, so that no later proof unfolds a record update.
-/

namespace Sys2Proof.Machine


/-! ## updIntake -/

@[simp] theorem updIntake_pending (s : State) (f : Intake → Intake) : (s.updIntake f).pending = s.pending := rfl
@[simp] theorem updIntake_engine (s : State) (f : Intake → Intake) : (s.updIntake f).engine = s.engine := rfl
@[simp] theorem updIntake_clock (s : State) (f : Intake → Intake) : (s.updIntake f).clock = s.clock := rfl
@[simp] theorem updIntake_intake (s : State) (f : Intake → Intake) : (s.updIntake f).intake = f s.intake := rfl
@[simp] theorem updIntake_events (s : State) (f : Intake → Intake) : (s.updIntake f).events = s.events := rfl
@[simp] theorem updIntake_ks (s : State) (f : Intake → Intake) : (s.updIntake f).ks = s.ks := rfl
@[simp] theorem updIntake_ceu (s : State) (f : Intake → Intake) : (s.updIntake f).ceu = s.ceu := rfl
@[simp] theorem updIntake_cipher (s : State) (f : Intake → Intake) : (s.updIntake f).cipher = s.cipher := rfl
@[simp] theorem updIntake_bays (s : State) (f : Intake → Intake) : (s.updIntake f).bays = s.bays := rfl
@[simp] theorem updIntake_writer (s : State) (f : Intake → Intake) : (s.updIntake f).writer = s.writer := rfl
@[simp] theorem updIntake_prof (s : State) (f : Intake → Intake) : (s.updIntake f).prof = s.prof := rfl
@[simp] theorem updIntake_out (s : State) (f : Intake → Intake) : (s.updIntake f).out = s.out := rfl

/-! ## updKs -/

@[simp] theorem updKs_pending (s : State) (f : KeyStore → KeyStore) : (s.updKs f).pending = s.pending := rfl
@[simp] theorem updKs_engine (s : State) (f : KeyStore → KeyStore) : (s.updKs f).engine = s.engine := rfl
@[simp] theorem updKs_clock (s : State) (f : KeyStore → KeyStore) : (s.updKs f).clock = s.clock := rfl
@[simp] theorem updKs_intake (s : State) (f : KeyStore → KeyStore) : (s.updKs f).intake = s.intake := rfl
@[simp] theorem updKs_events (s : State) (f : KeyStore → KeyStore) : (s.updKs f).events = s.events := rfl
@[simp] theorem updKs_ks (s : State) (f : KeyStore → KeyStore) : (s.updKs f).ks = f s.ks := rfl
@[simp] theorem updKs_ceu (s : State) (f : KeyStore → KeyStore) : (s.updKs f).ceu = s.ceu := rfl
@[simp] theorem updKs_cipher (s : State) (f : KeyStore → KeyStore) : (s.updKs f).cipher = s.cipher := rfl
@[simp] theorem updKs_bays (s : State) (f : KeyStore → KeyStore) : (s.updKs f).bays = s.bays := rfl
@[simp] theorem updKs_writer (s : State) (f : KeyStore → KeyStore) : (s.updKs f).writer = s.writer := rfl
@[simp] theorem updKs_prof (s : State) (f : KeyStore → KeyStore) : (s.updKs f).prof = s.prof := rfl
@[simp] theorem updKs_out (s : State) (f : KeyStore → KeyStore) : (s.updKs f).out = s.out := rfl

/-! ## updCeu -/

@[simp] theorem updCeu_pending (s : State) (f : ComponentUnit → ComponentUnit) : (s.updCeu f).pending = s.pending := rfl
@[simp] theorem updCeu_engine (s : State) (f : ComponentUnit → ComponentUnit) : (s.updCeu f).engine = s.engine := rfl
@[simp] theorem updCeu_clock (s : State) (f : ComponentUnit → ComponentUnit) : (s.updCeu f).clock = s.clock := rfl
@[simp] theorem updCeu_intake (s : State) (f : ComponentUnit → ComponentUnit) : (s.updCeu f).intake = s.intake := rfl
@[simp] theorem updCeu_events (s : State) (f : ComponentUnit → ComponentUnit) : (s.updCeu f).events = s.events := rfl
@[simp] theorem updCeu_ks (s : State) (f : ComponentUnit → ComponentUnit) : (s.updCeu f).ks = s.ks := rfl
@[simp] theorem updCeu_ceu (s : State) (f : ComponentUnit → ComponentUnit) : (s.updCeu f).ceu = f s.ceu := rfl
@[simp] theorem updCeu_cipher (s : State) (f : ComponentUnit → ComponentUnit) : (s.updCeu f).cipher = s.cipher := rfl
@[simp] theorem updCeu_bays (s : State) (f : ComponentUnit → ComponentUnit) : (s.updCeu f).bays = s.bays := rfl
@[simp] theorem updCeu_writer (s : State) (f : ComponentUnit → ComponentUnit) : (s.updCeu f).writer = s.writer := rfl
@[simp] theorem updCeu_prof (s : State) (f : ComponentUnit → ComponentUnit) : (s.updCeu f).prof = s.prof := rfl
@[simp] theorem updCeu_out (s : State) (f : ComponentUnit → ComponentUnit) : (s.updCeu f).out = s.out := rfl

/-! ## updCipher -/

@[simp] theorem updCipher_pending (s : State) (f : CipherUnit → CipherUnit) : (s.updCipher f).pending = s.pending := rfl
@[simp] theorem updCipher_engine (s : State) (f : CipherUnit → CipherUnit) : (s.updCipher f).engine = s.engine := rfl
@[simp] theorem updCipher_clock (s : State) (f : CipherUnit → CipherUnit) : (s.updCipher f).clock = s.clock := rfl
@[simp] theorem updCipher_intake (s : State) (f : CipherUnit → CipherUnit) : (s.updCipher f).intake = s.intake := rfl
@[simp] theorem updCipher_events (s : State) (f : CipherUnit → CipherUnit) : (s.updCipher f).events = s.events := rfl
@[simp] theorem updCipher_ks (s : State) (f : CipherUnit → CipherUnit) : (s.updCipher f).ks = s.ks := rfl
@[simp] theorem updCipher_ceu (s : State) (f : CipherUnit → CipherUnit) : (s.updCipher f).ceu = s.ceu := rfl
@[simp] theorem updCipher_cipher (s : State) (f : CipherUnit → CipherUnit) : (s.updCipher f).cipher = f s.cipher := rfl
@[simp] theorem updCipher_bays (s : State) (f : CipherUnit → CipherUnit) : (s.updCipher f).bays = s.bays := rfl
@[simp] theorem updCipher_writer (s : State) (f : CipherUnit → CipherUnit) : (s.updCipher f).writer = s.writer := rfl
@[simp] theorem updCipher_prof (s : State) (f : CipherUnit → CipherUnit) : (s.updCipher f).prof = s.prof := rfl
@[simp] theorem updCipher_out (s : State) (f : CipherUnit → CipherUnit) : (s.updCipher f).out = s.out := rfl

/-! ## updWriter -/

@[simp] theorem updWriter_pending (s : State) (f : Writer → Writer) : (s.updWriter f).pending = s.pending := rfl
@[simp] theorem updWriter_engine (s : State) (f : Writer → Writer) : (s.updWriter f).engine = s.engine := rfl
@[simp] theorem updWriter_clock (s : State) (f : Writer → Writer) : (s.updWriter f).clock = s.clock := rfl
@[simp] theorem updWriter_intake (s : State) (f : Writer → Writer) : (s.updWriter f).intake = s.intake := rfl
@[simp] theorem updWriter_events (s : State) (f : Writer → Writer) : (s.updWriter f).events = s.events := rfl
@[simp] theorem updWriter_ks (s : State) (f : Writer → Writer) : (s.updWriter f).ks = s.ks := rfl
@[simp] theorem updWriter_ceu (s : State) (f : Writer → Writer) : (s.updWriter f).ceu = s.ceu := rfl
@[simp] theorem updWriter_cipher (s : State) (f : Writer → Writer) : (s.updWriter f).cipher = s.cipher := rfl
@[simp] theorem updWriter_bays (s : State) (f : Writer → Writer) : (s.updWriter f).bays = s.bays := rfl
@[simp] theorem updWriter_writer (s : State) (f : Writer → Writer) : (s.updWriter f).writer = f s.writer := rfl
@[simp] theorem updWriter_prof (s : State) (f : Writer → Writer) : (s.updWriter f).prof = s.prof := rfl
@[simp] theorem updWriter_out (s : State) (f : Writer → Writer) : (s.updWriter f).out = s.out := rfl

/-! ## updProf -/

@[simp] theorem updProf_pending (s : State) (f : ProfileStore → ProfileStore) : (s.updProf f).pending = s.pending := rfl
@[simp] theorem updProf_engine (s : State) (f : ProfileStore → ProfileStore) : (s.updProf f).engine = s.engine := rfl
@[simp] theorem updProf_clock (s : State) (f : ProfileStore → ProfileStore) : (s.updProf f).clock = s.clock := rfl
@[simp] theorem updProf_intake (s : State) (f : ProfileStore → ProfileStore) : (s.updProf f).intake = s.intake := rfl
@[simp] theorem updProf_events (s : State) (f : ProfileStore → ProfileStore) : (s.updProf f).events = s.events := rfl
@[simp] theorem updProf_ks (s : State) (f : ProfileStore → ProfileStore) : (s.updProf f).ks = s.ks := rfl
@[simp] theorem updProf_ceu (s : State) (f : ProfileStore → ProfileStore) : (s.updProf f).ceu = s.ceu := rfl
@[simp] theorem updProf_cipher (s : State) (f : ProfileStore → ProfileStore) : (s.updProf f).cipher = s.cipher := rfl
@[simp] theorem updProf_bays (s : State) (f : ProfileStore → ProfileStore) : (s.updProf f).bays = s.bays := rfl
@[simp] theorem updProf_writer (s : State) (f : ProfileStore → ProfileStore) : (s.updProf f).writer = s.writer := rfl
@[simp] theorem updProf_prof (s : State) (f : ProfileStore → ProfileStore) : (s.updProf f).prof = f s.prof := rfl
@[simp] theorem updProf_out (s : State) (f : ProfileStore → ProfileStore) : (s.updProf f).out = s.out := rfl

/-! ## updBay -/

@[simp] theorem updBay_pending (s : State) (b : BayId) (f : Bay → Bay) : (s.updBay b f).pending = s.pending := rfl
@[simp] theorem updBay_engine (s : State) (b : BayId) (f : Bay → Bay) : (s.updBay b f).engine = s.engine := rfl
@[simp] theorem updBay_clock (s : State) (b : BayId) (f : Bay → Bay) : (s.updBay b f).clock = s.clock := rfl
@[simp] theorem updBay_intake (s : State) (b : BayId) (f : Bay → Bay) : (s.updBay b f).intake = s.intake := rfl
@[simp] theorem updBay_events (s : State) (b : BayId) (f : Bay → Bay) : (s.updBay b f).events = s.events := rfl
@[simp] theorem updBay_ks (s : State) (b : BayId) (f : Bay → Bay) : (s.updBay b f).ks = s.ks := rfl
@[simp] theorem updBay_ceu (s : State) (b : BayId) (f : Bay → Bay) : (s.updBay b f).ceu = s.ceu := rfl
@[simp] theorem updBay_cipher (s : State) (b : BayId) (f : Bay → Bay) : (s.updBay b f).cipher = s.cipher := rfl
@[simp] theorem updBay_writer (s : State) (b : BayId) (f : Bay → Bay) : (s.updBay b f).writer = s.writer := rfl
@[simp] theorem updBay_prof (s : State) (b : BayId) (f : Bay → Bay) : (s.updBay b f).prof = s.prof := rfl
@[simp] theorem updBay_out (s : State) (b : BayId) (f : Bay → Bay) : (s.updBay b f).out = s.out := rfl

/-! ## updLink -/

@[simp] theorem updLink_pending (s : State) (b : BayId) (f : Link → Link) : (s.updLink b f).pending = s.pending := rfl
@[simp] theorem updLink_engine (s : State) (b : BayId) (f : Link → Link) : (s.updLink b f).engine = s.engine := rfl
@[simp] theorem updLink_clock (s : State) (b : BayId) (f : Link → Link) : (s.updLink b f).clock = s.clock := rfl
@[simp] theorem updLink_intake (s : State) (b : BayId) (f : Link → Link) : (s.updLink b f).intake = s.intake := rfl
@[simp] theorem updLink_events (s : State) (b : BayId) (f : Link → Link) : (s.updLink b f).events = s.events := rfl
@[simp] theorem updLink_ks (s : State) (b : BayId) (f : Link → Link) : (s.updLink b f).ks = s.ks := rfl
@[simp] theorem updLink_ceu (s : State) (b : BayId) (f : Link → Link) : (s.updLink b f).ceu = s.ceu := rfl
@[simp] theorem updLink_cipher (s : State) (b : BayId) (f : Link → Link) : (s.updLink b f).cipher = s.cipher := rfl
@[simp] theorem updLink_writer (s : State) (b : BayId) (f : Link → Link) : (s.updLink b f).writer = s.writer := rfl
@[simp] theorem updLink_prof (s : State) (b : BayId) (f : Link → Link) : (s.updLink b f).prof = s.prof := rfl
@[simp] theorem updLink_out (s : State) (b : BayId) (f : Link → Link) : (s.updLink b f).out = s.out := rfl

/-! ## updSession -/

@[simp] theorem updSession_pending (s : State) (b : BayId) (f : Session → Session) : (s.updSession b f).pending = s.pending := rfl
@[simp] theorem updSession_engine (s : State) (b : BayId) (f : Session → Session) : (s.updSession b f).engine = s.engine := rfl
@[simp] theorem updSession_clock (s : State) (b : BayId) (f : Session → Session) : (s.updSession b f).clock = s.clock := rfl
@[simp] theorem updSession_intake (s : State) (b : BayId) (f : Session → Session) : (s.updSession b f).intake = s.intake := rfl
@[simp] theorem updSession_events (s : State) (b : BayId) (f : Session → Session) : (s.updSession b f).events = s.events := rfl
@[simp] theorem updSession_ks (s : State) (b : BayId) (f : Session → Session) : (s.updSession b f).ks = s.ks := rfl
@[simp] theorem updSession_ceu (s : State) (b : BayId) (f : Session → Session) : (s.updSession b f).ceu = s.ceu := rfl
@[simp] theorem updSession_cipher (s : State) (b : BayId) (f : Session → Session) : (s.updSession b f).cipher = s.cipher := rfl
@[simp] theorem updSession_writer (s : State) (b : BayId) (f : Session → Session) : (s.updSession b f).writer = s.writer := rfl
@[simp] theorem updSession_prof (s : State) (b : BayId) (f : Session → Session) : (s.updSession b f).prof = s.prof := rfl
@[simp] theorem updSession_out (s : State) (b : BayId) (f : Session → Session) : (s.updSession b f).out = s.out := rfl

/-! ## updCounters -/

@[simp] theorem updCounters_pending (s : State) (b : BayId) (f : Counters → Counters) : (s.updCounters b f).pending = s.pending := rfl
@[simp] theorem updCounters_engine (s : State) (b : BayId) (f : Counters → Counters) : (s.updCounters b f).engine = s.engine := rfl
@[simp] theorem updCounters_clock (s : State) (b : BayId) (f : Counters → Counters) : (s.updCounters b f).clock = s.clock := rfl
@[simp] theorem updCounters_intake (s : State) (b : BayId) (f : Counters → Counters) : (s.updCounters b f).intake = s.intake := rfl
@[simp] theorem updCounters_events (s : State) (b : BayId) (f : Counters → Counters) : (s.updCounters b f).events = s.events := rfl
@[simp] theorem updCounters_ks (s : State) (b : BayId) (f : Counters → Counters) : (s.updCounters b f).ks = s.ks := rfl
@[simp] theorem updCounters_ceu (s : State) (b : BayId) (f : Counters → Counters) : (s.updCounters b f).ceu = s.ceu := rfl
@[simp] theorem updCounters_cipher (s : State) (b : BayId) (f : Counters → Counters) : (s.updCounters b f).cipher = s.cipher := rfl
@[simp] theorem updCounters_writer (s : State) (b : BayId) (f : Counters → Counters) : (s.updCounters b f).writer = s.writer := rfl
@[simp] theorem updCounters_prof (s : State) (b : BayId) (f : Counters → Counters) : (s.updCounters b f).prof = s.prof := rfl
@[simp] theorem updCounters_out (s : State) (b : BayId) (f : Counters → Counters) : (s.updCounters b f).out = s.out := rfl

/-! ## updConsole -/

@[simp] theorem updConsole_pending (s : State) (c : ConsoleId) (f : Console → Console) : (s.updConsole c f).pending = s.pending := rfl
@[simp] theorem updConsole_engine (s : State) (c : ConsoleId) (f : Console → Console) : (s.updConsole c f).engine = s.engine := rfl
@[simp] theorem updConsole_clock (s : State) (c : ConsoleId) (f : Console → Console) : (s.updConsole c f).clock = s.clock := rfl
@[simp] theorem updConsole_intake (s : State) (c : ConsoleId) (f : Console → Console) : (s.updConsole c f).intake = s.intake := rfl
@[simp] theorem updConsole_events (s : State) (c : ConsoleId) (f : Console → Console) : (s.updConsole c f).events = s.events := rfl
@[simp] theorem updConsole_ks (s : State) (c : ConsoleId) (f : Console → Console) : (s.updConsole c f).ks = s.ks := rfl
@[simp] theorem updConsole_cipher (s : State) (c : ConsoleId) (f : Console → Console) : (s.updConsole c f).cipher = s.cipher := rfl
@[simp] theorem updConsole_bays (s : State) (c : ConsoleId) (f : Console → Console) : (s.updConsole c f).bays = s.bays := rfl
@[simp] theorem updConsole_writer (s : State) (c : ConsoleId) (f : Console → Console) : (s.updConsole c f).writer = s.writer := rfl
@[simp] theorem updConsole_prof (s : State) (c : ConsoleId) (f : Console → Console) : (s.updConsole c f).prof = s.prof := rfl
@[simp] theorem updConsole_out (s : State) (c : ConsoleId) (f : Console → Console) : (s.updConsole c f).out = s.out := rfl

/-! ## emit -/

@[simp] theorem emit_pending (s : State) (o : List Output) : (s.emit o).pending = s.pending := rfl
@[simp] theorem emit_engine (s : State) (o : List Output) : (s.emit o).engine = s.engine := rfl
@[simp] theorem emit_clock (s : State) (o : List Output) : (s.emit o).clock = s.clock := rfl
@[simp] theorem emit_intake (s : State) (o : List Output) : (s.emit o).intake = s.intake := rfl
@[simp] theorem emit_events (s : State) (o : List Output) : (s.emit o).events = s.events := rfl
@[simp] theorem emit_ks (s : State) (o : List Output) : (s.emit o).ks = s.ks := rfl
@[simp] theorem emit_ceu (s : State) (o : List Output) : (s.emit o).ceu = s.ceu := rfl
@[simp] theorem emit_cipher (s : State) (o : List Output) : (s.emit o).cipher = s.cipher := rfl
@[simp] theorem emit_bays (s : State) (o : List Output) : (s.emit o).bays = s.bays := rfl
@[simp] theorem emit_writer (s : State) (o : List Output) : (s.emit o).writer = s.writer := rfl
@[simp] theorem emit_prof (s : State) (o : List Output) : (s.emit o).prof = s.prof := rfl
@[simp] theorem emit_out (s : State) (o : List Output) : (s.emit o).out = s.out ++ o := rfl

/-! ## setEvents, raiseBits, raise, report -/

@[simp] theorem setEvents_pending (s : State) (e : EventUnit) : (s.setEvents e).pending = s.pending := rfl
@[simp] theorem setEvents_engine (s : State) (e : EventUnit) : (s.setEvents e).engine = s.engine := rfl
@[simp] theorem setEvents_clock (s : State) (e : EventUnit) : (s.setEvents e).clock = s.clock := rfl
@[simp] theorem setEvents_intake (s : State) (e : EventUnit) : (s.setEvents e).intake = s.intake := rfl
@[simp] theorem setEvents_events (s : State) (e : EventUnit) : (s.setEvents e).events = e := rfl
@[simp] theorem setEvents_ks (s : State) (e : EventUnit) : (s.setEvents e).ks = s.ks := rfl
@[simp] theorem setEvents_ceu (s : State) (e : EventUnit) : (s.setEvents e).ceu = s.ceu := rfl
@[simp] theorem setEvents_cipher (s : State) (e : EventUnit) : (s.setEvents e).cipher = s.cipher := rfl
@[simp] theorem setEvents_bays (s : State) (e : EventUnit) : (s.setEvents e).bays = s.bays := rfl
@[simp] theorem setEvents_writer (s : State) (e : EventUnit) : (s.setEvents e).writer = s.writer := rfl
@[simp] theorem setEvents_prof (s : State) (e : EventUnit) : (s.setEvents e).prof = s.prof := rfl
@[simp] theorem raiseBits_pending (s : State) (x : BitVec 16) : (s.raiseBits x).pending = s.pending := rfl
@[simp] theorem raiseBits_engine (s : State) (x : BitVec 16) : (s.raiseBits x).engine = s.engine := rfl
@[simp] theorem raiseBits_clock (s : State) (x : BitVec 16) : (s.raiseBits x).clock = s.clock := rfl
@[simp] theorem raiseBits_intake (s : State) (x : BitVec 16) : (s.raiseBits x).intake = s.intake := rfl
@[simp] theorem raiseBits_events (s : State) (x : BitVec 16) : (s.raiseBits x).events = { s.events with flags := s.events.flags ||| x } := rfl
@[simp] theorem raiseBits_ks (s : State) (x : BitVec 16) : (s.raiseBits x).ks = s.ks := rfl
@[simp] theorem raiseBits_ceu (s : State) (x : BitVec 16) : (s.raiseBits x).ceu = s.ceu := rfl
@[simp] theorem raiseBits_cipher (s : State) (x : BitVec 16) : (s.raiseBits x).cipher = s.cipher := rfl
@[simp] theorem raiseBits_bays (s : State) (x : BitVec 16) : (s.raiseBits x).bays = s.bays := rfl
@[simp] theorem raiseBits_writer (s : State) (x : BitVec 16) : (s.raiseBits x).writer = s.writer := rfl
@[simp] theorem raiseBits_prof (s : State) (x : BitVec 16) : (s.raiseBits x).prof = s.prof := rfl
@[simp] theorem raise_pending (s : State) (x : Flag) : (s.raise x).pending = s.pending := rfl
@[simp] theorem raise_engine (s : State) (x : Flag) : (s.raise x).engine = s.engine := rfl
@[simp] theorem raise_clock (s : State) (x : Flag) : (s.raise x).clock = s.clock := rfl
@[simp] theorem raise_intake (s : State) (x : Flag) : (s.raise x).intake = s.intake := rfl
@[simp] theorem raise_events (s : State) (x : Flag) : (s.raise x).events = { s.events with flags := s.events.flags ||| x.bit } := rfl
@[simp] theorem raise_ks (s : State) (x : Flag) : (s.raise x).ks = s.ks := rfl
@[simp] theorem raise_ceu (s : State) (x : Flag) : (s.raise x).ceu = s.ceu := rfl
@[simp] theorem raise_cipher (s : State) (x : Flag) : (s.raise x).cipher = s.cipher := rfl
@[simp] theorem raise_bays (s : State) (x : Flag) : (s.raise x).bays = s.bays := rfl
@[simp] theorem raise_writer (s : State) (x : Flag) : (s.raise x).writer = s.writer := rfl
@[simp] theorem raise_prof (s : State) (x : Flag) : (s.raise x).prof = s.prof := rfl
@[simp] theorem report_pending (s : State) (x : Watch → Bool) : (s.report x).pending = s.pending := rfl
@[simp] theorem report_engine (s : State) (x : Watch → Bool) : (s.report x).engine = s.engine := rfl
@[simp] theorem report_clock (s : State) (x : Watch → Bool) : (s.report x).clock = s.clock := rfl
@[simp] theorem report_intake (s : State) (x : Watch → Bool) : (s.report x).intake = s.intake := rfl
@[simp] theorem report_events (s : State) (x : Watch → Bool) : (s.report x).events = { s.events with flags := s.events.flags ||| s.events.fired x } := rfl
@[simp] theorem report_ks (s : State) (x : Watch → Bool) : (s.report x).ks = s.ks := rfl
@[simp] theorem report_ceu (s : State) (x : Watch → Bool) : (s.report x).ceu = s.ceu := rfl
@[simp] theorem report_cipher (s : State) (x : Watch → Bool) : (s.report x).cipher = s.cipher := rfl
@[simp] theorem report_bays (s : State) (x : Watch → Bool) : (s.report x).bays = s.bays := rfl
@[simp] theorem report_writer (s : State) (x : Watch → Bool) : (s.report x).writer = s.writer := rfl
@[simp] theorem report_prof (s : State) (x : Watch → Bool) : (s.report x).prof = s.prof := rfl

/-! ## setSlot, updSlot, request, setCondition, hold -/

@[simp] theorem setSlot_pending (s : State) (i : SlotId) (x : Slot) : (s.setSlot i x).pending = s.pending := rfl
@[simp] theorem updSlot_pending (s : State) (i : SlotId) (f : Slot → Slot) : (s.updSlot i f).pending = s.pending := rfl
@[simp] theorem setSlot_engine (s : State) (i : SlotId) (x : Slot) : (s.setSlot i x).engine = s.engine := rfl
@[simp] theorem updSlot_engine (s : State) (i : SlotId) (f : Slot → Slot) : (s.updSlot i f).engine = s.engine := rfl
@[simp] theorem setSlot_clock (s : State) (i : SlotId) (x : Slot) : (s.setSlot i x).clock = s.clock := rfl
@[simp] theorem updSlot_clock (s : State) (i : SlotId) (f : Slot → Slot) : (s.updSlot i f).clock = s.clock := rfl
@[simp] theorem setSlot_intake (s : State) (i : SlotId) (x : Slot) : (s.setSlot i x).intake = s.intake := rfl
@[simp] theorem updSlot_intake (s : State) (i : SlotId) (f : Slot → Slot) : (s.updSlot i f).intake = s.intake := rfl
@[simp] theorem setSlot_ceu (s : State) (i : SlotId) (x : Slot) : (s.setSlot i x).ceu = s.ceu := rfl
@[simp] theorem updSlot_ceu (s : State) (i : SlotId) (f : Slot → Slot) : (s.updSlot i f).ceu = s.ceu := rfl
@[simp] theorem setSlot_cipher (s : State) (i : SlotId) (x : Slot) : (s.setSlot i x).cipher = s.cipher := rfl
@[simp] theorem updSlot_cipher (s : State) (i : SlotId) (f : Slot → Slot) : (s.updSlot i f).cipher = s.cipher := rfl
@[simp] theorem setSlot_bays (s : State) (i : SlotId) (x : Slot) : (s.setSlot i x).bays = s.bays := rfl
@[simp] theorem updSlot_bays (s : State) (i : SlotId) (f : Slot → Slot) : (s.updSlot i f).bays = s.bays := rfl
@[simp] theorem setSlot_writer (s : State) (i : SlotId) (x : Slot) : (s.setSlot i x).writer = s.writer := rfl
@[simp] theorem updSlot_writer (s : State) (i : SlotId) (f : Slot → Slot) : (s.updSlot i f).writer = s.writer := rfl
@[simp] theorem setSlot_prof (s : State) (i : SlotId) (x : Slot) : (s.setSlot i x).prof = s.prof := rfl
@[simp] theorem updSlot_prof (s : State) (i : SlotId) (f : Slot → Slot) : (s.updSlot i f).prof = s.prof := rfl
@[simp] theorem request_pending (s : State) (r : KsRequest) : (s.request r).pending = s.pending := rfl
@[simp] theorem request_engine (s : State) (r : KsRequest) : (s.request r).engine = s.engine := rfl
@[simp] theorem request_clock (s : State) (r : KsRequest) : (s.request r).clock = s.clock := rfl
@[simp] theorem request_intake (s : State) (r : KsRequest) : (s.request r).intake = s.intake := rfl
@[simp] theorem request_events (s : State) (r : KsRequest) : (s.request r).events = s.events := rfl
@[simp] theorem request_ceu (s : State) (r : KsRequest) : (s.request r).ceu = s.ceu := rfl
@[simp] theorem request_cipher (s : State) (r : KsRequest) : (s.request r).cipher = s.cipher := rfl
@[simp] theorem request_bays (s : State) (r : KsRequest) : (s.request r).bays = s.bays := rfl
@[simp] theorem request_writer (s : State) (r : KsRequest) : (s.request r).writer = s.writer := rfl
@[simp] theorem request_prof (s : State) (r : KsRequest) : (s.request r).prof = s.prof := rfl
@[simp] theorem request_out (s : State) (r : KsRequest) : (s.request r).out = s.out := rfl
@[simp] theorem setCondition_pending (s : State) (n : Nat) (c : EntryCondition) : (s.setCondition n c).pending = s.pending := rfl
@[simp] theorem hold_pending (s : State) (e : Entry) : (s.hold e).pending = s.pending := rfl
@[simp] theorem setCondition_engine (s : State) (n : Nat) (c : EntryCondition) : (s.setCondition n c).engine = s.engine := rfl
@[simp] theorem hold_engine (s : State) (e : Entry) : (s.hold e).engine = s.engine := rfl
@[simp] theorem setCondition_clock (s : State) (n : Nat) (c : EntryCondition) : (s.setCondition n c).clock = s.clock := rfl
@[simp] theorem hold_clock (s : State) (e : Entry) : (s.hold e).clock = s.clock := rfl
@[simp] theorem setCondition_events (s : State) (n : Nat) (c : EntryCondition) : (s.setCondition n c).events = s.events := rfl
@[simp] theorem hold_events (s : State) (e : Entry) : (s.hold e).events = s.events := rfl
@[simp] theorem setCondition_ks (s : State) (n : Nat) (c : EntryCondition) : (s.setCondition n c).ks = s.ks := rfl
@[simp] theorem hold_ks (s : State) (e : Entry) : (s.hold e).ks = s.ks := rfl
@[simp] theorem setCondition_ceu (s : State) (n : Nat) (c : EntryCondition) : (s.setCondition n c).ceu = s.ceu := rfl
@[simp] theorem hold_ceu (s : State) (e : Entry) : (s.hold e).ceu = s.ceu := rfl
@[simp] theorem setCondition_cipher (s : State) (n : Nat) (c : EntryCondition) : (s.setCondition n c).cipher = s.cipher := rfl
@[simp] theorem hold_cipher (s : State) (e : Entry) : (s.hold e).cipher = s.cipher := rfl
@[simp] theorem setCondition_bays (s : State) (n : Nat) (c : EntryCondition) : (s.setCondition n c).bays = s.bays := rfl
@[simp] theorem hold_bays (s : State) (e : Entry) : (s.hold e).bays = s.bays := rfl
@[simp] theorem setCondition_writer (s : State) (n : Nat) (c : EntryCondition) : (s.setCondition n c).writer = s.writer := rfl
@[simp] theorem hold_writer (s : State) (e : Entry) : (s.hold e).writer = s.writer := rfl
@[simp] theorem setCondition_prof (s : State) (n : Nat) (c : EntryCondition) : (s.setCondition n c).prof = s.prof := rfl
@[simp] theorem hold_prof (s : State) (e : Entry) : (s.hold e).prof = s.prof := rfl
@[simp] theorem setCondition_out (s : State) (n : Nat) (c : EntryCondition) : (s.setCondition n c).out = s.out := rfl
@[simp] theorem hold_out (s : State) (e : Entry) : (s.hold e).out = s.out := rfl
@[simp] theorem updBay_bays (s : State) (b : BayId) (f : Bay → Bay) : (s.updBay b f).bays = s.bays.set b (f (s.bay b)) := rfl
@[simp] theorem updConsole_ceu (s : State) (c : ConsoleId) (f : Console → Console) :
    (s.updConsole c f).ceu = { s.ceu with consoles := s.ceu.consoles.set c (f (s.console c)) } := rfl
@[simp] theorem setSlot_ks (s : State) (i : SlotId) (x : Slot) : (s.setSlot i x).ks = { s.ks with slots := s.ks.slots.set i x } := rfl
@[simp] theorem updSlot_ks (s : State) (i : SlotId) (f : Slot → Slot) :
    (s.updSlot i f).ks = { s.ks with slots := s.ks.slots.set i (f (s.slot i)) } := rfl
@[simp] theorem setSlot_events (s : State) (i : SlotId) (x : Slot) : (s.setSlot i x).events =
    { s.events with flags := s.events.flags ||| s.events.fired (Watch.firesOnSlot i (s.slot i) x) } := rfl
@[simp] theorem updSlot_events (s : State) (i : SlotId) (f : Slot → Slot) : (s.updSlot i f).events =
    { s.events with flags := s.events.flags ||| s.events.fired (Watch.firesOnSlot i (s.slot i) (f (s.slot i))) } := rfl
@[simp] theorem request_ks (s : State) (r : KsRequest) : (s.request r).ks = { s.ks with requests := s.ks.requests ++ [r] } := rfl
@[simp] theorem setCondition_intake (s : State) (n : Nat) (c : EntryCondition) : (s.setCondition n c).intake =
    { s.intake with table := s.intake.table.map fun e => if e.cell = n then e.withCondition c else e } := rfl
@[simp] theorem hold_intake (s : State) (e : Entry) : (s.hold e).intake =
    { s.intake with table := s.intake.table.map fun x => if x.cell = e.cell then x.withCondition .withOwner else x } := rfl

/-! ## Reads of a bay, a session, a slot and a console across updates of other parts -/

@[simp] theorem updIntake_bay (s : State) (f : Intake → Intake) (z : BayId) : (s.updIntake f).bay z = s.bay z := rfl
@[simp] theorem updIntake_session (s : State) (f : Intake → Intake) (z : BayId) : (s.updIntake f).session z = s.session z := rfl
@[simp] theorem updIntake_slot (s : State) (f : Intake → Intake) (z : SlotId) : (s.updIntake f).slot z = s.slot z := rfl
@[simp] theorem updIntake_console (s : State) (f : Intake → Intake) (z : ConsoleId) : (s.updIntake f).console z = s.console z := rfl
@[simp] theorem updKs_bay (s : State) (f : KeyStore → KeyStore) (z : BayId) : (s.updKs f).bay z = s.bay z := rfl
@[simp] theorem updKs_session (s : State) (f : KeyStore → KeyStore) (z : BayId) : (s.updKs f).session z = s.session z := rfl
@[simp] theorem updKs_console (s : State) (f : KeyStore → KeyStore) (z : ConsoleId) : (s.updKs f).console z = s.console z := rfl
@[simp] theorem updCeu_bay (s : State) (f : ComponentUnit → ComponentUnit) (z : BayId) : (s.updCeu f).bay z = s.bay z := rfl
@[simp] theorem updCeu_session (s : State) (f : ComponentUnit → ComponentUnit) (z : BayId) : (s.updCeu f).session z = s.session z := rfl
@[simp] theorem updCeu_slot (s : State) (f : ComponentUnit → ComponentUnit) (z : SlotId) : (s.updCeu f).slot z = s.slot z := rfl
@[simp] theorem updCipher_bay (s : State) (f : CipherUnit → CipherUnit) (z : BayId) : (s.updCipher f).bay z = s.bay z := rfl
@[simp] theorem updCipher_session (s : State) (f : CipherUnit → CipherUnit) (z : BayId) : (s.updCipher f).session z = s.session z := rfl
@[simp] theorem updCipher_slot (s : State) (f : CipherUnit → CipherUnit) (z : SlotId) : (s.updCipher f).slot z = s.slot z := rfl
@[simp] theorem updCipher_console (s : State) (f : CipherUnit → CipherUnit) (z : ConsoleId) : (s.updCipher f).console z = s.console z := rfl
@[simp] theorem updWriter_bay (s : State) (f : Writer → Writer) (z : BayId) : (s.updWriter f).bay z = s.bay z := rfl
@[simp] theorem updWriter_session (s : State) (f : Writer → Writer) (z : BayId) : (s.updWriter f).session z = s.session z := rfl
@[simp] theorem updWriter_slot (s : State) (f : Writer → Writer) (z : SlotId) : (s.updWriter f).slot z = s.slot z := rfl
@[simp] theorem updWriter_console (s : State) (f : Writer → Writer) (z : ConsoleId) : (s.updWriter f).console z = s.console z := rfl
@[simp] theorem updProf_bay (s : State) (f : ProfileStore → ProfileStore) (z : BayId) : (s.updProf f).bay z = s.bay z := rfl
@[simp] theorem updProf_session (s : State) (f : ProfileStore → ProfileStore) (z : BayId) : (s.updProf f).session z = s.session z := rfl
@[simp] theorem updProf_slot (s : State) (f : ProfileStore → ProfileStore) (z : SlotId) : (s.updProf f).slot z = s.slot z := rfl
@[simp] theorem updProf_console (s : State) (f : ProfileStore → ProfileStore) (z : ConsoleId) : (s.updProf f).console z = s.console z := rfl
@[simp] theorem emit_bay (s : State) (o : List Output) (z : BayId) : (s.emit o).bay z = s.bay z := rfl
@[simp] theorem emit_session (s : State) (o : List Output) (z : BayId) : (s.emit o).session z = s.session z := rfl
@[simp] theorem emit_slot (s : State) (o : List Output) (z : SlotId) : (s.emit o).slot z = s.slot z := rfl
@[simp] theorem emit_console (s : State) (o : List Output) (z : ConsoleId) : (s.emit o).console z = s.console z := rfl
@[simp] theorem setEvents_bay (s : State) (e : EventUnit) (z : BayId) : (s.setEvents e).bay z = s.bay z := rfl
@[simp] theorem setEvents_session (s : State) (e : EventUnit) (z : BayId) : (s.setEvents e).session z = s.session z := rfl
@[simp] theorem setEvents_slot (s : State) (e : EventUnit) (z : SlotId) : (s.setEvents e).slot z = s.slot z := rfl
@[simp] theorem setEvents_console (s : State) (e : EventUnit) (z : ConsoleId) : (s.setEvents e).console z = s.console z := rfl
@[simp] theorem raiseBits_bay (s : State) (x : BitVec 16) (z : BayId) : (s.raiseBits x).bay z = s.bay z := rfl
@[simp] theorem raiseBits_session (s : State) (x : BitVec 16) (z : BayId) : (s.raiseBits x).session z = s.session z := rfl
@[simp] theorem raiseBits_slot (s : State) (x : BitVec 16) (z : SlotId) : (s.raiseBits x).slot z = s.slot z := rfl
@[simp] theorem raiseBits_console (s : State) (x : BitVec 16) (z : ConsoleId) : (s.raiseBits x).console z = s.console z := rfl
@[simp] theorem raise_bay (s : State) (x : Flag) (z : BayId) : (s.raise x).bay z = s.bay z := rfl
@[simp] theorem raise_session (s : State) (x : Flag) (z : BayId) : (s.raise x).session z = s.session z := rfl
@[simp] theorem raise_slot (s : State) (x : Flag) (z : SlotId) : (s.raise x).slot z = s.slot z := rfl
@[simp] theorem raise_console (s : State) (x : Flag) (z : ConsoleId) : (s.raise x).console z = s.console z := rfl
@[simp] theorem report_bay (s : State) (x : Watch → Bool) (z : BayId) : (s.report x).bay z = s.bay z := rfl
@[simp] theorem report_session (s : State) (x : Watch → Bool) (z : BayId) : (s.report x).session z = s.session z := rfl
@[simp] theorem report_slot (s : State) (x : Watch → Bool) (z : SlotId) : (s.report x).slot z = s.slot z := rfl
@[simp] theorem report_console (s : State) (x : Watch → Bool) (z : ConsoleId) : (s.report x).console z = s.console z := rfl
@[simp] theorem setSlot_bay (s : State) (i : SlotId) (x : Slot) (z : BayId) : (s.setSlot i x).bay z = s.bay z := rfl
@[simp] theorem setSlot_session (s : State) (i : SlotId) (x : Slot) (z : BayId) : (s.setSlot i x).session z = s.session z := rfl
@[simp] theorem setSlot_console (s : State) (i : SlotId) (x : Slot) (z : ConsoleId) : (s.setSlot i x).console z = s.console z := rfl
@[simp] theorem updSlot_bay (s : State) (i : SlotId) (f : Slot → Slot) (z : BayId) : (s.updSlot i f).bay z = s.bay z := rfl
@[simp] theorem updSlot_session (s : State) (i : SlotId) (f : Slot → Slot) (z : BayId) : (s.updSlot i f).session z = s.session z := rfl
@[simp] theorem updSlot_console (s : State) (i : SlotId) (f : Slot → Slot) (z : ConsoleId) : (s.updSlot i f).console z = s.console z := rfl
@[simp] theorem request_bay (s : State) (r : KsRequest) (z : BayId) : (s.request r).bay z = s.bay z := rfl
@[simp] theorem request_session (s : State) (r : KsRequest) (z : BayId) : (s.request r).session z = s.session z := rfl
@[simp] theorem request_slot (s : State) (r : KsRequest) (z : SlotId) : (s.request r).slot z = s.slot z := rfl
@[simp] theorem request_console (s : State) (r : KsRequest) (z : ConsoleId) : (s.request r).console z = s.console z := rfl
@[simp] theorem setCondition_bay (s : State) (n : Nat) (c : EntryCondition) (z : BayId) : (s.setCondition n c).bay z = s.bay z := rfl
@[simp] theorem setCondition_session (s : State) (n : Nat) (c : EntryCondition) (z : BayId) : (s.setCondition n c).session z = s.session z := rfl
@[simp] theorem setCondition_slot (s : State) (n : Nat) (c : EntryCondition) (z : SlotId) : (s.setCondition n c).slot z = s.slot z := rfl
@[simp] theorem setCondition_console (s : State) (n : Nat) (c : EntryCondition) (z : ConsoleId) : (s.setCondition n c).console z = s.console z := rfl
@[simp] theorem hold_bay (s : State) (e : Entry) (z : BayId) : (s.hold e).bay z = s.bay z := rfl
@[simp] theorem hold_session (s : State) (e : Entry) (z : BayId) : (s.hold e).session z = s.session z := rfl
@[simp] theorem hold_slot (s : State) (e : Entry) (z : SlotId) : (s.hold e).slot z = s.slot z := rfl
@[simp] theorem hold_console (s : State) (e : Entry) (z : ConsoleId) : (s.hold e).console z = s.console z := rfl
@[simp] theorem updBay_slot (s : State) (b : BayId) (f : Bay → Bay) (z : SlotId) : (s.updBay b f).slot z = s.slot z := rfl
@[simp] theorem updBay_console (s : State) (b : BayId) (f : Bay → Bay) (z : ConsoleId) : (s.updBay b f).console z = s.console z := rfl
@[simp] theorem updLink_slot (s : State) (b : BayId) (f : Link → Link) (z : SlotId) : (s.updLink b f).slot z = s.slot z := rfl
@[simp] theorem updLink_console (s : State) (b : BayId) (f : Link → Link) (z : ConsoleId) : (s.updLink b f).console z = s.console z := rfl
@[simp] theorem updSession_slot (s : State) (b : BayId) (f : Session → Session) (z : SlotId) : (s.updSession b f).slot z = s.slot z := rfl
@[simp] theorem updSession_console (s : State) (b : BayId) (f : Session → Session) (z : ConsoleId) : (s.updSession b f).console z = s.console z := rfl
@[simp] theorem updCounters_slot (s : State) (b : BayId) (f : Counters → Counters) (z : SlotId) : (s.updCounters b f).slot z = s.slot z := rfl
@[simp] theorem updCounters_console (s : State) (b : BayId) (f : Counters → Counters) (z : ConsoleId) : (s.updCounters b f).console z = s.console z := rfl
@[simp] theorem updConsole_bay (s : State) (c : ConsoleId) (f : Console → Console) (z : BayId) : (s.updConsole c f).bay z = s.bay z := rfl
@[simp] theorem updConsole_session (s : State) (c : ConsoleId) (f : Console → Console) (z : BayId) : (s.updConsole c f).session z = s.session z := rfl
@[simp] theorem updConsole_slot (s : State) (c : ConsoleId) (f : Console → Console) (z : SlotId) : (s.updConsole c f).slot z = s.slot z := rfl

/-! ## What is read of a bay, a slot and a console -/

theorem updBay_bay (s : State) (b c : BayId) (f : Bay → Bay) :
    (s.updBay b f).bay c = if c = b then f (s.bay b) else s.bay c := by
  unfold State.updBay State.bay
  by_cases h : c = b
  · subst h; simp
  · have h2 : b.val ≠ c.val := fun h' => h (Fin.ext h'.symm)
    simp [h, h2]

@[simp] theorem updBay_bay_self (s : State) (b : BayId) (f : Bay → Bay) : (s.updBay b f).bay b = f (s.bay b) := by
  simp [updBay_bay]

@[simp] theorem updBay_bay_ne (s : State) (b c : BayId) (f : Bay → Bay) (h : c ≠ b) : (s.updBay b f).bay c = s.bay c := by
  simp [updBay_bay, h]

@[simp] theorem updLink_bay_self (s : State) (b : BayId) (f : Link → Link) :
    (s.updLink b f).bay b = { s.bay b with link := f (s.bay b).link } := updBay_bay_self s b _

@[simp] theorem updSession_bay_self (s : State) (b : BayId) (f : Session → Session) :
    (s.updSession b f).bay b = { s.bay b with session := f (s.bay b).session } := updBay_bay_self s b _

@[simp] theorem updCounters_bay_self (s : State) (b : BayId) (f : Counters → Counters) :
    (s.updCounters b f).bay b = { s.bay b with counters := f (s.bay b).counters } := updBay_bay_self s b _

@[simp] theorem updLink_other (s : State) (b c : BayId) (f : Link → Link) (h : c ≠ b) : (s.updLink b f).bay c = s.bay c :=
  updBay_bay_ne s b c _ h

@[simp] theorem updSession_other (s : State) (b c : BayId) (f : Session → Session) (h : c ≠ b) :
    (s.updSession b f).bay c = s.bay c := updBay_bay_ne s b c _ h

@[simp] theorem updCounters_other (s : State) (b c : BayId) (f : Counters → Counters) (h : c ≠ b) :
    (s.updCounters b f).bay c = s.bay c := updBay_bay_ne s b c _ h

theorem updKs_slot (s : State) (f : KeyStore → KeyStore) (i : SlotId) : (s.updKs f).slot i = (f s.ks).slots[i] := rfl

theorem setSlot_slot (s : State) (i j : SlotId) (x : Slot) : (s.setSlot i x).slot j = if j = i then x else s.slot j := by
  unfold State.setSlot State.slot
  by_cases h : j = i
  · subst h; simp [State.report, State.raiseBits, State.setEvents, State.updKs]
  · have h2 : i.val ≠ j.val := fun h' => h (Fin.ext h'.symm)
    simp [h, h2, State.report, State.raiseBits, State.setEvents, State.updKs]

@[simp] theorem setSlot_slot_self (s : State) (i : SlotId) (x : Slot) : (s.setSlot i x).slot i = x := by
  simp [setSlot_slot]

theorem updSlot_slot (s : State) (i j : SlotId) (f : Slot → Slot) :
    (s.updSlot i f).slot j = if j = i then f (s.slot i) else s.slot j := setSlot_slot s i j _

@[simp] theorem updSlot_slot_self (s : State) (i : SlotId) (f : Slot → Slot) : (s.updSlot i f).slot i = f (s.slot i) := by
  simp [updSlot_slot]

theorem updConsole_console (s : State) (c d : ConsoleId) (f : Console → Console) :
    (s.updConsole c f).console d = if d = c then f (s.console c) else s.console d := by
  unfold State.updConsole State.console
  by_cases h : d = c
  · subst h; simp
  · have h2 : c.val ≠ d.val := fun h' => h (Fin.ext h'.symm)
    simp [h, h2]

@[simp] theorem updConsole_console_self (s : State) (c : ConsoleId) (f : Console → Console) :
    (s.updConsole c f).console c = f (s.console c) := by
  simp [updConsole_console]

/-- A slot is read from the key store alone. -/
theorem slot_congr {s t : State} (h : t.ks = s.ks) (i : SlotId) : t.slot i = s.slot i := by
  unfold State.slot; rw [h]

/-- A bay is read from the bays alone. -/
theorem bay_congr {s t : State} (h : t.bays = s.bays) (b : BayId) : t.bay b = s.bay b := by
  unfold State.bay; rw [h]

/-- A console is read from the component entry unit alone. -/
theorem console_congr {s t : State} (h : t.ceu = s.ceu) (c : ConsoleId) : t.console c = s.console c := by
  unfold State.console; rw [h]

end Sys2Proof.Machine
end

