-- ==== Sys2Proof/Laws/Frames.lean ====
section
/-!
SUPPORT. Laws/Frames.lean: for each operation the parts of State it leaves alone, one lemma per operation.
-/

set_option Elab.async false
set_option linter.unnecessarySeqFocus false
set_option linter.unusedTactic false

namespace Sys2Proof.Machine

/-- A fold keeps what each of its steps keeps. -/
theorem foldl_keeps {α β γ : Type} (p : β → γ) (f : β → α → β) (h : ∀ s a, p (f s a) = p s) (l : List α) (s : β) :
    p (l.foldl f s) = p s := by
  induction l generalizing s with
  | nil => rfl
  | cons a l ih => simp [ih, h]

@[simp] theorem pokeWriter_frame (s : State) :
    (s.pokeWriter).pending = s.pending ∧ (s.pokeWriter).engine = s.engine ∧ (s.pokeWriter).clock = s.clock ∧
    (s.pokeWriter).cipher = s.cipher ∧ (s.pokeWriter).bays = s.bays ∧ (s.pokeWriter).prof = s.prof ∧
    (s.pokeWriter).ceu = s.ceu ∧ (s.pokeWriter).writer.queue = s.writer.queue ∧
    (s.pokeWriter).writer.rollCount = s.writer.rollCount ∧ (s.pokeWriter).intake = s.intake ∧ (s.pokeWriter).ks = s.ks ∧
    (s.pokeWriter).events = s.events ∧ (s.pokeWriter).writer.line = s.writer.line ∧
    (s.pokeWriter).writer.roll = s.writer.roll ∧ (∀ z, (s.pokeWriter).bay z = s.bay z) ∧
    (∀ z, (s.pokeWriter).slot z = s.slot z) ∧ (∀ z, (s.pokeWriter).console z = s.console z) := by
  unfold State.pokeWriter; (try dsimp only); (repeat' split) <;> simp [State.bay, State.slot, State.console]

@[simp] theorem beginSweep_frame (s : State) (a : Area) :
    (s.beginSweep a).pending = s.pending ∧ (s.beginSweep a).engine = s.engine ∧ (s.beginSweep a).clock = s.clock ∧
    (s.beginSweep a).cipher = s.cipher ∧ (s.beginSweep a).bays = s.bays ∧ (s.beginSweep a).prof = s.prof ∧
    (s.beginSweep a).ceu = s.ceu ∧ (s.beginSweep a).writer = s.writer ∧ (s.beginSweep a).intake.area = s.intake.area ∧
    (s.beginSweep a).intake.areaLo = s.intake.areaLo ∧ (s.beginSweep a).intake.areaHi = s.intake.areaHi ∧
    (s.beginSweep a).intake.table = s.intake.table ∧ (s.beginSweep a).ks = s.ks ∧ (s.beginSweep a).events = s.events ∧
    (s.beginSweep a).intake.sweepTimer = s.intake.sweepTimer ∧ (s.beginSweep a).intake.pointer = s.intake.pointer ∧
    (s.beginSweep a).intake.atTake = s.intake.atTake ∧ (s.beginSweep a).intake.answers = s.intake.answers ∧
    (∀ z, (s.beginSweep a).bay z = s.bay z) ∧ (∀ z, (s.beginSweep a).slot z = s.slot z) ∧
    (∀ z, (s.beginSweep a).console z = s.console z) := by
  unfold State.beginSweep; (try dsimp only); (repeat' split) <;> simp [State.bay, State.slot, State.console]

@[simp] theorem requestSweep_frame (s : State) :
    (s.requestSweep).pending = s.pending ∧ (s.requestSweep).engine = s.engine ∧ (s.requestSweep).clock = s.clock ∧
    (s.requestSweep).cipher = s.cipher ∧ (s.requestSweep).bays = s.bays ∧ (s.requestSweep).prof = s.prof ∧
    (s.requestSweep).ceu = s.ceu ∧ (s.requestSweep).writer = s.writer ∧ (s.requestSweep).intake.area = s.intake.area ∧
    (s.requestSweep).intake.areaLo = s.intake.areaLo ∧ (s.requestSweep).intake.areaHi = s.intake.areaHi ∧
    (s.requestSweep).intake.table = s.intake.table ∧ (s.requestSweep).ks = s.ks ∧ (s.requestSweep).events = s.events ∧
    (s.requestSweep).intake.sweepTimer = s.intake.sweepTimer ∧ (s.requestSweep).intake.pointer = s.intake.pointer ∧
    (s.requestSweep).intake.atTake = s.intake.atTake ∧ (s.requestSweep).intake.answers = s.intake.answers ∧
    (∀ z, (s.requestSweep).bay z = s.bay z) ∧ (∀ z, (s.requestSweep).slot z = s.slot z) ∧
    (∀ z, (s.requestSweep).console z = s.console z) := by
  unfold State.requestSweep; (try dsimp only); (repeat' split) <;> simp [State.bay, State.slot, State.console]

@[simp] theorem triggerSweep_frame (s : State) :
    (s.triggerSweep).pending = s.pending ∧ (s.triggerSweep).engine = s.engine ∧ (s.triggerSweep).clock = s.clock ∧
    (s.triggerSweep).cipher = s.cipher ∧ (s.triggerSweep).bays = s.bays ∧ (s.triggerSweep).prof = s.prof ∧
    (s.triggerSweep).ceu = s.ceu ∧ (s.triggerSweep).writer.queue = s.writer.queue ∧
    (s.triggerSweep).writer.rollCount = s.writer.rollCount ∧ (s.triggerSweep).intake.area = s.intake.area ∧
    (s.triggerSweep).intake.areaLo = s.intake.areaLo ∧ (s.triggerSweep).intake.areaHi = s.intake.areaHi ∧
    (s.triggerSweep).intake.table = s.intake.table ∧ (s.triggerSweep).ks = s.ks ∧ (s.triggerSweep).events = s.events ∧
    (s.triggerSweep).intake.sweepTimer = s.intake.sweepTimer ∧ (s.triggerSweep).intake.pointer = s.intake.pointer ∧
    (s.triggerSweep).intake.atTake = s.intake.atTake ∧ (s.triggerSweep).intake.answers = s.intake.answers ∧
    (s.triggerSweep).writer.line = s.writer.line ∧ (s.triggerSweep).writer.roll = s.writer.roll ∧
    (∀ z, (s.triggerSweep).bay z = s.bay z) ∧ (∀ z, (s.triggerSweep).slot z = s.slot z) ∧
    (∀ z, (s.triggerSweep).console z = s.console z) := by
  unfold State.triggerSweep; (try dsimp only); (repeat' split) <;> simp [State.bay, State.slot, State.console]

@[simp] theorem freeEntry_frame (s : State) (n : Nat) :
    (s.freeEntry n).pending = s.pending ∧ (s.freeEntry n).engine = s.engine ∧ (s.freeEntry n).clock = s.clock ∧
    (s.freeEntry n).cipher = s.cipher ∧ (s.freeEntry n).bays = s.bays ∧ (s.freeEntry n).prof = s.prof ∧
    (s.freeEntry n).ceu = s.ceu ∧ (s.freeEntry n).writer.queue = s.writer.queue ∧
    (s.freeEntry n).writer.rollCount = s.writer.rollCount ∧ (s.freeEntry n).intake.area = s.intake.area ∧
    (s.freeEntry n).intake.areaLo = s.intake.areaLo ∧ (s.freeEntry n).intake.areaHi = s.intake.areaHi ∧
    (s.freeEntry n).ks = s.ks ∧ (s.freeEntry n).events = s.events ∧
    (s.freeEntry n).intake.sweepTimer = s.intake.sweepTimer ∧ (s.freeEntry n).intake.pointer = s.intake.pointer ∧
    (s.freeEntry n).intake.atTake = s.intake.atTake ∧ (s.freeEntry n).intake.answers = s.intake.answers ∧
    (s.freeEntry n).writer.line = s.writer.line ∧ (s.freeEntry n).writer.roll = s.writer.roll ∧
    (∀ z, (s.freeEntry n).bay z = s.bay z) ∧ (∀ z, (s.freeEntry n).slot z = s.slot z) ∧
    (∀ z, (s.freeEntry n).console z = s.console z) := by
  unfold State.freeEntry; (try dsimp only); (repeat' split) <;> simp [State.bay, State.slot, State.console]

@[simp] theorem answered_frame (s : State) (n : Nat) :
    (s.answered n).pending = s.pending ∧ (s.answered n).engine = s.engine ∧ (s.answered n).clock = s.clock ∧
    (s.answered n).cipher = s.cipher ∧ (s.answered n).bays = s.bays ∧ (s.answered n).prof = s.prof ∧
    (s.answered n).ceu = s.ceu ∧ (s.answered n).writer.queue = s.writer.queue ∧
    (s.answered n).writer.rollCount = s.writer.rollCount ∧ (s.answered n).intake.area = s.intake.area ∧
    (s.answered n).intake.areaLo = s.intake.areaLo ∧ (s.answered n).intake.areaHi = s.intake.areaHi ∧
    (s.answered n).ks = s.ks ∧ (s.answered n).events.mask = s.events.mask ∧
    (s.answered n).events.watches = s.events.watches ∧ (s.answered n).events.startReport = s.events.startReport ∧
    (s.answered n).intake.sweepTimer = s.intake.sweepTimer ∧ (s.answered n).intake.pointer = s.intake.pointer ∧
    (s.answered n).intake.atTake = s.intake.atTake ∧ (s.answered n).intake.answers = s.intake.answers ∧
    (s.answered n).events.room = s.events.room ∧ (s.answered n).writer.line = s.writer.line ∧
    (s.answered n).writer.roll = s.writer.roll ∧ (∀ z, (s.answered n).bay z = s.bay z) ∧
    (∀ z, (s.answered n).slot z = s.slot z) ∧ (∀ z, (s.answered n).console z = s.console z) := by
  unfold State.answered; (try dsimp only); (repeat' split) <;> simp [State.bay, State.slot, State.console]

@[simp] theorem completeOrder_frame (s : State) (n : Nat) (r : Result) (d : List Byte) :
    (s.completeOrder n r d).pending = s.pending ∧ (s.completeOrder n r d).engine = s.engine ∧
    (s.completeOrder n r d).clock = s.clock ∧ (s.completeOrder n r d).cipher = s.cipher ∧
    (s.completeOrder n r d).bays = s.bays ∧ (s.completeOrder n r d).prof = s.prof ∧ (s.completeOrder n r d).ceu = s.ceu ∧
    (s.completeOrder n r d).writer.queue = s.writer.queue ∧
    (s.completeOrder n r d).writer.rollCount = s.writer.rollCount ∧ (s.completeOrder n r d).intake.area = s.intake.area ∧
    (s.completeOrder n r d).intake.areaLo = s.intake.areaLo ∧ (s.completeOrder n r d).intake.areaHi = s.intake.areaHi ∧
    (s.completeOrder n r d).ks = s.ks ∧ (s.completeOrder n r d).events.mask = s.events.mask ∧
    (s.completeOrder n r d).events.watches = s.events.watches ∧
    (s.completeOrder n r d).events.startReport = s.events.startReport ∧
    (s.completeOrder n r d).intake.sweepTimer = s.intake.sweepTimer ∧
    (s.completeOrder n r d).intake.pointer = s.intake.pointer ∧ (s.completeOrder n r d).intake.atTake = s.intake.atTake ∧
    (s.completeOrder n r d).events.room = s.events.room ∧ (s.completeOrder n r d).writer.line = s.writer.line ∧
    (s.completeOrder n r d).writer.roll = s.writer.roll ∧ (∀ z, (s.completeOrder n r d).bay z = s.bay z) ∧
    (∀ z, (s.completeOrder n r d).slot z = s.slot z) ∧ (∀ z, (s.completeOrder n r d).console z = s.console z) := by
  unfold State.completeOrder; (try dsimp only); (repeat' split) <;> simp [State.bay, State.slot, State.console]

@[simp] theorem answerAtTake_frame (s : State) (n : Nat) (r : Result) (d : List Byte) :
    (s.answerAtTake n r d).pending = s.pending ∧ (s.answerAtTake n r d).engine = s.engine ∧
    (s.answerAtTake n r d).clock = s.clock ∧ (s.answerAtTake n r d).cipher = s.cipher ∧
    (s.answerAtTake n r d).bays = s.bays ∧ (s.answerAtTake n r d).prof = s.prof ∧ (s.answerAtTake n r d).ceu = s.ceu ∧
    (s.answerAtTake n r d).writer.queue = s.writer.queue ∧ (s.answerAtTake n r d).writer.rollCount = s.writer.rollCount ∧
    (s.answerAtTake n r d).intake.area = s.intake.area ∧ (s.answerAtTake n r d).intake.areaLo = s.intake.areaLo ∧
    (s.answerAtTake n r d).intake.areaHi = s.intake.areaHi ∧ (s.answerAtTake n r d).ks = s.ks ∧
    (s.answerAtTake n r d).events.mask = s.events.mask ∧ (s.answerAtTake n r d).events.watches = s.events.watches ∧
    (s.answerAtTake n r d).events.startReport = s.events.startReport ∧
    (s.answerAtTake n r d).intake.sweepTimer = s.intake.sweepTimer ∧
    (s.answerAtTake n r d).intake.pointer = s.intake.pointer ∧ (s.answerAtTake n r d).intake.answers = s.intake.answers ∧
    (s.answerAtTake n r d).events.room = s.events.room ∧ (s.answerAtTake n r d).writer.line = s.writer.line ∧
    (s.answerAtTake n r d).writer.roll = s.writer.roll ∧ (∀ z, (s.answerAtTake n r d).bay z = s.bay z) ∧
    (∀ z, (s.answerAtTake n r d).slot z = s.slot z) ∧ (∀ z, (s.answerAtTake n r d).console z = s.console z) := by
  unfold State.answerAtTake; (try dsimp only); (repeat' split) <;> simp [State.bay, State.slot, State.console]

@[simp] theorem refuseAtTake_frame (s : State) (e : Entry) (r : Result) :
    (s.refuseAtTake e r).pending = s.pending ∧ (s.refuseAtTake e r).engine = s.engine ∧
    (s.refuseAtTake e r).clock = s.clock ∧ (s.refuseAtTake e r).cipher = s.cipher ∧ (s.refuseAtTake e r).bays = s.bays ∧
    (s.refuseAtTake e r).prof = s.prof ∧ (s.refuseAtTake e r).ceu = s.ceu ∧
    (s.refuseAtTake e r).writer.queue = s.writer.queue ∧ (s.refuseAtTake e r).writer.rollCount = s.writer.rollCount ∧
    (s.refuseAtTake e r).intake.area = s.intake.area ∧ (s.refuseAtTake e r).intake.areaLo = s.intake.areaLo ∧
    (s.refuseAtTake e r).intake.areaHi = s.intake.areaHi ∧ (s.refuseAtTake e r).ks = s.ks ∧
    (s.refuseAtTake e r).events.mask = s.events.mask ∧ (s.refuseAtTake e r).events.watches = s.events.watches ∧
    (s.refuseAtTake e r).events.startReport = s.events.startReport ∧
    (s.refuseAtTake e r).intake.sweepTimer = s.intake.sweepTimer ∧
    (s.refuseAtTake e r).intake.pointer = s.intake.pointer ∧ (s.refuseAtTake e r).intake.answers = s.intake.answers ∧
    (s.refuseAtTake e r).events.room = s.events.room ∧ (s.refuseAtTake e r).writer.line = s.writer.line ∧
    (s.refuseAtTake e r).writer.roll = s.writer.roll ∧ (∀ z, (s.refuseAtTake e r).bay z = s.bay z) ∧
    (∀ z, (s.refuseAtTake e r).slot z = s.slot z) ∧ (∀ z, (s.refuseAtTake e r).console z = s.console z) := by
  unfold State.refuseAtTake; (try dsimp only); (repeat' split) <;> simp [State.bay, State.slot, State.console]

@[simp] theorem setRoll_frame (s : State) (r : Option Roll) :
    (s.setRoll r).pending = s.pending ∧ (s.setRoll r).engine = s.engine ∧ (s.setRoll r).clock = s.clock ∧
    (s.setRoll r).cipher = s.cipher ∧ (s.setRoll r).bays = s.bays ∧ (s.setRoll r).prof = s.prof ∧
    (s.setRoll r).ceu = s.ceu ∧ (s.setRoll r).writer.queue = s.writer.queue ∧
    (s.setRoll r).writer.rollCount = s.writer.rollCount ∧ (s.setRoll r).intake = s.intake ∧ (s.setRoll r).ks = s.ks ∧
    (s.setRoll r).events.mask = s.events.mask ∧ (s.setRoll r).events.watches = s.events.watches ∧
    (s.setRoll r).events.startReport = s.events.startReport ∧ (s.setRoll r).writer.line = s.writer.line ∧
    (s.setRoll r).writer.state = s.writer.state ∧ (∀ z, (s.setRoll r).bay z = s.bay z) ∧
    (∀ z, (s.setRoll r).slot z = s.slot z) ∧ (∀ z, (s.setRoll r).console z = s.console z) := by
  unfold State.setRoll; (try dsimp only); (repeat' split) <;> simp [State.bay, State.slot, State.console]

@[simp] theorem enterReceipt_frame (s : State) (r : Receipt) :
    (s.enterReceipt r).pending = s.pending ∧ (s.enterReceipt r).engine = s.engine ∧ (s.enterReceipt r).clock = s.clock ∧
    (s.enterReceipt r).cipher = s.cipher ∧ (s.enterReceipt r).bays = s.bays ∧ (s.enterReceipt r).prof = s.prof ∧
    (s.enterReceipt r).ceu = s.ceu ∧ (s.enterReceipt r).writer.rollCount = s.writer.rollCount ∧
    (s.enterReceipt r).intake = s.intake ∧ (s.enterReceipt r).ks = s.ks ∧ (s.enterReceipt r).events = s.events ∧
    (s.enterReceipt r).writer.line = s.writer.line ∧ (s.enterReceipt r).writer.roll = s.writer.roll ∧
    (∀ z, (s.enterReceipt r).bay z = s.bay z) ∧ (∀ z, (s.enterReceipt r).slot z = s.slot z) ∧
    (∀ z, (s.enterReceipt r).console z = s.console z) := by
  unfold State.enterReceipt; (try dsimp only); (repeat' split) <;> simp [State.bay, State.slot, State.console]

@[simp] theorem waitInLine_frame (s : State) (x : Submission) :
    (s.waitInLine x).pending = s.pending ∧ (s.waitInLine x).engine = s.engine ∧ (s.waitInLine x).clock = s.clock ∧
    (s.waitInLine x).cipher = s.cipher ∧ (s.waitInLine x).bays = s.bays ∧ (s.waitInLine x).prof = s.prof ∧
    (s.waitInLine x).ceu = s.ceu ∧ (s.waitInLine x).writer.queue = s.writer.queue ∧
    (s.waitInLine x).writer.rollCount = s.writer.rollCount ∧ (s.waitInLine x).intake = s.intake ∧
    (s.waitInLine x).ks = s.ks ∧ (s.waitInLine x).events.mask = s.events.mask ∧
    (s.waitInLine x).events.watches = s.events.watches ∧ (s.waitInLine x).events.startReport = s.events.startReport ∧
    (s.waitInLine x).events.room = s.events.room ∧ (s.waitInLine x).writer.roll = s.writer.roll ∧
    (s.waitInLine x).writer.state = s.writer.state ∧ (∀ z, (s.waitInLine x).bay z = s.bay z) ∧
    (∀ z, (s.waitInLine x).slot z = s.slot z) ∧ (∀ z, (s.waitInLine x).console z = s.console z) := by
  unfold State.waitInLine; (try dsimp only); (repeat' split) <;> simp [State.bay, State.slot, State.console]

@[simp] theorem writerInactive_frame (s : State) :
    (s.writerInactive).pending = s.pending ∧ (s.writerInactive).engine = s.engine ∧ (s.writerInactive).clock = s.clock ∧
    (s.writerInactive).cipher = s.cipher ∧ (s.writerInactive).bays = s.bays ∧ (s.writerInactive).prof = s.prof ∧
    (s.writerInactive).ceu = s.ceu ∧ (s.writerInactive).writer.queue = s.writer.queue ∧
    (s.writerInactive).writer.rollCount = s.writer.rollCount ∧ (s.writerInactive).intake = s.intake ∧
    (s.writerInactive).ks = s.ks ∧ (s.writerInactive).events.mask = s.events.mask ∧
    (s.writerInactive).events.watches = s.events.watches ∧ (s.writerInactive).events.startReport = s.events.startReport ∧
    (s.writerInactive).writer.line = s.writer.line ∧ (∀ z, (s.writerInactive).bay z = s.bay z) ∧
    (∀ z, (s.writerInactive).slot z = s.slot z) ∧ (∀ z, (s.writerInactive).console z = s.console z) := by
  unfold State.writerInactive; (try dsimp only); (repeat' split) <;> simp [State.bay, State.slot, State.console]

@[simp] theorem enterStandby_frame (s : State) :
    (s.enterStandby).pending = s.pending ∧ (s.enterStandby).clock = s.clock ∧ (s.enterStandby).cipher = s.cipher ∧
    (s.enterStandby).bays = s.bays ∧ (s.enterStandby).prof = s.prof ∧ (s.enterStandby).ceu = s.ceu ∧
    (s.enterStandby).writer.queue = s.writer.queue ∧ (s.enterStandby).writer.rollCount = s.writer.rollCount ∧
    (s.enterStandby).intake.areaLo = s.intake.areaLo ∧ (s.enterStandby).intake.areaHi = s.intake.areaHi ∧
    (s.enterStandby).intake.table = s.intake.table ∧ (s.enterStandby).ks = s.ks ∧
    (s.enterStandby).events.mask = s.events.mask ∧ (s.enterStandby).events.watches = s.events.watches ∧
    (s.enterStandby).events.startReport = s.events.startReport ∧ (s.enterStandby).intake.pointer = s.intake.pointer ∧
    (s.enterStandby).intake.atTake = s.intake.atTake ∧ (s.enterStandby).intake.answers = s.intake.answers ∧
    (s.enterStandby).writer.line = s.writer.line ∧ (∀ z, (s.enterStandby).bay z = s.bay z) ∧
    (∀ z, (s.enterStandby).slot z = s.slot z) ∧ (∀ z, (s.enterStandby).console z = s.console z) := by
  unfold State.enterStandby; (try dsimp only); (repeat' split) <;> simp [State.bay, State.slot, State.console]

@[simp] theorem settleEngine_frame (s : State) :
    (s.settleEngine).pending = s.pending ∧ (s.settleEngine).clock = s.clock ∧ (s.settleEngine).cipher = s.cipher ∧
    (s.settleEngine).bays = s.bays ∧ (s.settleEngine).prof = s.prof ∧ (s.settleEngine).ceu = s.ceu ∧
    (s.settleEngine).writer.queue = s.writer.queue ∧ (s.settleEngine).writer.rollCount = s.writer.rollCount ∧
    (s.settleEngine).intake.areaLo = s.intake.areaLo ∧ (s.settleEngine).intake.areaHi = s.intake.areaHi ∧
    (s.settleEngine).intake.table = s.intake.table ∧ (s.settleEngine).ks = s.ks ∧
    (s.settleEngine).events.mask = s.events.mask ∧ (s.settleEngine).events.watches = s.events.watches ∧
    (s.settleEngine).events.startReport = s.events.startReport ∧ (s.settleEngine).intake.pointer = s.intake.pointer ∧
    (s.settleEngine).intake.atTake = s.intake.atTake ∧ (s.settleEngine).intake.answers = s.intake.answers ∧
    (s.settleEngine).writer.line = s.writer.line ∧ (∀ z, (s.settleEngine).bay z = s.bay z) ∧
    (∀ z, (s.settleEngine).slot z = s.slot z) ∧ (∀ z, (s.settleEngine).console z = s.console z) := by
  unfold State.settleEngine; (try dsimp only); (repeat' split) <;> simp [State.bay, State.slot, State.console]

@[simp] theorem closeSweep_frame (s : State) :
    (s.closeSweep).pending = s.pending ∧ (s.closeSweep).engine = s.engine ∧ (s.closeSweep).clock = s.clock ∧
    (s.closeSweep).cipher = s.cipher ∧ (s.closeSweep).bays = s.bays ∧ (s.closeSweep).prof = s.prof ∧
    (s.closeSweep).ceu = s.ceu ∧ (s.closeSweep).writer.queue = s.writer.queue ∧
    (s.closeSweep).writer.rollCount = s.writer.rollCount ∧ (s.closeSweep).intake.area = s.intake.area ∧
    (s.closeSweep).intake.areaLo = s.intake.areaLo ∧ (s.closeSweep).intake.areaHi = s.intake.areaHi ∧
    (s.closeSweep).intake.table = s.intake.table ∧ (s.closeSweep).ks = s.ks ∧ (s.closeSweep).events = s.events ∧
    (s.closeSweep).intake.sweepTimer = s.intake.sweepTimer ∧ (s.closeSweep).intake.pointer = s.intake.pointer ∧
    (s.closeSweep).intake.atTake = s.intake.atTake ∧ (s.closeSweep).intake.answers = s.intake.answers ∧
    (s.closeSweep).writer.line = s.writer.line ∧ (s.closeSweep).writer.roll = s.writer.roll ∧
    (∀ z, (s.closeSweep).bay z = s.bay z) ∧ (∀ z, (s.closeSweep).slot z = s.slot z) ∧
    (∀ z, (s.closeSweep).console z = s.console z) := by
  unfold State.closeSweep; (try dsimp only); (repeat' split) <;> simp [State.bay, State.slot, State.console]

@[simp] theorem kickArray_frame (s : State) :
    (s.kickArray).pending = s.pending ∧ (s.kickArray).engine = s.engine ∧ (s.kickArray).clock = s.clock ∧
    (s.kickArray).cipher = s.cipher ∧ (s.kickArray).bays = s.bays ∧ (s.kickArray).prof = s.prof ∧
    (s.kickArray).ceu = s.ceu ∧ (s.kickArray).writer = s.writer ∧ (s.kickArray).intake = s.intake ∧
    (s.kickArray).ks.slots = s.ks.slots ∧ (s.kickArray).ks.latch = s.ks.latch ∧
    (s.kickArray).ks.overwrite = s.ks.overwrite ∧ (s.kickArray).events = s.events ∧
    (s.kickArray).ks.closure = s.ks.closure ∧ (s.kickArray).ks.grant = s.ks.grant ∧
    (s.kickArray).ks.requests = s.ks.requests ∧ (s.kickArray).ks.deferred = s.ks.deferred ∧
    (∀ z, (s.kickArray).bay z = s.bay z) ∧ (∀ z, (s.kickArray).slot z = s.slot z) ∧
    (∀ z, (s.kickArray).console z = s.console z) := by
  unfold State.kickArray; (try dsimp only); (repeat' split) <;> simp [State.bay, State.slot, State.console]

@[simp] theorem queueWrite_frame (s : State) (i : SlotId) :
    (s.queueWrite i).pending = s.pending ∧ (s.queueWrite i).engine = s.engine ∧ (s.queueWrite i).clock = s.clock ∧
    (s.queueWrite i).cipher = s.cipher ∧ (s.queueWrite i).bays = s.bays ∧ (s.queueWrite i).prof = s.prof ∧
    (s.queueWrite i).ceu = s.ceu ∧ (s.queueWrite i).writer = s.writer ∧ (s.queueWrite i).intake = s.intake ∧
    (s.queueWrite i).ks.slots = s.ks.slots ∧ (s.queueWrite i).ks.latch = s.ks.latch ∧
    (s.queueWrite i).ks.overwrite = s.ks.overwrite ∧ (s.queueWrite i).events = s.events ∧
    (s.queueWrite i).ks.closure = s.ks.closure ∧ (s.queueWrite i).ks.grant = s.ks.grant ∧
    (s.queueWrite i).ks.requests = s.ks.requests ∧ (s.queueWrite i).ks.deferred = s.ks.deferred ∧
    (∀ z, (s.queueWrite i).bay z = s.bay z) ∧ (∀ z, (s.queueWrite i).slot z = s.slot z) ∧
    (∀ z, (s.queueWrite i).console z = s.console z) := by
  unfold State.queueWrite; (try dsimp only); (repeat' split) <;> simp [State.bay, State.slot, State.console]

@[simp] theorem answerErase_frame (s : State) (i : SlotId) (r : Result) :
    (s.answerErase i r).pending = s.pending ∧ (s.answerErase i r).engine = s.engine ∧
    (s.answerErase i r).clock = s.clock ∧ (s.answerErase i r).cipher = s.cipher ∧ (s.answerErase i r).bays = s.bays ∧
    (s.answerErase i r).prof = s.prof ∧ (s.answerErase i r).ceu = s.ceu ∧
    (s.answerErase i r).writer.queue = s.writer.queue ∧ (s.answerErase i r).writer.rollCount = s.writer.rollCount ∧
    (s.answerErase i r).intake.area = s.intake.area ∧ (s.answerErase i r).intake.areaLo = s.intake.areaLo ∧
    (s.answerErase i r).intake.areaHi = s.intake.areaHi ∧ (s.answerErase i r).ks.latch = s.ks.latch ∧
    (s.answerErase i r).ks.overwrite = s.ks.overwrite ∧ (s.answerErase i r).events.mask = s.events.mask ∧
    (s.answerErase i r).events.watches = s.events.watches ∧
    (s.answerErase i r).events.startReport = s.events.startReport ∧ (s.answerErase i r).ks.closure = s.ks.closure ∧
    (s.answerErase i r).ks.grant = s.ks.grant ∧ (s.answerErase i r).ks.requests = s.ks.requests ∧
    (s.answerErase i r).ks.deferred = s.ks.deferred ∧ (s.answerErase i r).intake.sweepTimer = s.intake.sweepTimer ∧
    (s.answerErase i r).intake.pointer = s.intake.pointer ∧ (s.answerErase i r).intake.atTake = s.intake.atTake ∧
    (s.answerErase i r).events.room = s.events.room ∧ (s.answerErase i r).writer.line = s.writer.line ∧
    (s.answerErase i r).writer.roll = s.writer.roll ∧ (∀ z, (s.answerErase i r).bay z = s.bay z) ∧
    (∀ z, (s.answerErase i r).console z = s.console z) := by
  unfold State.answerErase; (try dsimp only); (repeat' split) <;> simp [State.bay, State.slot, State.console]

@[simp] theorem beginErase_frame (s : State) (i : SlotId) :
    (s.beginErase i).pending = s.pending ∧ (s.beginErase i).engine = s.engine ∧ (s.beginErase i).clock = s.clock ∧
    (s.beginErase i).cipher = s.cipher ∧ (s.beginErase i).bays = s.bays ∧ (s.beginErase i).prof = s.prof ∧
    (s.beginErase i).ceu = s.ceu ∧ (s.beginErase i).writer.queue = s.writer.queue ∧
    (s.beginErase i).writer.rollCount = s.writer.rollCount ∧ (s.beginErase i).intake.area = s.intake.area ∧
    (s.beginErase i).intake.areaLo = s.intake.areaLo ∧ (s.beginErase i).intake.areaHi = s.intake.areaHi ∧
    (s.beginErase i).ks.latch = s.ks.latch ∧ (s.beginErase i).ks.overwrite = s.ks.overwrite ∧
    (s.beginErase i).events.mask = s.events.mask ∧ (s.beginErase i).events.watches = s.events.watches ∧
    (s.beginErase i).events.startReport = s.events.startReport ∧ (s.beginErase i).ks.closure = s.ks.closure ∧
    (s.beginErase i).ks.grant = s.ks.grant ∧ (s.beginErase i).ks.requests = s.ks.requests ∧
    (s.beginErase i).ks.deferred = s.ks.deferred ∧ (s.beginErase i).intake.sweepTimer = s.intake.sweepTimer ∧
    (s.beginErase i).intake.pointer = s.intake.pointer ∧ (s.beginErase i).intake.atTake = s.intake.atTake ∧
    (s.beginErase i).events.room = s.events.room ∧ (s.beginErase i).writer.line = s.writer.line ∧
    (s.beginErase i).writer.roll = s.writer.roll ∧ (∀ z, (s.beginErase i).bay z = s.bay z) ∧
    (∀ z, (s.beginErase i).console z = s.console z) := by
  unfold State.beginErase; (try dsimp only); (repeat' split) <;> simp [State.bay, State.slot, State.console]

@[simp] theorem testDrain_frame (s : State) (i : SlotId) :
    (s.testDrain i).pending = s.pending ∧ (s.testDrain i).engine = s.engine ∧ (s.testDrain i).clock = s.clock ∧
    (s.testDrain i).cipher = s.cipher ∧ (s.testDrain i).bays = s.bays ∧ (s.testDrain i).prof = s.prof ∧
    (s.testDrain i).ceu = s.ceu ∧ (s.testDrain i).writer.queue = s.writer.queue ∧
    (s.testDrain i).writer.rollCount = s.writer.rollCount ∧ (s.testDrain i).intake.area = s.intake.area ∧
    (s.testDrain i).intake.areaLo = s.intake.areaLo ∧ (s.testDrain i).intake.areaHi = s.intake.areaHi ∧
    (s.testDrain i).ks.latch = s.ks.latch ∧ (s.testDrain i).ks.overwrite = s.ks.overwrite ∧
    (s.testDrain i).events.mask = s.events.mask ∧ (s.testDrain i).events.watches = s.events.watches ∧
    (s.testDrain i).events.startReport = s.events.startReport ∧ (s.testDrain i).ks.closure = s.ks.closure ∧
    (s.testDrain i).ks.grant = s.ks.grant ∧ (s.testDrain i).ks.requests = s.ks.requests ∧
    (s.testDrain i).ks.deferred = s.ks.deferred ∧ (s.testDrain i).intake.sweepTimer = s.intake.sweepTimer ∧
    (s.testDrain i).intake.pointer = s.intake.pointer ∧ (s.testDrain i).intake.atTake = s.intake.atTake ∧
    (s.testDrain i).events.room = s.events.room ∧ (s.testDrain i).writer.line = s.writer.line ∧
    (s.testDrain i).writer.roll = s.writer.roll ∧ (∀ z, (s.testDrain i).bay z = s.bay z) ∧
    (∀ z, (s.testDrain i).console z = s.console z) := by
  unfold State.testDrain; (try dsimp only); (repeat' split) <;> simp [State.bay, State.slot, State.console]

@[simp] theorem releaseSlot_frame (s : State) (b : BayId) (i : SlotId) :
    (State.releaseSlot b s i).pending = s.pending ∧ (State.releaseSlot b s i).engine = s.engine ∧
    (State.releaseSlot b s i).clock = s.clock ∧ (State.releaseSlot b s i).cipher = s.cipher ∧
    (State.releaseSlot b s i).bays = s.bays ∧ (State.releaseSlot b s i).prof = s.prof ∧
    (State.releaseSlot b s i).ceu = s.ceu ∧ (State.releaseSlot b s i).writer.queue = s.writer.queue ∧
    (State.releaseSlot b s i).writer.rollCount = s.writer.rollCount ∧
    (State.releaseSlot b s i).intake.area = s.intake.area ∧ (State.releaseSlot b s i).intake.areaLo = s.intake.areaLo ∧
    (State.releaseSlot b s i).intake.areaHi = s.intake.areaHi ∧ (State.releaseSlot b s i).ks.latch = s.ks.latch ∧
    (State.releaseSlot b s i).ks.overwrite = s.ks.overwrite ∧ (State.releaseSlot b s i).events.mask = s.events.mask ∧
    (State.releaseSlot b s i).events.watches = s.events.watches ∧
    (State.releaseSlot b s i).events.startReport = s.events.startReport ∧
    (State.releaseSlot b s i).ks.closure = s.ks.closure ∧ (State.releaseSlot b s i).ks.grant = s.ks.grant ∧
    (State.releaseSlot b s i).ks.requests = s.ks.requests ∧ (State.releaseSlot b s i).ks.deferred = s.ks.deferred ∧
    (State.releaseSlot b s i).intake.sweepTimer = s.intake.sweepTimer ∧
    (State.releaseSlot b s i).intake.pointer = s.intake.pointer ∧
    (State.releaseSlot b s i).intake.atTake = s.intake.atTake ∧ (State.releaseSlot b s i).events.room = s.events.room ∧
    (State.releaseSlot b s i).writer.line = s.writer.line ∧ (State.releaseSlot b s i).writer.roll = s.writer.roll ∧
    (∀ z, (State.releaseSlot b s i).bay z = s.bay z) ∧ (∀ z, (State.releaseSlot b s i).console z = s.console z) := by
  unfold State.releaseSlot; (try dsimp only); (repeat' split) <;> simp [State.bay, State.slot, State.console]

@[simp] theorem releaseHolds_frame (s : State) (b : BayId) :
    (s.releaseHolds b).pending = s.pending ∧ (s.releaseHolds b).engine = s.engine ∧ (s.releaseHolds b).clock = s.clock ∧
    (s.releaseHolds b).cipher = s.cipher ∧ (s.releaseHolds b).bays = s.bays ∧ (s.releaseHolds b).prof = s.prof ∧
    (s.releaseHolds b).ceu = s.ceu ∧ (s.releaseHolds b).writer.queue = s.writer.queue ∧
    (s.releaseHolds b).writer.rollCount = s.writer.rollCount ∧ (s.releaseHolds b).intake.area = s.intake.area ∧
    (s.releaseHolds b).intake.areaLo = s.intake.areaLo ∧ (s.releaseHolds b).intake.areaHi = s.intake.areaHi ∧
    (s.releaseHolds b).ks.latch = s.ks.latch ∧ (s.releaseHolds b).ks.overwrite = s.ks.overwrite ∧
    (s.releaseHolds b).events.mask = s.events.mask ∧ (s.releaseHolds b).events.watches = s.events.watches ∧
    (s.releaseHolds b).events.startReport = s.events.startReport ∧ (s.releaseHolds b).ks.closure = s.ks.closure ∧
    (s.releaseHolds b).ks.grant = s.ks.grant ∧ (s.releaseHolds b).ks.requests = s.ks.requests ∧
    (s.releaseHolds b).ks.deferred = s.ks.deferred ∧ (s.releaseHolds b).intake.sweepTimer = s.intake.sweepTimer ∧
    (s.releaseHolds b).intake.pointer = s.intake.pointer ∧ (s.releaseHolds b).intake.atTake = s.intake.atTake ∧
    (s.releaseHolds b).events.room = s.events.room ∧ (s.releaseHolds b).writer.line = s.writer.line ∧
    (s.releaseHolds b).writer.roll = s.writer.roll ∧ (∀ z, (s.releaseHolds b).bay z = s.bay z) ∧
    (∀ z, (s.releaseHolds b).console z = s.console z) := by
  refine ⟨?_, ?_, ?_, ?_, ?_, ?_, ?_, ?_, ?_, ?_, ?_, ?_, ?_, ?_, ?_, ?_, ?_, ?_, ?_, ?_, ?_, ?_, ?_, ?_, ?_, ?_, ?_, ?_, ?_⟩ <;> unfold State.releaseHolds <;> (try dsimp only) <;> (repeat' split) <;>
    simp [State.bay, State.slot, State.console, foldl_keeps (fun s : State => s.pending), foldl_keeps (fun s : State => s.engine), foldl_keeps (fun s : State => s.clock), foldl_keeps (fun s : State => s.cipher), foldl_keeps (fun s : State => s.bays), foldl_keeps (fun s : State => s.prof), foldl_keeps (fun s : State => s.ceu), foldl_keeps (fun s : State => s.writer.queue), foldl_keeps (fun s : State => s.writer.rollCount), foldl_keeps (fun s : State => s.intake.area), foldl_keeps (fun s : State => s.intake.areaLo), foldl_keeps (fun s : State => s.intake.areaHi), foldl_keeps (fun s : State => s.ks.latch), foldl_keeps (fun s : State => s.ks.overwrite), foldl_keeps (fun s : State => s.events.mask), foldl_keeps (fun s : State => s.events.watches), foldl_keeps (fun s : State => s.events.startReport), foldl_keeps (fun s : State => s.ks.closure), foldl_keeps (fun s : State => s.ks.grant), foldl_keeps (fun s : State => s.ks.requests), foldl_keeps (fun s : State => s.ks.deferred), foldl_keeps (fun s : State => s.intake.sweepTimer), foldl_keeps (fun s : State => s.intake.pointer), foldl_keeps (fun s : State => s.intake.atTake), foldl_keeps (fun s : State => s.events.room), foldl_keeps (fun s : State => s.writer.line), foldl_keeps (fun s : State => s.writer.roll)]

@[simp] theorem startAssembly_frame (s : State) (i : SlotId) :
    (s.startAssembly i).pending = s.pending ∧ (s.startAssembly i).engine = s.engine ∧
    (s.startAssembly i).clock = s.clock ∧ (s.startAssembly i).cipher = s.cipher ∧ (s.startAssembly i).bays = s.bays ∧
    (s.startAssembly i).prof = s.prof ∧ (s.startAssembly i).ceu = s.ceu ∧ (s.startAssembly i).writer = s.writer ∧
    (s.startAssembly i).intake = s.intake ∧ (s.startAssembly i).ks.latch = s.ks.latch ∧
    (s.startAssembly i).ks.overwrite = s.ks.overwrite ∧ (s.startAssembly i).events.mask = s.events.mask ∧
    (s.startAssembly i).events.watches = s.events.watches ∧
    (s.startAssembly i).events.startReport = s.events.startReport ∧ (s.startAssembly i).ks.closure = s.ks.closure ∧
    (s.startAssembly i).ks.grant = s.ks.grant ∧ (s.startAssembly i).ks.requests = s.ks.requests ∧
    (s.startAssembly i).ks.deferred = s.ks.deferred ∧ (s.startAssembly i).events.room = s.events.room ∧
    (∀ z, (s.startAssembly i).bay z = s.bay z) ∧ (∀ z, (s.startAssembly i).console z = s.console z) := by
  unfold State.startAssembly; (try dsimp only); (repeat' split) <;> simp [State.bay, State.slot, State.console]

@[simp] theorem endAssemblySlot_frame (s : State) (i : SlotId) :
    (s.endAssemblySlot i).pending = s.pending ∧ (s.endAssemblySlot i).engine = s.engine ∧
    (s.endAssemblySlot i).clock = s.clock ∧ (s.endAssemblySlot i).cipher = s.cipher ∧
    (s.endAssemblySlot i).bays = s.bays ∧ (s.endAssemblySlot i).prof = s.prof ∧ (s.endAssemblySlot i).ceu = s.ceu ∧
    (s.endAssemblySlot i).writer = s.writer ∧ (s.endAssemblySlot i).intake = s.intake ∧
    (s.endAssemblySlot i).ks.latch = s.ks.latch ∧ (s.endAssemblySlot i).ks.overwrite = s.ks.overwrite ∧
    (s.endAssemblySlot i).events.mask = s.events.mask ∧ (s.endAssemblySlot i).events.watches = s.events.watches ∧
    (s.endAssemblySlot i).events.startReport = s.events.startReport ∧ (s.endAssemblySlot i).ks.closure = s.ks.closure ∧
    (s.endAssemblySlot i).ks.grant = s.ks.grant ∧ (s.endAssemblySlot i).ks.requests = s.ks.requests ∧
    (s.endAssemblySlot i).ks.deferred = s.ks.deferred ∧ (s.endAssemblySlot i).events.room = s.events.room ∧
    (∀ z, (s.endAssemblySlot i).bay z = s.bay z) ∧ (∀ z, (s.endAssemblySlot i).console z = s.console z) := by
  unfold State.endAssemblySlot; (try dsimp only); (repeat' split) <;> simp [State.bay, State.slot, State.console]

@[simp] theorem commitKey_frame (s : State) (i : SlotId) (k : Key) (ids : List CardId) (v : CheckValue) :
    (s.commitKey i k ids v).pending = s.pending ∧ (s.commitKey i k ids v).engine = s.engine ∧
    (s.commitKey i k ids v).clock = s.clock ∧ (s.commitKey i k ids v).cipher = s.cipher ∧
    (s.commitKey i k ids v).bays = s.bays ∧ (s.commitKey i k ids v).prof = s.prof ∧ (s.commitKey i k ids v).ceu = s.ceu ∧
    (s.commitKey i k ids v).writer = s.writer ∧ (s.commitKey i k ids v).intake = s.intake ∧
    (s.commitKey i k ids v).ks.latch = s.ks.latch ∧ (s.commitKey i k ids v).ks.overwrite = s.ks.overwrite ∧
    (s.commitKey i k ids v).events.mask = s.events.mask ∧ (s.commitKey i k ids v).events.watches = s.events.watches ∧
    (s.commitKey i k ids v).events.startReport = s.events.startReport ∧
    (s.commitKey i k ids v).ks.closure = s.ks.closure ∧ (s.commitKey i k ids v).ks.grant = s.ks.grant ∧
    (s.commitKey i k ids v).ks.requests = s.ks.requests ∧ (s.commitKey i k ids v).ks.deferred = s.ks.deferred ∧
    (s.commitKey i k ids v).events.room = s.events.room ∧ (∀ z, (s.commitKey i k ids v).bay z = s.bay z) ∧
    (∀ z, (s.commitKey i k ids v).console z = s.console z) := by
  unfold State.commitKey; (try dsimp only); (repeat' split) <;> simp [State.bay, State.slot, State.console]

@[simp] theorem applyGrant_frame (s : State) (i : SlotId) (n : Nat) :
    (s.applyGrant i n).pending = s.pending ∧ (s.applyGrant i n).engine = s.engine ∧ (s.applyGrant i n).clock = s.clock ∧
    (s.applyGrant i n).cipher = s.cipher ∧ (s.applyGrant i n).bays = s.bays ∧ (s.applyGrant i n).prof = s.prof ∧
    (s.applyGrant i n).ceu = s.ceu ∧ (s.applyGrant i n).writer = s.writer ∧ (s.applyGrant i n).intake = s.intake ∧
    (s.applyGrant i n).ks.latch = s.ks.latch ∧ (s.applyGrant i n).ks.overwrite = s.ks.overwrite ∧
    (s.applyGrant i n).events.mask = s.events.mask ∧ (s.applyGrant i n).events.watches = s.events.watches ∧
    (s.applyGrant i n).events.startReport = s.events.startReport ∧ (s.applyGrant i n).ks.closure = s.ks.closure ∧
    (s.applyGrant i n).ks.grant = s.ks.grant ∧ (s.applyGrant i n).ks.requests = s.ks.requests ∧
    (s.applyGrant i n).ks.deferred = s.ks.deferred ∧ (s.applyGrant i n).events.room = s.events.room ∧
    (∀ z, (s.applyGrant i n).bay z = s.bay z) ∧ (∀ z, (s.applyGrant i n).console z = s.console z) := by
  unfold State.applyGrant; (try dsimp only); (repeat' split) <;> simp [State.bay, State.slot, State.console]

@[simp] theorem updSettle_frame (s : State) (i : SlotId) (f : Settle → Settle) :
    (s.updSettle i f).pending = s.pending ∧ (s.updSettle i f).engine = s.engine ∧ (s.updSettle i f).clock = s.clock ∧
    (s.updSettle i f).cipher = s.cipher ∧ (s.updSettle i f).bays = s.bays ∧ (s.updSettle i f).prof = s.prof ∧
    (s.updSettle i f).ceu = s.ceu ∧ (s.updSettle i f).writer = s.writer ∧ (s.updSettle i f).intake = s.intake ∧
    (s.updSettle i f).ks.latch = s.ks.latch ∧ (s.updSettle i f).ks.overwrite = s.ks.overwrite ∧
    (s.updSettle i f).events.mask = s.events.mask ∧ (s.updSettle i f).events.watches = s.events.watches ∧
    (s.updSettle i f).events.startReport = s.events.startReport ∧ (s.updSettle i f).ks.closure = s.ks.closure ∧
    (s.updSettle i f).ks.grant = s.ks.grant ∧ (s.updSettle i f).ks.requests = s.ks.requests ∧
    (s.updSettle i f).ks.deferred = s.ks.deferred ∧ (s.updSettle i f).events.room = s.events.room ∧
    (∀ z, (s.updSettle i f).bay z = s.bay z) ∧ (∀ z, (s.updSettle i f).console z = s.console z) := by
  unfold State.updSettle; (try dsimp only); (repeat' split) <;> simp [State.bay, State.slot, State.console]

@[simp] theorem answerSettle_frame (s : State) (i : SlotId) (r : Result) :
    (s.answerSettle i r).pending = s.pending ∧ (s.answerSettle i r).engine = s.engine ∧
    (s.answerSettle i r).clock = s.clock ∧ (s.answerSettle i r).cipher = s.cipher ∧ (s.answerSettle i r).bays = s.bays ∧
    (s.answerSettle i r).prof = s.prof ∧ (s.answerSettle i r).ceu = s.ceu ∧
    (s.answerSettle i r).writer.queue = s.writer.queue ∧ (s.answerSettle i r).writer.rollCount = s.writer.rollCount ∧
    (s.answerSettle i r).intake.area = s.intake.area ∧ (s.answerSettle i r).intake.areaLo = s.intake.areaLo ∧
    (s.answerSettle i r).intake.areaHi = s.intake.areaHi ∧ (s.answerSettle i r).ks.latch = s.ks.latch ∧
    (s.answerSettle i r).ks.overwrite = s.ks.overwrite ∧ (s.answerSettle i r).events.mask = s.events.mask ∧
    (s.answerSettle i r).events.watches = s.events.watches ∧
    (s.answerSettle i r).events.startReport = s.events.startReport ∧ (s.answerSettle i r).ks.closure = s.ks.closure ∧
    (s.answerSettle i r).ks.grant = s.ks.grant ∧ (s.answerSettle i r).ks.requests = s.ks.requests ∧
    (s.answerSettle i r).ks.deferred = s.ks.deferred ∧ (s.answerSettle i r).intake.sweepTimer = s.intake.sweepTimer ∧
    (s.answerSettle i r).intake.pointer = s.intake.pointer ∧ (s.answerSettle i r).intake.atTake = s.intake.atTake ∧
    (s.answerSettle i r).events.room = s.events.room ∧ (s.answerSettle i r).writer.line = s.writer.line ∧
    (s.answerSettle i r).writer.roll = s.writer.roll ∧ (∀ z, (s.answerSettle i r).bay z = s.bay z) ∧
    (∀ z, (s.answerSettle i r).console z = s.console z) := by
  unfold State.answerSettle; (try dsimp only); (repeat' split) <;> simp [State.bay, State.slot, State.console]

@[simp] theorem testSettle_frame (s : State) (i : SlotId) :
    (s.testSettle i).pending = s.pending ∧ (s.testSettle i).engine = s.engine ∧ (s.testSettle i).clock = s.clock ∧
    (s.testSettle i).cipher = s.cipher ∧ (s.testSettle i).bays = s.bays ∧ (s.testSettle i).prof = s.prof ∧
    (s.testSettle i).ceu = s.ceu ∧ (s.testSettle i).writer.queue = s.writer.queue ∧
    (s.testSettle i).writer.rollCount = s.writer.rollCount ∧ (s.testSettle i).intake.area = s.intake.area ∧
    (s.testSettle i).intake.areaLo = s.intake.areaLo ∧ (s.testSettle i).intake.areaHi = s.intake.areaHi ∧
    (s.testSettle i).ks.latch = s.ks.latch ∧ (s.testSettle i).ks.overwrite = s.ks.overwrite ∧
    (s.testSettle i).events.mask = s.events.mask ∧ (s.testSettle i).events.watches = s.events.watches ∧
    (s.testSettle i).events.startReport = s.events.startReport ∧ (s.testSettle i).ks.closure = s.ks.closure ∧
    (s.testSettle i).ks.grant = s.ks.grant ∧ (s.testSettle i).ks.requests = s.ks.requests ∧
    (s.testSettle i).ks.deferred = s.ks.deferred ∧ (s.testSettle i).intake.sweepTimer = s.intake.sweepTimer ∧
    (s.testSettle i).intake.pointer = s.intake.pointer ∧ (s.testSettle i).intake.atTake = s.intake.atTake ∧
    (s.testSettle i).events.room = s.events.room ∧ (s.testSettle i).writer.line = s.writer.line ∧
    (s.testSettle i).writer.roll = s.writer.roll ∧ (∀ z, (s.testSettle i).bay z = s.bay z) ∧
    (∀ z, (s.testSettle i).console z = s.console z) := by
  unfold State.testSettle; (try dsimp only); (repeat' split) <;> simp [State.bay, State.slot, State.console]

@[simp] theorem stopSettle_frame (s : State) (i : SlotId) :
    (s.stopSettle i).pending = s.pending ∧ (s.stopSettle i).engine = s.engine ∧ (s.stopSettle i).clock = s.clock ∧
    (s.stopSettle i).cipher = s.cipher ∧ (s.stopSettle i).bays = s.bays ∧ (s.stopSettle i).prof = s.prof ∧
    (s.stopSettle i).ceu = s.ceu ∧ (s.stopSettle i).writer.queue = s.writer.queue ∧
    (s.stopSettle i).writer.rollCount = s.writer.rollCount ∧ (s.stopSettle i).intake.area = s.intake.area ∧
    (s.stopSettle i).intake.areaLo = s.intake.areaLo ∧ (s.stopSettle i).intake.areaHi = s.intake.areaHi ∧
    (s.stopSettle i).ks.latch = s.ks.latch ∧ (s.stopSettle i).ks.overwrite = s.ks.overwrite ∧
    (s.stopSettle i).events.mask = s.events.mask ∧ (s.stopSettle i).events.watches = s.events.watches ∧
    (s.stopSettle i).events.startReport = s.events.startReport ∧ (s.stopSettle i).ks.closure = s.ks.closure ∧
    (s.stopSettle i).ks.grant = s.ks.grant ∧ (s.stopSettle i).ks.requests = s.ks.requests ∧
    (s.stopSettle i).ks.deferred = s.ks.deferred ∧ (s.stopSettle i).intake.sweepTimer = s.intake.sweepTimer ∧
    (s.stopSettle i).intake.pointer = s.intake.pointer ∧ (s.stopSettle i).intake.atTake = s.intake.atTake ∧
    (s.stopSettle i).events.room = s.events.room ∧ (s.stopSettle i).writer.line = s.writer.line ∧
    (s.stopSettle i).writer.roll = s.writer.roll ∧ (∀ z, (s.stopSettle i).bay z = s.bay z) ∧
    (∀ z, (s.stopSettle i).console z = s.console z) := by
  unfold State.stopSettle; (try dsimp only); (repeat' split) <;> simp [State.bay, State.slot, State.console]

@[simp] theorem settleEntered_frame (s : State) (i : SlotId) (c : Claim) :
    (s.settleEntered i c).pending = s.pending ∧ (s.settleEntered i c).engine = s.engine ∧
    (s.settleEntered i c).clock = s.clock ∧ (s.settleEntered i c).cipher = s.cipher ∧
    (s.settleEntered i c).bays = s.bays ∧ (s.settleEntered i c).prof = s.prof ∧ (s.settleEntered i c).ceu = s.ceu ∧
    (s.settleEntered i c).writer = s.writer ∧ (s.settleEntered i c).intake = s.intake ∧
    (s.settleEntered i c).ks.latch = s.ks.latch ∧ (s.settleEntered i c).ks.overwrite = s.ks.overwrite ∧
    (s.settleEntered i c).events.mask = s.events.mask ∧ (s.settleEntered i c).events.watches = s.events.watches ∧
    (s.settleEntered i c).events.startReport = s.events.startReport ∧ (s.settleEntered i c).ks.closure = s.ks.closure ∧
    (s.settleEntered i c).ks.grant = s.ks.grant ∧ (s.settleEntered i c).ks.requests = s.ks.requests ∧
    (s.settleEntered i c).ks.deferred = s.ks.deferred ∧ (s.settleEntered i c).events.room = s.events.room ∧
    (∀ z, (s.settleEntered i c).bay z = s.bay z) ∧ (∀ z, (s.settleEntered i c).console z = s.console z) := by
  unfold State.settleEntered; (try dsimp only); (repeat' split) <;> simp [State.bay, State.slot, State.console]

@[simp] theorem submitSettle_frame (s : State) (i : SlotId) (l : List Claim) :
    (State.submitSettle i l s).pending = s.pending ∧ (State.submitSettle i l s).engine = s.engine ∧
    (State.submitSettle i l s).clock = s.clock ∧ (State.submitSettle i l s).cipher = s.cipher ∧
    (State.submitSettle i l s).bays = s.bays ∧ (State.submitSettle i l s).prof = s.prof ∧
    (State.submitSettle i l s).ceu = s.ceu ∧ (State.submitSettle i l s).writer.rollCount = s.writer.rollCount ∧
    (State.submitSettle i l s).intake.area = s.intake.area ∧ (State.submitSettle i l s).intake.areaLo = s.intake.areaLo ∧
    (State.submitSettle i l s).intake.areaHi = s.intake.areaHi ∧ (State.submitSettle i l s).ks.latch = s.ks.latch ∧
    (State.submitSettle i l s).ks.overwrite = s.ks.overwrite ∧ (State.submitSettle i l s).events.mask = s.events.mask ∧
    (State.submitSettle i l s).events.watches = s.events.watches ∧
    (State.submitSettle i l s).events.startReport = s.events.startReport ∧
    (State.submitSettle i l s).ks.closure = s.ks.closure ∧ (State.submitSettle i l s).ks.grant = s.ks.grant ∧
    (State.submitSettle i l s).ks.requests = s.ks.requests ∧ (State.submitSettle i l s).ks.deferred = s.ks.deferred ∧
    (State.submitSettle i l s).intake.sweepTimer = s.intake.sweepTimer ∧
    (State.submitSettle i l s).intake.pointer = s.intake.pointer ∧
    (State.submitSettle i l s).intake.atTake = s.intake.atTake ∧ (State.submitSettle i l s).events.room = s.events.room ∧
    (State.submitSettle i l s).writer.roll = s.writer.roll ∧ (∀ z, (State.submitSettle i l s).bay z = s.bay z) ∧
    (∀ z, (State.submitSettle i l s).console z = s.console z) := by
  induction l generalizing s with
  | nil => unfold State.submitSettle; simp [State.bay, State.slot, State.console]
  | cons a l ih => unfold State.submitSettle; (try dsimp only); (repeat' split) <;> simp_all [State.bay, State.slot, State.console]

@[simp] theorem resumeSettle_frame (s : State) (i : SlotId) (r : Receipt) :
    (s.resumeSettle i r).pending = s.pending ∧ (s.resumeSettle i r).engine = s.engine ∧
    (s.resumeSettle i r).clock = s.clock ∧ (s.resumeSettle i r).cipher = s.cipher ∧ (s.resumeSettle i r).bays = s.bays ∧
    (s.resumeSettle i r).prof = s.prof ∧ (s.resumeSettle i r).ceu = s.ceu ∧
    (s.resumeSettle i r).writer.rollCount = s.writer.rollCount ∧ (s.resumeSettle i r).intake.area = s.intake.area ∧
    (s.resumeSettle i r).intake.areaLo = s.intake.areaLo ∧ (s.resumeSettle i r).intake.areaHi = s.intake.areaHi ∧
    (s.resumeSettle i r).ks.latch = s.ks.latch ∧ (s.resumeSettle i r).ks.overwrite = s.ks.overwrite ∧
    (s.resumeSettle i r).events.mask = s.events.mask ∧ (s.resumeSettle i r).events.watches = s.events.watches ∧
    (s.resumeSettle i r).events.startReport = s.events.startReport ∧ (s.resumeSettle i r).ks.closure = s.ks.closure ∧
    (s.resumeSettle i r).ks.grant = s.ks.grant ∧ (s.resumeSettle i r).ks.requests = s.ks.requests ∧
    (s.resumeSettle i r).ks.deferred = s.ks.deferred ∧ (s.resumeSettle i r).intake.sweepTimer = s.intake.sweepTimer ∧
    (s.resumeSettle i r).intake.pointer = s.intake.pointer ∧ (s.resumeSettle i r).intake.atTake = s.intake.atTake ∧
    (s.resumeSettle i r).events.room = s.events.room ∧ (s.resumeSettle i r).writer.roll = s.writer.roll ∧
    (∀ z, (s.resumeSettle i r).bay z = s.bay z) ∧ (∀ z, (s.resumeSettle i r).console z = s.console z) := by
  unfold State.resumeSettle; (try dsimp only); (repeat' split) <;> simp [State.bay, State.slot, State.console]

@[simp] theorem settleClosed_frame (s : State) (i : SlotId) (c : Claim) :
    (s.settleClosed i c).pending = s.pending ∧ (s.settleClosed i c).engine = s.engine ∧
    (s.settleClosed i c).clock = s.clock ∧ (s.settleClosed i c).cipher = s.cipher ∧ (s.settleClosed i c).bays = s.bays ∧
    (s.settleClosed i c).prof = s.prof ∧ (s.settleClosed i c).ceu = s.ceu ∧
    (s.settleClosed i c).writer.queue = s.writer.queue ∧ (s.settleClosed i c).writer.rollCount = s.writer.rollCount ∧
    (s.settleClosed i c).intake.area = s.intake.area ∧ (s.settleClosed i c).intake.areaLo = s.intake.areaLo ∧
    (s.settleClosed i c).intake.areaHi = s.intake.areaHi ∧ (s.settleClosed i c).ks.latch = s.ks.latch ∧
    (s.settleClosed i c).ks.overwrite = s.ks.overwrite ∧ (s.settleClosed i c).events.mask = s.events.mask ∧
    (s.settleClosed i c).events.watches = s.events.watches ∧
    (s.settleClosed i c).events.startReport = s.events.startReport ∧ (s.settleClosed i c).ks.closure = s.ks.closure ∧
    (s.settleClosed i c).ks.grant = s.ks.grant ∧ (s.settleClosed i c).ks.requests = s.ks.requests ∧
    (s.settleClosed i c).ks.deferred = s.ks.deferred ∧ (s.settleClosed i c).intake.sweepTimer = s.intake.sweepTimer ∧
    (s.settleClosed i c).intake.pointer = s.intake.pointer ∧ (s.settleClosed i c).intake.atTake = s.intake.atTake ∧
    (s.settleClosed i c).events.room = s.events.room ∧ (s.settleClosed i c).writer.line = s.writer.line ∧
    (s.settleClosed i c).writer.roll = s.writer.roll ∧ (∀ z, (s.settleClosed i c).bay z = s.bay z) ∧
    (∀ z, (s.settleClosed i c).console z = s.console z) := by
  unfold State.settleClosed; (try dsimp only); (repeat' split) <;> simp [State.bay, State.slot, State.console]

@[simp] theorem transmit_frame (s : State) (b : BayId) (t : Transmission) :
    (s.transmit b t).pending = s.pending ∧ (s.transmit b t).engine = s.engine ∧ (s.transmit b t).clock = s.clock ∧
    (s.transmit b t).cipher = s.cipher ∧ (s.transmit b t).prof = s.prof ∧ (s.transmit b t).ceu = s.ceu ∧
    (s.transmit b t).writer = s.writer ∧ (s.transmit b t).intake = s.intake ∧ (s.transmit b t).ks = s.ks ∧
    (s.transmit b t).events = s.events ∧ (∀ z, (s.transmit b t).slot z = s.slot z) ∧
    (∀ z, (s.transmit b t).console z = s.console z) := by
  unfold State.transmit; (try dsimp only); (repeat' split) <;> simp [State.bay, State.slot, State.console]

@[simp] theorem transmitNext_frame (s : State) (b : BayId) :
    (s.transmitNext b).pending = s.pending ∧ (s.transmitNext b).engine = s.engine ∧ (s.transmitNext b).clock = s.clock ∧
    (s.transmitNext b).cipher = s.cipher ∧ (s.transmitNext b).prof = s.prof ∧ (s.transmitNext b).ceu = s.ceu ∧
    (s.transmitNext b).writer = s.writer ∧ (s.transmitNext b).intake = s.intake ∧ (s.transmitNext b).ks = s.ks ∧
    (s.transmitNext b).events = s.events ∧ (∀ z, (s.transmitNext b).slot z = s.slot z) ∧
    (∀ z, (s.transmitNext b).console z = s.console z) := by
  unfold State.transmitNext; (try dsimp only); (repeat' split) <;> simp [State.bay, State.slot, State.console]

@[simp] theorem openExchange_frame (s : State) (b : BayId) (x : EngineFrame) (m n : Nat) :
    (s.openExchange b x m n).pending = s.pending ∧ (s.openExchange b x m n).engine = s.engine ∧
    (s.openExchange b x m n).clock = s.clock ∧ (s.openExchange b x m n).cipher = s.cipher ∧
    (s.openExchange b x m n).prof = s.prof ∧ (s.openExchange b x m n).ceu = s.ceu ∧
    (s.openExchange b x m n).writer = s.writer ∧ (s.openExchange b x m n).intake = s.intake ∧
    (s.openExchange b x m n).ks = s.ks ∧ (s.openExchange b x m n).events = s.events ∧
    (∀ z, (s.openExchange b x m n).slot z = s.slot z) ∧ (∀ z, (s.openExchange b x m n).console z = s.console z) := by
  unfold State.openExchange; (try dsimp only); (repeat' split) <;> simp [State.bay, State.slot, State.console]

@[simp] theorem resend_frame (s : State) (b : BayId) (e : Exchange) :
    (s.resend b e).pending = s.pending ∧ (s.resend b e).engine = s.engine ∧ (s.resend b e).clock = s.clock ∧
    (s.resend b e).cipher = s.cipher ∧ (s.resend b e).prof = s.prof ∧ (s.resend b e).ceu = s.ceu ∧
    (s.resend b e).writer = s.writer ∧ (s.resend b e).intake = s.intake ∧ (s.resend b e).ks = s.ks ∧
    (s.resend b e).events = s.events ∧ (∀ z, (s.resend b e).slot z = s.slot z) ∧
    (∀ z, (s.resend b e).console z = s.console z) := by
  unfold State.resend; (try dsimp only); (repeat' split) <;> simp [State.bay, State.slot, State.console]

@[simp] theorem closeExchange_frame (s : State) (b : BayId) (e : Exchange) :
    (s.closeExchange b e).pending = s.pending ∧ (s.closeExchange b e).engine = s.engine ∧
    (s.closeExchange b e).clock = s.clock ∧ (s.closeExchange b e).cipher = s.cipher ∧
    (s.closeExchange b e).prof = s.prof ∧ (s.closeExchange b e).ceu = s.ceu ∧ (s.closeExchange b e).writer = s.writer ∧
    (s.closeExchange b e).intake = s.intake ∧ (s.closeExchange b e).ks = s.ks ∧ (s.closeExchange b e).events = s.events ∧
    (∀ z, (s.closeExchange b e).slot z = s.slot z) ∧ (∀ z, (s.closeExchange b e).console z = s.console z) := by
  unfold State.closeExchange; (try dsimp only); (repeat' split) <;> simp [State.bay, State.slot, State.console]

@[simp] theorem abandonExchange_frame (s : State) (b : BayId) :
    (s.abandonExchange b).pending = s.pending ∧ (s.abandonExchange b).engine = s.engine ∧
    (s.abandonExchange b).clock = s.clock ∧ (s.abandonExchange b).cipher = s.cipher ∧
    (s.abandonExchange b).prof = s.prof ∧ (s.abandonExchange b).ceu = s.ceu ∧ (s.abandonExchange b).writer = s.writer ∧
    (s.abandonExchange b).intake = s.intake ∧ (s.abandonExchange b).ks = s.ks ∧ (s.abandonExchange b).events = s.events ∧
    (∀ z, (s.abandonExchange b).slot z = s.slot z) ∧ (∀ z, (s.abandonExchange b).console z = s.console z) := by
  unfold State.abandonExchange; (try dsimp only); (repeat' split) <;> simp [State.bay, State.slot, State.console]

@[simp] theorem countStray_frame (s : State) (b : BayId) :
    (s.countStray b).pending = s.pending ∧ (s.countStray b).engine = s.engine ∧ (s.countStray b).clock = s.clock ∧
    (s.countStray b).cipher = s.cipher ∧ (s.countStray b).prof = s.prof ∧ (s.countStray b).ceu = s.ceu ∧
    (s.countStray b).writer = s.writer ∧ (s.countStray b).intake = s.intake ∧ (s.countStray b).ks = s.ks ∧
    (s.countStray b).events = s.events ∧ (∀ z, (s.countStray b).slot z = s.slot z) ∧
    (∀ z, (s.countStray b).console z = s.console z) := by
  unfold State.countStray; (try dsimp only); (repeat' split) <;> simp [State.bay, State.slot, State.console]

@[simp] theorem countLineError_frame (s : State) (b : BayId) :
    (s.countLineError b).pending = s.pending ∧ (s.countLineError b).engine = s.engine ∧
    (s.countLineError b).clock = s.clock ∧ (s.countLineError b).cipher = s.cipher ∧ (s.countLineError b).prof = s.prof ∧
    (s.countLineError b).ceu = s.ceu ∧ (s.countLineError b).writer = s.writer ∧ (s.countLineError b).intake = s.intake ∧
    (s.countLineError b).ks = s.ks ∧ (s.countLineError b).events = s.events ∧
    (∀ z, (s.countLineError b).slot z = s.slot z) ∧ (∀ z, (s.countLineError b).console z = s.console z) := by
  unfold State.countLineError; (try dsimp only); (repeat' split) <;> simp [State.bay, State.slot, State.console]

@[simp] theorem closeGap_frame (s : State) (b : BayId) :
    (s.closeGap b).pending = s.pending ∧ (s.closeGap b).engine = s.engine ∧
    (s.closeGap b).clock = s.clock ∧ (s.closeGap b).cipher = s.cipher ∧ (s.closeGap b).prof = s.prof ∧
    (s.closeGap b).ceu = s.ceu ∧ (s.closeGap b).writer = s.writer ∧ (s.closeGap b).intake = s.intake ∧
    (s.closeGap b).ks = s.ks ∧ (s.closeGap b).events = s.events ∧
    (∀ z, (s.closeGap b).slot z = s.slot z) ∧ (∀ z, (s.closeGap b).console z = s.console z) := by
  unfold State.closeGap; (try dsimp only); (repeat' split) <;> simp [State.bay, State.slot, State.console]

@[simp] theorem beginConsole_frame (s : State) (c : ConsoleId) (m : ConsoleMessage) :
    (s.beginConsole c m).pending = s.pending ∧ (s.beginConsole c m).engine = s.engine ∧
    (s.beginConsole c m).clock = s.clock ∧ (s.beginConsole c m).cipher = s.cipher ∧ (s.beginConsole c m).bays = s.bays ∧
    (s.beginConsole c m).prof = s.prof ∧ (s.beginConsole c m).ceu.record = s.ceu.record ∧
    (s.beginConsole c m).writer = s.writer ∧ (s.beginConsole c m).intake = s.intake ∧ (s.beginConsole c m).ks = s.ks ∧
    (s.beginConsole c m).events = s.events ∧ (s.beginConsole c m).ceu.arrivals = s.ceu.arrivals ∧
    (∀ z, (s.beginConsole c m).bay z = s.bay z) ∧ (∀ z, (s.beginConsole c m).slot z = s.slot z) := by
  unfold State.beginConsole; (try dsimp only); (repeat' split) <;> simp [State.bay, State.slot, State.console]

@[simp] theorem toConsole_frame (s : State) (c : ConsoleId) (m : ConsoleMessage) :
    (s.toConsole c m).pending = s.pending ∧ (s.toConsole c m).engine = s.engine ∧ (s.toConsole c m).clock = s.clock ∧
    (s.toConsole c m).cipher = s.cipher ∧ (s.toConsole c m).bays = s.bays ∧ (s.toConsole c m).prof = s.prof ∧
    (s.toConsole c m).ceu.record = s.ceu.record ∧ (s.toConsole c m).writer = s.writer ∧
    (s.toConsole c m).intake = s.intake ∧ (s.toConsole c m).ks = s.ks ∧ (s.toConsole c m).events = s.events ∧
    (s.toConsole c m).ceu.arrivals = s.ceu.arrivals ∧ (∀ z, (s.toConsole c m).bay z = s.bay z) ∧
    (∀ z, (s.toConsole c m).slot z = s.slot z) := by
  unfold State.toConsole; (try dsimp only); (repeat' split) <;> simp [State.bay, State.slot, State.console]

@[simp] theorem toConsoles_frame (s : State) (m : ConsoleMessage) :
    (s.toConsoles m).pending = s.pending ∧ (s.toConsoles m).engine = s.engine ∧ (s.toConsoles m).clock = s.clock ∧
    (s.toConsoles m).cipher = s.cipher ∧ (s.toConsoles m).bays = s.bays ∧ (s.toConsoles m).prof = s.prof ∧
    (s.toConsoles m).ceu.record = s.ceu.record ∧ (s.toConsoles m).writer = s.writer ∧
    (s.toConsoles m).intake = s.intake ∧ (s.toConsoles m).ks = s.ks ∧ (s.toConsoles m).events = s.events ∧
    (s.toConsoles m).ceu.arrivals = s.ceu.arrivals ∧ (∀ z, (s.toConsoles m).bay z = s.bay z) ∧
    (∀ z, (s.toConsoles m).slot z = s.slot z) := by
  unfold State.toConsoles; (try dsimp only); (repeat' split) <;> simp [State.bay, State.slot, State.console]

@[simp] theorem startPlan_frame (s : State) (b : BayId) (n : Nat) (t : BitVec 32) (r : Bool) (p : Plan) :
    (s.startPlan b n t r p).pending = s.pending ∧ (s.startPlan b n t r p).engine = s.engine ∧
    (s.startPlan b n t r p).clock = s.clock ∧ (s.startPlan b n t r p).cipher = s.cipher ∧
    (s.startPlan b n t r p).prof = s.prof ∧ (s.startPlan b n t r p).ceu = s.ceu ∧
    (s.startPlan b n t r p).writer = s.writer ∧ (s.startPlan b n t r p).intake = s.intake ∧
    (s.startPlan b n t r p).ks = s.ks ∧ (s.startPlan b n t r p).events = s.events ∧
    (∀ z, (s.startPlan b n t r p).slot z = s.slot z) ∧ (∀ z, (s.startPlan b n t r p).console z = s.console z) := by
  unfold State.startPlan; (try dsimp only); (repeat' split) <;> simp [State.bay, State.slot, State.console]

@[simp] theorem startOrder_frame (s : State) (b : BayId) (h : HeldOrder) :
    (s.startOrder b h).pending = s.pending ∧ (s.startOrder b h).engine = s.engine ∧ (s.startOrder b h).clock = s.clock ∧
    (s.startOrder b h).cipher = s.cipher ∧ (s.startOrder b h).prof = s.prof ∧ (s.startOrder b h).ceu = s.ceu ∧
    (s.startOrder b h).writer = s.writer ∧ (s.startOrder b h).intake = s.intake ∧ (s.startOrder b h).ks = s.ks ∧
    (s.startOrder b h).events = s.events ∧ (∀ z, (s.startOrder b h).slot z = s.slot z) ∧
    (∀ z, (s.startOrder b h).console z = s.console z) := by
  unfold State.startOrder; (try dsimp only); (repeat' split) <;> simp [State.bay, State.slot, State.console]

@[simp] theorem finishPlan_frame (s : State) (b : BayId) (r : RunningOrder) (c : Result) (x : Byte) :
    (s.finishPlan b r c x).pending = s.pending ∧ (s.finishPlan b r c x).engine = s.engine ∧
    (s.finishPlan b r c x).clock = s.clock ∧ (s.finishPlan b r c x).cipher = s.cipher ∧
    (s.finishPlan b r c x).prof = s.prof ∧ (s.finishPlan b r c x).ceu = s.ceu ∧
    (s.finishPlan b r c x).writer.queue = s.writer.queue ∧ (s.finishPlan b r c x).writer.rollCount = s.writer.rollCount ∧
    (s.finishPlan b r c x).intake.area = s.intake.area ∧ (s.finishPlan b r c x).intake.areaLo = s.intake.areaLo ∧
    (s.finishPlan b r c x).intake.areaHi = s.intake.areaHi ∧ (s.finishPlan b r c x).ks = s.ks ∧
    (s.finishPlan b r c x).events.mask = s.events.mask ∧ (s.finishPlan b r c x).events.watches = s.events.watches ∧
    (s.finishPlan b r c x).events.startReport = s.events.startReport ∧
    (s.finishPlan b r c x).intake.sweepTimer = s.intake.sweepTimer ∧
    (s.finishPlan b r c x).intake.pointer = s.intake.pointer ∧ (s.finishPlan b r c x).intake.atTake = s.intake.atTake ∧
    (s.finishPlan b r c x).events.room = s.events.room ∧ (s.finishPlan b r c x).writer.line = s.writer.line ∧
    (s.finishPlan b r c x).writer.roll = s.writer.roll ∧ (∀ z, (s.finishPlan b r c x).slot z = s.slot z) ∧
    (∀ z, (s.finishPlan b r c x).console z = s.console z) := by
  unfold State.finishPlan; (try dsimp only); (repeat' split) <;> simp [State.bay, State.slot, State.console]

@[simp] theorem planEnd_frame (s : State) (b : BayId) (c : Result) (x : Byte) :
    (s.planEnd b c x).pending = s.pending ∧ (s.planEnd b c x).engine = s.engine ∧ (s.planEnd b c x).clock = s.clock ∧
    (s.planEnd b c x).cipher = s.cipher ∧ (s.planEnd b c x).prof = s.prof ∧ (s.planEnd b c x).ceu = s.ceu ∧
    (s.planEnd b c x).writer.queue = s.writer.queue ∧ (s.planEnd b c x).writer.rollCount = s.writer.rollCount ∧
    (s.planEnd b c x).intake.area = s.intake.area ∧ (s.planEnd b c x).intake.areaLo = s.intake.areaLo ∧
    (s.planEnd b c x).intake.areaHi = s.intake.areaHi ∧ (s.planEnd b c x).ks = s.ks ∧
    (s.planEnd b c x).events.mask = s.events.mask ∧ (s.planEnd b c x).events.watches = s.events.watches ∧
    (s.planEnd b c x).events.startReport = s.events.startReport ∧
    (s.planEnd b c x).intake.sweepTimer = s.intake.sweepTimer ∧ (s.planEnd b c x).intake.pointer = s.intake.pointer ∧
    (s.planEnd b c x).intake.atTake = s.intake.atTake ∧ (s.planEnd b c x).events.room = s.events.room ∧
    (s.planEnd b c x).writer.line = s.writer.line ∧ (s.planEnd b c x).writer.roll = s.writer.roll ∧
    (∀ z, (s.planEnd b c x).slot z = s.slot z) ∧ (∀ z, (s.planEnd b c x).console z = s.console z) := by
  unfold State.planEnd; (try dsimp only); (repeat' split) <;> simp [State.bay, State.slot, State.console]

@[simp] theorem takeRise_frame (s : State) (b : BayId) :
    (s.takeRise b).pending = s.pending ∧ (s.takeRise b).engine = s.engine ∧ (s.takeRise b).clock = s.clock ∧
    (s.takeRise b).cipher = s.cipher ∧ (s.takeRise b).prof = s.prof ∧ (s.takeRise b).ceu = s.ceu ∧
    (s.takeRise b).writer = s.writer ∧ (s.takeRise b).intake = s.intake ∧ (s.takeRise b).ks = s.ks ∧
    (s.takeRise b).events = s.events ∧ (∀ z, (s.takeRise b).slot z = s.slot z) ∧
    (∀ z, (s.takeRise b).console z = s.console z) := by
  unfold State.takeRise; (try dsimp only); (repeat' split) <;> simp [State.bay, State.slot, State.console]

@[simp] theorem takeRemoval_frame (s : State) (b : BayId) :
    (s.takeRemoval b).pending = s.pending ∧ (s.takeRemoval b).engine = s.engine ∧ (s.takeRemoval b).clock = s.clock ∧
    (s.takeRemoval b).cipher = s.cipher ∧ (s.takeRemoval b).prof = s.prof ∧ (s.takeRemoval b).ceu = s.ceu ∧
    (s.takeRemoval b).writer.queue = s.writer.queue ∧ (s.takeRemoval b).writer.rollCount = s.writer.rollCount ∧
    (s.takeRemoval b).intake.area = s.intake.area ∧ (s.takeRemoval b).intake.areaLo = s.intake.areaLo ∧
    (s.takeRemoval b).intake.areaHi = s.intake.areaHi ∧ (s.takeRemoval b).ks = s.ks ∧
    (s.takeRemoval b).events.mask = s.events.mask ∧ (s.takeRemoval b).events.watches = s.events.watches ∧
    (s.takeRemoval b).events.startReport = s.events.startReport ∧
    (s.takeRemoval b).intake.sweepTimer = s.intake.sweepTimer ∧ (s.takeRemoval b).intake.pointer = s.intake.pointer ∧
    (s.takeRemoval b).intake.atTake = s.intake.atTake ∧ (s.takeRemoval b).events.room = s.events.room ∧
    (s.takeRemoval b).writer.line = s.writer.line ∧ (s.takeRemoval b).writer.roll = s.writer.roll ∧
    (∀ z, (s.takeRemoval b).slot z = s.slot z) ∧ (∀ z, (s.takeRemoval b).console z = s.console z) := by
  unfold State.takeRemoval; (try dsimp only); (repeat' split) <;> simp [State.bay, State.slot, State.console]

@[simp] theorem awaitRemoval_frame (s : State) (b : BayId) :
    (s.awaitRemoval b).pending = s.pending ∧ (s.awaitRemoval b).engine = s.engine ∧ (s.awaitRemoval b).clock = s.clock ∧
    (s.awaitRemoval b).cipher = s.cipher ∧ (s.awaitRemoval b).prof = s.prof ∧ (s.awaitRemoval b).ceu = s.ceu ∧
    (s.awaitRemoval b).writer.queue = s.writer.queue ∧ (s.awaitRemoval b).writer.rollCount = s.writer.rollCount ∧
    (s.awaitRemoval b).intake.area = s.intake.area ∧ (s.awaitRemoval b).intake.areaLo = s.intake.areaLo ∧
    (s.awaitRemoval b).intake.areaHi = s.intake.areaHi ∧ (s.awaitRemoval b).ks = s.ks ∧
    (s.awaitRemoval b).events.mask = s.events.mask ∧ (s.awaitRemoval b).events.watches = s.events.watches ∧
    (s.awaitRemoval b).events.startReport = s.events.startReport ∧
    (s.awaitRemoval b).intake.sweepTimer = s.intake.sweepTimer ∧ (s.awaitRemoval b).intake.pointer = s.intake.pointer ∧
    (s.awaitRemoval b).intake.atTake = s.intake.atTake ∧ (s.awaitRemoval b).events.room = s.events.room ∧
    (s.awaitRemoval b).writer.line = s.writer.line ∧ (s.awaitRemoval b).writer.roll = s.writer.roll ∧
    (∀ z, (s.awaitRemoval b).slot z = s.slot z) ∧ (∀ z, (s.awaitRemoval b).console z = s.console z) := by
  unfold State.awaitRemoval; (try dsimp only); (repeat' split) <;> simp [State.bay, State.slot, State.console]

@[simp] theorem leaveTerminal_frame (s : State) (b : BayId) :
    (s.leaveTerminal b).pending = s.pending ∧ (s.leaveTerminal b).engine = s.engine ∧
    (s.leaveTerminal b).clock = s.clock ∧ (s.leaveTerminal b).cipher = s.cipher ∧ (s.leaveTerminal b).prof = s.prof ∧
    (s.leaveTerminal b).ceu = s.ceu ∧ (s.leaveTerminal b).writer.queue = s.writer.queue ∧
    (s.leaveTerminal b).writer.rollCount = s.writer.rollCount ∧ (s.leaveTerminal b).intake.area = s.intake.area ∧
    (s.leaveTerminal b).intake.areaLo = s.intake.areaLo ∧ (s.leaveTerminal b).intake.areaHi = s.intake.areaHi ∧
    (s.leaveTerminal b).ks = s.ks ∧ (s.leaveTerminal b).events.mask = s.events.mask ∧
    (s.leaveTerminal b).events.watches = s.events.watches ∧
    (s.leaveTerminal b).events.startReport = s.events.startReport ∧
    (s.leaveTerminal b).intake.sweepTimer = s.intake.sweepTimer ∧ (s.leaveTerminal b).intake.pointer = s.intake.pointer ∧
    (s.leaveTerminal b).intake.atTake = s.intake.atTake ∧ (s.leaveTerminal b).events.room = s.events.room ∧
    (s.leaveTerminal b).writer.line = s.writer.line ∧ (s.leaveTerminal b).writer.roll = s.writer.roll ∧
    (∀ z, (s.leaveTerminal b).slot z = s.slot z) ∧ (∀ z, (s.leaveTerminal b).console z = s.console z) := by
  unfold State.leaveTerminal; (try dsimp only); (repeat' split) <;> simp [State.bay, State.slot, State.console]

@[simp] theorem endFiling_frame (s : State) (b : BayId) :
    (s.endFiling b).pending = s.pending ∧ (s.endFiling b).engine = s.engine ∧ (s.endFiling b).clock = s.clock ∧
    (s.endFiling b).cipher = s.cipher ∧ (s.endFiling b).prof = s.prof ∧ (s.endFiling b).ceu = s.ceu ∧
    (s.endFiling b).writer.queue = s.writer.queue ∧ (s.endFiling b).writer.rollCount = s.writer.rollCount ∧
    (s.endFiling b).intake.area = s.intake.area ∧ (s.endFiling b).intake.areaLo = s.intake.areaLo ∧
    (s.endFiling b).intake.areaHi = s.intake.areaHi ∧ (s.endFiling b).ks.slots = s.ks.slots ∧
    (s.endFiling b).ks.latch = s.ks.latch ∧ (s.endFiling b).ks.overwrite = s.ks.overwrite ∧
    (s.endFiling b).events.mask = s.events.mask ∧ (s.endFiling b).events.watches = s.events.watches ∧
    (s.endFiling b).events.startReport = s.events.startReport ∧ (s.endFiling b).ks.closure = s.ks.closure ∧
    (s.endFiling b).ks.grant = s.ks.grant ∧ (s.endFiling b).ks.deferred = s.ks.deferred ∧
    (s.endFiling b).intake.sweepTimer = s.intake.sweepTimer ∧ (s.endFiling b).intake.pointer = s.intake.pointer ∧
    (s.endFiling b).intake.atTake = s.intake.atTake ∧ (s.endFiling b).events.room = s.events.room ∧
    (s.endFiling b).writer.line = s.writer.line ∧ (s.endFiling b).writer.roll = s.writer.roll ∧
    (∀ z, (s.endFiling b).slot z = s.slot z) ∧ (∀ z, (s.endFiling b).console z = s.console z) := by
  unfold State.endFiling; (try dsimp only); (repeat' split) <;> simp [State.bay, State.slot, State.console]

@[simp] theorem fileReceipts_frame (s : State) (b : BayId) (l : List Receipt) :
    (State.fileReceipts b l s).pending = s.pending ∧ (State.fileReceipts b l s).engine = s.engine ∧
    (State.fileReceipts b l s).clock = s.clock ∧ (State.fileReceipts b l s).cipher = s.cipher ∧
    (State.fileReceipts b l s).prof = s.prof ∧ (State.fileReceipts b l s).ceu = s.ceu ∧
    (State.fileReceipts b l s).writer.rollCount = s.writer.rollCount ∧
    (State.fileReceipts b l s).intake.area = s.intake.area ∧ (State.fileReceipts b l s).intake.areaLo = s.intake.areaLo ∧
    (State.fileReceipts b l s).intake.areaHi = s.intake.areaHi ∧ (State.fileReceipts b l s).ks.slots = s.ks.slots ∧
    (State.fileReceipts b l s).ks.latch = s.ks.latch ∧ (State.fileReceipts b l s).ks.overwrite = s.ks.overwrite ∧
    (State.fileReceipts b l s).events.mask = s.events.mask ∧
    (State.fileReceipts b l s).events.watches = s.events.watches ∧
    (State.fileReceipts b l s).events.startReport = s.events.startReport ∧
    (State.fileReceipts b l s).ks.closure = s.ks.closure ∧ (State.fileReceipts b l s).ks.grant = s.ks.grant ∧
    (State.fileReceipts b l s).ks.deferred = s.ks.deferred ∧
    (State.fileReceipts b l s).intake.sweepTimer = s.intake.sweepTimer ∧
    (State.fileReceipts b l s).intake.pointer = s.intake.pointer ∧
    (State.fileReceipts b l s).intake.atTake = s.intake.atTake ∧ (State.fileReceipts b l s).events.room = s.events.room ∧
    (State.fileReceipts b l s).writer.roll = s.writer.roll ∧ (∀ z, (State.fileReceipts b l s).slot z = s.slot z) ∧
    (∀ z, (State.fileReceipts b l s).console z = s.console z) := by
  induction l generalizing s with
  | nil => unfold State.fileReceipts; simp [State.bay, State.slot, State.console]
  | cons a l ih => unfold State.fileReceipts; (try dsimp only); (repeat' split) <;> simp_all [State.bay, State.slot, State.console]

@[simp] theorem file_frame (s : State) (b : BayId) (o : TerminalOutcome) :
    (s.file b o).pending = s.pending ∧ (s.file b o).engine = s.engine ∧ (s.file b o).clock = s.clock ∧
    (s.file b o).cipher = s.cipher ∧ (s.file b o).prof = s.prof ∧ (s.file b o).ceu = s.ceu ∧
    (s.file b o).writer.rollCount = s.writer.rollCount ∧ (s.file b o).intake.area = s.intake.area ∧
    (s.file b o).intake.areaLo = s.intake.areaLo ∧ (s.file b o).intake.areaHi = s.intake.areaHi ∧
    (s.file b o).ks.slots = s.ks.slots ∧ (s.file b o).ks.latch = s.ks.latch ∧
    (s.file b o).ks.overwrite = s.ks.overwrite ∧ (s.file b o).events.mask = s.events.mask ∧
    (s.file b o).events.watches = s.events.watches ∧ (s.file b o).events.startReport = s.events.startReport ∧
    (s.file b o).ks.closure = s.ks.closure ∧ (s.file b o).ks.grant = s.ks.grant ∧
    (s.file b o).ks.deferred = s.ks.deferred ∧ (s.file b o).intake.sweepTimer = s.intake.sweepTimer ∧
    (s.file b o).intake.pointer = s.intake.pointer ∧ (s.file b o).intake.atTake = s.intake.atTake ∧
    (s.file b o).events.room = s.events.room ∧ (s.file b o).writer.roll = s.writer.roll ∧
    (∀ z, (s.file b o).slot z = s.slot z) ∧ (∀ z, (s.file b o).console z = s.console z) := by
  unfold State.file; (try dsimp only); (repeat' split) <;> simp [State.bay, State.slot, State.console]

@[simp] theorem fileVoid_frame (s : State) (b : BayId) (r : VoidReason) :
    (s.fileVoid b r).pending = s.pending ∧ (s.fileVoid b r).engine = s.engine ∧ (s.fileVoid b r).clock = s.clock ∧
    (s.fileVoid b r).cipher = s.cipher ∧ (s.fileVoid b r).prof = s.prof ∧ (s.fileVoid b r).ceu = s.ceu ∧
    (s.fileVoid b r).writer.rollCount = s.writer.rollCount ∧ (s.fileVoid b r).intake.area = s.intake.area ∧
    (s.fileVoid b r).intake.areaLo = s.intake.areaLo ∧ (s.fileVoid b r).intake.areaHi = s.intake.areaHi ∧
    (s.fileVoid b r).ks.slots = s.ks.slots ∧ (s.fileVoid b r).ks.latch = s.ks.latch ∧
    (s.fileVoid b r).ks.overwrite = s.ks.overwrite ∧ (s.fileVoid b r).events.mask = s.events.mask ∧
    (s.fileVoid b r).events.watches = s.events.watches ∧ (s.fileVoid b r).events.startReport = s.events.startReport ∧
    (s.fileVoid b r).ks.closure = s.ks.closure ∧ (s.fileVoid b r).ks.grant = s.ks.grant ∧
    (s.fileVoid b r).ks.deferred = s.ks.deferred ∧ (s.fileVoid b r).intake.sweepTimer = s.intake.sweepTimer ∧
    (s.fileVoid b r).intake.pointer = s.intake.pointer ∧ (s.fileVoid b r).intake.atTake = s.intake.atTake ∧
    (s.fileVoid b r).events.room = s.events.room ∧ (s.fileVoid b r).writer.roll = s.writer.roll ∧
    (∀ z, (s.fileVoid b r).slot z = s.slot z) ∧ (∀ z, (s.fileVoid b r).console z = s.console z) := by
  unfold State.fileVoid; (try dsimp only); (repeat' split) <;> simp [State.bay, State.slot, State.console]

@[simp] theorem resumeSubmitter_frame (s : State) (x : Submission) :
    (s.resumeSubmitter x).pending = s.pending ∧ (s.resumeSubmitter x).engine = s.engine ∧
    (s.resumeSubmitter x).clock = s.clock ∧ (s.resumeSubmitter x).cipher = s.cipher ∧
    (s.resumeSubmitter x).prof = s.prof ∧ (s.resumeSubmitter x).ceu = s.ceu ∧
    (s.resumeSubmitter x).writer.rollCount = s.writer.rollCount ∧ (s.resumeSubmitter x).intake.area = s.intake.area ∧
    (s.resumeSubmitter x).intake.areaLo = s.intake.areaLo ∧ (s.resumeSubmitter x).intake.areaHi = s.intake.areaHi ∧
    (s.resumeSubmitter x).ks.latch = s.ks.latch ∧ (s.resumeSubmitter x).ks.overwrite = s.ks.overwrite ∧
    (s.resumeSubmitter x).events.mask = s.events.mask ∧ (s.resumeSubmitter x).events.watches = s.events.watches ∧
    (s.resumeSubmitter x).events.startReport = s.events.startReport ∧ (s.resumeSubmitter x).ks.closure = s.ks.closure ∧
    (s.resumeSubmitter x).ks.grant = s.ks.grant ∧ (s.resumeSubmitter x).ks.deferred = s.ks.deferred ∧
    (s.resumeSubmitter x).intake.sweepTimer = s.intake.sweepTimer ∧
    (s.resumeSubmitter x).intake.pointer = s.intake.pointer ∧ (s.resumeSubmitter x).intake.atTake = s.intake.atTake ∧
    (s.resumeSubmitter x).events.room = s.events.room ∧ (s.resumeSubmitter x).writer.roll = s.writer.roll ∧
    (∀ z, (s.resumeSubmitter x).console z = s.console z) := by
  unfold State.resumeSubmitter; (try dsimp only); (repeat' split) <;> simp [State.bay, State.slot, State.console]

@[simp] theorem admitWaiting_frame (s : State) :
    (s.admitWaiting).pending = s.pending ∧ (s.admitWaiting).engine = s.engine ∧ (s.admitWaiting).clock = s.clock ∧
    (s.admitWaiting).cipher = s.cipher ∧ (s.admitWaiting).prof = s.prof ∧ (s.admitWaiting).ceu = s.ceu ∧
    (s.admitWaiting).writer.rollCount = s.writer.rollCount ∧ (s.admitWaiting).intake.area = s.intake.area ∧
    (s.admitWaiting).intake.areaLo = s.intake.areaLo ∧ (s.admitWaiting).intake.areaHi = s.intake.areaHi ∧
    (s.admitWaiting).ks.latch = s.ks.latch ∧ (s.admitWaiting).ks.overwrite = s.ks.overwrite ∧
    (s.admitWaiting).events.mask = s.events.mask ∧ (s.admitWaiting).events.watches = s.events.watches ∧
    (s.admitWaiting).events.startReport = s.events.startReport ∧ (s.admitWaiting).ks.closure = s.ks.closure ∧
    (s.admitWaiting).ks.grant = s.ks.grant ∧ (s.admitWaiting).ks.deferred = s.ks.deferred ∧
    (s.admitWaiting).intake.sweepTimer = s.intake.sweepTimer ∧ (s.admitWaiting).intake.pointer = s.intake.pointer ∧
    (s.admitWaiting).intake.atTake = s.intake.atTake ∧ (s.admitWaiting).events.room = s.events.room ∧
    (s.admitWaiting).writer.roll = s.writer.roll ∧ (∀ z, (s.admitWaiting).console z = s.console z) := by
  unfold State.admitWaiting; (try dsimp only); (repeat' split) <;> simp [State.bay, State.slot, State.console]

@[simp] theorem keyUnavailable_frame (s : State) (r : CipherRequest) :
    (s.keyUnavailable r).pending = s.pending ∧ (s.keyUnavailable r).engine = s.engine ∧
    (s.keyUnavailable r).clock = s.clock ∧ (s.keyUnavailable r).cipher = s.cipher ∧ (s.keyUnavailable r).prof = s.prof ∧
    (s.keyUnavailable r).ceu = s.ceu ∧ (s.keyUnavailable r).writer.rollCount = s.writer.rollCount ∧
    (s.keyUnavailable r).intake.area = s.intake.area ∧ (s.keyUnavailable r).intake.areaLo = s.intake.areaLo ∧
    (s.keyUnavailable r).intake.areaHi = s.intake.areaHi ∧ (s.keyUnavailable r).ks.slots = s.ks.slots ∧
    (s.keyUnavailable r).ks.latch = s.ks.latch ∧ (s.keyUnavailable r).ks.overwrite = s.ks.overwrite ∧
    (s.keyUnavailable r).events.mask = s.events.mask ∧ (s.keyUnavailable r).events.watches = s.events.watches ∧
    (s.keyUnavailable r).events.startReport = s.events.startReport ∧ (s.keyUnavailable r).ks.closure = s.ks.closure ∧
    (s.keyUnavailable r).ks.grant = s.ks.grant ∧ (s.keyUnavailable r).ks.deferred = s.ks.deferred ∧
    (s.keyUnavailable r).intake.sweepTimer = s.intake.sweepTimer ∧
    (s.keyUnavailable r).intake.pointer = s.intake.pointer ∧ (s.keyUnavailable r).intake.atTake = s.intake.atTake ∧
    (s.keyUnavailable r).events.room = s.events.room ∧ (s.keyUnavailable r).writer.roll = s.writer.roll ∧
    (∀ z, (s.keyUnavailable r).slot z = s.slot z) ∧ (∀ z, (s.keyUnavailable r).console z = s.console z) := by
  unfold State.keyUnavailable; (try dsimp only); (repeat' split) <;> simp [State.bay, State.slot, State.console]

@[simp] theorem startCipher_frame (s : State) (l : List CipherRequest) :
    (State.startCipher l s).pending = s.pending ∧ (State.startCipher l s).engine = s.engine ∧
    (State.startCipher l s).clock = s.clock ∧ (State.startCipher l s).prof = s.prof ∧
    (State.startCipher l s).ceu = s.ceu ∧ (State.startCipher l s).writer.rollCount = s.writer.rollCount ∧
    (State.startCipher l s).intake.area = s.intake.area ∧ (State.startCipher l s).intake.areaLo = s.intake.areaLo ∧
    (State.startCipher l s).intake.areaHi = s.intake.areaHi ∧ (State.startCipher l s).ks.slots = s.ks.slots ∧
    (State.startCipher l s).ks.latch = s.ks.latch ∧ (State.startCipher l s).ks.overwrite = s.ks.overwrite ∧
    (State.startCipher l s).events.mask = s.events.mask ∧ (State.startCipher l s).events.watches = s.events.watches ∧
    (State.startCipher l s).events.startReport = s.events.startReport ∧
    (State.startCipher l s).ks.closure = s.ks.closure ∧ (State.startCipher l s).ks.grant = s.ks.grant ∧
    (State.startCipher l s).ks.deferred = s.ks.deferred ∧
    (State.startCipher l s).intake.sweepTimer = s.intake.sweepTimer ∧
    (State.startCipher l s).intake.pointer = s.intake.pointer ∧ (State.startCipher l s).intake.atTake = s.intake.atTake ∧
    (State.startCipher l s).events.room = s.events.room ∧ (State.startCipher l s).writer.roll = s.writer.roll ∧
    (∀ z, (State.startCipher l s).slot z = s.slot z) ∧ (∀ z, (State.startCipher l s).console z = s.console z) := by
  induction l generalizing s with
  | nil => unfold State.startCipher; simp [State.bay, State.slot, State.console]
  | cons a l ih => unfold State.startCipher; (try dsimp only); (repeat' split) <;> simp_all [State.bay, State.slot, State.console]

@[simp] theorem kickCipher_frame (s : State) :
    (s.kickCipher).pending = s.pending ∧ (s.kickCipher).engine = s.engine ∧ (s.kickCipher).clock = s.clock ∧
    (s.kickCipher).prof = s.prof ∧ (s.kickCipher).ceu = s.ceu ∧ (s.kickCipher).writer.rollCount = s.writer.rollCount ∧
    (s.kickCipher).intake.area = s.intake.area ∧ (s.kickCipher).intake.areaLo = s.intake.areaLo ∧
    (s.kickCipher).intake.areaHi = s.intake.areaHi ∧ (s.kickCipher).ks.slots = s.ks.slots ∧
    (s.kickCipher).ks.latch = s.ks.latch ∧ (s.kickCipher).ks.overwrite = s.ks.overwrite ∧
    (s.kickCipher).events.mask = s.events.mask ∧ (s.kickCipher).events.watches = s.events.watches ∧
    (s.kickCipher).events.startReport = s.events.startReport ∧ (s.kickCipher).ks.closure = s.ks.closure ∧
    (s.kickCipher).ks.grant = s.ks.grant ∧ (s.kickCipher).ks.deferred = s.ks.deferred ∧
    (s.kickCipher).intake.sweepTimer = s.intake.sweepTimer ∧ (s.kickCipher).intake.pointer = s.intake.pointer ∧
    (s.kickCipher).intake.atTake = s.intake.atTake ∧ (s.kickCipher).events.room = s.events.room ∧
    (s.kickCipher).writer.roll = s.writer.roll ∧ (∀ z, (s.kickCipher).slot z = s.slot z) ∧
    (∀ z, (s.kickCipher).console z = s.console z) := by
  unfold State.kickCipher; (try dsimp only); (repeat' split) <;> simp [State.bay, State.slot, State.console]

@[simp] theorem submitCipher_frame (s : State) (r : Requester) (o : CipherOp) :
    (s.submitCipher r o).pending = s.pending ∧ (s.submitCipher r o).engine = s.engine ∧
    (s.submitCipher r o).clock = s.clock ∧ (s.submitCipher r o).prof = s.prof ∧ (s.submitCipher r o).ceu = s.ceu ∧
    (s.submitCipher r o).writer.rollCount = s.writer.rollCount ∧ (s.submitCipher r o).intake.area = s.intake.area ∧
    (s.submitCipher r o).intake.areaLo = s.intake.areaLo ∧ (s.submitCipher r o).intake.areaHi = s.intake.areaHi ∧
    (s.submitCipher r o).ks.slots = s.ks.slots ∧ (s.submitCipher r o).ks.latch = s.ks.latch ∧
    (s.submitCipher r o).ks.overwrite = s.ks.overwrite ∧ (s.submitCipher r o).events.mask = s.events.mask ∧
    (s.submitCipher r o).events.watches = s.events.watches ∧
    (s.submitCipher r o).events.startReport = s.events.startReport ∧ (s.submitCipher r o).ks.closure = s.ks.closure ∧
    (s.submitCipher r o).ks.grant = s.ks.grant ∧ (s.submitCipher r o).ks.deferred = s.ks.deferred ∧
    (s.submitCipher r o).intake.sweepTimer = s.intake.sweepTimer ∧
    (s.submitCipher r o).intake.pointer = s.intake.pointer ∧ (s.submitCipher r o).intake.atTake = s.intake.atTake ∧
    (s.submitCipher r o).events.room = s.events.room ∧ (s.submitCipher r o).writer.roll = s.writer.roll ∧
    (∀ z, (s.submitCipher r o).slot z = s.slot z) ∧ (∀ z, (s.submitCipher r o).console z = s.console z) := by
  unfold State.submitCipher; (try dsimp only); (repeat' split) <;> simp [State.bay, State.slot, State.console]

@[simp] theorem releaseCipher_frame (s : State) :
    (s.releaseCipher).pending = s.pending ∧ (s.releaseCipher).engine = s.engine ∧ (s.releaseCipher).clock = s.clock ∧
    (s.releaseCipher).bays = s.bays ∧ (s.releaseCipher).prof = s.prof ∧ (s.releaseCipher).ceu = s.ceu ∧
    (s.releaseCipher).writer = s.writer ∧ (s.releaseCipher).intake = s.intake ∧ (s.releaseCipher).ks = s.ks ∧
    (s.releaseCipher).events = s.events ∧ (∀ z, (s.releaseCipher).bay z = s.bay z) ∧
    (∀ z, (s.releaseCipher).slot z = s.slot z) ∧ (∀ z, (s.releaseCipher).console z = s.console z) := by
  unfold State.releaseCipher; (try dsimp only); (repeat' split) <;> simp [State.bay, State.slot, State.console]

@[simp] theorem updPlace_frame (s : State) (b : BayId) (n : Nat) (f : KeyPlace → KeyPlace) :
    (s.updPlace b n f).pending = s.pending ∧ (s.updPlace b n f).engine = s.engine ∧ (s.updPlace b n f).clock = s.clock ∧
    (s.updPlace b n f).cipher = s.cipher ∧ (s.updPlace b n f).prof = s.prof ∧ (s.updPlace b n f).ceu = s.ceu ∧
    (s.updPlace b n f).writer = s.writer ∧ (s.updPlace b n f).intake = s.intake ∧ (s.updPlace b n f).ks = s.ks ∧
    (s.updPlace b n f).events = s.events ∧ (∀ z, (s.updPlace b n f).slot z = s.slot z) ∧
    (∀ z, (s.updPlace b n f).console z = s.console z) := by
  unfold State.updPlace; (try dsimp only); (repeat' split) <;> simp [State.bay, State.slot, State.console]

@[simp] theorem sendLatched_frame (s : State) (b : BayId) (x : EngineFrame) :
    (s.sendLatched b x).pending = s.pending ∧ (s.sendLatched b x).engine = s.engine ∧
    (s.sendLatched b x).clock = s.clock ∧ (s.sendLatched b x).cipher = s.cipher ∧ (s.sendLatched b x).prof = s.prof ∧
    (s.sendLatched b x).ceu = s.ceu ∧ (s.sendLatched b x).writer = s.writer ∧ (s.sendLatched b x).intake = s.intake ∧
    (s.sendLatched b x).ks = s.ks ∧ (s.sendLatched b x).events = s.events ∧
    (∀ z, (s.sendLatched b x).slot z = s.slot z) ∧ (∀ z, (s.sendLatched b x).console z = s.console z) := by
  unfold State.sendLatched; (try dsimp only); (repeat' split) <;> simp [State.bay, State.slot, State.console]

@[simp] theorem sendPart_frame (s : State) (b : BayId) (n : Nat) (i : ItemRecord) (m : Nat) :
    (s.sendPart b n i m).pending = s.pending ∧ (s.sendPart b n i m).engine = s.engine ∧
    (s.sendPart b n i m).clock = s.clock ∧ (s.sendPart b n i m).cipher = s.cipher ∧ (s.sendPart b n i m).prof = s.prof ∧
    (s.sendPart b n i m).ceu = s.ceu ∧ (s.sendPart b n i m).writer = s.writer ∧ (s.sendPart b n i m).intake = s.intake ∧
    (s.sendPart b n i m).ks = s.ks ∧ (s.sendPart b n i m).events = s.events ∧
    (∀ z, (s.sendPart b n i m).slot z = s.slot z) ∧ (∀ z, (s.sendPart b n i m).console z = s.console z) := by
  unfold State.sendPart; (try dsimp only); (repeat' split) <;> simp [State.bay, State.slot, State.console]

@[simp] theorem sendEnd_frame (s : State) (b : BayId) (i : ItemRecord) :
    (s.sendEnd b i).pending = s.pending ∧ (s.sendEnd b i).engine = s.engine ∧ (s.sendEnd b i).clock = s.clock ∧
    (s.sendEnd b i).cipher = s.cipher ∧ (s.sendEnd b i).prof = s.prof ∧ (s.sendEnd b i).ceu = s.ceu ∧
    (s.sendEnd b i).writer = s.writer ∧ (s.sendEnd b i).intake = s.intake ∧ (s.sendEnd b i).ks = s.ks ∧
    (s.sendEnd b i).events = s.events ∧ (∀ z, (s.sendEnd b i).slot z = s.slot z) ∧
    (∀ z, (s.sendEnd b i).console z = s.console z) := by
  unfold State.sendEnd; (try dsimp only); (repeat' split) <;> simp [State.bay, State.slot, State.console]

@[simp] theorem enterReleasing_frame (s : State) (b : BayId) :
    (s.enterReleasing b).pending = s.pending ∧ (s.enterReleasing b).engine = s.engine ∧
    (s.enterReleasing b).clock = s.clock ∧ (s.enterReleasing b).cipher = s.cipher ∧ (s.enterReleasing b).prof = s.prof ∧
    (s.enterReleasing b).ceu = s.ceu ∧ (s.enterReleasing b).writer = s.writer ∧ (s.enterReleasing b).intake = s.intake ∧
    (s.enterReleasing b).ks = s.ks ∧ (s.enterReleasing b).events = s.events ∧
    (∀ z, (s.enterReleasing b).slot z = s.slot z) ∧ (∀ z, (s.enterReleasing b).console z = s.console z) := by
  unfold State.enterReleasing; (try dsimp only); (repeat' split) <;> simp [State.bay, State.slot, State.console]

@[simp] theorem unwind_frame (s : State) (b : BayId) (r : VoidReason) :
    (s.unwind b r).pending = s.pending ∧ (s.unwind b r).engine = s.engine ∧ (s.unwind b r).clock = s.clock ∧
    (s.unwind b r).cipher = s.cipher ∧ (s.unwind b r).prof = s.prof ∧ (s.unwind b r).ceu = s.ceu ∧
    (s.unwind b r).writer = s.writer ∧ (s.unwind b r).intake = s.intake ∧ (s.unwind b r).ks = s.ks ∧
    (s.unwind b r).events = s.events ∧ (∀ z, (s.unwind b r).slot z = s.slot z) ∧
    (∀ z, (s.unwind b r).console z = s.console z) := by
  unfold State.unwind; (try dsimp only); (repeat' split) <;> simp [State.bay, State.slot, State.console]

@[simp] theorem deliverFrom_frame (s : State) (b : BayId) (n : Nat) :
    (s.deliverFrom b n).pending = s.pending ∧ (s.deliverFrom b n).engine = s.engine ∧
    (s.deliverFrom b n).clock = s.clock ∧ (s.deliverFrom b n).cipher = s.cipher ∧ (s.deliverFrom b n).prof = s.prof ∧
    (s.deliverFrom b n).ceu = s.ceu ∧ (s.deliverFrom b n).writer = s.writer ∧ (s.deliverFrom b n).intake = s.intake ∧
    (s.deliverFrom b n).ks = s.ks ∧ (s.deliverFrom b n).events = s.events ∧
    (∀ z, (s.deliverFrom b n).slot z = s.slot z) ∧ (∀ z, (s.deliverFrom b n).console z = s.console z) := by
  unfold State.deliverFrom; (try dsimp only); (repeat' split) <;> simp [State.bay, State.slot, State.console]

@[simp] theorem enterLoading_frame (s : State) (b : BayId) :
    (s.enterLoading b).pending = s.pending ∧ (s.enterLoading b).engine = s.engine ∧ (s.enterLoading b).clock = s.clock ∧
    (s.enterLoading b).cipher = s.cipher ∧ (s.enterLoading b).prof = s.prof ∧ (s.enterLoading b).ceu = s.ceu ∧
    (s.enterLoading b).writer = s.writer ∧ (s.enterLoading b).intake = s.intake ∧ (s.enterLoading b).ks = s.ks ∧
    (s.enterLoading b).events = s.events ∧ (∀ z, (s.enterLoading b).slot z = s.slot z) ∧
    (∀ z, (s.enterLoading b).console z = s.console z) := by
  unfold State.enterLoading; (try dsimp only); (repeat' split) <;> simp [State.bay, State.slot, State.console]

@[simp] theorem prepareNext_frame (s : State) (b : BayId) :
    (s.prepareNext b).pending = s.pending ∧ (s.prepareNext b).engine = s.engine ∧ (s.prepareNext b).clock = s.clock ∧
    (s.prepareNext b).prof = s.prof ∧ (s.prepareNext b).ceu = s.ceu ∧
    (s.prepareNext b).writer.rollCount = s.writer.rollCount ∧ (s.prepareNext b).intake.area = s.intake.area ∧
    (s.prepareNext b).intake.areaLo = s.intake.areaLo ∧ (s.prepareNext b).intake.areaHi = s.intake.areaHi ∧
    (s.prepareNext b).ks.slots = s.ks.slots ∧ (s.prepareNext b).ks.latch = s.ks.latch ∧
    (s.prepareNext b).ks.overwrite = s.ks.overwrite ∧ (s.prepareNext b).events.mask = s.events.mask ∧
    (s.prepareNext b).events.watches = s.events.watches ∧ (s.prepareNext b).events.startReport = s.events.startReport ∧
    (s.prepareNext b).ks.closure = s.ks.closure ∧ (s.prepareNext b).ks.grant = s.ks.grant ∧
    (s.prepareNext b).ks.deferred = s.ks.deferred ∧ (s.prepareNext b).intake.sweepTimer = s.intake.sweepTimer ∧
    (s.prepareNext b).intake.pointer = s.intake.pointer ∧ (s.prepareNext b).intake.atTake = s.intake.atTake ∧
    (s.prepareNext b).events.room = s.events.room ∧ (s.prepareNext b).writer.roll = s.writer.roll ∧
    (∀ z, (s.prepareNext b).slot z = s.slot z) ∧ (∀ z, (s.prepareNext b).console z = s.console z) := by
  unfold State.prepareNext; (try dsimp only); (repeat' split) <;> simp [State.bay, State.slot, State.console]

@[simp] theorem enterPreparing_frame (s : State) (b : BayId) :
    (s.enterPreparing b).pending = s.pending ∧ (s.enterPreparing b).engine = s.engine ∧
    (s.enterPreparing b).clock = s.clock ∧ (s.enterPreparing b).prof = s.prof ∧ (s.enterPreparing b).ceu = s.ceu ∧
    (s.enterPreparing b).writer.rollCount = s.writer.rollCount ∧ (s.enterPreparing b).intake.area = s.intake.area ∧
    (s.enterPreparing b).intake.areaLo = s.intake.areaLo ∧ (s.enterPreparing b).intake.areaHi = s.intake.areaHi ∧
    (s.enterPreparing b).ks.slots = s.ks.slots ∧ (s.enterPreparing b).ks.latch = s.ks.latch ∧
    (s.enterPreparing b).ks.overwrite = s.ks.overwrite ∧ (s.enterPreparing b).events.mask = s.events.mask ∧
    (s.enterPreparing b).events.watches = s.events.watches ∧
    (s.enterPreparing b).events.startReport = s.events.startReport ∧ (s.enterPreparing b).ks.closure = s.ks.closure ∧
    (s.enterPreparing b).ks.grant = s.ks.grant ∧ (s.enterPreparing b).ks.deferred = s.ks.deferred ∧
    (s.enterPreparing b).intake.sweepTimer = s.intake.sweepTimer ∧
    (s.enterPreparing b).intake.pointer = s.intake.pointer ∧ (s.enterPreparing b).intake.atTake = s.intake.atTake ∧
    (s.enterPreparing b).events.room = s.events.room ∧ (s.enterPreparing b).writer.roll = s.writer.roll ∧
    (∀ z, (s.enterPreparing b).slot z = s.slot z) ∧ (∀ z, (s.enterPreparing b).console z = s.console z) := by
  unfold State.enterPreparing; (try dsimp only); (repeat' split) <;> simp [State.bay, State.slot, State.console]

@[simp] theorem claimNext_frame (s : State) (b : BayId) :
    (s.claimNext b).pending = s.pending ∧ (s.claimNext b).engine = s.engine ∧ (s.claimNext b).clock = s.clock ∧
    (s.claimNext b).prof = s.prof ∧ (s.claimNext b).ceu = s.ceu ∧ (s.claimNext b).writer.rollCount = s.writer.rollCount ∧
    (s.claimNext b).intake.area = s.intake.area ∧ (s.claimNext b).intake.areaLo = s.intake.areaLo ∧
    (s.claimNext b).intake.areaHi = s.intake.areaHi ∧ (s.claimNext b).ks.slots = s.ks.slots ∧
    (s.claimNext b).ks.latch = s.ks.latch ∧ (s.claimNext b).ks.overwrite = s.ks.overwrite ∧
    (s.claimNext b).events.mask = s.events.mask ∧ (s.claimNext b).events.watches = s.events.watches ∧
    (s.claimNext b).events.startReport = s.events.startReport ∧ (s.claimNext b).ks.closure = s.ks.closure ∧
    (s.claimNext b).ks.grant = s.ks.grant ∧ (s.claimNext b).ks.deferred = s.ks.deferred ∧
    (s.claimNext b).intake.sweepTimer = s.intake.sweepTimer ∧ (s.claimNext b).intake.pointer = s.intake.pointer ∧
    (s.claimNext b).intake.atTake = s.intake.atTake ∧ (s.claimNext b).events.room = s.events.room ∧
    (s.claimNext b).writer.roll = s.writer.roll ∧ (∀ z, (s.claimNext b).slot z = s.slot z) ∧
    (∀ z, (s.claimNext b).console z = s.console z) := by
  unfold State.claimNext; (try dsimp only); (repeat' split) <;> simp [State.bay, State.slot, State.console]

@[simp] theorem claimingOver_frame (s : State) (b : BayId) (r : VoidReason) :
    (s.claimingOver b r).pending = s.pending ∧ (s.claimingOver b r).engine = s.engine ∧
    (s.claimingOver b r).clock = s.clock ∧ (s.claimingOver b r).cipher = s.cipher ∧ (s.claimingOver b r).prof = s.prof ∧
    (s.claimingOver b r).ceu = s.ceu ∧ (s.claimingOver b r).writer.rollCount = s.writer.rollCount ∧
    (s.claimingOver b r).intake.area = s.intake.area ∧ (s.claimingOver b r).intake.areaLo = s.intake.areaLo ∧
    (s.claimingOver b r).intake.areaHi = s.intake.areaHi ∧ (s.claimingOver b r).ks.slots = s.ks.slots ∧
    (s.claimingOver b r).ks.latch = s.ks.latch ∧ (s.claimingOver b r).ks.overwrite = s.ks.overwrite ∧
    (s.claimingOver b r).events.mask = s.events.mask ∧ (s.claimingOver b r).events.watches = s.events.watches ∧
    (s.claimingOver b r).events.startReport = s.events.startReport ∧ (s.claimingOver b r).ks.closure = s.ks.closure ∧
    (s.claimingOver b r).ks.grant = s.ks.grant ∧ (s.claimingOver b r).ks.deferred = s.ks.deferred ∧
    (s.claimingOver b r).intake.sweepTimer = s.intake.sweepTimer ∧
    (s.claimingOver b r).intake.pointer = s.intake.pointer ∧ (s.claimingOver b r).intake.atTake = s.intake.atTake ∧
    (s.claimingOver b r).events.room = s.events.room ∧ (s.claimingOver b r).writer.roll = s.writer.roll ∧
    (∀ z, (s.claimingOver b r).slot z = s.slot z) ∧ (∀ z, (s.claimingOver b r).console z = s.console z) := by
  unfold State.claimingOver; (try dsimp only); (repeat' split) <;> simp [State.bay, State.slot, State.console]

@[simp] theorem claimGranted_frame (s : State) (b : BayId) :
    (s.claimGranted b).pending = s.pending ∧ (s.claimGranted b).engine = s.engine ∧ (s.claimGranted b).clock = s.clock ∧
    (s.claimGranted b).prof = s.prof ∧ (s.claimGranted b).ceu = s.ceu ∧
    (s.claimGranted b).writer.rollCount = s.writer.rollCount ∧ (s.claimGranted b).intake.area = s.intake.area ∧
    (s.claimGranted b).intake.areaLo = s.intake.areaLo ∧ (s.claimGranted b).intake.areaHi = s.intake.areaHi ∧
    (s.claimGranted b).ks.slots = s.ks.slots ∧ (s.claimGranted b).ks.latch = s.ks.latch ∧
    (s.claimGranted b).ks.overwrite = s.ks.overwrite ∧ (s.claimGranted b).events.mask = s.events.mask ∧
    (s.claimGranted b).events.watches = s.events.watches ∧ (s.claimGranted b).events.startReport = s.events.startReport ∧
    (s.claimGranted b).ks.closure = s.ks.closure ∧ (s.claimGranted b).ks.grant = s.ks.grant ∧
    (s.claimGranted b).ks.deferred = s.ks.deferred ∧ (s.claimGranted b).intake.sweepTimer = s.intake.sweepTimer ∧
    (s.claimGranted b).intake.pointer = s.intake.pointer ∧ (s.claimGranted b).intake.atTake = s.intake.atTake ∧
    (s.claimGranted b).events.room = s.events.room ∧ (s.claimGranted b).writer.roll = s.writer.roll ∧
    (∀ z, (s.claimGranted b).slot z = s.slot z) ∧ (∀ z, (s.claimGranted b).console z = s.console z) := by
  unfold State.claimGranted; (try dsimp only); (repeat' split) <;> simp [State.bay, State.slot, State.console]

@[simp] theorem claimRefused_frame (s : State) (b : BayId) (c : Result) (i : SlotId) :
    (s.claimRefused b c i).pending = s.pending ∧ (s.claimRefused b c i).engine = s.engine ∧
    (s.claimRefused b c i).clock = s.clock ∧ (s.claimRefused b c i).cipher = s.cipher ∧
    (s.claimRefused b c i).prof = s.prof ∧ (s.claimRefused b c i).ceu = s.ceu ∧
    (s.claimRefused b c i).writer.rollCount = s.writer.rollCount ∧ (s.claimRefused b c i).intake.area = s.intake.area ∧
    (s.claimRefused b c i).intake.areaLo = s.intake.areaLo ∧ (s.claimRefused b c i).intake.areaHi = s.intake.areaHi ∧
    (s.claimRefused b c i).ks.slots = s.ks.slots ∧ (s.claimRefused b c i).ks.latch = s.ks.latch ∧
    (s.claimRefused b c i).ks.overwrite = s.ks.overwrite ∧ (s.claimRefused b c i).events.mask = s.events.mask ∧
    (s.claimRefused b c i).events.watches = s.events.watches ∧
    (s.claimRefused b c i).events.startReport = s.events.startReport ∧ (s.claimRefused b c i).ks.closure = s.ks.closure ∧
    (s.claimRefused b c i).ks.grant = s.ks.grant ∧ (s.claimRefused b c i).ks.deferred = s.ks.deferred ∧
    (s.claimRefused b c i).intake.sweepTimer = s.intake.sweepTimer ∧
    (s.claimRefused b c i).intake.pointer = s.intake.pointer ∧ (s.claimRefused b c i).intake.atTake = s.intake.atTake ∧
    (s.claimRefused b c i).events.room = s.events.room ∧ (s.claimRefused b c i).writer.roll = s.writer.roll ∧
    (∀ z, (s.claimRefused b c i).slot z = s.slot z) ∧ (∀ z, (s.claimRefused b c i).console z = s.console z) := by
  unfold State.claimRefused; (try dsimp only); (repeat' split) <;> simp [State.bay, State.slot, State.console]

@[simp] theorem recordClaim_frame (s : State) (b : BayId) (c : GrantedClaim) :
    (s.recordClaim b c).pending = s.pending ∧ (s.recordClaim b c).engine = s.engine ∧
    (s.recordClaim b c).clock = s.clock ∧ (s.recordClaim b c).cipher = s.cipher ∧ (s.recordClaim b c).prof = s.prof ∧
    (s.recordClaim b c).ceu = s.ceu ∧ (s.recordClaim b c).writer = s.writer ∧ (s.recordClaim b c).intake = s.intake ∧
    (s.recordClaim b c).ks = s.ks ∧ (s.recordClaim b c).events = s.events ∧
    (∀ z, (s.recordClaim b c).slot z = s.slot z) ∧ (∀ z, (s.recordClaim b c).console z = s.console z) := by
  unfold State.recordClaim; (try dsimp only); (repeat' split) <;> simp [State.bay, State.slot, State.console]

@[simp] theorem recordWrap_frame (s : State) (b : BayId) (i : SlotId) (g : BitVec 16) :
    (s.recordWrap b i g).pending = s.pending ∧ (s.recordWrap b i g).engine = s.engine ∧
    (s.recordWrap b i g).clock = s.clock ∧ (s.recordWrap b i g).cipher = s.cipher ∧ (s.recordWrap b i g).prof = s.prof ∧
    (s.recordWrap b i g).ceu = s.ceu ∧ (s.recordWrap b i g).writer = s.writer ∧ (s.recordWrap b i g).intake = s.intake ∧
    (s.recordWrap b i g).ks = s.ks ∧ (s.recordWrap b i g).events = s.events ∧
    (∀ z, (s.recordWrap b i g).slot z = s.slot z) ∧ (∀ z, (s.recordWrap b i g).console z = s.console z) := by
  unfold State.recordWrap; (try dsimp only); (repeat' split) <;> simp [State.bay, State.slot, State.console]

@[simp] theorem identified_frame (s : State) (b : BayId) (p : Plan) (d : Identity) :
    (s.identified b p d).pending = s.pending ∧ (s.identified b p d).engine = s.engine ∧
    (s.identified b p d).clock = s.clock ∧ (s.identified b p d).prof = s.prof ∧ (s.identified b p d).ceu = s.ceu ∧
    (s.identified b p d).writer.rollCount = s.writer.rollCount ∧ (s.identified b p d).intake.area = s.intake.area ∧
    (s.identified b p d).intake.areaLo = s.intake.areaLo ∧ (s.identified b p d).intake.areaHi = s.intake.areaHi ∧
    (s.identified b p d).ks.slots = s.ks.slots ∧ (s.identified b p d).ks.latch = s.ks.latch ∧
    (s.identified b p d).ks.overwrite = s.ks.overwrite ∧ (s.identified b p d).events.mask = s.events.mask ∧
    (s.identified b p d).events.watches = s.events.watches ∧
    (s.identified b p d).events.startReport = s.events.startReport ∧ (s.identified b p d).ks.closure = s.ks.closure ∧
    (s.identified b p d).ks.grant = s.ks.grant ∧ (s.identified b p d).ks.deferred = s.ks.deferred ∧
    (s.identified b p d).intake.sweepTimer = s.intake.sweepTimer ∧
    (s.identified b p d).intake.pointer = s.intake.pointer ∧ (s.identified b p d).intake.atTake = s.intake.atTake ∧
    (s.identified b p d).events.room = s.events.room ∧ (s.identified b p d).writer.roll = s.writer.roll ∧
    (∀ z, (s.identified b p d).slot z = s.slot z) ∧ (∀ z, (s.identified b p d).console z = s.console z) := by
  unfold State.identified; (try dsimp only); (repeat' split) <;> simp [State.bay, State.slot, State.console]

@[simp] theorem loadingReply_frame (s : State) (b : BayId) (f : TerminalFrame) :
    (s.loadingReply b f).pending = s.pending ∧ (s.loadingReply b f).engine = s.engine ∧
    (s.loadingReply b f).clock = s.clock ∧ (s.loadingReply b f).cipher = s.cipher ∧ (s.loadingReply b f).prof = s.prof ∧
    (s.loadingReply b f).ceu = s.ceu ∧ (s.loadingReply b f).writer = s.writer ∧ (s.loadingReply b f).intake = s.intake ∧
    (s.loadingReply b f).ks = s.ks ∧ (s.loadingReply b f).events = s.events ∧
    (∀ z, (s.loadingReply b f).slot z = s.slot z) ∧ (∀ z, (s.loadingReply b f).console z = s.console z) := by
  unfold State.loadingReply; (try dsimp only); (repeat' split) <;> simp [State.bay, State.slot, State.console]

@[simp] theorem sessionReply_frame (s : State) (b : BayId) (f : TerminalFrame) :
    (s.sessionReply b f).pending = s.pending ∧ (s.sessionReply b f).engine = s.engine ∧
    (s.sessionReply b f).clock = s.clock ∧ (s.sessionReply b f).prof = s.prof ∧ (s.sessionReply b f).ceu = s.ceu ∧
    (s.sessionReply b f).writer.rollCount = s.writer.rollCount ∧ (s.sessionReply b f).intake.area = s.intake.area ∧
    (s.sessionReply b f).intake.areaLo = s.intake.areaLo ∧ (s.sessionReply b f).intake.areaHi = s.intake.areaHi ∧
    (s.sessionReply b f).ks.slots = s.ks.slots ∧ (s.sessionReply b f).ks.latch = s.ks.latch ∧
    (s.sessionReply b f).ks.overwrite = s.ks.overwrite ∧ (s.sessionReply b f).events.mask = s.events.mask ∧
    (s.sessionReply b f).events.watches = s.events.watches ∧
    (s.sessionReply b f).events.startReport = s.events.startReport ∧ (s.sessionReply b f).ks.closure = s.ks.closure ∧
    (s.sessionReply b f).ks.grant = s.ks.grant ∧ (s.sessionReply b f).ks.deferred = s.ks.deferred ∧
    (s.sessionReply b f).intake.sweepTimer = s.intake.sweepTimer ∧
    (s.sessionReply b f).intake.pointer = s.intake.pointer ∧ (s.sessionReply b f).intake.atTake = s.intake.atTake ∧
    (s.sessionReply b f).events.room = s.events.room ∧ (s.sessionReply b f).writer.roll = s.writer.roll ∧
    (∀ z, (s.sessionReply b f).slot z = s.slot z) ∧ (∀ z, (s.sessionReply b f).console z = s.console z) := by
  unfold State.sessionReply; (try dsimp only); (repeat' split) <;> simp [State.bay, State.slot, State.console]

@[simp] theorem sessionFailure_frame (s : State) (b : BayId) (e : ExchangeFailure) :
    (s.sessionFailure b e).pending = s.pending ∧ (s.sessionFailure b e).engine = s.engine ∧
    (s.sessionFailure b e).clock = s.clock ∧ (s.sessionFailure b e).cipher = s.cipher ∧
    (s.sessionFailure b e).prof = s.prof ∧ (s.sessionFailure b e).ceu = s.ceu ∧
    (s.sessionFailure b e).writer.rollCount = s.writer.rollCount ∧ (s.sessionFailure b e).intake.area = s.intake.area ∧
    (s.sessionFailure b e).intake.areaLo = s.intake.areaLo ∧ (s.sessionFailure b e).intake.areaHi = s.intake.areaHi ∧
    (s.sessionFailure b e).ks.slots = s.ks.slots ∧ (s.sessionFailure b e).ks.latch = s.ks.latch ∧
    (s.sessionFailure b e).ks.overwrite = s.ks.overwrite ∧ (s.sessionFailure b e).events.mask = s.events.mask ∧
    (s.sessionFailure b e).events.watches = s.events.watches ∧
    (s.sessionFailure b e).events.startReport = s.events.startReport ∧ (s.sessionFailure b e).ks.closure = s.ks.closure ∧
    (s.sessionFailure b e).ks.grant = s.ks.grant ∧ (s.sessionFailure b e).ks.deferred = s.ks.deferred ∧
    (s.sessionFailure b e).intake.sweepTimer = s.intake.sweepTimer ∧
    (s.sessionFailure b e).intake.pointer = s.intake.pointer ∧ (s.sessionFailure b e).intake.atTake = s.intake.atTake ∧
    (s.sessionFailure b e).events.room = s.events.room ∧ (s.sessionFailure b e).writer.roll = s.writer.roll ∧
    (∀ z, (s.sessionFailure b e).slot z = s.slot z) ∧ (∀ z, (s.sessionFailure b e).console z = s.console z) := by
  unfold State.sessionFailure; (try dsimp only); (repeat' split) <;> simp [State.bay, State.slot, State.console]

@[simp] theorem busyRetry_frame (s : State) (b : BayId) (e : Exchange) :
    (s.busyRetry b e).pending = s.pending ∧ (s.busyRetry b e).engine = s.engine ∧ (s.busyRetry b e).clock = s.clock ∧
    (s.busyRetry b e).cipher = s.cipher ∧ (s.busyRetry b e).prof = s.prof ∧ (s.busyRetry b e).ceu = s.ceu ∧
    (s.busyRetry b e).writer.rollCount = s.writer.rollCount ∧ (s.busyRetry b e).intake.area = s.intake.area ∧
    (s.busyRetry b e).intake.areaLo = s.intake.areaLo ∧ (s.busyRetry b e).intake.areaHi = s.intake.areaHi ∧
    (s.busyRetry b e).ks.slots = s.ks.slots ∧ (s.busyRetry b e).ks.latch = s.ks.latch ∧
    (s.busyRetry b e).ks.overwrite = s.ks.overwrite ∧ (s.busyRetry b e).events.mask = s.events.mask ∧
    (s.busyRetry b e).events.watches = s.events.watches ∧ (s.busyRetry b e).events.startReport = s.events.startReport ∧
    (s.busyRetry b e).ks.closure = s.ks.closure ∧ (s.busyRetry b e).ks.grant = s.ks.grant ∧
    (s.busyRetry b e).ks.deferred = s.ks.deferred ∧ (s.busyRetry b e).intake.sweepTimer = s.intake.sweepTimer ∧
    (s.busyRetry b e).intake.pointer = s.intake.pointer ∧ (s.busyRetry b e).intake.atTake = s.intake.atTake ∧
    (s.busyRetry b e).events.room = s.events.room ∧ (s.busyRetry b e).writer.roll = s.writer.roll ∧
    (∀ z, (s.busyRetry b e).slot z = s.slot z) ∧ (∀ z, (s.busyRetry b e).console z = s.console z) := by
  unfold State.busyRetry; (try dsimp only); (repeat' split) <;> simp [State.bay, State.slot, State.console]

@[simp] theorem takeFrame_frame (s : State) (b : BayId) (f : TerminalFrame) :
    (s.takeFrame b f).pending = s.pending ∧ (s.takeFrame b f).engine = s.engine ∧ (s.takeFrame b f).clock = s.clock ∧
    (s.takeFrame b f).prof = s.prof ∧ (s.takeFrame b f).ceu = s.ceu ∧
    (s.takeFrame b f).writer.rollCount = s.writer.rollCount ∧ (s.takeFrame b f).intake.area = s.intake.area ∧
    (s.takeFrame b f).intake.areaLo = s.intake.areaLo ∧ (s.takeFrame b f).intake.areaHi = s.intake.areaHi ∧
    (s.takeFrame b f).ks.slots = s.ks.slots ∧ (s.takeFrame b f).ks.latch = s.ks.latch ∧
    (s.takeFrame b f).ks.overwrite = s.ks.overwrite ∧ (s.takeFrame b f).events.mask = s.events.mask ∧
    (s.takeFrame b f).events.watches = s.events.watches ∧ (s.takeFrame b f).events.startReport = s.events.startReport ∧
    (s.takeFrame b f).ks.closure = s.ks.closure ∧ (s.takeFrame b f).ks.grant = s.ks.grant ∧
    (s.takeFrame b f).ks.deferred = s.ks.deferred ∧ (s.takeFrame b f).intake.sweepTimer = s.intake.sweepTimer ∧
    (s.takeFrame b f).intake.pointer = s.intake.pointer ∧ (s.takeFrame b f).intake.atTake = s.intake.atTake ∧
    (s.takeFrame b f).events.room = s.events.room ∧ (s.takeFrame b f).writer.roll = s.writer.roll ∧
    (∀ z, (s.takeFrame b f).slot z = s.slot z) ∧ (∀ z, (s.takeFrame b f).console z = s.console z) := by
  unfold State.takeFrame; (try dsimp only); (repeat' split) <;> simp [State.bay, State.slot, State.console]

@[simp] theorem stopClaiming_frame (s : State) (b : BayId) (r : VoidReason) :
    (s.stopClaiming b r).pending = s.pending ∧ (s.stopClaiming b r).engine = s.engine ∧
    (s.stopClaiming b r).clock = s.clock ∧ (s.stopClaiming b r).cipher = s.cipher ∧ (s.stopClaiming b r).prof = s.prof ∧
    (s.stopClaiming b r).ceu = s.ceu ∧ (s.stopClaiming b r).writer = s.writer ∧ (s.stopClaiming b r).intake = s.intake ∧
    (s.stopClaiming b r).ks.slots = s.ks.slots ∧ (s.stopClaiming b r).ks.latch = s.ks.latch ∧
    (s.stopClaiming b r).ks.overwrite = s.ks.overwrite ∧ (s.stopClaiming b r).events = s.events ∧
    (s.stopClaiming b r).ks.closure = s.ks.closure ∧ (s.stopClaiming b r).ks.grant = s.ks.grant ∧
    (s.stopClaiming b r).ks.deferred = s.ks.deferred ∧ (∀ z, (s.stopClaiming b r).slot z = s.slot z) ∧
    (∀ z, (s.stopClaiming b r).console z = s.console z) := by
  unfold State.stopClaiming; (try dsimp only); (repeat' split) <;> simp [State.bay, State.slot, State.console]

@[simp] theorem sessionDrop_frame (s : State) (b : BayId) :
    (s.sessionDrop b).pending = s.pending ∧ (s.sessionDrop b).engine = s.engine ∧ (s.sessionDrop b).clock = s.clock ∧
    (s.sessionDrop b).cipher = s.cipher ∧ (s.sessionDrop b).prof = s.prof ∧ (s.sessionDrop b).ceu = s.ceu ∧
    (s.sessionDrop b).writer.rollCount = s.writer.rollCount ∧ (s.sessionDrop b).intake.area = s.intake.area ∧
    (s.sessionDrop b).intake.areaLo = s.intake.areaLo ∧ (s.sessionDrop b).intake.areaHi = s.intake.areaHi ∧
    (s.sessionDrop b).ks.slots = s.ks.slots ∧ (s.sessionDrop b).ks.latch = s.ks.latch ∧
    (s.sessionDrop b).ks.overwrite = s.ks.overwrite ∧ (s.sessionDrop b).events.mask = s.events.mask ∧
    (s.sessionDrop b).events.watches = s.events.watches ∧ (s.sessionDrop b).events.startReport = s.events.startReport ∧
    (s.sessionDrop b).ks.closure = s.ks.closure ∧ (s.sessionDrop b).ks.grant = s.ks.grant ∧
    (s.sessionDrop b).ks.deferred = s.ks.deferred ∧ (s.sessionDrop b).intake.sweepTimer = s.intake.sweepTimer ∧
    (s.sessionDrop b).intake.pointer = s.intake.pointer ∧ (s.sessionDrop b).intake.atTake = s.intake.atTake ∧
    (s.sessionDrop b).events.room = s.events.room ∧ (s.sessionDrop b).writer.roll = s.writer.roll ∧
    (∀ z, (s.sessionDrop b).slot z = s.slot z) ∧ (∀ z, (s.sessionDrop b).console z = s.console z) := by
  unfold State.sessionDrop; (try dsimp only); (repeat' split) <;> simp [State.bay, State.slot, State.console]

@[simp] theorem haltSession_frame (s : State) (b : BayId) (r : VoidReason) :
    (s.haltSession b r).pending = s.pending ∧ (s.haltSession b r).engine = s.engine ∧
    (s.haltSession b r).clock = s.clock ∧ (s.haltSession b r).cipher = s.cipher ∧ (s.haltSession b r).prof = s.prof ∧
    (s.haltSession b r).ceu = s.ceu ∧ (s.haltSession b r).writer.queue = s.writer.queue ∧
    (s.haltSession b r).writer.rollCount = s.writer.rollCount ∧ (s.haltSession b r).intake.area = s.intake.area ∧
    (s.haltSession b r).intake.areaLo = s.intake.areaLo ∧ (s.haltSession b r).intake.areaHi = s.intake.areaHi ∧
    (s.haltSession b r).ks.slots = s.ks.slots ∧ (s.haltSession b r).ks.latch = s.ks.latch ∧
    (s.haltSession b r).ks.overwrite = s.ks.overwrite ∧ (s.haltSession b r).events.mask = s.events.mask ∧
    (s.haltSession b r).events.watches = s.events.watches ∧
    (s.haltSession b r).events.startReport = s.events.startReport ∧ (s.haltSession b r).ks.closure = s.ks.closure ∧
    (s.haltSession b r).ks.grant = s.ks.grant ∧ (s.haltSession b r).ks.deferred = s.ks.deferred ∧
    (s.haltSession b r).intake.sweepTimer = s.intake.sweepTimer ∧ (s.haltSession b r).intake.pointer = s.intake.pointer ∧
    (s.haltSession b r).intake.atTake = s.intake.atTake ∧ (s.haltSession b r).events.room = s.events.room ∧
    (s.haltSession b r).writer.line = s.writer.line ∧ (s.haltSession b r).writer.roll = s.writer.roll ∧
    (∀ z, (s.haltSession b r).slot z = s.slot z) ∧ (∀ z, (s.haltSession b r).console z = s.console z) := by
  unfold State.haltSession; (try dsimp only); (repeat' split) <;> simp [State.bay, State.slot, State.console]

@[simp] theorem dropHeld_frame (s : State) (b : BayId) (r : Result) :
    (s.dropHeld b r).pending = s.pending ∧ (s.dropHeld b r).engine = s.engine ∧ (s.dropHeld b r).clock = s.clock ∧
    (s.dropHeld b r).cipher = s.cipher ∧ (s.dropHeld b r).prof = s.prof ∧ (s.dropHeld b r).ceu = s.ceu ∧
    (s.dropHeld b r).writer.queue = s.writer.queue ∧ (s.dropHeld b r).writer.rollCount = s.writer.rollCount ∧
    (s.dropHeld b r).intake.area = s.intake.area ∧ (s.dropHeld b r).intake.areaLo = s.intake.areaLo ∧
    (s.dropHeld b r).intake.areaHi = s.intake.areaHi ∧ (s.dropHeld b r).ks = s.ks ∧
    (s.dropHeld b r).events.mask = s.events.mask ∧ (s.dropHeld b r).events.watches = s.events.watches ∧
    (s.dropHeld b r).events.startReport = s.events.startReport ∧
    (s.dropHeld b r).intake.sweepTimer = s.intake.sweepTimer ∧ (s.dropHeld b r).intake.pointer = s.intake.pointer ∧
    (s.dropHeld b r).intake.atTake = s.intake.atTake ∧ (s.dropHeld b r).events.room = s.events.room ∧
    (s.dropHeld b r).writer.line = s.writer.line ∧ (s.dropHeld b r).writer.roll = s.writer.roll ∧
    (∀ z, (s.dropHeld b r).slot z = s.slot z) ∧ (∀ z, (s.dropHeld b r).console z = s.console z) := by
  unfold State.dropHeld; (try dsimp only); (repeat' split) <;> simp [State.bay, State.slot, State.console]

@[simp] theorem stopBay_frame (s : State) (b : BayId) :
    (s.stopBay b).pending = s.pending ∧ (s.stopBay b).engine = s.engine ∧ (s.stopBay b).clock = s.clock ∧
    (s.stopBay b).cipher = s.cipher ∧ (s.stopBay b).prof = s.prof ∧ (s.stopBay b).ceu = s.ceu ∧
    (s.stopBay b).writer.queue = s.writer.queue ∧ (s.stopBay b).writer.rollCount = s.writer.rollCount ∧
    (s.stopBay b).intake.area = s.intake.area ∧ (s.stopBay b).intake.areaLo = s.intake.areaLo ∧
    (s.stopBay b).intake.areaHi = s.intake.areaHi ∧ (s.stopBay b).ks.slots = s.ks.slots ∧
    (s.stopBay b).ks.latch = s.ks.latch ∧ (s.stopBay b).ks.overwrite = s.ks.overwrite ∧
    (s.stopBay b).events.mask = s.events.mask ∧ (s.stopBay b).events.watches = s.events.watches ∧
    (s.stopBay b).events.startReport = s.events.startReport ∧ (s.stopBay b).ks.closure = s.ks.closure ∧
    (s.stopBay b).ks.grant = s.ks.grant ∧ (s.stopBay b).ks.deferred = s.ks.deferred ∧
    (s.stopBay b).intake.sweepTimer = s.intake.sweepTimer ∧ (s.stopBay b).intake.pointer = s.intake.pointer ∧
    (s.stopBay b).intake.atTake = s.intake.atTake ∧ (s.stopBay b).events.room = s.events.room ∧
    (s.stopBay b).writer.line = s.writer.line ∧ (s.stopBay b).writer.roll = s.writer.roll ∧
    (∀ z, (s.stopBay b).slot z = s.slot z) ∧ (∀ z, (s.stopBay b).console z = s.console z) := by
  unfold State.stopBay; (try dsimp only); (repeat' split) <;> simp [State.bay, State.slot, State.console]

@[simp] theorem stopBays_frame (s : State) :
    (s.stopBays).pending = s.pending ∧ (s.stopBays).engine = s.engine ∧ (s.stopBays).clock = s.clock ∧
    (s.stopBays).cipher = s.cipher ∧ (s.stopBays).prof = s.prof ∧ (s.stopBays).ceu = s.ceu ∧
    (s.stopBays).writer.queue = s.writer.queue ∧ (s.stopBays).writer.rollCount = s.writer.rollCount ∧
    (s.stopBays).intake.area = s.intake.area ∧ (s.stopBays).intake.areaLo = s.intake.areaLo ∧
    (s.stopBays).intake.areaHi = s.intake.areaHi ∧ (s.stopBays).ks.slots = s.ks.slots ∧
    (s.stopBays).ks.latch = s.ks.latch ∧ (s.stopBays).ks.overwrite = s.ks.overwrite ∧
    (s.stopBays).events.mask = s.events.mask ∧ (s.stopBays).events.watches = s.events.watches ∧
    (s.stopBays).events.startReport = s.events.startReport ∧ (s.stopBays).ks.closure = s.ks.closure ∧
    (s.stopBays).ks.grant = s.ks.grant ∧ (s.stopBays).ks.deferred = s.ks.deferred ∧
    (s.stopBays).intake.sweepTimer = s.intake.sweepTimer ∧ (s.stopBays).intake.pointer = s.intake.pointer ∧
    (s.stopBays).intake.atTake = s.intake.atTake ∧ (s.stopBays).events.room = s.events.room ∧
    (s.stopBays).writer.line = s.writer.line ∧ (s.stopBays).writer.roll = s.writer.roll ∧
    (∀ z, (s.stopBays).slot z = s.slot z) ∧ (∀ z, (s.stopBays).console z = s.console z) := by
  refine ⟨?_, ?_, ?_, ?_, ?_, ?_, ?_, ?_, ?_, ?_, ?_, ?_, ?_, ?_, ?_, ?_, ?_, ?_, ?_, ?_, ?_, ?_, ?_, ?_, ?_, ?_, ?_, ?_⟩ <;> unfold State.stopBays <;> (try dsimp only) <;> (repeat' split) <;>
    simp [State.bay, State.slot, State.console, foldl_keeps (fun s : State => s.pending), foldl_keeps (fun s : State => s.engine), foldl_keeps (fun s : State => s.clock), foldl_keeps (fun s : State => s.cipher), foldl_keeps (fun s : State => s.prof), foldl_keeps (fun s : State => s.ceu), foldl_keeps (fun s : State => s.writer.queue), foldl_keeps (fun s : State => s.writer.rollCount), foldl_keeps (fun s : State => s.intake.area), foldl_keeps (fun s : State => s.intake.areaLo), foldl_keeps (fun s : State => s.intake.areaHi), foldl_keeps (fun s : State => s.ks.slots), foldl_keeps (fun s : State => s.ks.latch), foldl_keeps (fun s : State => s.ks.overwrite), foldl_keeps (fun s : State => s.events.mask), foldl_keeps (fun s : State => s.events.watches), foldl_keeps (fun s : State => s.events.startReport), foldl_keeps (fun s : State => s.ks.closure), foldl_keeps (fun s : State => s.ks.grant), foldl_keeps (fun s : State => s.ks.deferred), foldl_keeps (fun s : State => s.intake.sweepTimer), foldl_keeps (fun s : State => s.intake.pointer), foldl_keeps (fun s : State => s.intake.atTake), foldl_keeps (fun s : State => s.events.room), foldl_keeps (fun s : State => s.writer.line), foldl_keeps (fun s : State => s.writer.roll)]

@[simp] theorem takeClaim_frame (s : State) (b : BayId) (i : SlotId) :
    (s.takeClaim b i).pending = s.pending ∧ (s.takeClaim b i).engine = s.engine ∧ (s.takeClaim b i).clock = s.clock ∧
    (s.takeClaim b i).prof = s.prof ∧ (s.takeClaim b i).ceu = s.ceu ∧
    (s.takeClaim b i).writer.rollCount = s.writer.rollCount ∧ (s.takeClaim b i).intake.area = s.intake.area ∧
    (s.takeClaim b i).intake.areaLo = s.intake.areaLo ∧ (s.takeClaim b i).intake.areaHi = s.intake.areaHi ∧
    (s.takeClaim b i).ks.latch = s.ks.latch ∧ (s.takeClaim b i).ks.overwrite = s.ks.overwrite ∧
    (s.takeClaim b i).events.mask = s.events.mask ∧ (s.takeClaim b i).events.watches = s.events.watches ∧
    (s.takeClaim b i).events.startReport = s.events.startReport ∧ (s.takeClaim b i).ks.closure = s.ks.closure ∧
    (s.takeClaim b i).ks.grant = s.ks.grant ∧ (s.takeClaim b i).intake.sweepTimer = s.intake.sweepTimer ∧
    (s.takeClaim b i).intake.pointer = s.intake.pointer ∧ (s.takeClaim b i).intake.atTake = s.intake.atTake ∧
    (s.takeClaim b i).events.room = s.events.room ∧ (s.takeClaim b i).writer.roll = s.writer.roll ∧
    (∀ z, (s.takeClaim b i).console z = s.console z) := by
  unfold State.takeClaim; (try dsimp only); (repeat' split) <;> simp [State.bay, State.slot, State.console]

@[simp] theorem takeWrap_frame (s : State) (b : BayId) (i : SlotId) :
    (s.takeWrap b i).pending = s.pending ∧ (s.takeWrap b i).engine = s.engine ∧ (s.takeWrap b i).clock = s.clock ∧
    (s.takeWrap b i).prof = s.prof ∧ (s.takeWrap b i).ceu = s.ceu ∧
    (s.takeWrap b i).writer.rollCount = s.writer.rollCount ∧ (s.takeWrap b i).intake.area = s.intake.area ∧
    (s.takeWrap b i).intake.areaLo = s.intake.areaLo ∧ (s.takeWrap b i).intake.areaHi = s.intake.areaHi ∧
    (s.takeWrap b i).ks.latch = s.ks.latch ∧ (s.takeWrap b i).ks.overwrite = s.ks.overwrite ∧
    (s.takeWrap b i).events.mask = s.events.mask ∧ (s.takeWrap b i).events.watches = s.events.watches ∧
    (s.takeWrap b i).events.startReport = s.events.startReport ∧ (s.takeWrap b i).ks.closure = s.ks.closure ∧
    (s.takeWrap b i).ks.grant = s.ks.grant ∧ (s.takeWrap b i).ks.deferred = s.ks.deferred ∧
    (s.takeWrap b i).intake.sweepTimer = s.intake.sweepTimer ∧ (s.takeWrap b i).intake.pointer = s.intake.pointer ∧
    (s.takeWrap b i).intake.atTake = s.intake.atTake ∧ (s.takeWrap b i).events.room = s.events.room ∧
    (s.takeWrap b i).writer.roll = s.writer.roll ∧ (∀ z, (s.takeWrap b i).console z = s.console z) := by
  unfold State.takeWrap; (try dsimp only); (repeat' split) <;> simp [State.bay, State.slot, State.console]

@[simp] theorem takeWithdrawal_frame (s : State) (b : BayId) :
    (s.takeWithdrawal b).pending = s.pending ∧ (s.takeWithdrawal b).engine = s.engine ∧
    (s.takeWithdrawal b).clock = s.clock ∧ (s.takeWithdrawal b).cipher = s.cipher ∧ (s.takeWithdrawal b).prof = s.prof ∧
    (s.takeWithdrawal b).ceu = s.ceu ∧ (s.takeWithdrawal b).writer.rollCount = s.writer.rollCount ∧
    (s.takeWithdrawal b).intake.area = s.intake.area ∧ (s.takeWithdrawal b).intake.areaLo = s.intake.areaLo ∧
    (s.takeWithdrawal b).intake.areaHi = s.intake.areaHi ∧ (s.takeWithdrawal b).ks.slots = s.ks.slots ∧
    (s.takeWithdrawal b).ks.latch = s.ks.latch ∧ (s.takeWithdrawal b).ks.overwrite = s.ks.overwrite ∧
    (s.takeWithdrawal b).events.mask = s.events.mask ∧ (s.takeWithdrawal b).events.watches = s.events.watches ∧
    (s.takeWithdrawal b).events.startReport = s.events.startReport ∧ (s.takeWithdrawal b).ks.closure = s.ks.closure ∧
    (s.takeWithdrawal b).ks.grant = s.ks.grant ∧ (s.takeWithdrawal b).intake.sweepTimer = s.intake.sweepTimer ∧
    (s.takeWithdrawal b).intake.pointer = s.intake.pointer ∧ (s.takeWithdrawal b).intake.atTake = s.intake.atTake ∧
    (s.takeWithdrawal b).events.room = s.events.room ∧ (s.takeWithdrawal b).writer.roll = s.writer.roll ∧
    (∀ z, (s.takeWithdrawal b).slot z = s.slot z) ∧ (∀ z, (s.takeWithdrawal b).console z = s.console z) := by
  unfold State.takeWithdrawal; (try dsimp only); (repeat' split) <;> simp [State.bay, State.slot, State.console]

@[simp] theorem retakeDeferred_frame (s : State) (b : BayId) (i : SlotId) :
    (s.retakeDeferred b i).pending = s.pending ∧ (s.retakeDeferred b i).engine = s.engine ∧
    (s.retakeDeferred b i).clock = s.clock ∧ (s.retakeDeferred b i).prof = s.prof ∧ (s.retakeDeferred b i).ceu = s.ceu ∧
    (s.retakeDeferred b i).writer.rollCount = s.writer.rollCount ∧ (s.retakeDeferred b i).intake.area = s.intake.area ∧
    (s.retakeDeferred b i).intake.areaLo = s.intake.areaLo ∧ (s.retakeDeferred b i).intake.areaHi = s.intake.areaHi ∧
    (s.retakeDeferred b i).ks.latch = s.ks.latch ∧ (s.retakeDeferred b i).ks.overwrite = s.ks.overwrite ∧
    (s.retakeDeferred b i).events.mask = s.events.mask ∧ (s.retakeDeferred b i).events.watches = s.events.watches ∧
    (s.retakeDeferred b i).events.startReport = s.events.startReport ∧ (s.retakeDeferred b i).ks.closure = s.ks.closure ∧
    (s.retakeDeferred b i).ks.grant = s.ks.grant ∧ (s.retakeDeferred b i).intake.sweepTimer = s.intake.sweepTimer ∧
    (s.retakeDeferred b i).intake.pointer = s.intake.pointer ∧ (s.retakeDeferred b i).intake.atTake = s.intake.atTake ∧
    (s.retakeDeferred b i).events.room = s.events.room ∧ (s.retakeDeferred b i).writer.roll = s.writer.roll ∧
    (∀ z, (s.retakeDeferred b i).console z = s.console z) := by
  unfold State.retakeDeferred; (try dsimp only); (repeat' split) <;> simp [State.bay, State.slot, State.console]

@[simp] theorem closureTaken_frame (s : State) :
    (s.closureTaken).pending = s.pending ∧ (s.closureTaken).engine = s.engine ∧ (s.closureTaken).clock = s.clock ∧
    (s.closureTaken).cipher = s.cipher ∧ (s.closureTaken).bays = s.bays ∧ (s.closureTaken).prof = s.prof ∧
    (s.closureTaken).ceu = s.ceu ∧ (s.closureTaken).writer = s.writer ∧ (s.closureTaken).intake = s.intake ∧
    (s.closureTaken).ks.slots = s.ks.slots ∧ (s.closureTaken).ks.latch = s.ks.latch ∧
    (s.closureTaken).ks.overwrite = s.ks.overwrite ∧ (s.closureTaken).events = s.events ∧
    (s.closureTaken).ks.grant = s.ks.grant ∧ (s.closureTaken).ks.requests = s.ks.requests ∧
    (s.closureTaken).ks.deferred = s.ks.deferred ∧ (s.closureTaken).ks.arrayWrite = s.ks.arrayWrite ∧
    (s.closureTaken).ks.writeQueue = s.ks.writeQueue ∧ (∀ z, (s.closureTaken).bay z = s.bay z) ∧
    (∀ z, (s.closureTaken).slot z = s.slot z) ∧ (∀ z, (s.closureTaken).console z = s.console z) := by
  unfold State.closureTaken; (try dsimp only); (repeat' split) <;> simp [State.bay, State.slot, State.console]

@[simp] theorem takeClosure_frame (s : State) (c : Closure) :
    (s.takeClosure c).pending = s.pending ∧ (s.takeClosure c).engine = s.engine ∧ (s.takeClosure c).clock = s.clock ∧
    (s.takeClosure c).prof = s.prof ∧ (s.takeClosure c).ceu = s.ceu ∧
    (s.takeClosure c).writer.rollCount = s.writer.rollCount ∧ (s.takeClosure c).intake.area = s.intake.area ∧
    (s.takeClosure c).intake.areaLo = s.intake.areaLo ∧ (s.takeClosure c).intake.areaHi = s.intake.areaHi ∧
    (s.takeClosure c).ks.latch = s.ks.latch ∧ (s.takeClosure c).ks.overwrite = s.ks.overwrite ∧
    (s.takeClosure c).events.mask = s.events.mask ∧ (s.takeClosure c).events.watches = s.events.watches ∧
    (s.takeClosure c).events.startReport = s.events.startReport ∧ (s.takeClosure c).ks.grant = s.ks.grant ∧
    (s.takeClosure c).intake.sweepTimer = s.intake.sweepTimer ∧ (s.takeClosure c).intake.pointer = s.intake.pointer ∧
    (s.takeClosure c).intake.atTake = s.intake.atTake ∧ (s.takeClosure c).events.room = s.events.room ∧
    (s.takeClosure c).writer.roll = s.writer.roll ∧ (∀ z, (s.takeClosure c).console z = s.console z) := by
  unfold State.takeClosure; (try dsimp only); (repeat' split) <;> simp [State.bay, State.slot, State.console]

@[simp] theorem dropRequest_frame (s : State) :
    (s.dropRequest).pending = s.pending ∧ (s.dropRequest).engine = s.engine ∧ (s.dropRequest).clock = s.clock ∧
    (s.dropRequest).cipher = s.cipher ∧ (s.dropRequest).bays = s.bays ∧ (s.dropRequest).prof = s.prof ∧
    (s.dropRequest).ceu = s.ceu ∧ (s.dropRequest).writer = s.writer ∧ (s.dropRequest).intake = s.intake ∧
    (s.dropRequest).ks.slots = s.ks.slots ∧ (s.dropRequest).ks.latch = s.ks.latch ∧
    (s.dropRequest).ks.overwrite = s.ks.overwrite ∧ (s.dropRequest).events = s.events ∧
    (s.dropRequest).ks.closure = s.ks.closure ∧ (s.dropRequest).ks.grant = s.ks.grant ∧
    (s.dropRequest).ks.deferred = s.ks.deferred ∧ (∀ z, (s.dropRequest).bay z = s.bay z) ∧
    (∀ z, (s.dropRequest).slot z = s.slot z) ∧ (∀ z, (s.dropRequest).console z = s.console z) := by
  unfold State.dropRequest; (try dsimp only); (repeat' split) <;> simp [State.bay, State.slot, State.console]

@[simp] theorem emptyRecord_frame (s : State) :
    (s.emptyRecord).pending = s.pending ∧ (s.emptyRecord).engine = s.engine ∧ (s.emptyRecord).clock = s.clock ∧
    (s.emptyRecord).cipher = s.cipher ∧ (s.emptyRecord).bays = s.bays ∧ (s.emptyRecord).prof = s.prof ∧
    (s.emptyRecord).writer = s.writer ∧ (s.emptyRecord).intake = s.intake ∧ (s.emptyRecord).ks = s.ks ∧
    (s.emptyRecord).events.mask = s.events.mask ∧ (s.emptyRecord).events.watches = s.events.watches ∧
    (s.emptyRecord).events.startReport = s.events.startReport ∧ (s.emptyRecord).events.room = s.events.room ∧
    (s.emptyRecord).ceu.consoles = s.ceu.consoles ∧ (s.emptyRecord).ceu.arrivals = s.ceu.arrivals ∧
    (∀ z, (s.emptyRecord).bay z = s.bay z) ∧ (∀ z, (s.emptyRecord).slot z = s.slot z) ∧
    (∀ z, (s.emptyRecord).console z = s.console z) := by
  unfold State.emptyRecord; (try dsimp only); (repeat' split) <;> simp [State.bay, State.slot, State.console]

@[simp] theorem rejectArrival_frame (s : State) (r : RejectReason) (a : Arrival) :
    (State.rejectArrival r s a).pending = s.pending ∧ (State.rejectArrival r s a).engine = s.engine ∧
    (State.rejectArrival r s a).clock = s.clock ∧ (State.rejectArrival r s a).cipher = s.cipher ∧
    (State.rejectArrival r s a).bays = s.bays ∧ (State.rejectArrival r s a).prof = s.prof ∧
    (State.rejectArrival r s a).ceu.record = s.ceu.record ∧ (State.rejectArrival r s a).writer = s.writer ∧
    (State.rejectArrival r s a).intake = s.intake ∧ (State.rejectArrival r s a).ks = s.ks ∧
    (State.rejectArrival r s a).events = s.events ∧ (State.rejectArrival r s a).ceu.arrivals = s.ceu.arrivals ∧
    (∀ z, (State.rejectArrival r s a).bay z = s.bay z) ∧ (∀ z, (State.rejectArrival r s a).slot z = s.slot z) := by
  unfold State.rejectArrival; (try dsimp only); (repeat' split) <;> simp [State.bay, State.slot, State.console]

@[simp] theorem rejectArrivals_frame (s : State) (r : RejectReason) :
    (s.rejectArrivals r).pending = s.pending ∧ (s.rejectArrivals r).engine = s.engine ∧
    (s.rejectArrivals r).clock = s.clock ∧ (s.rejectArrivals r).cipher = s.cipher ∧ (s.rejectArrivals r).bays = s.bays ∧
    (s.rejectArrivals r).prof = s.prof ∧ (s.rejectArrivals r).ceu.record = s.ceu.record ∧
    (s.rejectArrivals r).writer = s.writer ∧ (s.rejectArrivals r).intake = s.intake ∧ (s.rejectArrivals r).ks = s.ks ∧
    (s.rejectArrivals r).events = s.events ∧ (∀ z, (s.rejectArrivals r).bay z = s.bay z) ∧
    (∀ z, (s.rejectArrivals r).slot z = s.slot z) := by
  refine ⟨?_, ?_, ?_, ?_, ?_, ?_, ?_, ?_, ?_, ?_, ?_, ?_, ?_⟩ <;> unfold State.rejectArrivals <;> (try dsimp only) <;> (repeat' split) <;>
    simp [State.bay, State.slot, State.console, foldl_keeps (fun s : State => s.pending), foldl_keeps (fun s : State => s.engine), foldl_keeps (fun s : State => s.clock), foldl_keeps (fun s : State => s.cipher), foldl_keeps (fun s : State => s.bays), foldl_keeps (fun s : State => s.prof), foldl_keeps (fun s : State => s.ceu.record), foldl_keeps (fun s : State => s.writer), foldl_keeps (fun s : State => s.intake), foldl_keeps (fun s : State => s.ks), foldl_keeps (fun s : State => s.events)]

@[simp] theorem setAssembly_frame (s : State) (a : Assembly) :
    (s.setAssembly a).pending = s.pending ∧ (s.setAssembly a).engine = s.engine ∧ (s.setAssembly a).clock = s.clock ∧
    (s.setAssembly a).cipher = s.cipher ∧ (s.setAssembly a).bays = s.bays ∧ (s.setAssembly a).prof = s.prof ∧
    (s.setAssembly a).writer = s.writer ∧ (s.setAssembly a).intake = s.intake ∧ (s.setAssembly a).ks = s.ks ∧
    (s.setAssembly a).events = s.events ∧ (s.setAssembly a).ceu.consoles = s.ceu.consoles ∧
    (s.setAssembly a).ceu.arrivals = s.ceu.arrivals ∧ (∀ z, (s.setAssembly a).bay z = s.bay z) ∧
    (∀ z, (s.setAssembly a).slot z = s.slot z) ∧ (∀ z, (s.setAssembly a).console z = s.console z) := by
  unfold State.setAssembly; (try dsimp only); (repeat' split) <;> simp [State.bay, State.slot, State.console]

@[simp] theorem takeComponents_frame (s : State) (l : List Arrival) :
    (State.takeComponents l s).pending = s.pending ∧ (State.takeComponents l s).engine = s.engine ∧
    (State.takeComponents l s).clock = s.clock ∧ (State.takeComponents l s).prof = s.prof ∧
    (State.takeComponents l s).ceu.record = s.ceu.record ∧
    (State.takeComponents l s).writer.rollCount = s.writer.rollCount ∧
    (State.takeComponents l s).intake.area = s.intake.area ∧ (State.takeComponents l s).intake.areaLo = s.intake.areaLo ∧
    (State.takeComponents l s).intake.areaHi = s.intake.areaHi ∧ (State.takeComponents l s).ks.slots = s.ks.slots ∧
    (State.takeComponents l s).ks.latch = s.ks.latch ∧ (State.takeComponents l s).ks.overwrite = s.ks.overwrite ∧
    (State.takeComponents l s).events.mask = s.events.mask ∧
    (State.takeComponents l s).events.watches = s.events.watches ∧
    (State.takeComponents l s).events.startReport = s.events.startReport ∧
    (State.takeComponents l s).ks.closure = s.ks.closure ∧ (State.takeComponents l s).ks.grant = s.ks.grant ∧
    (State.takeComponents l s).ks.deferred = s.ks.deferred ∧
    (State.takeComponents l s).intake.sweepTimer = s.intake.sweepTimer ∧
    (State.takeComponents l s).intake.pointer = s.intake.pointer ∧
    (State.takeComponents l s).intake.atTake = s.intake.atTake ∧ (State.takeComponents l s).events.room = s.events.room ∧
    (State.takeComponents l s).writer.roll = s.writer.roll ∧ (∀ z, (State.takeComponents l s).slot z = s.slot z) := by
  induction l generalizing s with
  | nil => unfold State.takeComponents; simp [State.bay, State.slot, State.console]
  | cons a l ih => unfold State.takeComponents; (try dsimp only); (repeat' split) <;> simp_all [State.bay, State.slot, State.console]

@[simp] theorem takeArrivals_frame (s : State) :
    (s.takeArrivals).pending = s.pending ∧ (s.takeArrivals).engine = s.engine ∧ (s.takeArrivals).clock = s.clock ∧
    (s.takeArrivals).prof = s.prof ∧ (s.takeArrivals).ceu.record = s.ceu.record ∧
    (s.takeArrivals).writer.rollCount = s.writer.rollCount ∧ (s.takeArrivals).intake.area = s.intake.area ∧
    (s.takeArrivals).intake.areaLo = s.intake.areaLo ∧ (s.takeArrivals).intake.areaHi = s.intake.areaHi ∧
    (s.takeArrivals).ks.slots = s.ks.slots ∧ (s.takeArrivals).ks.latch = s.ks.latch ∧
    (s.takeArrivals).ks.overwrite = s.ks.overwrite ∧ (s.takeArrivals).events.mask = s.events.mask ∧
    (s.takeArrivals).events.watches = s.events.watches ∧ (s.takeArrivals).events.startReport = s.events.startReport ∧
    (s.takeArrivals).ks.closure = s.ks.closure ∧ (s.takeArrivals).ks.grant = s.ks.grant ∧
    (s.takeArrivals).ks.deferred = s.ks.deferred ∧ (s.takeArrivals).intake.sweepTimer = s.intake.sweepTimer ∧
    (s.takeArrivals).intake.pointer = s.intake.pointer ∧ (s.takeArrivals).intake.atTake = s.intake.atTake ∧
    (s.takeArrivals).events.room = s.events.room ∧ (s.takeArrivals).writer.roll = s.writer.roll ∧
    (∀ z, (s.takeArrivals).slot z = s.slot z) := by
  unfold State.takeArrivals; (try dsimp only); (repeat' split) <;> simp [State.bay, State.slot, State.console]

@[simp] theorem discardCheck_frame (s : State) :
    (s.discardCheck).pending = s.pending ∧ (s.discardCheck).engine = s.engine ∧ (s.discardCheck).clock = s.clock ∧
    (s.discardCheck).cipher = s.cipher ∧ (s.discardCheck).bays = s.bays ∧ (s.discardCheck).prof = s.prof ∧
    (s.discardCheck).ceu.record = s.ceu.record ∧ (s.discardCheck).writer = s.writer ∧
    (s.discardCheck).intake = s.intake ∧ (s.discardCheck).ks = s.ks ∧ (s.discardCheck).events = s.events ∧
    (s.discardCheck).ceu.arrivals = s.ceu.arrivals ∧ (∀ z, (s.discardCheck).bay z = s.bay z) ∧
    (∀ z, (s.discardCheck).slot z = s.slot z) := by
  unfold State.discardCheck; (try dsimp only); (repeat' split) <;> simp [State.bay, State.slot, State.console]

@[simp] theorem endAssembly_frame (s : State) (a : Assembly) (c : Result) :
    (s.endAssembly a c).pending = s.pending ∧ (s.endAssembly a c).engine = s.engine ∧
    (s.endAssembly a c).clock = s.clock ∧ (s.endAssembly a c).cipher = s.cipher ∧ (s.endAssembly a c).bays = s.bays ∧
    (s.endAssembly a c).prof = s.prof ∧ (s.endAssembly a c).writer.queue = s.writer.queue ∧
    (s.endAssembly a c).writer.rollCount = s.writer.rollCount ∧ (s.endAssembly a c).intake.area = s.intake.area ∧
    (s.endAssembly a c).intake.areaLo = s.intake.areaLo ∧ (s.endAssembly a c).intake.areaHi = s.intake.areaHi ∧
    (s.endAssembly a c).ks.latch = s.ks.latch ∧ (s.endAssembly a c).ks.overwrite = s.ks.overwrite ∧
    (s.endAssembly a c).events.mask = s.events.mask ∧ (s.endAssembly a c).events.watches = s.events.watches ∧
    (s.endAssembly a c).events.startReport = s.events.startReport ∧ (s.endAssembly a c).ks.closure = s.ks.closure ∧
    (s.endAssembly a c).ks.grant = s.ks.grant ∧ (s.endAssembly a c).ks.requests = s.ks.requests ∧
    (s.endAssembly a c).ks.deferred = s.ks.deferred ∧ (s.endAssembly a c).intake.sweepTimer = s.intake.sweepTimer ∧
    (s.endAssembly a c).intake.pointer = s.intake.pointer ∧ (s.endAssembly a c).intake.atTake = s.intake.atTake ∧
    (s.endAssembly a c).events.room = s.events.room ∧ (s.endAssembly a c).writer.line = s.writer.line ∧
    (s.endAssembly a c).writer.roll = s.writer.roll ∧ (∀ z, (s.endAssembly a c).bay z = s.bay z) := by
  unfold State.endAssembly; (try dsimp only); (repeat' split) <;> simp [State.bay, State.slot, State.console]

@[simp] theorem beginFinalCheck_frame (s : State) (a : Assembly) :
    (s.beginFinalCheck a).pending = s.pending ∧ (s.beginFinalCheck a).engine = s.engine ∧
    (s.beginFinalCheck a).clock = s.clock ∧ (s.beginFinalCheck a).prof = s.prof ∧
    (s.beginFinalCheck a).writer.rollCount = s.writer.rollCount ∧ (s.beginFinalCheck a).intake.area = s.intake.area ∧
    (s.beginFinalCheck a).intake.areaLo = s.intake.areaLo ∧ (s.beginFinalCheck a).intake.areaHi = s.intake.areaHi ∧
    (s.beginFinalCheck a).ks.slots = s.ks.slots ∧ (s.beginFinalCheck a).ks.latch = s.ks.latch ∧
    (s.beginFinalCheck a).ks.overwrite = s.ks.overwrite ∧ (s.beginFinalCheck a).events.mask = s.events.mask ∧
    (s.beginFinalCheck a).events.watches = s.events.watches ∧
    (s.beginFinalCheck a).events.startReport = s.events.startReport ∧ (s.beginFinalCheck a).ks.closure = s.ks.closure ∧
    (s.beginFinalCheck a).ks.grant = s.ks.grant ∧ (s.beginFinalCheck a).ks.deferred = s.ks.deferred ∧
    (s.beginFinalCheck a).intake.sweepTimer = s.intake.sweepTimer ∧
    (s.beginFinalCheck a).intake.pointer = s.intake.pointer ∧ (s.beginFinalCheck a).intake.atTake = s.intake.atTake ∧
    (s.beginFinalCheck a).events.room = s.events.room ∧ (s.beginFinalCheck a).writer.roll = s.writer.roll ∧
    (∀ z, (s.beginFinalCheck a).slot z = s.slot z) := by
  unfold State.beginFinalCheck; (try dsimp only); (repeat' split) <;> simp [State.bay, State.slot, State.console]

@[simp] theorem componentFailed_frame (s : State) (y : Assembly) (a : Arrival) :
    (s.componentFailed y a).pending = s.pending ∧ (s.componentFailed y a).engine = s.engine ∧
    (s.componentFailed y a).clock = s.clock ∧ (s.componentFailed y a).prof = s.prof ∧
    (s.componentFailed y a).writer.rollCount = s.writer.rollCount ∧ (s.componentFailed y a).intake.area = s.intake.area ∧
    (s.componentFailed y a).intake.areaLo = s.intake.areaLo ∧ (s.componentFailed y a).intake.areaHi = s.intake.areaHi ∧
    (s.componentFailed y a).ks.latch = s.ks.latch ∧ (s.componentFailed y a).ks.overwrite = s.ks.overwrite ∧
    (s.componentFailed y a).events.mask = s.events.mask ∧ (s.componentFailed y a).events.watches = s.events.watches ∧
    (s.componentFailed y a).events.startReport = s.events.startReport ∧
    (s.componentFailed y a).ks.closure = s.ks.closure ∧ (s.componentFailed y a).ks.grant = s.ks.grant ∧
    (s.componentFailed y a).ks.deferred = s.ks.deferred ∧
    (s.componentFailed y a).intake.sweepTimer = s.intake.sweepTimer ∧
    (s.componentFailed y a).intake.pointer = s.intake.pointer ∧ (s.componentFailed y a).intake.atTake = s.intake.atTake ∧
    (s.componentFailed y a).events.room = s.events.room ∧ (s.componentFailed y a).writer.roll = s.writer.roll := by
  unfold State.componentFailed; (try dsimp only); (repeat' split) <;> simp [State.bay, State.slot, State.console]

@[simp] theorem componentAccepted_frame (s : State) (y : Assembly) (a : Arrival) :
    (s.componentAccepted y a).pending = s.pending ∧ (s.componentAccepted y a).engine = s.engine ∧
    (s.componentAccepted y a).clock = s.clock ∧ (s.componentAccepted y a).prof = s.prof ∧
    (s.componentAccepted y a).writer.rollCount = s.writer.rollCount ∧
    (s.componentAccepted y a).intake.area = s.intake.area ∧ (s.componentAccepted y a).intake.areaLo = s.intake.areaLo ∧
    (s.componentAccepted y a).intake.areaHi = s.intake.areaHi ∧ (s.componentAccepted y a).ks.slots = s.ks.slots ∧
    (s.componentAccepted y a).ks.latch = s.ks.latch ∧ (s.componentAccepted y a).ks.overwrite = s.ks.overwrite ∧
    (s.componentAccepted y a).events.mask = s.events.mask ∧ (s.componentAccepted y a).events.watches = s.events.watches ∧
    (s.componentAccepted y a).events.startReport = s.events.startReport ∧
    (s.componentAccepted y a).ks.closure = s.ks.closure ∧ (s.componentAccepted y a).ks.grant = s.ks.grant ∧
    (s.componentAccepted y a).ks.deferred = s.ks.deferred ∧
    (s.componentAccepted y a).intake.sweepTimer = s.intake.sweepTimer ∧
    (s.componentAccepted y a).intake.pointer = s.intake.pointer ∧
    (s.componentAccepted y a).intake.atTake = s.intake.atTake ∧ (s.componentAccepted y a).events.room = s.events.room ∧
    (s.componentAccepted y a).writer.roll = s.writer.roll ∧ (∀ z, (s.componentAccepted y a).slot z = s.slot z) := by
  unfold State.componentAccepted; (try dsimp only); (repeat' split) <;> simp [State.bay, State.slot, State.console]

@[simp] theorem checkEnded_frame (s : State) :
    (s.checkEnded).pending = s.pending ∧ (s.checkEnded).engine = s.engine ∧ (s.checkEnded).clock = s.clock ∧
    (s.checkEnded).cipher = s.cipher ∧ (s.checkEnded).bays = s.bays ∧ (s.checkEnded).prof = s.prof ∧
    (s.checkEnded).ceu.record = s.ceu.record ∧ (s.checkEnded).writer = s.writer ∧ (s.checkEnded).intake = s.intake ∧
    (s.checkEnded).ks = s.ks ∧ (s.checkEnded).events = s.events ∧ (s.checkEnded).ceu.consoles = s.ceu.consoles ∧
    (s.checkEnded).ceu.arrivals = s.ceu.arrivals ∧ (∀ z, (s.checkEnded).bay z = s.bay z) ∧
    (∀ z, (s.checkEnded).slot z = s.slot z) ∧ (∀ z, (s.checkEnded).console z = s.console z) := by
  unfold State.checkEnded; (try dsimp only); (repeat' split) <;> simp [State.bay, State.slot, State.console]

@[simp] theorem componentChecked_frame (s : State) (v : CheckValue) :
    (s.componentChecked v).pending = s.pending ∧ (s.componentChecked v).engine = s.engine ∧
    (s.componentChecked v).clock = s.clock ∧ (s.componentChecked v).prof = s.prof ∧
    (s.componentChecked v).writer.rollCount = s.writer.rollCount ∧ (s.componentChecked v).intake.area = s.intake.area ∧
    (s.componentChecked v).intake.areaLo = s.intake.areaLo ∧ (s.componentChecked v).intake.areaHi = s.intake.areaHi ∧
    (s.componentChecked v).ks.latch = s.ks.latch ∧ (s.componentChecked v).ks.overwrite = s.ks.overwrite ∧
    (s.componentChecked v).events.mask = s.events.mask ∧ (s.componentChecked v).events.watches = s.events.watches ∧
    (s.componentChecked v).events.startReport = s.events.startReport ∧ (s.componentChecked v).ks.closure = s.ks.closure ∧
    (s.componentChecked v).ks.grant = s.ks.grant ∧ (s.componentChecked v).ks.deferred = s.ks.deferred ∧
    (s.componentChecked v).intake.sweepTimer = s.intake.sweepTimer ∧
    (s.componentChecked v).intake.pointer = s.intake.pointer ∧ (s.componentChecked v).intake.atTake = s.intake.atTake ∧
    (s.componentChecked v).events.room = s.events.room ∧ (s.componentChecked v).writer.roll = s.writer.roll := by
  unfold State.componentChecked; (try dsimp only); (repeat' split) <;> simp [State.bay, State.slot, State.console]

@[simp] theorem commitResult_frame (s : State) (i : SlotId) (o : Bool) :
    (s.commitResult i o).pending = s.pending ∧ (s.commitResult i o).engine = s.engine ∧
    (s.commitResult i o).clock = s.clock ∧ (s.commitResult i o).cipher = s.cipher ∧ (s.commitResult i o).bays = s.bays ∧
    (s.commitResult i o).prof = s.prof ∧ (s.commitResult i o).writer.queue = s.writer.queue ∧
    (s.commitResult i o).writer.rollCount = s.writer.rollCount ∧ (s.commitResult i o).intake.area = s.intake.area ∧
    (s.commitResult i o).intake.areaLo = s.intake.areaLo ∧ (s.commitResult i o).intake.areaHi = s.intake.areaHi ∧
    (s.commitResult i o).ks = s.ks ∧ (s.commitResult i o).events.mask = s.events.mask ∧
    (s.commitResult i o).events.watches = s.events.watches ∧
    (s.commitResult i o).events.startReport = s.events.startReport ∧
    (s.commitResult i o).intake.sweepTimer = s.intake.sweepTimer ∧
    (s.commitResult i o).intake.pointer = s.intake.pointer ∧ (s.commitResult i o).intake.atTake = s.intake.atTake ∧
    (s.commitResult i o).events.room = s.events.room ∧ (s.commitResult i o).writer.line = s.writer.line ∧
    (s.commitResult i o).writer.roll = s.writer.roll ∧ (s.commitResult i o).ceu.arrivals = s.ceu.arrivals ∧
    (∀ z, (s.commitResult i o).bay z = s.bay z) ∧ (∀ z, (s.commitResult i o).slot z = s.slot z) := by
  unfold State.commitResult; (try dsimp only); (repeat' split) <;> simp [State.bay, State.slot, State.console]

@[simp] theorem commitAssembly_frame (s : State) (a : Assembly) (v : CheckValue) :
    (s.commitAssembly a v).pending = s.pending ∧ (s.commitAssembly a v).engine = s.engine ∧
    (s.commitAssembly a v).clock = s.clock ∧ (s.commitAssembly a v).cipher = s.cipher ∧
    (s.commitAssembly a v).bays = s.bays ∧ (s.commitAssembly a v).prof = s.prof ∧
    (s.commitAssembly a v).writer.queue = s.writer.queue ∧ (s.commitAssembly a v).writer.rollCount = s.writer.rollCount ∧
    (s.commitAssembly a v).intake.area = s.intake.area ∧ (s.commitAssembly a v).intake.areaLo = s.intake.areaLo ∧
    (s.commitAssembly a v).intake.areaHi = s.intake.areaHi ∧ (s.commitAssembly a v).ks.latch = s.ks.latch ∧
    (s.commitAssembly a v).ks.overwrite = s.ks.overwrite ∧ (s.commitAssembly a v).events.mask = s.events.mask ∧
    (s.commitAssembly a v).events.watches = s.events.watches ∧
    (s.commitAssembly a v).events.startReport = s.events.startReport ∧ (s.commitAssembly a v).ks.closure = s.ks.closure ∧
    (s.commitAssembly a v).ks.grant = s.ks.grant ∧ (s.commitAssembly a v).ks.requests = s.ks.requests ∧
    (s.commitAssembly a v).ks.deferred = s.ks.deferred ∧ (s.commitAssembly a v).intake.sweepTimer = s.intake.sweepTimer ∧
    (s.commitAssembly a v).intake.pointer = s.intake.pointer ∧ (s.commitAssembly a v).intake.atTake = s.intake.atTake ∧
    (s.commitAssembly a v).events.room = s.events.room ∧ (s.commitAssembly a v).writer.line = s.writer.line ∧
    (s.commitAssembly a v).writer.roll = s.writer.roll ∧ (s.commitAssembly a v).ceu.arrivals = s.ceu.arrivals ∧
    (∀ z, (s.commitAssembly a v).bay z = s.bay z) := by
  unfold State.commitAssembly; (try dsimp only); (repeat' split) <;> simp [State.bay, State.slot, State.console]

@[simp] theorem accumulatorChecked_frame (s : State) (v : CheckValue) :
    (s.accumulatorChecked v).pending = s.pending ∧ (s.accumulatorChecked v).engine = s.engine ∧
    (s.accumulatorChecked v).clock = s.clock ∧ (s.accumulatorChecked v).prof = s.prof ∧
    (s.accumulatorChecked v).writer.rollCount = s.writer.rollCount ∧
    (s.accumulatorChecked v).intake.area = s.intake.area ∧ (s.accumulatorChecked v).intake.areaLo = s.intake.areaLo ∧
    (s.accumulatorChecked v).intake.areaHi = s.intake.areaHi ∧ (s.accumulatorChecked v).ks.latch = s.ks.latch ∧
    (s.accumulatorChecked v).ks.overwrite = s.ks.overwrite ∧ (s.accumulatorChecked v).events.mask = s.events.mask ∧
    (s.accumulatorChecked v).events.watches = s.events.watches ∧
    (s.accumulatorChecked v).events.startReport = s.events.startReport ∧
    (s.accumulatorChecked v).ks.closure = s.ks.closure ∧ (s.accumulatorChecked v).ks.grant = s.ks.grant ∧
    (s.accumulatorChecked v).ks.deferred = s.ks.deferred ∧
    (s.accumulatorChecked v).intake.sweepTimer = s.intake.sweepTimer ∧
    (s.accumulatorChecked v).intake.pointer = s.intake.pointer ∧
    (s.accumulatorChecked v).intake.atTake = s.intake.atTake ∧ (s.accumulatorChecked v).events.room = s.events.room ∧
    (s.accumulatorChecked v).writer.roll = s.writer.roll := by
  unfold State.accumulatorChecked; (try dsimp only); (repeat' split) <;> simp [State.bay, State.slot, State.console]

@[simp] theorem grantOutcome_frame (s : State) (o : ApprovalOutcome) :
    (s.grantOutcome o).pending = s.pending ∧ (s.grantOutcome o).engine = s.engine ∧ (s.grantOutcome o).clock = s.clock ∧
    (s.grantOutcome o).cipher = s.cipher ∧ (s.grantOutcome o).bays = s.bays ∧ (s.grantOutcome o).prof = s.prof ∧
    (s.grantOutcome o).ceu = s.ceu ∧ (s.grantOutcome o).writer.queue = s.writer.queue ∧
    (s.grantOutcome o).writer.rollCount = s.writer.rollCount ∧ (s.grantOutcome o).intake.area = s.intake.area ∧
    (s.grantOutcome o).intake.areaLo = s.intake.areaLo ∧ (s.grantOutcome o).intake.areaHi = s.intake.areaHi ∧
    (s.grantOutcome o).ks.latch = s.ks.latch ∧ (s.grantOutcome o).ks.overwrite = s.ks.overwrite ∧
    (s.grantOutcome o).events.mask = s.events.mask ∧ (s.grantOutcome o).events.watches = s.events.watches ∧
    (s.grantOutcome o).events.startReport = s.events.startReport ∧ (s.grantOutcome o).ks.closure = s.ks.closure ∧
    (s.grantOutcome o).ks.requests = s.ks.requests ∧ (s.grantOutcome o).ks.deferred = s.ks.deferred ∧
    (s.grantOutcome o).intake.sweepTimer = s.intake.sweepTimer ∧ (s.grantOutcome o).intake.pointer = s.intake.pointer ∧
    (s.grantOutcome o).intake.atTake = s.intake.atTake ∧ (s.grantOutcome o).events.room = s.events.room ∧
    (s.grantOutcome o).writer.line = s.writer.line ∧ (s.grantOutcome o).writer.roll = s.writer.roll ∧
    (∀ z, (s.grantOutcome o).bay z = s.bay z) ∧ (∀ z, (s.grantOutcome o).console z = s.console z) := by
  unfold State.grantOutcome; (try dsimp only); (repeat' split) <;> simp [State.bay, State.slot, State.console]

@[simp] theorem endApproval_frame (s : State) (p : Approval) (o : ApprovalOutcome) :
    (s.endApproval p o).pending = s.pending ∧ (s.endApproval p o).engine = s.engine ∧
    (s.endApproval p o).clock = s.clock ∧ (s.endApproval p o).cipher = s.cipher ∧ (s.endApproval p o).bays = s.bays ∧
    (s.endApproval p o).prof = s.prof ∧ (s.endApproval p o).writer.queue = s.writer.queue ∧
    (s.endApproval p o).writer.rollCount = s.writer.rollCount ∧ (s.endApproval p o).intake.area = s.intake.area ∧
    (s.endApproval p o).intake.areaLo = s.intake.areaLo ∧ (s.endApproval p o).intake.areaHi = s.intake.areaHi ∧
    (s.endApproval p o).ks.latch = s.ks.latch ∧ (s.endApproval p o).ks.overwrite = s.ks.overwrite ∧
    (s.endApproval p o).events.mask = s.events.mask ∧ (s.endApproval p o).events.watches = s.events.watches ∧
    (s.endApproval p o).events.startReport = s.events.startReport ∧ (s.endApproval p o).ks.closure = s.ks.closure ∧
    (s.endApproval p o).ks.requests = s.ks.requests ∧ (s.endApproval p o).ks.deferred = s.ks.deferred ∧
    (s.endApproval p o).intake.sweepTimer = s.intake.sweepTimer ∧ (s.endApproval p o).intake.pointer = s.intake.pointer ∧
    (s.endApproval p o).intake.atTake = s.intake.atTake ∧ (s.endApproval p o).events.room = s.events.room ∧
    (s.endApproval p o).writer.line = s.writer.line ∧ (s.endApproval p o).writer.roll = s.writer.roll ∧
    (s.endApproval p o).ceu.arrivals = s.ceu.arrivals ∧ (∀ z, (s.endApproval p o).bay z = s.bay z) := by
  unfold State.endApproval; (try dsimp only); (repeat' split) <;> simp [State.bay, State.slot, State.console]

@[simp] theorem stopCeremony_frame (s : State) :
    (s.stopCeremony).pending = s.pending ∧ (s.stopCeremony).engine = s.engine ∧ (s.stopCeremony).clock = s.clock ∧
    (s.stopCeremony).cipher = s.cipher ∧ (s.stopCeremony).bays = s.bays ∧ (s.stopCeremony).prof = s.prof ∧
    (s.stopCeremony).writer.queue = s.writer.queue ∧ (s.stopCeremony).writer.rollCount = s.writer.rollCount ∧
    (s.stopCeremony).intake.area = s.intake.area ∧ (s.stopCeremony).intake.areaLo = s.intake.areaLo ∧
    (s.stopCeremony).intake.areaHi = s.intake.areaHi ∧ (s.stopCeremony).ks.latch = s.ks.latch ∧
    (s.stopCeremony).ks.overwrite = s.ks.overwrite ∧ (s.stopCeremony).events.mask = s.events.mask ∧
    (s.stopCeremony).events.watches = s.events.watches ∧ (s.stopCeremony).events.startReport = s.events.startReport ∧
    (s.stopCeremony).ks.closure = s.ks.closure ∧ (s.stopCeremony).ks.requests = s.ks.requests ∧
    (s.stopCeremony).ks.deferred = s.ks.deferred ∧ (s.stopCeremony).intake.sweepTimer = s.intake.sweepTimer ∧
    (s.stopCeremony).intake.pointer = s.intake.pointer ∧ (s.stopCeremony).intake.atTake = s.intake.atTake ∧
    (s.stopCeremony).events.room = s.events.room ∧ (s.stopCeremony).writer.line = s.writer.line ∧
    (s.stopCeremony).writer.roll = s.writer.roll ∧ (∀ z, (s.stopCeremony).bay z = s.bay z) := by
  unfold State.stopCeremony; (try dsimp only); (repeat' split) <;> simp [State.bay, State.slot, State.console]

@[simp] theorem reportStart_frame (s : State) :
    (s.reportStart).pending = s.pending ∧ (s.reportStart).engine = s.engine ∧ (s.reportStart).clock = s.clock ∧
    (s.reportStart).cipher = s.cipher ∧ (s.reportStart).bays = s.bays ∧ (s.reportStart).prof = s.prof ∧
    (s.reportStart).ceu = s.ceu ∧ (s.reportStart).writer = s.writer ∧ (s.reportStart).intake = s.intake ∧
    (s.reportStart).ks = s.ks ∧ (s.reportStart).events.mask = s.events.mask ∧
    (s.reportStart).events.watches = s.events.watches ∧ (s.reportStart).events.room = s.events.room ∧
    (∀ z, (s.reportStart).bay z = s.bay z) ∧ (∀ z, (s.reportStart).slot z = s.slot z) ∧
    (∀ z, (s.reportStart).console z = s.console z) := by
  unfold State.reportStart; (try dsimp only); (repeat' split) <;> simp [State.bay, State.slot, State.console]

@[simp] theorem armSweepTimer_frame (s : State) :
    (s.armSweepTimer).pending = s.pending ∧ (s.armSweepTimer).engine = s.engine ∧ (s.armSweepTimer).clock = s.clock ∧
    (s.armSweepTimer).cipher = s.cipher ∧ (s.armSweepTimer).bays = s.bays ∧ (s.armSweepTimer).prof = s.prof ∧
    (s.armSweepTimer).ceu = s.ceu ∧ (s.armSweepTimer).writer = s.writer ∧ (s.armSweepTimer).intake.area = s.intake.area ∧
    (s.armSweepTimer).intake.areaLo = s.intake.areaLo ∧ (s.armSweepTimer).intake.areaHi = s.intake.areaHi ∧
    (s.armSweepTimer).intake.table = s.intake.table ∧ (s.armSweepTimer).ks = s.ks ∧ (s.armSweepTimer).events = s.events ∧
    (s.armSweepTimer).intake.pointer = s.intake.pointer ∧ (s.armSweepTimer).intake.atTake = s.intake.atTake ∧
    (s.armSweepTimer).intake.answers = s.intake.answers ∧ (∀ z, (s.armSweepTimer).bay z = s.bay z) ∧
    (∀ z, (s.armSweepTimer).slot z = s.slot z) ∧ (∀ z, (s.armSweepTimer).console z = s.console z) := by
  unfold State.armSweepTimer; (try dsimp only); (repeat' split) <;> simp [State.bay, State.slot, State.console]

@[simp] theorem writerActive_frame (s : State) :
    (s.writerActive).pending = s.pending ∧ (s.writerActive).engine = s.engine ∧ (s.writerActive).clock = s.clock ∧
    (s.writerActive).cipher = s.cipher ∧ (s.writerActive).bays = s.bays ∧ (s.writerActive).prof = s.prof ∧
    (s.writerActive).ceu = s.ceu ∧ (s.writerActive).writer.queue = s.writer.queue ∧
    (s.writerActive).writer.rollCount = s.writer.rollCount ∧ (s.writerActive).intake = s.intake ∧
    (s.writerActive).ks = s.ks ∧ (s.writerActive).events = s.events ∧ (s.writerActive).writer.line = s.writer.line ∧
    (s.writerActive).writer.roll = s.writer.roll ∧ (∀ z, (s.writerActive).bay z = s.bay z) ∧
    (∀ z, (s.writerActive).slot z = s.slot z) ∧ (∀ z, (s.writerActive).console z = s.console z) := by
  unfold State.writerActive; (try dsimp only); (repeat' split) <;> simp [State.bay, State.slot, State.console]

@[simp] theorem useArea_frame (s : State) (x : BitVec 64) (h : StationHeader) :
    (s.useArea x h).pending = s.pending ∧ (s.useArea x h).clock = s.clock ∧ (s.useArea x h).cipher = s.cipher ∧
    (s.useArea x h).bays = s.bays ∧ (s.useArea x h).prof = s.prof ∧ (s.useArea x h).ceu = s.ceu ∧
    (s.useArea x h).writer.queue = s.writer.queue ∧ (s.useArea x h).writer.rollCount = s.writer.rollCount ∧
    (s.useArea x h).intake.areaLo = s.intake.areaLo ∧ (s.useArea x h).intake.areaHi = s.intake.areaHi ∧
    (s.useArea x h).intake.table = s.intake.table ∧ (s.useArea x h).ks = s.ks ∧
    (s.useArea x h).events.mask = s.events.mask ∧ (s.useArea x h).events.watches = s.events.watches ∧
    (s.useArea x h).intake.atTake = s.intake.atTake ∧ (s.useArea x h).intake.answers = s.intake.answers ∧
    (s.useArea x h).events.room = s.events.room ∧ (s.useArea x h).writer.line = s.writer.line ∧
    (s.useArea x h).writer.roll = s.writer.roll ∧ (∀ z, (s.useArea x h).bay z = s.bay z) ∧
    (∀ z, (s.useArea x h).slot z = s.slot z) ∧ (∀ z, (s.useArea x h).console z = s.console z) := by
  unfold State.useArea; (try dsimp only); (repeat' split) <;> simp [State.bay, State.slot, State.console]

@[simp] theorem stopValidating_frame (s : State) :
    (s.stopValidating).pending = s.pending ∧ (s.stopValidating).engine = s.engine ∧ (s.stopValidating).clock = s.clock ∧
    (s.stopValidating).cipher = s.cipher ∧ (s.stopValidating).bays = s.bays ∧ (s.stopValidating).prof = s.prof ∧
    (s.stopValidating).ceu = s.ceu ∧ (s.stopValidating).writer.queue = s.writer.queue ∧
    (s.stopValidating).writer.rollCount = s.writer.rollCount ∧ (s.stopValidating).intake.area = s.intake.area ∧
    (s.stopValidating).intake.areaLo = s.intake.areaLo ∧ (s.stopValidating).intake.areaHi = s.intake.areaHi ∧
    (s.stopValidating).ks = s.ks ∧ (s.stopValidating).events.mask = s.events.mask ∧
    (s.stopValidating).events.watches = s.events.watches ∧ (s.stopValidating).events.startReport = s.events.startReport ∧
    (s.stopValidating).intake.sweepTimer = s.intake.sweepTimer ∧ (s.stopValidating).intake.pointer = s.intake.pointer ∧
    (s.stopValidating).intake.answers = s.intake.answers ∧ (s.stopValidating).events.room = s.events.room ∧
    (s.stopValidating).writer.line = s.writer.line ∧ (s.stopValidating).writer.roll = s.writer.roll ∧
    (∀ z, (s.stopValidating).bay z = s.bay z) ∧ (∀ z, (s.stopValidating).slot z = s.slot z) ∧
    (∀ z, (s.stopValidating).console z = s.console z) := by
  unfold State.stopValidating; (try dsimp only); (repeat' split) <;> simp [State.bay, State.slot, State.console]

@[simp] theorem testSettles_frame (s : State) :
    (s.testSettles).pending = s.pending ∧ (s.testSettles).engine = s.engine ∧ (s.testSettles).clock = s.clock ∧
    (s.testSettles).cipher = s.cipher ∧ (s.testSettles).bays = s.bays ∧ (s.testSettles).prof = s.prof ∧
    (s.testSettles).ceu = s.ceu ∧ (s.testSettles).writer.queue = s.writer.queue ∧
    (s.testSettles).writer.rollCount = s.writer.rollCount ∧ (s.testSettles).intake.area = s.intake.area ∧
    (s.testSettles).intake.areaLo = s.intake.areaLo ∧ (s.testSettles).intake.areaHi = s.intake.areaHi ∧
    (s.testSettles).ks.latch = s.ks.latch ∧ (s.testSettles).ks.overwrite = s.ks.overwrite ∧
    (s.testSettles).events.mask = s.events.mask ∧ (s.testSettles).events.watches = s.events.watches ∧
    (s.testSettles).events.startReport = s.events.startReport ∧ (s.testSettles).ks.closure = s.ks.closure ∧
    (s.testSettles).ks.grant = s.ks.grant ∧ (s.testSettles).ks.requests = s.ks.requests ∧
    (s.testSettles).ks.deferred = s.ks.deferred ∧ (s.testSettles).intake.sweepTimer = s.intake.sweepTimer ∧
    (s.testSettles).intake.pointer = s.intake.pointer ∧ (s.testSettles).intake.atTake = s.intake.atTake ∧
    (s.testSettles).events.room = s.events.room ∧ (s.testSettles).writer.line = s.writer.line ∧
    (s.testSettles).writer.roll = s.writer.roll ∧ (∀ z, (s.testSettles).bay z = s.bay z) ∧
    (∀ z, (s.testSettles).console z = s.console z) := by
  refine ⟨?_, ?_, ?_, ?_, ?_, ?_, ?_, ?_, ?_, ?_, ?_, ?_, ?_, ?_, ?_, ?_, ?_, ?_, ?_, ?_, ?_, ?_, ?_, ?_, ?_, ?_, ?_, ?_, ?_⟩ <;> unfold State.testSettles <;> (try dsimp only) <;> (repeat' split) <;>
    simp [State.bay, State.slot, State.console, foldl_keeps (fun s : State => s.pending), foldl_keeps (fun s : State => s.engine), foldl_keeps (fun s : State => s.clock), foldl_keeps (fun s : State => s.cipher), foldl_keeps (fun s : State => s.bays), foldl_keeps (fun s : State => s.prof), foldl_keeps (fun s : State => s.ceu), foldl_keeps (fun s : State => s.writer.queue), foldl_keeps (fun s : State => s.writer.rollCount), foldl_keeps (fun s : State => s.intake.area), foldl_keeps (fun s : State => s.intake.areaLo), foldl_keeps (fun s : State => s.intake.areaHi), foldl_keeps (fun s : State => s.ks.latch), foldl_keeps (fun s : State => s.ks.overwrite), foldl_keeps (fun s : State => s.events.mask), foldl_keeps (fun s : State => s.events.watches), foldl_keeps (fun s : State => s.events.startReport), foldl_keeps (fun s : State => s.ks.closure), foldl_keeps (fun s : State => s.ks.grant), foldl_keeps (fun s : State => s.ks.requests), foldl_keeps (fun s : State => s.ks.deferred), foldl_keeps (fun s : State => s.intake.sweepTimer), foldl_keeps (fun s : State => s.intake.pointer), foldl_keeps (fun s : State => s.intake.atTake), foldl_keeps (fun s : State => s.events.room), foldl_keeps (fun s : State => s.writer.line), foldl_keeps (fun s : State => s.writer.roll)]

@[simp] theorem stopNotice_frame (s : State) :
    (s.stopNotice).pending = s.pending ∧ (s.stopNotice).engine = s.engine ∧ (s.stopNotice).clock = s.clock ∧
    (s.stopNotice).cipher = s.cipher ∧ (s.stopNotice).prof = s.prof ∧ (s.stopNotice).writer.queue = s.writer.queue ∧
    (s.stopNotice).writer.rollCount = s.writer.rollCount ∧ (s.stopNotice).intake.area = s.intake.area ∧
    (s.stopNotice).intake.areaLo = s.intake.areaLo ∧ (s.stopNotice).intake.areaHi = s.intake.areaHi ∧
    (s.stopNotice).ks.latch = s.ks.latch ∧ (s.stopNotice).ks.overwrite = s.ks.overwrite ∧
    (s.stopNotice).events.mask = s.events.mask ∧ (s.stopNotice).events.watches = s.events.watches ∧
    (s.stopNotice).events.startReport = s.events.startReport ∧ (s.stopNotice).ks.closure = s.ks.closure ∧
    (s.stopNotice).ks.deferred = s.ks.deferred ∧ (s.stopNotice).intake.sweepTimer = s.intake.sweepTimer ∧
    (s.stopNotice).intake.pointer = s.intake.pointer ∧ (s.stopNotice).intake.atTake = s.intake.atTake ∧
    (s.stopNotice).events.room = s.events.room ∧ (s.stopNotice).writer.line = s.writer.line ∧
    (s.stopNotice).writer.roll = s.writer.roll := by
  unfold State.stopNotice; (try dsimp only); (repeat' split) <;> simp [State.bay, State.slot, State.console]

@[simp] theorem endSweeps_frame (s : State) :
    (s.endSweeps).pending = s.pending ∧ (s.endSweeps).engine = s.engine ∧ (s.endSweeps).clock = s.clock ∧
    (s.endSweeps).cipher = s.cipher ∧ (s.endSweeps).bays = s.bays ∧ (s.endSweeps).prof = s.prof ∧
    (s.endSweeps).ceu = s.ceu ∧ (s.endSweeps).writer = s.writer ∧ (s.endSweeps).intake.area = s.intake.area ∧
    (s.endSweeps).intake.areaLo = s.intake.areaLo ∧ (s.endSweeps).intake.areaHi = s.intake.areaHi ∧
    (s.endSweeps).intake.table = s.intake.table ∧ (s.endSweeps).ks = s.ks ∧ (s.endSweeps).events = s.events ∧
    (s.endSweeps).intake.pointer = s.intake.pointer ∧ (s.endSweeps).intake.atTake = s.intake.atTake ∧
    (s.endSweeps).intake.answers = s.intake.answers ∧ (∀ z, (s.endSweeps).bay z = s.bay z) ∧
    (∀ z, (s.endSweeps).slot z = s.slot z) ∧ (∀ z, (s.endSweeps).console z = s.console z) := by
  unfold State.endSweeps; (try dsimp only); (repeat' split) <;> simp [State.bay, State.slot, State.console]

@[simp] theorem loseAnswers_frame (s : State) :
    (s.loseAnswers).pending = s.pending ∧ (s.loseAnswers).engine = s.engine ∧ (s.loseAnswers).clock = s.clock ∧
    (s.loseAnswers).cipher = s.cipher ∧ (s.loseAnswers).bays = s.bays ∧ (s.loseAnswers).prof = s.prof ∧
    (s.loseAnswers).ceu = s.ceu ∧ (s.loseAnswers).writer.queue = s.writer.queue ∧
    (s.loseAnswers).writer.rollCount = s.writer.rollCount ∧ (s.loseAnswers).intake.area = s.intake.area ∧
    (s.loseAnswers).intake.areaLo = s.intake.areaLo ∧ (s.loseAnswers).intake.areaHi = s.intake.areaHi ∧
    (s.loseAnswers).ks = s.ks ∧ (s.loseAnswers).events.mask = s.events.mask ∧
    (s.loseAnswers).events.watches = s.events.watches ∧ (s.loseAnswers).events.startReport = s.events.startReport ∧
    (s.loseAnswers).intake.sweepTimer = s.intake.sweepTimer ∧ (s.loseAnswers).intake.pointer = s.intake.pointer ∧
    (s.loseAnswers).events.room = s.events.room ∧ (s.loseAnswers).writer.line = s.writer.line ∧
    (s.loseAnswers).writer.roll = s.writer.roll ∧ (∀ z, (s.loseAnswers).bay z = s.bay z) ∧
    (∀ z, (s.loseAnswers).slot z = s.slot z) ∧ (∀ z, (s.loseAnswers).console z = s.console z) := by
  refine ⟨?_, ?_, ?_, ?_, ?_, ?_, ?_, ?_, ?_, ?_, ?_, ?_, ?_, ?_, ?_, ?_, ?_, ?_, ?_, ?_, ?_, ?_, ?_, ?_⟩ <;> unfold State.loseAnswers <;> (try dsimp only) <;> (repeat' split) <;>
    simp [State.bay, State.slot, State.console, foldl_keeps (fun s : State => s.pending), foldl_keeps (fun s : State => s.engine), foldl_keeps (fun s : State => s.clock), foldl_keeps (fun s : State => s.cipher), foldl_keeps (fun s : State => s.bays), foldl_keeps (fun s : State => s.prof), foldl_keeps (fun s : State => s.ceu), foldl_keeps (fun s : State => s.writer.queue), foldl_keeps (fun s : State => s.writer.rollCount), foldl_keeps (fun s : State => s.intake.area), foldl_keeps (fun s : State => s.intake.areaLo), foldl_keeps (fun s : State => s.intake.areaHi), foldl_keeps (fun s : State => s.ks), foldl_keeps (fun s : State => s.events.mask), foldl_keeps (fun s : State => s.events.watches), foldl_keeps (fun s : State => s.events.startReport), foldl_keeps (fun s : State => s.intake.sweepTimer), foldl_keeps (fun s : State => s.intake.pointer), foldl_keeps (fun s : State => s.events.room), foldl_keeps (fun s : State => s.writer.line), foldl_keeps (fun s : State => s.writer.roll)]

@[simp] theorem endDrain_frame (s : State) (i : SlotId) :
    (s.endDrain i).pending = s.pending ∧ (s.endDrain i).engine = s.engine ∧ (s.endDrain i).clock = s.clock ∧
    (s.endDrain i).cipher = s.cipher ∧ (s.endDrain i).bays = s.bays ∧ (s.endDrain i).prof = s.prof ∧
    (s.endDrain i).ceu = s.ceu ∧ (s.endDrain i).writer.queue = s.writer.queue ∧
    (s.endDrain i).writer.rollCount = s.writer.rollCount ∧ (s.endDrain i).intake.area = s.intake.area ∧
    (s.endDrain i).intake.areaLo = s.intake.areaLo ∧ (s.endDrain i).intake.areaHi = s.intake.areaHi ∧
    (s.endDrain i).ks.latch = s.ks.latch ∧ (s.endDrain i).ks.overwrite = s.ks.overwrite ∧
    (s.endDrain i).events.mask = s.events.mask ∧ (s.endDrain i).events.watches = s.events.watches ∧
    (s.endDrain i).events.startReport = s.events.startReport ∧ (s.endDrain i).ks.closure = s.ks.closure ∧
    (s.endDrain i).ks.grant = s.ks.grant ∧ (s.endDrain i).ks.requests = s.ks.requests ∧
    (s.endDrain i).ks.deferred = s.ks.deferred ∧ (s.endDrain i).intake.sweepTimer = s.intake.sweepTimer ∧
    (s.endDrain i).intake.pointer = s.intake.pointer ∧ (s.endDrain i).intake.atTake = s.intake.atTake ∧
    (s.endDrain i).events.room = s.events.room ∧ (s.endDrain i).writer.line = s.writer.line ∧
    (s.endDrain i).writer.roll = s.writer.roll ∧ (∀ z, (s.endDrain i).bay z = s.bay z) ∧
    (∀ z, (s.endDrain i).console z = s.console z) := by
  unfold State.endDrain; (try dsimp only); (repeat' split) <;> simp [State.bay, State.slot, State.console]

@[simp] theorem withdrawSettle_frame (s : State) (l : List SlotId) (i : SlotId) :
    (State.withdrawSettle l s i).pending = s.pending ∧ (State.withdrawSettle l s i).engine = s.engine ∧
    (State.withdrawSettle l s i).clock = s.clock ∧ (State.withdrawSettle l s i).cipher = s.cipher ∧
    (State.withdrawSettle l s i).bays = s.bays ∧ (State.withdrawSettle l s i).prof = s.prof ∧
    (State.withdrawSettle l s i).ceu = s.ceu ∧ (State.withdrawSettle l s i).writer.queue = s.writer.queue ∧
    (State.withdrawSettle l s i).writer.rollCount = s.writer.rollCount ∧
    (State.withdrawSettle l s i).intake.area = s.intake.area ∧
    (State.withdrawSettle l s i).intake.areaLo = s.intake.areaLo ∧
    (State.withdrawSettle l s i).intake.areaHi = s.intake.areaHi ∧ (State.withdrawSettle l s i).ks.latch = s.ks.latch ∧
    (State.withdrawSettle l s i).ks.overwrite = s.ks.overwrite ∧
    (State.withdrawSettle l s i).events.mask = s.events.mask ∧
    (State.withdrawSettle l s i).events.watches = s.events.watches ∧
    (State.withdrawSettle l s i).events.startReport = s.events.startReport ∧
    (State.withdrawSettle l s i).ks.closure = s.ks.closure ∧ (State.withdrawSettle l s i).ks.grant = s.ks.grant ∧
    (State.withdrawSettle l s i).ks.requests = s.ks.requests ∧ (State.withdrawSettle l s i).ks.deferred = s.ks.deferred ∧
    (State.withdrawSettle l s i).intake.sweepTimer = s.intake.sweepTimer ∧
    (State.withdrawSettle l s i).intake.pointer = s.intake.pointer ∧
    (State.withdrawSettle l s i).intake.atTake = s.intake.atTake ∧
    (State.withdrawSettle l s i).events.room = s.events.room ∧ (State.withdrawSettle l s i).writer.line = s.writer.line ∧
    (State.withdrawSettle l s i).writer.roll = s.writer.roll ∧ (∀ z, (State.withdrawSettle l s i).bay z = s.bay z) ∧
    (∀ z, (State.withdrawSettle l s i).console z = s.console z) := by
  unfold State.withdrawSettle; (try dsimp only); (repeat' split) <;> simp [State.bay, State.slot, State.console]

@[simp] theorem withdrawSettles_frame (s : State) :
    (s.withdrawSettles).pending = s.pending ∧ (s.withdrawSettles).engine = s.engine ∧
    (s.withdrawSettles).clock = s.clock ∧ (s.withdrawSettles).cipher = s.cipher ∧ (s.withdrawSettles).bays = s.bays ∧
    (s.withdrawSettles).prof = s.prof ∧ (s.withdrawSettles).ceu = s.ceu ∧
    (s.withdrawSettles).writer.queue = s.writer.queue ∧ (s.withdrawSettles).writer.rollCount = s.writer.rollCount ∧
    (s.withdrawSettles).intake.area = s.intake.area ∧ (s.withdrawSettles).intake.areaLo = s.intake.areaLo ∧
    (s.withdrawSettles).intake.areaHi = s.intake.areaHi ∧ (s.withdrawSettles).ks.latch = s.ks.latch ∧
    (s.withdrawSettles).ks.overwrite = s.ks.overwrite ∧ (s.withdrawSettles).events.mask = s.events.mask ∧
    (s.withdrawSettles).events.watches = s.events.watches ∧
    (s.withdrawSettles).events.startReport = s.events.startReport ∧ (s.withdrawSettles).ks.closure = s.ks.closure ∧
    (s.withdrawSettles).ks.grant = s.ks.grant ∧ (s.withdrawSettles).ks.requests = s.ks.requests ∧
    (s.withdrawSettles).ks.deferred = s.ks.deferred ∧ (s.withdrawSettles).intake.sweepTimer = s.intake.sweepTimer ∧
    (s.withdrawSettles).intake.pointer = s.intake.pointer ∧ (s.withdrawSettles).intake.atTake = s.intake.atTake ∧
    (s.withdrawSettles).events.room = s.events.room ∧ (s.withdrawSettles).writer.roll = s.writer.roll ∧
    (∀ z, (s.withdrawSettles).bay z = s.bay z) ∧ (∀ z, (s.withdrawSettles).console z = s.console z) := by
  refine ⟨?_, ?_, ?_, ?_, ?_, ?_, ?_, ?_, ?_, ?_, ?_, ?_, ?_, ?_, ?_, ?_, ?_, ?_, ?_, ?_, ?_, ?_, ?_, ?_, ?_, ?_, ?_, ?_⟩ <;> unfold State.withdrawSettles <;> (try dsimp only) <;> (repeat' split) <;>
    simp [State.bay, State.slot, State.console, foldl_keeps (fun s : State => s.pending), foldl_keeps (fun s : State => s.engine), foldl_keeps (fun s : State => s.clock), foldl_keeps (fun s : State => s.cipher), foldl_keeps (fun s : State => s.bays), foldl_keeps (fun s : State => s.prof), foldl_keeps (fun s : State => s.ceu), foldl_keeps (fun s : State => s.writer.queue), foldl_keeps (fun s : State => s.writer.rollCount), foldl_keeps (fun s : State => s.intake.area), foldl_keeps (fun s : State => s.intake.areaLo), foldl_keeps (fun s : State => s.intake.areaHi), foldl_keeps (fun s : State => s.ks.latch), foldl_keeps (fun s : State => s.ks.overwrite), foldl_keeps (fun s : State => s.events.mask), foldl_keeps (fun s : State => s.events.watches), foldl_keeps (fun s : State => s.events.startReport), foldl_keeps (fun s : State => s.ks.closure), foldl_keeps (fun s : State => s.ks.grant), foldl_keeps (fun s : State => s.ks.requests), foldl_keeps (fun s : State => s.ks.deferred), foldl_keeps (fun s : State => s.intake.sweepTimer), foldl_keeps (fun s : State => s.intake.pointer), foldl_keeps (fun s : State => s.intake.atTake), foldl_keeps (fun s : State => s.events.room), foldl_keeps (fun s : State => s.writer.roll)]

@[simp] theorem areaFault_frame (s : State) :
    (s.areaFault).pending = s.pending ∧ (s.areaFault).clock = s.clock ∧ (s.areaFault).cipher = s.cipher ∧
    (s.areaFault).prof = s.prof ∧ (s.areaFault).writer.queue = s.writer.queue ∧
    (s.areaFault).writer.rollCount = s.writer.rollCount ∧ (s.areaFault).intake.areaLo = s.intake.areaLo ∧
    (s.areaFault).intake.areaHi = s.intake.areaHi ∧ (s.areaFault).ks.latch = s.ks.latch ∧
    (s.areaFault).ks.overwrite = s.ks.overwrite ∧ (s.areaFault).events.mask = s.events.mask ∧
    (s.areaFault).events.watches = s.events.watches ∧ (s.areaFault).events.startReport = s.events.startReport ∧
    (s.areaFault).ks.closure = s.ks.closure ∧ (s.areaFault).ks.deferred = s.ks.deferred ∧
    (s.areaFault).intake.pointer = s.intake.pointer := by
  refine ⟨?_, ?_, ?_, ?_, ?_, ?_, ?_, ?_, ?_, ?_, ?_, ?_, ?_, ?_, ?_, ?_⟩ <;> unfold State.areaFault <;> (try dsimp only) <;> (repeat' split) <;>
    simp [State.bay, State.slot, State.console, foldl_keeps (fun s : State => s.pending), foldl_keeps (fun s : State => s.clock), foldl_keeps (fun s : State => s.cipher), foldl_keeps (fun s : State => s.prof), foldl_keeps (fun s : State => s.writer.queue), foldl_keeps (fun s : State => s.writer.rollCount), foldl_keeps (fun s : State => s.intake.areaLo), foldl_keeps (fun s : State => s.intake.areaHi), foldl_keeps (fun s : State => s.ks.latch), foldl_keeps (fun s : State => s.ks.overwrite), foldl_keeps (fun s : State => s.events.mask), foldl_keeps (fun s : State => s.events.watches), foldl_keeps (fun s : State => s.events.startReport), foldl_keeps (fun s : State => s.ks.closure), foldl_keeps (fun s : State => s.ks.deferred), foldl_keeps (fun s : State => s.intake.pointer)]

@[simp] theorem zeroizeSlot_frame (s : State) (i : SlotId) :
    (s.zeroizeSlot i).pending = s.pending ∧ (s.zeroizeSlot i).engine = s.engine ∧ (s.zeroizeSlot i).clock = s.clock ∧
    (s.zeroizeSlot i).cipher = s.cipher ∧ (s.zeroizeSlot i).bays = s.bays ∧ (s.zeroizeSlot i).prof = s.prof ∧
    (s.zeroizeSlot i).ceu = s.ceu ∧ (s.zeroizeSlot i).writer = s.writer ∧ (s.zeroizeSlot i).intake = s.intake ∧
    (s.zeroizeSlot i).ks.latch = s.ks.latch ∧ (s.zeroizeSlot i).ks.overwrite = s.ks.overwrite ∧
    (s.zeroizeSlot i).events.mask = s.events.mask ∧ (s.zeroizeSlot i).events.watches = s.events.watches ∧
    (s.zeroizeSlot i).events.startReport = s.events.startReport ∧ (s.zeroizeSlot i).ks.closure = s.ks.closure ∧
    (s.zeroizeSlot i).ks.grant = s.ks.grant ∧ (s.zeroizeSlot i).ks.requests = s.ks.requests ∧
    (s.zeroizeSlot i).ks.deferred = s.ks.deferred ∧ (s.zeroizeSlot i).events.room = s.events.room ∧
    (∀ z, (s.zeroizeSlot i).bay z = s.bay z) ∧ (∀ z, (s.zeroizeSlot i).console z = s.console z) := by
  unfold State.zeroizeSlot; (try dsimp only); (repeat' split) <;> simp [State.bay, State.slot, State.console]

@[simp] theorem tamperStore_frame (s : State) :
    (s.tamperStore).pending = s.pending ∧ (s.tamperStore).engine = s.engine ∧ (s.tamperStore).clock = s.clock ∧
    (s.tamperStore).cipher = s.cipher ∧ (s.tamperStore).bays = s.bays ∧ (s.tamperStore).prof = s.prof ∧
    (s.tamperStore).ceu = s.ceu ∧ (s.tamperStore).writer = s.writer ∧ (s.tamperStore).intake = s.intake ∧
    (s.tamperStore).ks.latch = s.ks.latch ∧ (s.tamperStore).events.mask = s.events.mask ∧
    (s.tamperStore).events.watches = s.events.watches ∧ (s.tamperStore).events.startReport = s.events.startReport ∧
    (s.tamperStore).events.room = s.events.room ∧ (∀ z, (s.tamperStore).bay z = s.bay z) ∧
    (∀ z, (s.tamperStore).console z = s.console z) := by
  refine ⟨?_, ?_, ?_, ?_, ?_, ?_, ?_, ?_, ?_, ?_, ?_, ?_, ?_, ?_, ?_, ?_⟩ <;> unfold State.tamperStore <;> (try dsimp only) <;> (repeat' split) <;>
    simp [State.bay, State.slot, State.console, foldl_keeps (fun s : State => s.pending), foldl_keeps (fun s : State => s.engine), foldl_keeps (fun s : State => s.clock), foldl_keeps (fun s : State => s.cipher), foldl_keeps (fun s : State => s.bays), foldl_keeps (fun s : State => s.prof), foldl_keeps (fun s : State => s.ceu), foldl_keeps (fun s : State => s.writer), foldl_keeps (fun s : State => s.intake), foldl_keeps (fun s : State => s.ks.latch), foldl_keeps (fun s : State => s.events.mask), foldl_keeps (fun s : State => s.events.watches), foldl_keeps (fun s : State => s.events.startReport), foldl_keeps (fun s : State => s.events.room)]

@[simp] theorem tamperCeu_frame (s : State) :
    (s.tamperCeu).pending = s.pending ∧ (s.tamperCeu).engine = s.engine ∧ (s.tamperCeu).clock = s.clock ∧
    (s.tamperCeu).cipher = s.cipher ∧ (s.tamperCeu).bays = s.bays ∧ (s.tamperCeu).prof = s.prof ∧
    (s.tamperCeu).writer = s.writer ∧ (s.tamperCeu).intake = s.intake ∧ (s.tamperCeu).ks = s.ks ∧
    (s.tamperCeu).events = s.events ∧ (∀ z, (s.tamperCeu).bay z = s.bay z) ∧ (∀ z, (s.tamperCeu).slot z = s.slot z) := by
  unfold State.tamperCeu; (try dsimp only); (repeat' split) <;> simp [State.bay, State.slot, State.console]

@[simp] theorem tamperWriter_frame (s : State) :
    (s.tamperWriter).pending = s.pending ∧ (s.tamperWriter).engine = s.engine ∧ (s.tamperWriter).clock = s.clock ∧
    (s.tamperWriter).cipher = s.cipher ∧ (s.tamperWriter).bays = s.bays ∧ (s.tamperWriter).prof = s.prof ∧
    (s.tamperWriter).ceu = s.ceu ∧ (s.tamperWriter).writer.rollCount = s.writer.rollCount ∧
    (s.tamperWriter).intake = s.intake ∧ (s.tamperWriter).ks = s.ks ∧ (s.tamperWriter).events.mask = s.events.mask ∧
    (s.tamperWriter).events.watches = s.events.watches ∧ (s.tamperWriter).events.startReport = s.events.startReport ∧
    (∀ z, (s.tamperWriter).bay z = s.bay z) ∧ (∀ z, (s.tamperWriter).slot z = s.slot z) ∧
    (∀ z, (s.tamperWriter).console z = s.console z) := by
  unfold State.tamperWriter; (try dsimp only); (repeat' split) <;> simp [State.bay, State.slot, State.console]

@[simp] theorem tamperIntake_frame (s : State) :
    (s.tamperIntake).pending = s.pending ∧ (s.tamperIntake).engine = s.engine ∧ (s.tamperIntake).clock = s.clock ∧
    (s.tamperIntake).cipher = s.cipher ∧ (s.tamperIntake).bays = s.bays ∧ (s.tamperIntake).prof = s.prof ∧
    (s.tamperIntake).ceu = s.ceu ∧ (s.tamperIntake).writer.queue = s.writer.queue ∧
    (s.tamperIntake).writer.rollCount = s.writer.rollCount ∧ (s.tamperIntake).intake.area = s.intake.area ∧
    (s.tamperIntake).intake.areaLo = s.intake.areaLo ∧ (s.tamperIntake).intake.areaHi = s.intake.areaHi ∧
    (s.tamperIntake).ks = s.ks ∧ (s.tamperIntake).events.mask = s.events.mask ∧
    (s.tamperIntake).events.watches = s.events.watches ∧ (s.tamperIntake).events.startReport = s.events.startReport ∧
    (s.tamperIntake).intake.pointer = s.intake.pointer ∧ (s.tamperIntake).events.room = s.events.room ∧
    (s.tamperIntake).writer.line = s.writer.line ∧ (s.tamperIntake).writer.roll = s.writer.roll ∧
    (∀ z, (s.tamperIntake).bay z = s.bay z) ∧ (∀ z, (s.tamperIntake).slot z = s.slot z) ∧
    (∀ z, (s.tamperIntake).console z = s.console z) := by
  refine ⟨?_, ?_, ?_, ?_, ?_, ?_, ?_, ?_, ?_, ?_, ?_, ?_, ?_, ?_, ?_, ?_, ?_, ?_, ?_, ?_, ?_, ?_, ?_⟩ <;> unfold State.tamperIntake <;> (try dsimp only) <;> (repeat' split) <;>
    simp [State.bay, State.slot, State.console, foldl_keeps (fun s : State => s.pending), foldl_keeps (fun s : State => s.engine), foldl_keeps (fun s : State => s.clock), foldl_keeps (fun s : State => s.cipher), foldl_keeps (fun s : State => s.bays), foldl_keeps (fun s : State => s.prof), foldl_keeps (fun s : State => s.ceu), foldl_keeps (fun s : State => s.writer.queue), foldl_keeps (fun s : State => s.writer.rollCount), foldl_keeps (fun s : State => s.intake.area), foldl_keeps (fun s : State => s.intake.areaLo), foldl_keeps (fun s : State => s.intake.areaHi), foldl_keeps (fun s : State => s.ks), foldl_keeps (fun s : State => s.events.mask), foldl_keeps (fun s : State => s.events.watches), foldl_keeps (fun s : State => s.events.startReport), foldl_keeps (fun s : State => s.intake.pointer), foldl_keeps (fun s : State => s.events.room), foldl_keeps (fun s : State => s.writer.line), foldl_keeps (fun s : State => s.writer.roll)]

@[simp] theorem enterTampered_frame (s : State) :
    (s.enterTampered).pending = s.pending ∧ (s.enterTampered).clock = s.clock ∧ (s.enterTampered).cipher = s.cipher ∧
    (s.enterTampered).bays = s.bays ∧ (s.enterTampered).prof = s.prof ∧ (s.enterTampered).ceu = s.ceu ∧
    (s.enterTampered).ks = s.ks ∧ (s.enterTampered).intake.area = s.intake.area ∧
    (s.enterTampered).intake.areaLo = s.intake.areaLo ∧ (s.enterTampered).intake.areaHi = s.intake.areaHi ∧
    (s.enterTampered).events.mask = s.events.mask ∧ (s.enterTampered).events.watches = s.events.watches ∧
    (s.enterTampered).events.startReport = s.events.startReport ∧ (s.enterTampered).writer.queue = s.writer.queue ∧
    (s.enterTampered).writer.rollCount = s.writer.rollCount ∧ (s.enterTampered).intake.pointer = s.intake.pointer ∧
    (s.enterTampered).writer.line = s.writer.line ∧ (s.enterTampered).writer.roll = s.writer.roll ∧
    (∀ z, (s.enterTampered).bay z = s.bay z) ∧ (∀ z, (s.enterTampered).slot z = s.slot z) ∧
    (∀ z, (s.enterTampered).console z = s.console z) := by
  unfold State.enterTampered; (try dsimp only); (repeat' split) <;> simp [State.bay, State.slot, State.console]

@[simp] theorem tamper_frame (s : State) :
    (s.tamper).pending = s.pending ∧ (s.tamper).clock = s.clock ∧ (s.tamper).ks.latch = s.ks.latch ∧
    (s.tamper).intake.area = s.intake.area ∧ (s.tamper).intake.areaLo = s.intake.areaLo ∧
    (s.tamper).intake.areaHi = s.intake.areaHi ∧ (s.tamper).events.mask = s.events.mask ∧
    (s.tamper).events.watches = s.events.watches ∧ (s.tamper).events.startReport = s.events.startReport ∧
    (s.tamper).writer.rollCount = s.writer.rollCount ∧ (s.tamper).intake.pointer = s.intake.pointer ∧
    (s.tamper).prof.profiles = s.prof.profiles ∧ (s.tamper).prof.map = s.prof.map ∧
    (s.tamper).prof.groups = s.prof.groups := by
  unfold State.tamper; (try dsimp only); (repeat' split) <;> simp [State.bay, State.slot, State.console]

@[simp] theorem setLatch_frame (s : State) :
    (s.setLatch).pending = s.pending ∧ (s.setLatch).clock = s.clock ∧ (s.setLatch).intake.areaLo = s.intake.areaLo ∧
    (s.setLatch).intake.areaHi = s.intake.areaHi ∧ (s.setLatch).events.mask = s.events.mask ∧
    (s.setLatch).events.watches = s.events.watches ∧ (s.setLatch).events.startReport = s.events.startReport ∧
    (s.setLatch).writer.rollCount = s.writer.rollCount ∧ (s.setLatch).intake.pointer = s.intake.pointer ∧
    (s.setLatch).prof.profiles = s.prof.profiles ∧ (s.setLatch).prof.map = s.prof.map ∧
    (s.setLatch).prof.groups = s.prof.groups := by
  unfold State.setLatch; (try dsimp only); (repeat' split) <;> simp [State.bay, State.slot, State.console]

@[simp] theorem endLoad_frame (s : State) :
    (s.endLoad).pending = s.pending ∧ (s.endLoad).clock = s.clock ∧ (s.endLoad).cipher = s.cipher ∧
    (s.endLoad).writer.queue = s.writer.queue ∧ (s.endLoad).writer.rollCount = s.writer.rollCount ∧
    (s.endLoad).ks = s.ks ∧ (s.endLoad).intake.area = s.intake.area ∧ (s.endLoad).intake.areaLo = s.intake.areaLo ∧
    (s.endLoad).intake.areaHi = s.intake.areaHi ∧ (s.endLoad).events.mask = s.events.mask ∧
    (s.endLoad).events.watches = s.events.watches ∧ (s.endLoad).events.startReport = s.events.startReport ∧
    (s.endLoad).intake.pointer = s.intake.pointer ∧ (s.endLoad).writer.line = s.writer.line ∧
    (s.endLoad).writer.roll = s.writer.roll ∧ (s.endLoad).prof.profiles = s.prof.profiles ∧
    (s.endLoad).prof.map = s.prof.map ∧ (s.endLoad).prof.groups = s.prof.groups ∧ (∀ z, (s.endLoad).slot z = s.slot z) := by
  unfold State.endLoad; (try dsimp only); (repeat' split) <;> simp [State.bay, State.slot, State.console]

@[simp] theorem memoryUnreadable_frame (s : State) :
    (s.memoryUnreadable).pending = s.pending ∧ (s.memoryUnreadable).clock = s.clock ∧
    (s.memoryUnreadable).cipher = s.cipher ∧ (s.memoryUnreadable).writer.queue = s.writer.queue ∧
    (s.memoryUnreadable).writer.rollCount = s.writer.rollCount ∧ (s.memoryUnreadable).ks = s.ks ∧
    (s.memoryUnreadable).intake.area = s.intake.area ∧ (s.memoryUnreadable).intake.areaLo = s.intake.areaLo ∧
    (s.memoryUnreadable).intake.areaHi = s.intake.areaHi ∧ (s.memoryUnreadable).events.mask = s.events.mask ∧
    (s.memoryUnreadable).events.watches = s.events.watches ∧
    (s.memoryUnreadable).events.startReport = s.events.startReport ∧
    (s.memoryUnreadable).intake.pointer = s.intake.pointer ∧ (s.memoryUnreadable).writer.line = s.writer.line ∧
    (s.memoryUnreadable).writer.roll = s.writer.roll ∧ (s.memoryUnreadable).prof.profiles = s.prof.profiles ∧
    (s.memoryUnreadable).prof.map = s.prof.map ∧ (∀ z, (s.memoryUnreadable).slot z = s.slot z) := by
  unfold State.memoryUnreadable; (try dsimp only); (repeat' split) <;> simp [State.bay, State.slot, State.console]

@[simp] theorem memoryReady_frame (s : State) (x : BitVec 16) :
    (s.memoryReady x).pending = s.pending ∧ (s.memoryReady x).engine = s.engine ∧ (s.memoryReady x).clock = s.clock ∧
    (s.memoryReady x).cipher = s.cipher ∧ (s.memoryReady x).bays = s.bays ∧ (s.memoryReady x).ceu = s.ceu ∧
    (s.memoryReady x).writer = s.writer ∧ (s.memoryReady x).intake = s.intake ∧ (s.memoryReady x).ks = s.ks ∧
    (s.memoryReady x).events = s.events ∧ (s.memoryReady x).prof.profiles = s.prof.profiles ∧
    (s.memoryReady x).prof.map = s.prof.map ∧ (s.memoryReady x).prof.groups = s.prof.groups ∧
    (∀ z, (s.memoryReady x).bay z = s.bay z) ∧ (∀ z, (s.memoryReady x).slot z = s.slot z) ∧
    (∀ z, (s.memoryReady x).console z = s.console z) := by
  unfold State.memoryReady; (try dsimp only); (repeat' split) <;> simp [State.bay, State.slot, State.console]

@[simp] theorem judge_frame (s : State) (g : Fin 4) (l : List Byte) :
    (s.judge g l).pending = s.pending ∧ (s.judge g l).engine = s.engine ∧ (s.judge g l).clock = s.clock ∧
    (s.judge g l).cipher = s.cipher ∧ (s.judge g l).bays = s.bays ∧ (s.judge g l).ceu = s.ceu ∧
    (s.judge g l).writer = s.writer ∧ (s.judge g l).intake = s.intake ∧ (s.judge g l).ks = s.ks ∧
    (s.judge g l).events.mask = s.events.mask ∧ (s.judge g l).events.watches = s.events.watches ∧
    (s.judge g l).events.startReport = s.events.startReport ∧ (s.judge g l).events.room = s.events.room ∧
    (∀ z, (s.judge g l).bay z = s.bay z) ∧ (∀ z, (s.judge g l).slot z = s.slot z) ∧
    (∀ z, (s.judge g l).console z = s.console z) := by
  unfold State.judge; (try dsimp only); (repeat' split) <;> simp [State.bay, State.slot, State.console]

@[simp] theorem takeCell_frame (s : State) (a : Area) (p : Nat) (c : List Byte) :
    (s.takeCell a p c).pending = s.pending ∧ (s.takeCell a p c).engine = s.engine ∧ (s.takeCell a p c).clock = s.clock ∧
    (s.takeCell a p c).cipher = s.cipher ∧ (s.takeCell a p c).bays = s.bays ∧ (s.takeCell a p c).prof = s.prof ∧
    (s.takeCell a p c).ceu = s.ceu ∧ (s.takeCell a p c).writer.queue = s.writer.queue ∧
    (s.takeCell a p c).writer.rollCount = s.writer.rollCount ∧ (s.takeCell a p c).intake.area = s.intake.area ∧
    (s.takeCell a p c).intake.areaLo = s.intake.areaLo ∧ (s.takeCell a p c).intake.areaHi = s.intake.areaHi ∧
    (s.takeCell a p c).ks = s.ks ∧ (s.takeCell a p c).events.mask = s.events.mask ∧
    (s.takeCell a p c).events.watches = s.events.watches ∧ (s.takeCell a p c).events.startReport = s.events.startReport ∧
    (s.takeCell a p c).intake.sweepTimer = s.intake.sweepTimer ∧ (s.takeCell a p c).intake.answers = s.intake.answers ∧
    (s.takeCell a p c).events.room = s.events.room ∧ (s.takeCell a p c).writer.line = s.writer.line ∧
    (s.takeCell a p c).writer.roll = s.writer.roll ∧ (∀ z, (s.takeCell a p c).bay z = s.bay z) ∧
    (∀ z, (s.takeCell a p c).slot z = s.slot z) ∧ (∀ z, (s.takeCell a p c).console z = s.console z) := by
  unfold State.takeCell; (try dsimp only); (repeat' split) <;> simp [State.bay, State.slot, State.console]

@[simp] theorem leaveCell_frame (s : State) (w : Sweep) :
    (s.leaveCell w).pending = s.pending ∧ (s.leaveCell w).engine = s.engine ∧ (s.leaveCell w).clock = s.clock ∧
    (s.leaveCell w).cipher = s.cipher ∧ (s.leaveCell w).bays = s.bays ∧ (s.leaveCell w).prof = s.prof ∧
    (s.leaveCell w).ceu = s.ceu ∧ (s.leaveCell w).writer = s.writer ∧ (s.leaveCell w).intake.area = s.intake.area ∧
    (s.leaveCell w).intake.areaLo = s.intake.areaLo ∧ (s.leaveCell w).intake.areaHi = s.intake.areaHi ∧
    (s.leaveCell w).intake.table = s.intake.table ∧ (s.leaveCell w).ks = s.ks ∧
    (s.leaveCell w).events.mask = s.events.mask ∧ (s.leaveCell w).events.watches = s.events.watches ∧
    (s.leaveCell w).events.startReport = s.events.startReport ∧ (s.leaveCell w).intake.sweepTimer = s.intake.sweepTimer ∧
    (s.leaveCell w).intake.pointer = s.intake.pointer ∧ (s.leaveCell w).intake.atTake = s.intake.atTake ∧
    (s.leaveCell w).intake.answers = s.intake.answers ∧ (s.leaveCell w).events.room = s.events.room ∧
    (∀ z, (s.leaveCell w).bay z = s.bay z) ∧ (∀ z, (s.leaveCell w).slot z = s.slot z) ∧
    (∀ z, (s.leaveCell w).console z = s.console z) := by
  unfold State.leaveCell; (try dsimp only); (repeat' split) <;> simp [State.bay, State.slot, State.console]

@[simp] theorem visitCell_frame (s : State) (a : Area) (w : Sweep) (c : List Byte) :
    (s.visitCell a w c).pending = s.pending ∧ (s.visitCell a w c).engine = s.engine ∧
    (s.visitCell a w c).clock = s.clock ∧ (s.visitCell a w c).cipher = s.cipher ∧ (s.visitCell a w c).bays = s.bays ∧
    (s.visitCell a w c).prof = s.prof ∧ (s.visitCell a w c).ceu = s.ceu ∧
    (s.visitCell a w c).writer.queue = s.writer.queue ∧ (s.visitCell a w c).writer.rollCount = s.writer.rollCount ∧
    (s.visitCell a w c).intake.area = s.intake.area ∧ (s.visitCell a w c).intake.areaLo = s.intake.areaLo ∧
    (s.visitCell a w c).intake.areaHi = s.intake.areaHi ∧ (s.visitCell a w c).ks = s.ks ∧
    (s.visitCell a w c).events.mask = s.events.mask ∧ (s.visitCell a w c).events.watches = s.events.watches ∧
    (s.visitCell a w c).events.startReport = s.events.startReport ∧
    (s.visitCell a w c).intake.sweepTimer = s.intake.sweepTimer ∧ (s.visitCell a w c).intake.answers = s.intake.answers ∧
    (s.visitCell a w c).events.room = s.events.room ∧ (s.visitCell a w c).writer.line = s.writer.line ∧
    (s.visitCell a w c).writer.roll = s.writer.roll ∧ (∀ z, (s.visitCell a w c).bay z = s.bay z) ∧
    (∀ z, (s.visitCell a w c).slot z = s.slot z) ∧ (∀ z, (s.visitCell a w c).console z = s.console z) := by
  unfold State.visitCell; (try dsimp only); (repeat' split) <;> simp [State.bay, State.slot, State.console]

@[simp] theorem beginDrain_frame (s : State) (e : Entry) (i : SlotId) :
    (s.beginDrain e i).pending = s.pending ∧ (s.beginDrain e i).engine = s.engine ∧ (s.beginDrain e i).clock = s.clock ∧
    (s.beginDrain e i).cipher = s.cipher ∧ (s.beginDrain e i).bays = s.bays ∧ (s.beginDrain e i).prof = s.prof ∧
    (s.beginDrain e i).ceu = s.ceu ∧ (s.beginDrain e i).writer.queue = s.writer.queue ∧
    (s.beginDrain e i).writer.rollCount = s.writer.rollCount ∧ (s.beginDrain e i).intake.area = s.intake.area ∧
    (s.beginDrain e i).intake.areaLo = s.intake.areaLo ∧ (s.beginDrain e i).intake.areaHi = s.intake.areaHi ∧
    (s.beginDrain e i).ks.latch = s.ks.latch ∧ (s.beginDrain e i).ks.overwrite = s.ks.overwrite ∧
    (s.beginDrain e i).events.mask = s.events.mask ∧ (s.beginDrain e i).events.watches = s.events.watches ∧
    (s.beginDrain e i).events.startReport = s.events.startReport ∧ (s.beginDrain e i).ks.closure = s.ks.closure ∧
    (s.beginDrain e i).ks.grant = s.ks.grant ∧ (s.beginDrain e i).ks.requests = s.ks.requests ∧
    (s.beginDrain e i).ks.deferred = s.ks.deferred ∧ (s.beginDrain e i).intake.sweepTimer = s.intake.sweepTimer ∧
    (s.beginDrain e i).intake.pointer = s.intake.pointer ∧ (s.beginDrain e i).intake.atTake = s.intake.atTake ∧
    (s.beginDrain e i).events.room = s.events.room ∧ (s.beginDrain e i).writer.line = s.writer.line ∧
    (s.beginDrain e i).writer.roll = s.writer.roll ∧ (∀ z, (s.beginDrain e i).bay z = s.bay z) ∧
    (∀ z, (s.beginDrain e i).console z = s.console z) := by
  unfold State.beginDrain; (try dsimp only); (repeat' split) <;> simp [State.bay, State.slot, State.console]

@[simp] theorem requestApproval_frame (s : State) (e : Entry) (i : SlotId) (n : Nat) :
    (s.requestApproval e i n).pending = s.pending ∧ (s.requestApproval e i n).engine = s.engine ∧
    (s.requestApproval e i n).clock = s.clock ∧ (s.requestApproval e i n).cipher = s.cipher ∧
    (s.requestApproval e i n).bays = s.bays ∧ (s.requestApproval e i n).prof = s.prof ∧
    (s.requestApproval e i n).writer.queue = s.writer.queue ∧
    (s.requestApproval e i n).writer.rollCount = s.writer.rollCount ∧
    (s.requestApproval e i n).intake.area = s.intake.area ∧ (s.requestApproval e i n).intake.areaLo = s.intake.areaLo ∧
    (s.requestApproval e i n).intake.areaHi = s.intake.areaHi ∧ (s.requestApproval e i n).ks.slots = s.ks.slots ∧
    (s.requestApproval e i n).ks.latch = s.ks.latch ∧ (s.requestApproval e i n).ks.overwrite = s.ks.overwrite ∧
    (s.requestApproval e i n).events.mask = s.events.mask ∧ (s.requestApproval e i n).events.watches = s.events.watches ∧
    (s.requestApproval e i n).events.startReport = s.events.startReport ∧
    (s.requestApproval e i n).ks.closure = s.ks.closure ∧ (s.requestApproval e i n).ks.requests = s.ks.requests ∧
    (s.requestApproval e i n).ks.deferred = s.ks.deferred ∧
    (s.requestApproval e i n).intake.sweepTimer = s.intake.sweepTimer ∧
    (s.requestApproval e i n).intake.pointer = s.intake.pointer ∧
    (s.requestApproval e i n).intake.answers = s.intake.answers ∧ (s.requestApproval e i n).events.room = s.events.room ∧
    (s.requestApproval e i n).writer.line = s.writer.line ∧ (s.requestApproval e i n).writer.roll = s.writer.roll ∧
    (s.requestApproval e i n).ceu.arrivals = s.ceu.arrivals ∧ (∀ z, (s.requestApproval e i n).bay z = s.bay z) ∧
    (∀ z, (s.requestApproval e i n).slot z = s.slot z) := by
  unfold State.requestApproval; (try dsimp only); (repeat' split) <;> simp [State.bay, State.slot, State.console]

@[simp] theorem beginSettle_frame (s : State) (e : Entry) (i : SlotId) :
    (s.beginSettle e i).pending = s.pending ∧ (s.beginSettle e i).engine = s.engine ∧
    (s.beginSettle e i).clock = s.clock ∧ (s.beginSettle e i).cipher = s.cipher ∧ (s.beginSettle e i).bays = s.bays ∧
    (s.beginSettle e i).prof = s.prof ∧ (s.beginSettle e i).ceu = s.ceu ∧
    (s.beginSettle e i).writer.rollCount = s.writer.rollCount ∧ (s.beginSettle e i).intake.area = s.intake.area ∧
    (s.beginSettle e i).intake.areaLo = s.intake.areaLo ∧ (s.beginSettle e i).intake.areaHi = s.intake.areaHi ∧
    (s.beginSettle e i).ks.latch = s.ks.latch ∧ (s.beginSettle e i).ks.overwrite = s.ks.overwrite ∧
    (s.beginSettle e i).events.mask = s.events.mask ∧ (s.beginSettle e i).events.watches = s.events.watches ∧
    (s.beginSettle e i).events.startReport = s.events.startReport ∧ (s.beginSettle e i).ks.closure = s.ks.closure ∧
    (s.beginSettle e i).ks.grant = s.ks.grant ∧ (s.beginSettle e i).ks.requests = s.ks.requests ∧
    (s.beginSettle e i).ks.deferred = s.ks.deferred ∧ (s.beginSettle e i).intake.sweepTimer = s.intake.sweepTimer ∧
    (s.beginSettle e i).intake.pointer = s.intake.pointer ∧ (s.beginSettle e i).intake.atTake = s.intake.atTake ∧
    (s.beginSettle e i).events.room = s.events.room ∧ (s.beginSettle e i).writer.roll = s.writer.roll ∧
    (∀ z, (s.beginSettle e i).bay z = s.bay z) ∧ (∀ z, (s.beginSettle e i).console z = s.console z) := by
  unfold State.beginSettle; (try dsimp only); (repeat' split) <;> simp [State.bay, State.slot, State.console]

@[simp] theorem writeEnded_frame (s : State) (i : SlotId) (o : Bool) :
    (s.writeEnded i o).pending = s.pending ∧ (s.writeEnded i o).engine = s.engine ∧ (s.writeEnded i o).clock = s.clock ∧
    (s.writeEnded i o).cipher = s.cipher ∧ (s.writeEnded i o).bays = s.bays ∧ (s.writeEnded i o).prof = s.prof ∧
    (s.writeEnded i o).writer.queue = s.writer.queue ∧ (s.writeEnded i o).writer.rollCount = s.writer.rollCount ∧
    (s.writeEnded i o).intake.area = s.intake.area ∧ (s.writeEnded i o).intake.areaLo = s.intake.areaLo ∧
    (s.writeEnded i o).intake.areaHi = s.intake.areaHi ∧ (s.writeEnded i o).ks.latch = s.ks.latch ∧
    (s.writeEnded i o).ks.overwrite = s.ks.overwrite ∧ (s.writeEnded i o).events.mask = s.events.mask ∧
    (s.writeEnded i o).events.watches = s.events.watches ∧ (s.writeEnded i o).events.startReport = s.events.startReport ∧
    (s.writeEnded i o).ks.closure = s.ks.closure ∧ (s.writeEnded i o).ks.grant = s.ks.grant ∧
    (s.writeEnded i o).ks.requests = s.ks.requests ∧ (s.writeEnded i o).ks.deferred = s.ks.deferred ∧
    (s.writeEnded i o).intake.sweepTimer = s.intake.sweepTimer ∧ (s.writeEnded i o).intake.pointer = s.intake.pointer ∧
    (s.writeEnded i o).intake.atTake = s.intake.atTake ∧ (s.writeEnded i o).events.room = s.events.room ∧
    (s.writeEnded i o).writer.line = s.writer.line ∧ (s.writeEnded i o).writer.roll = s.writer.roll ∧
    (s.writeEnded i o).ceu.arrivals = s.ceu.arrivals ∧ (∀ z, (s.writeEnded i o).bay z = s.bay z) := by
  unfold State.writeEnded; (try dsimp only); (repeat' split) <;> simp [State.bay, State.slot, State.console]

@[simp] theorem openCeremony_frame (s : State) (e : Entry) (p : OpenParams) :
    (s.openCeremony e p).pending = s.pending ∧ (s.openCeremony e p).engine = s.engine ∧
    (s.openCeremony e p).clock = s.clock ∧ (s.openCeremony e p).cipher = s.cipher ∧ (s.openCeremony e p).bays = s.bays ∧
    (s.openCeremony e p).prof = s.prof ∧ (s.openCeremony e p).writer.queue = s.writer.queue ∧
    (s.openCeremony e p).writer.rollCount = s.writer.rollCount ∧ (s.openCeremony e p).intake.area = s.intake.area ∧
    (s.openCeremony e p).intake.areaLo = s.intake.areaLo ∧ (s.openCeremony e p).intake.areaHi = s.intake.areaHi ∧
    (s.openCeremony e p).ks.latch = s.ks.latch ∧ (s.openCeremony e p).ks.overwrite = s.ks.overwrite ∧
    (s.openCeremony e p).events.mask = s.events.mask ∧ (s.openCeremony e p).events.watches = s.events.watches ∧
    (s.openCeremony e p).events.startReport = s.events.startReport ∧ (s.openCeremony e p).ks.closure = s.ks.closure ∧
    (s.openCeremony e p).ks.grant = s.ks.grant ∧ (s.openCeremony e p).ks.requests = s.ks.requests ∧
    (s.openCeremony e p).ks.deferred = s.ks.deferred ∧ (s.openCeremony e p).intake.sweepTimer = s.intake.sweepTimer ∧
    (s.openCeremony e p).intake.pointer = s.intake.pointer ∧ (s.openCeremony e p).intake.answers = s.intake.answers ∧
    (s.openCeremony e p).events.room = s.events.room ∧ (s.openCeremony e p).writer.line = s.writer.line ∧
    (s.openCeremony e p).writer.roll = s.writer.roll ∧ (s.openCeremony e p).ceu.arrivals = s.ceu.arrivals ∧
    (∀ z, (s.openCeremony e p).bay z = s.bay z) := by
  unfold State.openCeremony; (try dsimp only); (repeat' split) <;> simp [State.bay, State.slot, State.console]

@[simp] theorem setWatch_frame (s : State) (n : Fin 4) (w : Watch) :
    (s.setWatch n w).pending = s.pending ∧ (s.setWatch n w).engine = s.engine ∧ (s.setWatch n w).clock = s.clock ∧
    (s.setWatch n w).cipher = s.cipher ∧ (s.setWatch n w).bays = s.bays ∧ (s.setWatch n w).prof = s.prof ∧
    (s.setWatch n w).ceu = s.ceu ∧ (s.setWatch n w).writer = s.writer ∧ (s.setWatch n w).intake = s.intake ∧
    (s.setWatch n w).ks = s.ks ∧ (s.setWatch n w).events.mask = s.events.mask ∧
    (s.setWatch n w).events.startReport = s.events.startReport ∧ (∀ z, (s.setWatch n w).bay z = s.bay z) ∧
    (∀ z, (s.setWatch n w).slot z = s.slot z) ∧ (∀ z, (s.setWatch n w).console z = s.console z) := by
  unfold State.setWatch; (try dsimp only); (repeat' split) <;> simp [State.bay, State.slot, State.console]

@[simp] theorem placeOrder_frame (s : State) (e : Entry) (b : BayId) (x : PlanSource) :
    (s.placeOrder e b x).pending = s.pending ∧ (s.placeOrder e b x).engine = s.engine ∧
    (s.placeOrder e b x).clock = s.clock ∧ (s.placeOrder e b x).cipher = s.cipher ∧ (s.placeOrder e b x).prof = s.prof ∧
    (s.placeOrder e b x).ceu = s.ceu ∧ (s.placeOrder e b x).writer.queue = s.writer.queue ∧
    (s.placeOrder e b x).writer.rollCount = s.writer.rollCount ∧ (s.placeOrder e b x).intake.area = s.intake.area ∧
    (s.placeOrder e b x).intake.areaLo = s.intake.areaLo ∧ (s.placeOrder e b x).intake.areaHi = s.intake.areaHi ∧
    (s.placeOrder e b x).ks = s.ks ∧ (s.placeOrder e b x).events.mask = s.events.mask ∧
    (s.placeOrder e b x).events.watches = s.events.watches ∧
    (s.placeOrder e b x).events.startReport = s.events.startReport ∧
    (s.placeOrder e b x).intake.sweepTimer = s.intake.sweepTimer ∧
    (s.placeOrder e b x).intake.pointer = s.intake.pointer ∧ (s.placeOrder e b x).intake.answers = s.intake.answers ∧
    (s.placeOrder e b x).events.room = s.events.room ∧ (s.placeOrder e b x).writer.line = s.writer.line ∧
    (s.placeOrder e b x).writer.roll = s.writer.roll ∧ (∀ z, (s.placeOrder e b x).slot z = s.slot z) ∧
    (∀ z, (s.placeOrder e b x).console z = s.console z) := by
  unfold State.placeOrder; (try dsimp only); (repeat' split) <;> simp [State.bay, State.slot, State.console]

@[simp] theorem haltBay_frame (s : State) (e : Entry) (b : BayId) :
    (s.haltBay e b).pending = s.pending ∧ (s.haltBay e b).engine = s.engine ∧ (s.haltBay e b).clock = s.clock ∧
    (s.haltBay e b).cipher = s.cipher ∧ (s.haltBay e b).prof = s.prof ∧ (s.haltBay e b).ceu = s.ceu ∧
    (s.haltBay e b).writer.queue = s.writer.queue ∧ (s.haltBay e b).writer.rollCount = s.writer.rollCount ∧
    (s.haltBay e b).intake.area = s.intake.area ∧ (s.haltBay e b).intake.areaLo = s.intake.areaLo ∧
    (s.haltBay e b).intake.areaHi = s.intake.areaHi ∧ (s.haltBay e b).ks.slots = s.ks.slots ∧
    (s.haltBay e b).ks.latch = s.ks.latch ∧ (s.haltBay e b).ks.overwrite = s.ks.overwrite ∧
    (s.haltBay e b).events.mask = s.events.mask ∧ (s.haltBay e b).events.watches = s.events.watches ∧
    (s.haltBay e b).events.startReport = s.events.startReport ∧ (s.haltBay e b).ks.closure = s.ks.closure ∧
    (s.haltBay e b).ks.grant = s.ks.grant ∧ (s.haltBay e b).ks.deferred = s.ks.deferred ∧
    (s.haltBay e b).intake.sweepTimer = s.intake.sweepTimer ∧ (s.haltBay e b).intake.pointer = s.intake.pointer ∧
    (s.haltBay e b).intake.atTake = s.intake.atTake ∧ (s.haltBay e b).events.room = s.events.room ∧
    (s.haltBay e b).writer.line = s.writer.line ∧ (s.haltBay e b).writer.roll = s.writer.roll ∧
    (∀ z, (s.haltBay e b).slot z = s.slot z) ∧ (∀ z, (s.haltBay e b).console z = s.console z) := by
  unfold State.haltBay; (try dsimp only); (repeat' split) <;> simp [State.bay, State.slot, State.console]

@[simp] theorem beginPersist_frame (s : State) (e : Entry) (g : Fin 4) (x : PersistSubject) :
    (s.beginPersist e g x).pending = s.pending ∧ (s.beginPersist e g x).engine = s.engine ∧
    (s.beginPersist e g x).clock = s.clock ∧ (s.beginPersist e g x).cipher = s.cipher ∧
    (s.beginPersist e g x).bays = s.bays ∧ (s.beginPersist e g x).ceu = s.ceu ∧
    (s.beginPersist e g x).writer = s.writer ∧ (s.beginPersist e g x).intake.area = s.intake.area ∧
    (s.beginPersist e g x).intake.areaLo = s.intake.areaLo ∧ (s.beginPersist e g x).intake.areaHi = s.intake.areaHi ∧
    (s.beginPersist e g x).ks = s.ks ∧ (s.beginPersist e g x).events = s.events ∧
    (s.beginPersist e g x).intake.sweepTimer = s.intake.sweepTimer ∧
    (s.beginPersist e g x).intake.pointer = s.intake.pointer ∧ (s.beginPersist e g x).intake.atTake = s.intake.atTake ∧
    (s.beginPersist e g x).intake.answers = s.intake.answers ∧ (s.beginPersist e g x).prof.profiles = s.prof.profiles ∧
    (s.beginPersist e g x).prof.map = s.prof.map ∧ (s.beginPersist e g x).prof.groups = s.prof.groups ∧
    (∀ z, (s.beginPersist e g x).bay z = s.bay z) ∧ (∀ z, (s.beginPersist e g x).slot z = s.slot z) ∧
    (∀ z, (s.beginPersist e g x).console z = s.console z) := by
  unfold State.beginPersist; (try dsimp only); (repeat' split) <;> simp [State.bay, State.slot, State.console]

@[simp] theorem advancePersist_frame (s : State) (x : Persist) :
    (s.advancePersist x).pending = s.pending ∧ (s.advancePersist x).engine = s.engine ∧
    (s.advancePersist x).clock = s.clock ∧ (s.advancePersist x).cipher = s.cipher ∧ (s.advancePersist x).bays = s.bays ∧
    (s.advancePersist x).ceu = s.ceu ∧ (s.advancePersist x).writer = s.writer ∧ (s.advancePersist x).intake = s.intake ∧
    (s.advancePersist x).ks = s.ks ∧ (s.advancePersist x).events = s.events ∧
    (s.advancePersist x).prof.profiles = s.prof.profiles ∧ (s.advancePersist x).prof.map = s.prof.map ∧
    (s.advancePersist x).prof.groups = s.prof.groups ∧ (s.advancePersist x).prof.control = s.prof.control ∧
    (s.advancePersist x).prof.load = s.prof.load ∧ (∀ z, (s.advancePersist x).bay z = s.bay z) ∧
    (∀ z, (s.advancePersist x).slot z = s.slot z) ∧ (∀ z, (s.advancePersist x).console z = s.console z) := by
  unfold State.advancePersist; (try dsimp only); (repeat' split) <;> simp [State.bay, State.slot, State.console]

@[simp] theorem finishWrite_frame (s : State) (e : Entry) (g : Fin 4) (x : PersistSubject) :
    (s.finishWrite e g x).pending = s.pending ∧ (s.finishWrite e g x).engine = s.engine ∧
    (s.finishWrite e g x).clock = s.clock ∧ (s.finishWrite e g x).cipher = s.cipher ∧
    (s.finishWrite e g x).bays = s.bays ∧ (s.finishWrite e g x).ceu = s.ceu ∧
    (s.finishWrite e g x).writer.queue = s.writer.queue ∧ (s.finishWrite e g x).writer.rollCount = s.writer.rollCount ∧
    (s.finishWrite e g x).intake.area = s.intake.area ∧ (s.finishWrite e g x).intake.areaLo = s.intake.areaLo ∧
    (s.finishWrite e g x).intake.areaHi = s.intake.areaHi ∧ (s.finishWrite e g x).ks = s.ks ∧
    (s.finishWrite e g x).events.mask = s.events.mask ∧ (s.finishWrite e g x).events.watches = s.events.watches ∧
    (s.finishWrite e g x).events.startReport = s.events.startReport ∧
    (s.finishWrite e g x).intake.sweepTimer = s.intake.sweepTimer ∧
    (s.finishWrite e g x).intake.pointer = s.intake.pointer ∧ (s.finishWrite e g x).intake.answers = s.intake.answers ∧
    (s.finishWrite e g x).events.room = s.events.room ∧ (s.finishWrite e g x).writer.line = s.writer.line ∧
    (s.finishWrite e g x).writer.roll = s.writer.roll ∧ (s.finishWrite e g x).prof.profiles = s.prof.profiles ∧
    (s.finishWrite e g x).prof.map = s.prof.map ∧ (s.finishWrite e g x).prof.groups = s.prof.groups ∧
    (∀ z, (s.finishWrite e g x).bay z = s.bay z) ∧ (∀ z, (s.finishWrite e g x).slot z = s.slot z) ∧
    (∀ z, (s.finishWrite e g x).console z = s.console z) := by
  unfold State.finishWrite; (try dsimp only); (repeat' split) <;> simp [State.bay, State.slot, State.console]

@[simp] theorem setStage_frame (s : State) (b : BayId) (n : Nat) (x : Stage) :
    (s.setStage b n x).pending = s.pending ∧ (s.setStage b n x).engine = s.engine ∧ (s.setStage b n x).clock = s.clock ∧
    (s.setStage b n x).cipher = s.cipher ∧ (s.setStage b n x).prof = s.prof ∧ (s.setStage b n x).ceu = s.ceu ∧
    (s.setStage b n x).writer = s.writer ∧ (s.setStage b n x).intake = s.intake ∧ (s.setStage b n x).ks = s.ks ∧
    (s.setStage b n x).events = s.events ∧ (∀ z, (s.setStage b n x).slot z = s.slot z) ∧
    (∀ z, (s.setStage b n x).console z = s.console z) := by
  unfold State.setStage; (try dsimp only); (repeat' split) <;> simp [State.bay, State.slot, State.console]

@[simp] theorem storeKey_frame (s : State) (b : BayId) (n : Nat) (k : Key) :
    (State.storeKey b n k s).pending = s.pending ∧ (State.storeKey b n k s).engine = s.engine ∧
    (State.storeKey b n k s).clock = s.clock ∧ (State.storeKey b n k s).cipher = s.cipher ∧
    (State.storeKey b n k s).prof = s.prof ∧ (State.storeKey b n k s).ceu = s.ceu ∧
    (State.storeKey b n k s).writer = s.writer ∧ (State.storeKey b n k s).intake = s.intake ∧
    (State.storeKey b n k s).ks = s.ks ∧ (State.storeKey b n k s).events = s.events ∧
    (∀ z, (State.storeKey b n k s).slot z = s.slot z) ∧ (∀ z, (State.storeKey b n k s).console z = s.console z) := by
  unfold State.storeKey; (try dsimp only); (repeat' split) <;> simp [State.bay, State.slot, State.console]

@[simp] theorem storeCheckValue_frame (s : State) (b : BayId) (n : Nat) (v : CheckValue) :
    (State.storeCheckValue b n v s).pending = s.pending ∧ (State.storeCheckValue b n v s).engine = s.engine ∧
    (State.storeCheckValue b n v s).clock = s.clock ∧ (State.storeCheckValue b n v s).cipher = s.cipher ∧
    (State.storeCheckValue b n v s).prof = s.prof ∧ (State.storeCheckValue b n v s).ceu = s.ceu ∧
    (State.storeCheckValue b n v s).writer = s.writer ∧ (State.storeCheckValue b n v s).intake = s.intake ∧
    (State.storeCheckValue b n v s).ks = s.ks ∧ (State.storeCheckValue b n v s).events = s.events ∧
    (∀ z, (State.storeCheckValue b n v s).slot z = s.slot z) ∧
    (∀ z, (State.storeCheckValue b n v s).console z = s.console z) := by
  unfold State.storeCheckValue; (try dsimp only); (repeat' split) <;> simp [State.bay, State.slot, State.console]

@[simp] theorem storeBlock_frame (s : State) (b : BayId) (n : Nat) (v : BitVec 256) :
    (State.storeBlock b n v s).pending = s.pending ∧ (State.storeBlock b n v s).engine = s.engine ∧
    (State.storeBlock b n v s).clock = s.clock ∧ (State.storeBlock b n v s).cipher = s.cipher ∧
    (State.storeBlock b n v s).prof = s.prof ∧ (State.storeBlock b n v s).ceu = s.ceu ∧
    (State.storeBlock b n v s).writer = s.writer ∧ (State.storeBlock b n v s).intake = s.intake ∧
    (State.storeBlock b n v s).ks = s.ks ∧ (State.storeBlock b n v s).events = s.events ∧
    (∀ z, (State.storeBlock b n v s).slot z = s.slot z) ∧ (∀ z, (State.storeBlock b n v s).console z = s.console z) := by
  unfold State.storeBlock; (try dsimp only); (repeat' split) <;> simp [State.bay, State.slot, State.console]

@[simp] theorem takeComponent_frame (s : State) (c : ConsoleId) (q : Byte) (v : Key) (w : CheckValue) :
    (s.takeComponent c q v w).pending = s.pending ∧ (s.takeComponent c q v w).engine = s.engine ∧
    (s.takeComponent c q v w).clock = s.clock ∧ (s.takeComponent c q v w).prof = s.prof ∧
    (s.takeComponent c q v w).ceu.record = s.ceu.record ∧
    (s.takeComponent c q v w).writer.rollCount = s.writer.rollCount ∧
    (s.takeComponent c q v w).intake.area = s.intake.area ∧ (s.takeComponent c q v w).intake.areaLo = s.intake.areaLo ∧
    (s.takeComponent c q v w).intake.areaHi = s.intake.areaHi ∧ (s.takeComponent c q v w).ks.slots = s.ks.slots ∧
    (s.takeComponent c q v w).ks.latch = s.ks.latch ∧ (s.takeComponent c q v w).ks.overwrite = s.ks.overwrite ∧
    (s.takeComponent c q v w).events.mask = s.events.mask ∧ (s.takeComponent c q v w).events.watches = s.events.watches ∧
    (s.takeComponent c q v w).events.startReport = s.events.startReport ∧
    (s.takeComponent c q v w).ks.closure = s.ks.closure ∧ (s.takeComponent c q v w).ks.grant = s.ks.grant ∧
    (s.takeComponent c q v w).ks.deferred = s.ks.deferred ∧
    (s.takeComponent c q v w).intake.sweepTimer = s.intake.sweepTimer ∧
    (s.takeComponent c q v w).intake.pointer = s.intake.pointer ∧
    (s.takeComponent c q v w).intake.atTake = s.intake.atTake ∧ (s.takeComponent c q v w).events.room = s.events.room ∧
    (s.takeComponent c q v w).writer.roll = s.writer.roll ∧ (∀ z, (s.takeComponent c q v w).slot z = s.slot z) := by
  unfold State.takeComponent; (try dsimp only); (repeat' split) <;> simp [State.bay, State.slot, State.console]

@[simp] theorem takeVote_frame (s : State) (c : ConsoleId) (q : Byte) (o : ApprovalOutcome) :
    (s.takeVote c q o).pending = s.pending ∧ (s.takeVote c q o).engine = s.engine ∧ (s.takeVote c q o).clock = s.clock ∧
    (s.takeVote c q o).cipher = s.cipher ∧ (s.takeVote c q o).bays = s.bays ∧ (s.takeVote c q o).prof = s.prof ∧
    (s.takeVote c q o).writer.queue = s.writer.queue ∧ (s.takeVote c q o).writer.rollCount = s.writer.rollCount ∧
    (s.takeVote c q o).intake.area = s.intake.area ∧ (s.takeVote c q o).intake.areaLo = s.intake.areaLo ∧
    (s.takeVote c q o).intake.areaHi = s.intake.areaHi ∧ (s.takeVote c q o).ks.latch = s.ks.latch ∧
    (s.takeVote c q o).ks.overwrite = s.ks.overwrite ∧ (s.takeVote c q o).events.mask = s.events.mask ∧
    (s.takeVote c q o).events.watches = s.events.watches ∧ (s.takeVote c q o).events.startReport = s.events.startReport ∧
    (s.takeVote c q o).ks.closure = s.ks.closure ∧ (s.takeVote c q o).ks.requests = s.ks.requests ∧
    (s.takeVote c q o).ks.deferred = s.ks.deferred ∧ (s.takeVote c q o).intake.sweepTimer = s.intake.sweepTimer ∧
    (s.takeVote c q o).intake.pointer = s.intake.pointer ∧ (s.takeVote c q o).intake.atTake = s.intake.atTake ∧
    (s.takeVote c q o).events.room = s.events.room ∧ (s.takeVote c q o).writer.line = s.writer.line ∧
    (s.takeVote c q o).writer.roll = s.writer.roll ∧ (s.takeVote c q o).ceu.arrivals = s.ceu.arrivals ∧
    (∀ z, (s.takeVote c q o).bay z = s.bay z) := by
  unfold State.takeVote; (try dsimp only); (repeat' split) <;> simp [State.bay, State.slot, State.console]

@[simp] theorem takeConsoleFrame_frame (s : State) (c : ConsoleId) (f : ConsoleFrame) :
    (s.takeConsoleFrame c f).pending = s.pending ∧ (s.takeConsoleFrame c f).engine = s.engine ∧
    (s.takeConsoleFrame c f).clock = s.clock ∧ (s.takeConsoleFrame c f).prof = s.prof ∧
    (s.takeConsoleFrame c f).writer.rollCount = s.writer.rollCount ∧
    (s.takeConsoleFrame c f).intake.area = s.intake.area ∧ (s.takeConsoleFrame c f).intake.areaLo = s.intake.areaLo ∧
    (s.takeConsoleFrame c f).intake.areaHi = s.intake.areaHi ∧ (s.takeConsoleFrame c f).ks.latch = s.ks.latch ∧
    (s.takeConsoleFrame c f).ks.overwrite = s.ks.overwrite ∧ (s.takeConsoleFrame c f).events.mask = s.events.mask ∧
    (s.takeConsoleFrame c f).events.watches = s.events.watches ∧
    (s.takeConsoleFrame c f).events.startReport = s.events.startReport ∧
    (s.takeConsoleFrame c f).ks.closure = s.ks.closure ∧ (s.takeConsoleFrame c f).ks.deferred = s.ks.deferred ∧
    (s.takeConsoleFrame c f).intake.sweepTimer = s.intake.sweepTimer ∧
    (s.takeConsoleFrame c f).intake.pointer = s.intake.pointer ∧
    (s.takeConsoleFrame c f).intake.atTake = s.intake.atTake ∧ (s.takeConsoleFrame c f).events.room = s.events.room ∧
    (s.takeConsoleFrame c f).writer.roll = s.writer.roll := by
  unfold State.takeConsoleFrame; (try dsimp only); (repeat' split) <;> simp [State.bay, State.slot, State.console]

@[simp] theorem receiveConsole_frame (s : State) (c : ConsoleId) (f : ConsoleFrame) :
    (s.receiveConsole c f).pending = s.pending ∧ (s.receiveConsole c f).engine = s.engine ∧
    (s.receiveConsole c f).clock = s.clock ∧ (s.receiveConsole c f).prof = s.prof ∧
    (s.receiveConsole c f).writer.rollCount = s.writer.rollCount ∧ (s.receiveConsole c f).intake.area = s.intake.area ∧
    (s.receiveConsole c f).intake.areaLo = s.intake.areaLo ∧ (s.receiveConsole c f).intake.areaHi = s.intake.areaHi ∧
    (s.receiveConsole c f).ks.latch = s.ks.latch ∧ (s.receiveConsole c f).ks.overwrite = s.ks.overwrite ∧
    (s.receiveConsole c f).events.mask = s.events.mask ∧ (s.receiveConsole c f).events.watches = s.events.watches ∧
    (s.receiveConsole c f).events.startReport = s.events.startReport ∧ (s.receiveConsole c f).ks.closure = s.ks.closure ∧
    (s.receiveConsole c f).ks.deferred = s.ks.deferred ∧ (s.receiveConsole c f).intake.sweepTimer = s.intake.sweepTimer ∧
    (s.receiveConsole c f).intake.pointer = s.intake.pointer ∧ (s.receiveConsole c f).intake.atTake = s.intake.atTake ∧
    (s.receiveConsole c f).events.room = s.events.room ∧ (s.receiveConsole c f).writer.roll = s.writer.roll := by
  unfold State.receiveConsole; (try dsimp only); (repeat' split) <;> simp [State.bay, State.slot, State.console]

@[simp] theorem consoleByte_frame (s : State) (c : ConsoleId) (x : Byte) :
    (State.consoleByte c s x).pending = s.pending ∧ (State.consoleByte c s x).engine = s.engine ∧
    (State.consoleByte c s x).clock = s.clock ∧ (State.consoleByte c s x).prof = s.prof ∧
    (State.consoleByte c s x).writer.rollCount = s.writer.rollCount ∧
    (State.consoleByte c s x).intake.area = s.intake.area ∧ (State.consoleByte c s x).intake.areaLo = s.intake.areaLo ∧
    (State.consoleByte c s x).intake.areaHi = s.intake.areaHi ∧ (State.consoleByte c s x).ks.latch = s.ks.latch ∧
    (State.consoleByte c s x).ks.overwrite = s.ks.overwrite ∧ (State.consoleByte c s x).events.mask = s.events.mask ∧
    (State.consoleByte c s x).events.watches = s.events.watches ∧
    (State.consoleByte c s x).events.startReport = s.events.startReport ∧
    (State.consoleByte c s x).ks.closure = s.ks.closure ∧ (State.consoleByte c s x).ks.deferred = s.ks.deferred ∧
    (State.consoleByte c s x).intake.sweepTimer = s.intake.sweepTimer ∧
    (State.consoleByte c s x).intake.pointer = s.intake.pointer ∧
    (State.consoleByte c s x).intake.atTake = s.intake.atTake ∧ (State.consoleByte c s x).events.room = s.events.room ∧
    (State.consoleByte c s x).writer.roll = s.writer.roll := by
  unfold State.consoleByte; (try dsimp only); (repeat' split) <;> simp [State.bay, State.slot, State.console]

@[simp] theorem receiveTerminal_frame (s : State) (b : BayId) (f : TerminalFrame) :
    (s.receiveTerminal b f).pending = s.pending ∧ (s.receiveTerminal b f).engine = s.engine ∧
    (s.receiveTerminal b f).clock = s.clock ∧ (s.receiveTerminal b f).prof = s.prof ∧
    (s.receiveTerminal b f).ceu = s.ceu ∧ (s.receiveTerminal b f).writer.rollCount = s.writer.rollCount ∧
    (s.receiveTerminal b f).intake.area = s.intake.area ∧ (s.receiveTerminal b f).intake.areaLo = s.intake.areaLo ∧
    (s.receiveTerminal b f).intake.areaHi = s.intake.areaHi ∧ (s.receiveTerminal b f).ks.slots = s.ks.slots ∧
    (s.receiveTerminal b f).ks.latch = s.ks.latch ∧ (s.receiveTerminal b f).ks.overwrite = s.ks.overwrite ∧
    (s.receiveTerminal b f).events.mask = s.events.mask ∧ (s.receiveTerminal b f).events.watches = s.events.watches ∧
    (s.receiveTerminal b f).events.startReport = s.events.startReport ∧
    (s.receiveTerminal b f).ks.closure = s.ks.closure ∧ (s.receiveTerminal b f).ks.grant = s.ks.grant ∧
    (s.receiveTerminal b f).ks.deferred = s.ks.deferred ∧
    (s.receiveTerminal b f).intake.sweepTimer = s.intake.sweepTimer ∧
    (s.receiveTerminal b f).intake.pointer = s.intake.pointer ∧ (s.receiveTerminal b f).intake.atTake = s.intake.atTake ∧
    (s.receiveTerminal b f).events.room = s.events.room ∧ (s.receiveTerminal b f).writer.roll = s.writer.roll ∧
    (∀ z, (s.receiveTerminal b f).slot z = s.slot z) ∧ (∀ z, (s.receiveTerminal b f).console z = s.console z) := by
  unfold State.receiveTerminal; (try dsimp only); (repeat' split) <;> simp [State.bay, State.slot, State.console]

@[simp] theorem bayByte_frame (s : State) (b : BayId) (x : Byte) :
    (State.bayByte b s x).pending = s.pending ∧ (State.bayByte b s x).engine = s.engine ∧
    (State.bayByte b s x).clock = s.clock ∧ (State.bayByte b s x).prof = s.prof ∧ (State.bayByte b s x).ceu = s.ceu ∧
    (State.bayByte b s x).writer.rollCount = s.writer.rollCount ∧ (State.bayByte b s x).intake.area = s.intake.area ∧
    (State.bayByte b s x).intake.areaLo = s.intake.areaLo ∧ (State.bayByte b s x).intake.areaHi = s.intake.areaHi ∧
    (State.bayByte b s x).ks.slots = s.ks.slots ∧ (State.bayByte b s x).ks.latch = s.ks.latch ∧
    (State.bayByte b s x).ks.overwrite = s.ks.overwrite ∧ (State.bayByte b s x).events.mask = s.events.mask ∧
    (State.bayByte b s x).events.watches = s.events.watches ∧
    (State.bayByte b s x).events.startReport = s.events.startReport ∧ (State.bayByte b s x).ks.closure = s.ks.closure ∧
    (State.bayByte b s x).ks.grant = s.ks.grant ∧ (State.bayByte b s x).ks.deferred = s.ks.deferred ∧
    (State.bayByte b s x).intake.sweepTimer = s.intake.sweepTimer ∧
    (State.bayByte b s x).intake.pointer = s.intake.pointer ∧ (State.bayByte b s x).intake.atTake = s.intake.atTake ∧
    (State.bayByte b s x).events.room = s.events.room ∧ (State.bayByte b s x).writer.roll = s.writer.roll ∧
    (∀ z, (State.bayByte b s x).slot z = s.slot z) ∧ (∀ z, (State.bayByte b s x).console z = s.console z) := by
  unfold State.bayByte; (try dsimp only); (repeat' split) <;> simp [State.bay, State.slot, State.console]

@[simp] theorem bayGap_frame (s : State) (b : BayId) :
    (s.bayGap b).pending = s.pending ∧ (s.bayGap b).engine = s.engine ∧ (s.bayGap b).clock = s.clock ∧
    (s.bayGap b).cipher = s.cipher ∧ (s.bayGap b).prof = s.prof ∧ (s.bayGap b).ceu = s.ceu ∧
    (s.bayGap b).writer = s.writer ∧ (s.bayGap b).intake = s.intake ∧ (s.bayGap b).ks = s.ks ∧
    (s.bayGap b).events = s.events ∧ (∀ z, (s.bayGap b).slot z = s.slot z) ∧
    (∀ z, (s.bayGap b).console z = s.console z) := by
  unfold State.bayGap; (try dsimp only); (repeat' split) <;> simp [State.bay, State.slot, State.console]

@[simp] theorem armReply_frame (s : State) (b : BayId) (q : Byte) :
    (s.armReply b q).pending = s.pending ∧ (s.armReply b q).engine = s.engine ∧ (s.armReply b q).clock = s.clock ∧
    (s.armReply b q).cipher = s.cipher ∧ (s.armReply b q).prof = s.prof ∧ (s.armReply b q).ceu = s.ceu ∧
    (s.armReply b q).writer = s.writer ∧ (s.armReply b q).intake = s.intake ∧ (s.armReply b q).ks = s.ks ∧
    (s.armReply b q).events = s.events ∧ (∀ z, (s.armReply b q).slot z = s.slot z) ∧
    (∀ z, (s.armReply b q).console z = s.console z) := by
  unfold State.armReply; (try dsimp only); (repeat' split) <;> simp [State.bay, State.slot, State.console]

@[simp] theorem replyExpired_frame (s : State) (b : BayId) (e : Exchange) :
    (s.replyExpired b e).pending = s.pending ∧ (s.replyExpired b e).engine = s.engine ∧
    (s.replyExpired b e).clock = s.clock ∧ (s.replyExpired b e).cipher = s.cipher ∧ (s.replyExpired b e).prof = s.prof ∧
    (s.replyExpired b e).ceu = s.ceu ∧ (s.replyExpired b e).writer.rollCount = s.writer.rollCount ∧
    (s.replyExpired b e).intake.area = s.intake.area ∧ (s.replyExpired b e).intake.areaLo = s.intake.areaLo ∧
    (s.replyExpired b e).intake.areaHi = s.intake.areaHi ∧ (s.replyExpired b e).ks.slots = s.ks.slots ∧
    (s.replyExpired b e).ks.latch = s.ks.latch ∧ (s.replyExpired b e).ks.overwrite = s.ks.overwrite ∧
    (s.replyExpired b e).events.mask = s.events.mask ∧ (s.replyExpired b e).events.watches = s.events.watches ∧
    (s.replyExpired b e).events.startReport = s.events.startReport ∧ (s.replyExpired b e).ks.closure = s.ks.closure ∧
    (s.replyExpired b e).ks.grant = s.ks.grant ∧ (s.replyExpired b e).ks.deferred = s.ks.deferred ∧
    (s.replyExpired b e).intake.sweepTimer = s.intake.sweepTimer ∧
    (s.replyExpired b e).intake.pointer = s.intake.pointer ∧ (s.replyExpired b e).intake.atTake = s.intake.atTake ∧
    (s.replyExpired b e).events.room = s.events.room ∧ (s.replyExpired b e).writer.roll = s.writer.roll ∧
    (∀ z, (s.replyExpired b e).slot z = s.slot z) ∧ (∀ z, (s.replyExpired b e).console z = s.console z) := by
  unfold State.replyExpired; (try dsimp only); (repeat' split) <;> simp [State.bay, State.slot, State.console]

@[simp] theorem presenceInput_frame (s : State) (b : BayId) (l : Bool) :
    (s.presenceInput b l).pending = s.pending ∧ (s.presenceInput b l).engine = s.engine ∧
    (s.presenceInput b l).clock = s.clock ∧ (s.presenceInput b l).cipher = s.cipher ∧
    (s.presenceInput b l).prof = s.prof ∧ (s.presenceInput b l).ceu = s.ceu ∧ (s.presenceInput b l).writer = s.writer ∧
    (s.presenceInput b l).intake = s.intake ∧ (s.presenceInput b l).ks = s.ks ∧ (s.presenceInput b l).events = s.events ∧
    (∀ z, (s.presenceInput b l).slot z = s.slot z) ∧ (∀ z, (s.presenceInput b l).console z = s.console z) := by
  unfold State.presenceInput; (try dsimp only); (repeat' split) <;> simp [State.bay, State.slot, State.console]

@[simp] theorem recogniseRise_frame (s : State) (b : BayId) :
    (s.recogniseRise b).pending = s.pending ∧ (s.recogniseRise b).engine = s.engine ∧
    (s.recogniseRise b).clock = s.clock ∧ (s.recogniseRise b).cipher = s.cipher ∧ (s.recogniseRise b).prof = s.prof ∧
    (s.recogniseRise b).ceu = s.ceu ∧ (s.recogniseRise b).writer = s.writer ∧ (s.recogniseRise b).intake = s.intake ∧
    (s.recogniseRise b).ks = s.ks ∧ (s.recogniseRise b).events.mask = s.events.mask ∧
    (s.recogniseRise b).events.watches = s.events.watches ∧
    (s.recogniseRise b).events.startReport = s.events.startReport ∧ (s.recogniseRise b).events.room = s.events.room ∧
    (∀ z, (s.recogniseRise b).slot z = s.slot z) ∧ (∀ z, (s.recogniseRise b).console z = s.console z) := by
  unfold State.recogniseRise; (try dsimp only); (repeat' split) <;> simp [State.bay, State.slot, State.console]

@[simp] theorem recogniseDrop_frame (s : State) (b : BayId) :
    (s.recogniseDrop b).pending = s.pending ∧ (s.recogniseDrop b).engine = s.engine ∧
    (s.recogniseDrop b).clock = s.clock ∧ (s.recogniseDrop b).cipher = s.cipher ∧ (s.recogniseDrop b).prof = s.prof ∧
    (s.recogniseDrop b).ceu = s.ceu ∧ (s.recogniseDrop b).writer.rollCount = s.writer.rollCount ∧
    (s.recogniseDrop b).intake.area = s.intake.area ∧ (s.recogniseDrop b).intake.areaLo = s.intake.areaLo ∧
    (s.recogniseDrop b).intake.areaHi = s.intake.areaHi ∧ (s.recogniseDrop b).ks.slots = s.ks.slots ∧
    (s.recogniseDrop b).ks.latch = s.ks.latch ∧ (s.recogniseDrop b).ks.overwrite = s.ks.overwrite ∧
    (s.recogniseDrop b).events.mask = s.events.mask ∧ (s.recogniseDrop b).events.watches = s.events.watches ∧
    (s.recogniseDrop b).events.startReport = s.events.startReport ∧ (s.recogniseDrop b).ks.closure = s.ks.closure ∧
    (s.recogniseDrop b).ks.grant = s.ks.grant ∧ (s.recogniseDrop b).ks.deferred = s.ks.deferred ∧
    (s.recogniseDrop b).intake.sweepTimer = s.intake.sweepTimer ∧ (s.recogniseDrop b).intake.pointer = s.intake.pointer ∧
    (s.recogniseDrop b).intake.atTake = s.intake.atTake ∧ (s.recogniseDrop b).events.room = s.events.room ∧
    (s.recogniseDrop b).writer.roll = s.writer.roll ∧ (∀ z, (s.recogniseDrop b).slot z = s.slot z) ∧
    (∀ z, (s.recogniseDrop b).console z = s.console z) := by
  unfold State.recogniseDrop; (try dsimp only); (repeat' split) <;> simp [State.bay, State.slot, State.console]

@[simp] theorem writeReceipt_frame (s : State) (a : Area) (x : Roll) (r : Receipt) (l : List Receipt) :
    (s.writeReceipt a x r l).pending = s.pending ∧ (s.writeReceipt a x r l).engine = s.engine ∧
    (s.writeReceipt a x r l).clock = s.clock ∧ (s.writeReceipt a x r l).cipher = s.cipher ∧
    (s.writeReceipt a x r l).prof = s.prof ∧ (s.writeReceipt a x r l).ceu = s.ceu ∧
    (s.writeReceipt a x r l).writer.rollCount = s.writer.rollCount ∧
    (s.writeReceipt a x r l).intake.area = s.intake.area ∧ (s.writeReceipt a x r l).intake.areaLo = s.intake.areaLo ∧
    (s.writeReceipt a x r l).intake.areaHi = s.intake.areaHi ∧ (s.writeReceipt a x r l).ks.latch = s.ks.latch ∧
    (s.writeReceipt a x r l).ks.overwrite = s.ks.overwrite ∧ (s.writeReceipt a x r l).events.mask = s.events.mask ∧
    (s.writeReceipt a x r l).events.watches = s.events.watches ∧
    (s.writeReceipt a x r l).events.startReport = s.events.startReport ∧ (s.writeReceipt a x r l).ks.grant = s.ks.grant ∧
    (s.writeReceipt a x r l).ks.deferred = s.ks.deferred ∧
    (s.writeReceipt a x r l).intake.sweepTimer = s.intake.sweepTimer ∧
    (s.writeReceipt a x r l).intake.pointer = s.intake.pointer ∧
    (s.writeReceipt a x r l).intake.atTake = s.intake.atTake ∧ (∀ z, (s.writeReceipt a x r l).console z = s.console z) := by
  unfold State.writeReceipt; (try dsimp only); (repeat' split) <;> simp [State.bay, State.slot, State.console]

@[simp] theorem takeRoll_frame (s : State) (a : Area) (x : BitVec 64) (c : BitVec 32) :
    (s.takeRoll a x c).pending = s.pending ∧ (s.takeRoll a x c).engine = s.engine ∧ (s.takeRoll a x c).clock = s.clock ∧
    (s.takeRoll a x c).cipher = s.cipher ∧ (s.takeRoll a x c).bays = s.bays ∧ (s.takeRoll a x c).prof = s.prof ∧
    (s.takeRoll a x c).ceu = s.ceu ∧ (s.takeRoll a x c).writer.queue = s.writer.queue ∧
    (s.takeRoll a x c).intake = s.intake ∧ (s.takeRoll a x c).ks = s.ks ∧
    (s.takeRoll a x c).events.mask = s.events.mask ∧ (s.takeRoll a x c).events.watches = s.events.watches ∧
    (s.takeRoll a x c).events.startReport = s.events.startReport ∧ (s.takeRoll a x c).writer.line = s.writer.line ∧
    (∀ z, (s.takeRoll a x c).bay z = s.bay z) ∧ (∀ z, (s.takeRoll a x c).slot z = s.slot z) ∧
    (∀ z, (s.takeRoll a x c).console z = s.console z) := by
  unfold State.takeRoll; (try dsimp only); (repeat' split) <;> simp [State.bay, State.slot, State.console]

@[simp] theorem noRoll_frame (s : State) (ready : BitVec 32) :
    (s.noRoll ready).pending = s.pending ∧ (s.noRoll ready).engine = s.engine ∧ (s.noRoll ready).clock = s.clock ∧
    (s.noRoll ready).cipher = s.cipher ∧ (s.noRoll ready).bays = s.bays ∧ (s.noRoll ready).prof = s.prof ∧
    (s.noRoll ready).ceu = s.ceu ∧ (s.noRoll ready).writer.queue = s.writer.queue ∧
    (s.noRoll ready).writer.rollCount = s.writer.rollCount ∧ (s.noRoll ready).intake = s.intake ∧
    (s.noRoll ready).ks = s.ks ∧ (s.noRoll ready).events.mask = s.events.mask ∧
    (s.noRoll ready).events.watches = s.events.watches ∧ (s.noRoll ready).events.startReport = s.events.startReport ∧
    (s.noRoll ready).events.room = s.events.room ∧ (s.noRoll ready).writer.line = s.writer.line ∧
    (s.noRoll ready).writer.roll = s.writer.roll ∧ (∀ z, (s.noRoll ready).bay z = s.bay z) ∧
    (∀ z, (s.noRoll ready).slot z = s.slot z) ∧ (∀ z, (s.noRoll ready).console z = s.console z) := by
  unfold State.noRoll; (try dsimp only); (repeat' split) <;> simp [State.bay, State.slot, State.console]

@[simp] theorem declineRoll_frame (s : State) (a : Area) :
    (s.declineRoll a).pending = s.pending ∧ (s.declineRoll a).engine = s.engine ∧ (s.declineRoll a).clock = s.clock ∧
    (s.declineRoll a).cipher = s.cipher ∧ (s.declineRoll a).bays = s.bays ∧ (s.declineRoll a).prof = s.prof ∧
    (s.declineRoll a).ceu = s.ceu ∧ (s.declineRoll a).writer.queue = s.writer.queue ∧
    (s.declineRoll a).writer.rollCount = s.writer.rollCount ∧ (s.declineRoll a).intake = s.intake ∧
    (s.declineRoll a).ks = s.ks ∧ (s.declineRoll a).events.mask = s.events.mask ∧
    (s.declineRoll a).events.watches = s.events.watches ∧ (s.declineRoll a).events.startReport = s.events.startReport ∧
    (s.declineRoll a).events.room = s.events.room ∧ (s.declineRoll a).writer.line = s.writer.line ∧
    (s.declineRoll a).writer.roll = s.writer.roll ∧ (∀ z, (s.declineRoll a).bay z = s.bay z) ∧
    (∀ z, (s.declineRoll a).slot z = s.slot z) ∧ (∀ z, (s.declineRoll a).console z = s.console z) := by
  unfold State.declineRoll; (try dsimp only); (repeat' split) <;> simp [State.bay, State.slot, State.console]

end Sys2Proof.Machine
end

