-- ==== Sys2Proof/Laws/Run.lean ====
section
/-!
SUPPORT. Laws/Run.lean: what surrounds every command: the end of a sweep, the end of STOPPING, and the command without power.
-/

namespace Sys2Proof.Machine


@[simp] theorem quiet_frame (s : State) :
    s.quiet.pending = s.pending ∧ s.quiet.engine = s.engine ∧ s.quiet.clock = s.clock ∧ s.quiet.intake = s.intake ∧
    s.quiet.events = s.events ∧ s.quiet.ks = s.ks ∧ s.quiet.ceu = s.ceu ∧ s.quiet.cipher = s.cipher ∧
    s.quiet.bays = s.bays ∧ s.quiet.writer = s.writer ∧ s.quiet.prof = s.prof ∧ s.quiet.out = [] := by
  simp [State.quiet]

@[simp] theorem quiet_slot (s : State) (i : SlotId) : s.quiet.slot i = s.slot i := rfl
@[simp] theorem quiet_bay (s : State) (b : BayId) : s.quiet.bay b = s.bay b := rfl
@[simp] theorem quiet_session (s : State) (b : BayId) : s.quiet.session b = s.session b := rfl
@[simp] theorem quiet_console (s : State) (c : ConsoleId) : s.quiet.console c = s.console c := rfl

theorem run_off (s : State) (f : State → State) (h : s.engine = .off) : s.run f = s.quiet := by
  simp [State.run, h, State.quiet]

theorem run_on (s : State) (f : State → State) (h : s.engine ≠ .off) : s.run f = (f s.quiet).closeSweep.settleEngine := by
  simp [State.run, h, State.quiet]

/-- A command with power leaves these parts as its own effect leaves them. -/
theorem run_frame (s : State) (f : State → State) (h : s.engine ≠ .off) :
    (s.run f).pending = (f s.quiet).pending ∧ (s.run f).clock = (f s.quiet).clock ∧ (s.run f).ks = (f s.quiet).ks ∧
    (s.run f).ceu = (f s.quiet).ceu ∧ (s.run f).cipher = (f s.quiet).cipher ∧ (s.run f).bays = (f s.quiet).bays ∧
    (s.run f).prof = (f s.quiet).prof ∧ (s.run f).intake.areaLo = (f s.quiet).intake.areaLo ∧
    (s.run f).intake.areaHi = (f s.quiet).intake.areaHi ∧ (s.run f).intake.table = (f s.quiet).intake.table ∧
    (s.run f).intake.answers = (f s.quiet).intake.answers ∧ (s.run f).intake.atTake = (f s.quiet).intake.atTake ∧
    (s.run f).intake.pointer = (f s.quiet).intake.pointer ∧ (s.run f).events.mask = (f s.quiet).events.mask ∧
    (s.run f).events.watches = (f s.quiet).events.watches ∧ (s.run f).writer.queue = (f s.quiet).writer.queue ∧
    (s.run f).writer.line = (f s.quiet).writer.line ∧ (s.run f).writer.rollCount = (f s.quiet).writer.rollCount := by
  simp [run_on s f h]

theorem closeSweep_settled (s : State) (h : ∀ w, s.intake.sweep = some w → w.left = 0 → s.visitDone = false) :
    s.closeSweep = s := by
  unfold State.closeSweep
  split
  · rename_i w hw
    simp [h _ hw rfl]
  · rfl

theorem settleEngine_settled (s : State) (h : s.stopComplete = false) : s.settleEngine = s := by
  simp [State.settleEngine, h]

/-- A command that leaves nothing to do at once is its own effect. -/
theorem run_settled (s : State) (f : State → State) (h : s.engine ≠ .off) (k : (f s.quiet).settled) :
    s.run f = f s.quiet := by
  rw [run_on s f h, closeSweep_settled _ k.1, settleEngine_settled _ k.2]

/-- An order at hand or an answer still to be written leaves nothing to do at once. -/
theorem settled_of_waiting (s : State) (h : s.visitDone = false) (k : s.intake.table ≠ []) : s.settled := by
  refine ⟨fun _ _ _ => h, ?_⟩
  unfold State.stopComplete
  cases hk : s.intake.table with
  | nil => exact absurd hk k
  | cons _ _ => simp

/-- Outside STOPPING nothing is pending but a sweep past its last visit. -/
theorem settled_of_engine (s : State) (h : s.engine ≠ .stopping)
    (k : ∀ w, s.intake.sweep = some w → w.left = 0 → s.visitDone = false) : s.settled := by
  refine ⟨k, ?_⟩
  simp [State.stopComplete, h]

end Sys2Proof.Machine
end

