-- ==== Sys2Proof/Laws/Locality.lean ====
section
/-!
SUPPORT. Laws/Locality.lean: an operation on one bay leaves the other bays as they were, and one on a slot the other slots.
-/

set_option Elab.async false
set_option linter.unnecessarySeqFocus false
set_option linter.unusedTactic false

namespace Sys2Proof.Machine

/-! ## Bays -/

@[simp] theorem transmit_other (s : State) (b : BayId) (t : Transmission) (z : BayId) (hz : z ≠ b) : (s.transmit b t).bay z = s.bay z := by
  unfold State.transmit; (try dsimp only); (repeat' split) <;> (try simp [hz, updKs_slot]) <;> rfl

@[simp] theorem transmitNext_other (s : State) (b : BayId) (z : BayId) (hz : z ≠ b) : (s.transmitNext b).bay z = s.bay z := by
  unfold State.transmitNext; (try dsimp only); (repeat' split) <;> (try simp [hz, updKs_slot]) <;> rfl

@[simp] theorem openExchange_other (s : State) (b : BayId) (x : EngineFrame) (m n : Nat) (z : BayId) (hz : z ≠ b) : (s.openExchange b x m n).bay z = s.bay z := by
  unfold State.openExchange; (try dsimp only); (repeat' split) <;> (try simp [hz, updKs_slot]) <;> rfl

@[simp] theorem resend_other (s : State) (b : BayId) (e : Exchange) (z : BayId) (hz : z ≠ b) : (s.resend b e).bay z = s.bay z := by
  unfold State.resend; (try dsimp only); (repeat' split) <;> (try simp [hz, updKs_slot]) <;> rfl

@[simp] theorem closeExchange_other (s : State) (b : BayId) (e : Exchange) (z : BayId) (hz : z ≠ b) : (s.closeExchange b e).bay z = s.bay z := by
  unfold State.closeExchange; (try dsimp only); (repeat' split) <;> (try simp [hz, updKs_slot]) <;> rfl

@[simp] theorem abandonExchange_other (s : State) (b : BayId) (z : BayId) (hz : z ≠ b) : (s.abandonExchange b).bay z = s.bay z := by
  unfold State.abandonExchange; (try dsimp only); (repeat' split) <;> (try simp [hz, updKs_slot]) <;> rfl

@[simp] theorem countStray_other (s : State) (b : BayId) (z : BayId) (hz : z ≠ b) : (s.countStray b).bay z = s.bay z := by
  unfold State.countStray; (try dsimp only); (repeat' split) <;> (try simp [hz, updKs_slot]) <;> rfl

@[simp] theorem countLineError_other (s : State) (b : BayId) (z : BayId) (hz : z ≠ b) : (s.countLineError b).bay z = s.bay z := by
  unfold State.countLineError; (try dsimp only); (repeat' split) <;> (try simp [hz, updKs_slot]) <;> rfl

@[simp] theorem closeGap_other (s : State) (b : BayId) (z : BayId) (hz : z ≠ b) : (s.closeGap b).bay z = s.bay z := by
  unfold State.closeGap; (try dsimp only); (repeat' split) <;> (try simp [hz, updKs_slot]) <;> rfl

@[simp] theorem startPlan_other (s : State) (b : BayId) (n : Nat) (t : BitVec 32) (r : Bool) (p : Plan) (z : BayId) (hz : z ≠ b) : (s.startPlan b n t r p).bay z = s.bay z := by
  unfold State.startPlan; (try dsimp only); (repeat' split) <;> (try simp [hz, updKs_slot]) <;> rfl

@[simp] theorem startOrder_other (s : State) (b : BayId) (h : HeldOrder) (z : BayId) (hz : z ≠ b) : (s.startOrder b h).bay z = s.bay z := by
  unfold State.startOrder; (try dsimp only); (repeat' split) <;> (try simp [hz, updKs_slot]) <;> rfl

@[simp] theorem finishPlan_other (s : State) (b : BayId) (r : RunningOrder) (c : Result) (x : Byte) (z : BayId) (hz : z ≠ b) : (s.finishPlan b r c x).bay z = s.bay z := by
  unfold State.finishPlan; (try dsimp only); (repeat' split) <;> (try simp [hz, updKs_slot]) <;> rfl

@[simp] theorem planEnd_other (s : State) (b : BayId) (c : Result) (x : Byte) (z : BayId) (hz : z ≠ b) : (s.planEnd b c x).bay z = s.bay z := by
  unfold State.planEnd; (try dsimp only); (repeat' split) <;> (try simp [hz, updKs_slot]) <;> rfl

@[simp] theorem takeRise_other (s : State) (b : BayId) (z : BayId) (hz : z ≠ b) : (s.takeRise b).bay z = s.bay z := by
  unfold State.takeRise; (try dsimp only); (repeat' split) <;> (try simp [hz, updKs_slot]) <;> rfl

@[simp] theorem takeRemoval_other (s : State) (b : BayId) (z : BayId) (hz : z ≠ b) : (s.takeRemoval b).bay z = s.bay z := by
  unfold State.takeRemoval; (try dsimp only); (repeat' split) <;> (try simp [hz, updKs_slot]) <;> rfl

@[simp] theorem awaitRemoval_other (s : State) (b : BayId) (z : BayId) (hz : z ≠ b) : (s.awaitRemoval b).bay z = s.bay z := by
  unfold State.awaitRemoval; (try dsimp only); (repeat' split) <;> (try simp [hz, updKs_slot]) <;> rfl

@[simp] theorem leaveTerminal_other (s : State) (b : BayId) (z : BayId) (hz : z ≠ b) : (s.leaveTerminal b).bay z = s.bay z := by
  unfold State.leaveTerminal; (try dsimp only); (repeat' split) <;> (try simp [hz, updKs_slot]) <;> rfl

@[simp] theorem endFiling_other (s : State) (b : BayId) (z : BayId) (hz : z ≠ b) : (s.endFiling b).bay z = s.bay z := by
  unfold State.endFiling; (try dsimp only); (repeat' split) <;> (try simp [hz, updKs_slot]) <;> rfl

@[simp] theorem fileReceipts_other (s : State) (b : BayId) (l : List Receipt) (z : BayId) (hz : z ≠ b) : (State.fileReceipts b l s).bay z = s.bay z := by
  induction l generalizing s with
  | nil => unfold State.fileReceipts; simp [hz]
  | cons a l ih => unfold State.fileReceipts; (try dsimp only); (repeat' split) <;> simp_all

@[simp] theorem file_other (s : State) (b : BayId) (o : TerminalOutcome) (z : BayId) (hz : z ≠ b) : (s.file b o).bay z = s.bay z := by
  unfold State.file; (try dsimp only); (repeat' split) <;> (try simp [hz, updKs_slot]) <;> rfl

@[simp] theorem fileVoid_other (s : State) (b : BayId) (r : VoidReason) (z : BayId) (hz : z ≠ b) : (s.fileVoid b r).bay z = s.bay z := by
  unfold State.fileVoid; (try dsimp only); (repeat' split) <;> (try simp [hz, updKs_slot]) <;> rfl

@[simp] theorem updPlace_other (s : State) (b : BayId) (n : Nat) (f : KeyPlace → KeyPlace) (z : BayId) (hz : z ≠ b) : (s.updPlace b n f).bay z = s.bay z := by
  unfold State.updPlace; (try dsimp only); (repeat' split) <;> (try simp [hz, updKs_slot]) <;> rfl

@[simp] theorem sendLatched_other (s : State) (b : BayId) (x : EngineFrame) (z : BayId) (hz : z ≠ b) : (s.sendLatched b x).bay z = s.bay z := by
  unfold State.sendLatched; (try dsimp only); (repeat' split) <;> (try simp [hz, updKs_slot]) <;> rfl

@[simp] theorem sendPart_other (s : State) (b : BayId) (n : Nat) (i : ItemRecord) (m : Nat) (z : BayId) (hz : z ≠ b) : (s.sendPart b n i m).bay z = s.bay z := by
  unfold State.sendPart; (try dsimp only); (repeat' split) <;> (try simp [hz, updKs_slot]) <;> rfl

@[simp] theorem sendEnd_other (s : State) (b : BayId) (i : ItemRecord) (z : BayId) (hz : z ≠ b) : (s.sendEnd b i).bay z = s.bay z := by
  unfold State.sendEnd; (try dsimp only); (repeat' split) <;> (try simp [hz, updKs_slot]) <;> rfl

@[simp] theorem enterReleasing_other (s : State) (b : BayId) (z : BayId) (hz : z ≠ b) : (s.enterReleasing b).bay z = s.bay z := by
  unfold State.enterReleasing; (try dsimp only); (repeat' split) <;> (try simp [hz, updKs_slot]) <;> rfl

@[simp] theorem unwind_other (s : State) (b : BayId) (r : VoidReason) (z : BayId) (hz : z ≠ b) : (s.unwind b r).bay z = s.bay z := by
  unfold State.unwind; (try dsimp only); (repeat' split) <;> (try simp [hz, updKs_slot]) <;> rfl

@[simp] theorem deliverFrom_other (s : State) (b : BayId) (n : Nat) (z : BayId) (hz : z ≠ b) : (s.deliverFrom b n).bay z = s.bay z := by
  unfold State.deliverFrom; (try dsimp only); (repeat' split) <;> (try simp [hz, updKs_slot]) <;> rfl

@[simp] theorem enterLoading_other (s : State) (b : BayId) (z : BayId) (hz : z ≠ b) : (s.enterLoading b).bay z = s.bay z := by
  unfold State.enterLoading; (try dsimp only); (repeat' split) <;> (try simp [hz, updKs_slot]) <;> rfl

@[simp] theorem claimingOver_other (s : State) (b : BayId) (r : VoidReason) (z : BayId) (hz : z ≠ b) : (s.claimingOver b r).bay z = s.bay z := by
  unfold State.claimingOver; (try dsimp only); (repeat' split) <;> (try simp [hz, updKs_slot]) <;> rfl

@[simp] theorem claimRefused_other (s : State) (b : BayId) (c : Result) (i : SlotId) (z : BayId) (hz : z ≠ b) : (s.claimRefused b c i).bay z = s.bay z := by
  unfold State.claimRefused; (try dsimp only); (repeat' split) <;> (try simp [hz, updKs_slot]) <;> rfl

@[simp] theorem recordClaim_other (s : State) (b : BayId) (c : GrantedClaim) (z : BayId) (hz : z ≠ b) : (s.recordClaim b c).bay z = s.bay z := by
  unfold State.recordClaim; (try dsimp only); (repeat' split) <;> (try simp [hz, updKs_slot]) <;> rfl

@[simp] theorem recordWrap_other (s : State) (b : BayId) (i : SlotId) (g : BitVec 16) (z : BayId) (hz : z ≠ b) : (s.recordWrap b i g).bay z = s.bay z := by
  unfold State.recordWrap; (try dsimp only); (repeat' split) <;> (try simp [hz, updKs_slot]) <;> rfl

@[simp] theorem loadingReply_other (s : State) (b : BayId) (f : TerminalFrame) (z : BayId) (hz : z ≠ b) : (s.loadingReply b f).bay z = s.bay z := by
  unfold State.loadingReply; (try dsimp only); (repeat' split) <;> (try simp [hz, updKs_slot]) <;> rfl

@[simp] theorem sessionFailure_other (s : State) (b : BayId) (e : ExchangeFailure) (z : BayId) (hz : z ≠ b) : (s.sessionFailure b e).bay z = s.bay z := by
  unfold State.sessionFailure; (try dsimp only); (repeat' split) <;> (try simp [hz, updKs_slot]) <;> rfl

@[simp] theorem busyRetry_other (s : State) (b : BayId) (e : Exchange) (z : BayId) (hz : z ≠ b) : (s.busyRetry b e).bay z = s.bay z := by
  unfold State.busyRetry; (try dsimp only); (repeat' split) <;> (try simp [hz, updKs_slot]) <;> rfl

@[simp] theorem stopClaiming_other (s : State) (b : BayId) (r : VoidReason) (z : BayId) (hz : z ≠ b) : (s.stopClaiming b r).bay z = s.bay z := by
  unfold State.stopClaiming; (try dsimp only); (repeat' split) <;> (try simp [hz, updKs_slot]) <;> rfl

@[simp] theorem sessionDrop_other (s : State) (b : BayId) (z : BayId) (hz : z ≠ b) : (s.sessionDrop b).bay z = s.bay z := by
  unfold State.sessionDrop; (try dsimp only); (repeat' split) <;> (try simp [hz, updKs_slot]) <;> rfl

@[simp] theorem haltSession_other (s : State) (b : BayId) (r : VoidReason) (z : BayId) (hz : z ≠ b) : (s.haltSession b r).bay z = s.bay z := by
  unfold State.haltSession; (try dsimp only); (repeat' split) <;> (try simp [hz, updKs_slot]) <;> rfl

@[simp] theorem dropHeld_other (s : State) (b : BayId) (r : Result) (z : BayId) (hz : z ≠ b) : (s.dropHeld b r).bay z = s.bay z := by
  unfold State.dropHeld; (try dsimp only); (repeat' split) <;> (try simp [hz, updKs_slot]) <;> rfl

@[simp] theorem stopBay_other (s : State) (b : BayId) (z : BayId) (hz : z ≠ b) : (s.stopBay b).bay z = s.bay z := by
  unfold State.stopBay; (try dsimp only); (repeat' split) <;> (try simp [hz, updKs_slot]) <;> rfl

@[simp] theorem takeWithdrawal_other (s : State) (b : BayId) (z : BayId) (hz : z ≠ b) : (s.takeWithdrawal b).bay z = s.bay z := by
  unfold State.takeWithdrawal; (try dsimp only); (repeat' split) <;> (try simp [hz, updKs_slot]) <;> rfl

@[simp] theorem placeOrder_other (s : State) (e : Entry) (b : BayId) (x : PlanSource) (z : BayId) (hz : z ≠ b) : (s.placeOrder e b x).bay z = s.bay z := by
  unfold State.placeOrder; (try dsimp only); (repeat' split) <;> (try simp [hz, updKs_slot]) <;> rfl

@[simp] theorem haltBay_other (s : State) (e : Entry) (b : BayId) (z : BayId) (hz : z ≠ b) : (s.haltBay e b).bay z = s.bay z := by
  unfold State.haltBay; (try dsimp only); (repeat' split) <;> (try simp [hz, updKs_slot]) <;> rfl

@[simp] theorem setStage_other (s : State) (b : BayId) (n : Nat) (x : Stage) (z : BayId) (hz : z ≠ b) : (s.setStage b n x).bay z = s.bay z := by
  unfold State.setStage; (try dsimp only); (repeat' split) <;> (try simp [hz, updKs_slot]) <;> rfl

@[simp] theorem storeKey_other (s : State) (b : BayId) (n : Nat) (k : Key) (z : BayId) (hz : z ≠ b) : (State.storeKey b n k s).bay z = s.bay z := by
  unfold State.storeKey; (try dsimp only); (repeat' split) <;> (try simp [hz, updKs_slot]) <;> rfl

@[simp] theorem storeCheckValue_other (s : State) (b : BayId) (n : Nat) (v : CheckValue) (z : BayId) (hz : z ≠ b) : (State.storeCheckValue b n v s).bay z = s.bay z := by
  unfold State.storeCheckValue; (try dsimp only); (repeat' split) <;> (try simp [hz, updKs_slot]) <;> rfl

@[simp] theorem storeBlock_other (s : State) (b : BayId) (n : Nat) (v : BitVec 256) (z : BayId) (hz : z ≠ b) : (State.storeBlock b n v s).bay z = s.bay z := by
  unfold State.storeBlock; (try dsimp only); (repeat' split) <;> (try simp [hz, updKs_slot]) <;> rfl

@[simp] theorem bayGap_other (s : State) (b : BayId) (z : BayId) (hz : z ≠ b) : (s.bayGap b).bay z = s.bay z := by
  unfold State.bayGap; (try dsimp only); (repeat' split) <;> (try simp [hz, updKs_slot]) <;> rfl

@[simp] theorem armReply_other (s : State) (b : BayId) (q : Byte) (z : BayId) (hz : z ≠ b) : (s.armReply b q).bay z = s.bay z := by
  unfold State.armReply; (try dsimp only); (repeat' split) <;> (try simp [hz, updKs_slot]) <;> rfl

@[simp] theorem replyExpired_other (s : State) (b : BayId) (e : Exchange) (z : BayId) (hz : z ≠ b) : (s.replyExpired b e).bay z = s.bay z := by
  unfold State.replyExpired; (try dsimp only); (repeat' split) <;> (try simp [hz, updKs_slot]) <;> rfl

@[simp] theorem presenceInput_other (s : State) (b : BayId) (l : Bool) (z : BayId) (hz : z ≠ b) : (s.presenceInput b l).bay z = s.bay z := by
  unfold State.presenceInput; (try dsimp only); (repeat' split) <;> (try simp [hz, updKs_slot]) <;> rfl

@[simp] theorem recogniseRise_other (s : State) (b : BayId) (z : BayId) (hz : z ≠ b) : (s.recogniseRise b).bay z = s.bay z := by
  unfold State.recogniseRise; (try dsimp only); (repeat' split) <;> (try simp [hz, updKs_slot]) <;> rfl

@[simp] theorem recogniseDrop_other (s : State) (b : BayId) (z : BayId) (hz : z ≠ b) : (s.recogniseDrop b).bay z = s.bay z := by
  unfold State.recogniseDrop; (try dsimp only); (repeat' split) <;> (try simp [hz, updKs_slot]) <;> rfl

/-! ## Slots -/

@[simp] theorem setSlot_other (s : State) (i z : SlotId) (x : Slot) (hz : z ≠ i) : (s.setSlot i x).slot z = s.slot z := by
  simp [setSlot_slot, hz]

@[simp] theorem updSlot_other (s : State) (i z : SlotId) (f : Slot → Slot) (hz : z ≠ i) : (s.updSlot i f).slot z = s.slot z := by
  simp [updSlot_slot, hz]

@[simp] theorem answerErase_otherSlot (s : State) (i : SlotId) (r : Result) (z : SlotId) (hz : z ≠ i) : (s.answerErase i r).slot z = s.slot z := by
  unfold State.answerErase; (try dsimp only); (repeat' split) <;> (try simp [hz, updKs_slot]) <;> rfl

@[simp] theorem beginErase_otherSlot (s : State) (i : SlotId) (z : SlotId) (hz : z ≠ i) : (s.beginErase i).slot z = s.slot z := by
  unfold State.beginErase; (try dsimp only); (repeat' split) <;> (try simp [hz, updKs_slot]) <;> rfl

@[simp] theorem testDrain_otherSlot (s : State) (i : SlotId) (z : SlotId) (hz : z ≠ i) : (s.testDrain i).slot z = s.slot z := by
  unfold State.testDrain; (try dsimp only); (repeat' split) <;> (try simp [hz, updKs_slot]) <;> rfl

@[simp] theorem releaseSlot_otherSlot (s : State) (b : BayId) (i : SlotId) (z : SlotId) (hz : z ≠ i) : (State.releaseSlot b s i).slot z = s.slot z := by
  unfold State.releaseSlot; (try dsimp only); (repeat' split) <;> (try simp [hz, updKs_slot]) <;> rfl

@[simp] theorem startAssembly_otherSlot (s : State) (i : SlotId) (z : SlotId) (hz : z ≠ i) : (s.startAssembly i).slot z = s.slot z := by
  unfold State.startAssembly; (try dsimp only); (repeat' split) <;> (try simp [hz, updKs_slot]) <;> rfl

@[simp] theorem endAssemblySlot_otherSlot (s : State) (i : SlotId) (z : SlotId) (hz : z ≠ i) : (s.endAssemblySlot i).slot z = s.slot z := by
  unfold State.endAssemblySlot; (try dsimp only); (repeat' split) <;> (try simp [hz, updKs_slot]) <;> rfl

@[simp] theorem commitKey_otherSlot (s : State) (i : SlotId) (k : Key) (ids : List CardId) (v : CheckValue) (z : SlotId) (hz : z ≠ i) : (s.commitKey i k ids v).slot z = s.slot z := by
  unfold State.commitKey; (try dsimp only); (repeat' split) <;> (try simp [hz, updKs_slot]) <;> rfl

@[simp] theorem applyGrant_otherSlot (s : State) (i : SlotId) (n : Nat) (z : SlotId) (hz : z ≠ i) : (s.applyGrant i n).slot z = s.slot z := by
  unfold State.applyGrant; (try dsimp only); (repeat' split) <;> (try simp [hz, updKs_slot]) <;> rfl

@[simp] theorem updSettle_otherSlot (s : State) (i : SlotId) (f : Settle → Settle) (z : SlotId) (hz : z ≠ i) : (s.updSettle i f).slot z = s.slot z := by
  unfold State.updSettle; (try dsimp only); (repeat' split) <;> (try simp [hz, updKs_slot]) <;> rfl

@[simp] theorem answerSettle_otherSlot (s : State) (i : SlotId) (r : Result) (z : SlotId) (hz : z ≠ i) : (s.answerSettle i r).slot z = s.slot z := by
  unfold State.answerSettle; (try dsimp only); (repeat' split) <;> (try simp [hz, updKs_slot]) <;> rfl

@[simp] theorem testSettle_otherSlot (s : State) (i : SlotId) (z : SlotId) (hz : z ≠ i) : (s.testSettle i).slot z = s.slot z := by
  unfold State.testSettle; (try dsimp only); (repeat' split) <;> (try simp [hz, updKs_slot]) <;> rfl

@[simp] theorem stopSettle_otherSlot (s : State) (i : SlotId) (z : SlotId) (hz : z ≠ i) : (s.stopSettle i).slot z = s.slot z := by
  unfold State.stopSettle; (try dsimp only); (repeat' split) <;> (try simp [hz, updKs_slot]) <;> rfl

@[simp] theorem settleEntered_otherSlot (s : State) (i : SlotId) (c : Claim) (z : SlotId) (hz : z ≠ i) : (s.settleEntered i c).slot z = s.slot z := by
  unfold State.settleEntered; (try dsimp only); (repeat' split) <;> (try simp [hz, updKs_slot]) <;> rfl

@[simp] theorem submitSettle_otherSlot (s : State) (i : SlotId) (l : List Claim) (z : SlotId) (hz : z ≠ i) : (State.submitSettle i l s).slot z = s.slot z := by
  induction l generalizing s with
  | nil => unfold State.submitSettle; simp [hz]
  | cons a l ih => unfold State.submitSettle; (try dsimp only); (repeat' split) <;> simp_all

@[simp] theorem resumeSettle_otherSlot (s : State) (i : SlotId) (r : Receipt) (z : SlotId) (hz : z ≠ i) : (s.resumeSettle i r).slot z = s.slot z := by
  unfold State.resumeSettle; (try dsimp only); (repeat' split) <;> (try simp [hz, updKs_slot]) <;> rfl

@[simp] theorem settleClosed_otherSlot (s : State) (i : SlotId) (c : Claim) (z : SlotId) (hz : z ≠ i) : (s.settleClosed i c).slot z = s.slot z := by
  unfold State.settleClosed; (try dsimp only); (repeat' split) <;> (try simp [hz, updKs_slot]) <;> rfl

@[simp] theorem takeClaim_otherSlot (s : State) (b : BayId) (i : SlotId) (z : SlotId) (hz : z ≠ i) : (s.takeClaim b i).slot z = s.slot z := by
  unfold State.takeClaim; (try dsimp only); (repeat' split) <;> (try simp [hz, updKs_slot]) <;> rfl

@[simp] theorem takeWrap_otherSlot (s : State) (b : BayId) (i : SlotId) (z : SlotId) (hz : z ≠ i) : (s.takeWrap b i).slot z = s.slot z := by
  unfold State.takeWrap; (try dsimp only); (repeat' split) <;> (try simp [hz, updKs_slot]) <;> rfl

@[simp] theorem retakeDeferred_otherSlot (s : State) (b : BayId) (i : SlotId) (z : SlotId) (hz : z ≠ i) : (s.retakeDeferred b i).slot z = s.slot z := by
  unfold State.retakeDeferred; (try dsimp only); (repeat' split) <;> (try simp [hz, updKs_slot]) <;> rfl

@[simp] theorem endDrain_otherSlot (s : State) (i : SlotId) (z : SlotId) (hz : z ≠ i) : (s.endDrain i).slot z = s.slot z := by
  unfold State.endDrain; (try dsimp only); (repeat' split) <;> (try simp [hz, updKs_slot]) <;> rfl

@[simp] theorem zeroizeSlot_otherSlot (s : State) (i : SlotId) (z : SlotId) (hz : z ≠ i) : (s.zeroizeSlot i).slot z = s.slot z := by
  unfold State.zeroizeSlot; (try dsimp only); (repeat' split) <;> (try simp [hz, updKs_slot]) <;> rfl

@[simp] theorem beginDrain_otherSlot (s : State) (e : Entry) (i : SlotId) (z : SlotId) (hz : z ≠ i) : (s.beginDrain e i).slot z = s.slot z := by
  unfold State.beginDrain; (try dsimp only); (repeat' split) <;> (try simp [hz, updKs_slot]) <;> rfl

@[simp] theorem beginSettle_otherSlot (s : State) (e : Entry) (i : SlotId) (z : SlotId) (hz : z ≠ i) : (s.beginSettle e i).slot z = s.slot z := by
  unfold State.beginSettle; (try dsimp only); (repeat' split) <;> (try simp [hz, updKs_slot]) <;> rfl

@[simp] theorem writeEnded_otherSlot (s : State) (i : SlotId) (o : Bool) (z : SlotId) (hz : z ≠ i) : (s.writeEnded i o).slot z = s.slot z := by
  unfold State.writeEnded; (try dsimp only); (repeat' split) <;> (try simp [hz, updKs_slot]) <;> rfl

end Sys2Proof.Machine
end

