-- ==== Sys2Proof/Laws/Orders.lean ====
section
/-!
SUPPORT. Laws/Orders.lean: what an order in hand comes to, whatever its kind: an answer at take, with the rest of the machine as
the order's own effect leaves it.
-/

namespace Sys2Proof.Machine

@[simp] theorem quiet_inHand (s : State) (k : OrderKind) : s.quiet.inHand k = s.inHand k := rfl
@[simp] theorem quiet_storeOpen (s : State) : s.quiet.storeOpen = s.storeOpen := rfl
@[simp] theorem quiet_assembly (s : State) : s.quiet.assembly = s.assembly := rfl
@[simp] theorem quiet_validating (s : State) : s.quiet.validating = s.validating := rfl
@[simp] theorem quiet_visitDone (s : State) : s.quiet.visitDone = s.visitDone := rfl
@[simp] theorem quiet_sweepArea (s : State) : s.quiet.sweepArea = s.sweepArea := rfl
@[simp] theorem quiet_timer (s : State) (n : Nat) : s.quiet.timer n = s.timer n := rfl
@[simp] theorem quiet_gapTimer (s : State) : s.quiet.gapTimer = s.gapTimer := rfl
@[simp] theorem quiet_expired (s : State) (t : Option Timer) : s.quiet.expired t = s.expired t := rfl
@[simp] theorem quiet_profile (s : State) (p : Fin 16) : s.quiet.profile p = s.profile p := rfl
@[simp] theorem quiet_headRequest (s : State) : s.quiet.headRequest = s.headRequest := rfl
@[simp] theorem quiet_queueHasRoom (s : State) : s.quiet.queueHasRoom = s.queueHasRoom := rfl
@[simp] theorem quiet_baysAwake (s : State) : s.quiet.baysAwake = s.baysAwake := rfl
@[simp] theorem quiet_quiet (s : State) : s.quiet.quiet = s.quiet := rfl

theorem settled_quiet (s : State) (h : s.settled) : s.quiet.settled := h

@[simp] theorem byteOf_zero : byteOf 0 = 0 := rfl

theorem slotAt_none (p : List Byte) (o : Nat) (h : 63 < byteAt p o) : slotAt p o = none := by
  unfold slotAt
  rw [dif_neg (by omega)]

theorem slotAt_some (p : List Byte) (o : Nat) (i : SlotId) (h : i.val = byteAt p o) : slotAt p o = some i := by
  unfold slotAt
  rw [dif_pos (by omega)]
  exact congrArg some (Fin.ext h.symm)

theorem bayAt_none (p : List Byte) (o : Nat) (h : 7 < byteAt p o) : bayAt p o = none := by
  unfold bayAt
  rw [dif_neg (by omega)]

theorem bayAt_some (p : List Byte) (o : Nat) (b : BayId) (h : b.val = byteAt p o) : bayAt p o = some b := by
  unfold bayAt
  rw [dif_pos (by omega)]
  exact congrArg some (Fin.ext h.symm)

theorem withOrder_inHand (s : State) (k : OrderKind) (e : Entry) (f : Entry → State → State) (h : s.inHand k = some e) :
    s.withOrder k f = f e s := by
  simp [State.withOrder, h]

/-- Past its intake check an order of the key store is decided while the store takes requests (R43). -/
theorem withStoreOrder_inHand {α : Type} (s : State) (k : OrderKind) (e : Entry) (fields : List Byte → Option α)
    (f : α → Entry → State → State) (x : α) (h : s.inHand k = some e) (p : fields e.params = some x)
    (o : s.ks.overwrite = none) : s.withStoreOrder k fields f = f x e s := by
  simp [State.withStoreOrder, State.storeOpen, o, p, withOrder_inHand s k e _ h]

/-- A field out of range is refused at once, also during the overwrite of the key array (R16). -/
theorem withStoreOrder_refused {α : Type} (s : State) (k : OrderKind) (e : Entry) (fields : List Byte → Option α)
    (f : α → Entry → State → State) (h : s.inHand k = some e) (p : fields e.params = none) :
    s.withStoreOrder k fields f = s.refuseAtTake e .refusedField := by
  simp [State.withStoreOrder, p, withOrder_inHand s k e _ h]

/-- During the overwrite an order past its check stays in hand (R43; log 31). -/
theorem withStoreOrder_waits {α : Type} (s : State) (k : OrderKind) (e : Entry) (fields : List Byte → Option α)
    (f : α → Entry → State → State) (x : α) (h : s.inHand k = some e) (p : fields e.params = some x)
    (o : s.ks.overwrite.isSome = true) : s.withStoreOrder k fields f = s := by
  have o' : s.ks.overwrite ≠ none := by intro n; simp [n] at o
  simp [State.withStoreOrder, State.storeOpen, o', p, withOrder_inHand s k e _ h]

/-- A command whose effect on the state without port traffic is known. -/
theorem run_eq (s : State) (f g : State → State) (h : f s.quiet = g s.quiet) : s.run f = s.run g := by
  unfold State.run
  split
  · rfl
  · exact congrArg (fun x : State => x.closeSweep.settleEngine) h

/-- A command with nothing to do leaves a settled state as it was, but for the port traffic. -/
theorem run_id (s : State) (f : State → State) (h : s.settled) (e : f s.quiet = s.quiet) : s.run f = s.quiet := by
  by_cases k : s.engine = .off
  · exact run_off s f k
  · rw [run_settled s f k (by rw [e]; exact h), e]

/-- With the area in use the answer given at take is the next to be written (R16). -/
@[simp] theorem answerAtTake_atTake (s : State) (cell : Nat) (r : Result) (data : List Byte) :
    (s.answerAtTake cell r data).intake.atTake =
      if s.intake.area.isSome then some { cell := cell, result := r, data := data } else s.intake.atTake := by
  unfold State.answerAtTake
  split <;> simp_all

/-- With the area in use a completion joins the answer list (R17). -/
@[simp] theorem completeOrder_answers (s : State) (cell : Nat) (r : Result) (data : List Byte) :
    (s.completeOrder cell r data).intake.answers =
      if s.intake.area.isSome then s.intake.answers ++ [{ cell := cell, result := r, data := data }] else s.intake.answers := by
  unfold State.completeOrder
  split <;> simp_all

theorem slot_of_ks {s t : State} (h : s.ks = t.ks) (i : SlotId) : s.slot i = t.slot i := by simp [State.slot, h]
theorem slot_of_slots {s t : State} (h : s.ks.slots = t.ks.slots) (i : SlotId) : s.slot i = t.slot i := by simp [State.slot, h]
theorem bay_of_bays {s t : State} (h : s.bays = t.bays) (b : BayId) : s.bay b = t.bay b := by simp [State.bay, h]
theorem session_of_bays {s t : State} (h : s.bays = t.bays) (b : BayId) : s.session b = t.session b := by
  simp [State.session, State.bay, h]
theorem console_of_ceu {s t : State} (h : s.ceu = t.ceu) (c : ConsoleId) : s.console c = t.console c := by
  simp [State.console, h]

/-- What a command with power leaves of slots, bays and consoles. -/
theorem run_parts (s : State) (f : State → State) (h : s.engine ≠ .off) :
    (∀ i, (s.run f).slot i = (f s.quiet).slot i) ∧ (∀ b, (s.run f).bay b = (f s.quiet).bay b) ∧
    (∀ b, (s.run f).session b = (f s.quiet).session b) ∧ ∀ c, (s.run f).console c = (f s.quiet).console c := by
  have k := run_frame s f h
  exact ⟨fun i => slot_of_ks k.2.2.1 i, fun b => bay_of_bays k.2.2.2.2.2.1 b, fun b => session_of_bays k.2.2.2.2.2.1 b,
    fun c => console_of_ceu k.2.2.2.1 c⟩

/-- An order that is answered at take, its own effect apart. -/
theorem answered_at_take (s u : State) (f : State → State) (e : Entry) (r : Result) (data : List Byte) (h : s.engine ≠ .off)
    (a : u.intake.area = s.intake.area) (k : f s.quiet = u.answerAtTake e.cell r data) :
    s.answersAtTake (s.run f) e r data := by
  intro ha
  rw [(run_frame s f h).2.2.2.2.2.2.2.2.2.2.2.1, k]
  simp [State.answerAtTake, a, ha]

/-- A refusal at take changes nothing outside the intake unit, the event unit and the writer's state. -/
theorem refused_at_take (s : State) (f : State → State) (e : Entry) (r : Result) (h : s.engine ≠ .off)
    (k : f s.quiet = s.quiet.refuseAtTake e r) :
    s.answersAtTake (s.run f) e r [] ∧ s.sameOutsideIntake (s.run f) := by
  refine ⟨answered_at_take s s.quiet f e r [] h rfl k, ?_⟩
  have m := run_frame s f h
  simp only [k] at m
  simp [State.sameOutsideIntake, m]

/-- An answer at take that changes nothing else. -/
theorem answered_unchanged (s : State) (f : State → State) (e : Entry) (r : Result) (data : List Byte) (h : s.engine ≠ .off)
    (k : f s.quiet = s.quiet.answerAtTake e.cell r data) :
    s.answersAtTake (s.run f) e r data ∧ s.sameOutsideIntake (s.run f) := by
  refine ⟨answered_at_take s s.quiet f e r data h rfl k, ?_⟩
  have m := run_frame s f h
  simp only [k] at m
  simp [State.sameOutsideIntake, m]

/-- A completion stands in the answer list, whatever follows it in the same command that only adds answers. -/
theorem completed_listed (s u : State) (cell : Nat) (r : Result) (data : List Byte) (a : u.intake.area = s.intake.area) :
    s.completes (u.completeOrder cell r data) cell r data := by
  intro ha
  simp [State.completeOrder, a, ha]

end Sys2Proof.Machine
end

