-- ==== Sys2Proof/Laws/Receiver.lean ====
section
/-!
SUPPORT. Laws/Receiver.lean: the receivers and their gap timer, and how a report ends a persist, one lemma per case.
-/

namespace Sys2Proof.Machine

/-! ## The gap timer (R10, R93) -/

@[simp] theorem gapTimer_eq (s : State) : s.gapTimer = { start := s.clock, interval := 20 } := rfl

@[simp] theorem gap_hunt : Receiver.hunt.gap? = none := rfl
@[simp] theorem gap_length (g : Timer) : (Receiver.length g).gap? = some g := rfl
@[simp] theorem gap_body (g : Timer) (n : Nat) (l : List Byte) : (Receiver.body g n l).gap? = some g := rfl
@[simp] theorem gap_check (g : Timer) (l : List Byte) (h : Option Byte) : (Receiver.check g l h).gap? = some g := rfl

@[simp] theorem late_hunt (clock : BitVec 32) : Receiver.hunt.late clock = false := rfl
@[simp] theorem afterGap_hunt (clock : BitVec 32) : Receiver.hunt.afterGap clock = .hunt := rfl

/-- Within its gap a partial frame goes on. -/
theorem afterGap_of_not_late (r : Receiver) (clock : BitVec 32) (h : r.late clock = false) : r.afterGap clock = r := by
  simp [Receiver.afterGap, h]

/-- After it the receiver is in HUNT. -/
theorem afterGap_of_late (r : Receiver) (clock : BitVec 32) (h : r.late clock = true) : r.afterGap clock = .hunt := by
  simp [Receiver.afterGap, h]

/-- A partial frame past its gap has an armed timer that is due. -/
theorem due_of_late (r : Receiver) (clock : BitVec 32) (h : r.late clock = true) : ∃ g, r.gap? = some g ∧ g.due clock = true := by
  unfold Receiver.late at h
  split at h
  · rename_i g e
    have := of_decide_eq_true h
    exact ⟨g, e, decide_eq_true (by omega)⟩
  · cases h

theorem gapClosed_of_not_late (l : Link) (clock : BitVec 32) (h : l.receiver.late clock = false) : l.gapClosed clock = l := by
  simp [Link.gapClosed, h]

theorem gapClosed_of_late (l : Link) (clock : BitVec 32) (h : l.receiver.late clock = true) :
    l.gapClosed clock = { l with receiver := .hunt, lineErrors := countUp l.lineErrors } := by
  simp [Link.gapClosed, h]

/-- The gap changes the receiver and the line errors of a link only. -/
theorem gapClosed_frame (l : Link) (clock : BitVec 32) :
    l.gapClosed clock = { l with receiver := (l.gapClosed clock).receiver, lineErrors := (l.gapClosed clock).lineErrors } := by
  unfold Link.gapClosed
  split <;> rfl

@[simp] theorem closeGap_bay (s : State) (b : BayId) :
    (s.closeGap b).bay b = { s.bay b with link := (s.bay b).link.gapClosed s.clock } := by
  simp [State.closeGap]

theorem receiveBytes_append (g : Timer) (r : Receiver) (x y : List Byte) :
    receiveBytes g r (x ++ y) =
      ((receiveBytes g (receiveBytes g r x).1 y).1, (receiveBytes g r x).2 ++ (receiveBytes g (receiveBytes g r x).1 y).2) := by
  induction x generalizing r with
  | nil => simp [receiveBytes]
  | cons a x ih => simp [receiveBytes, ih]

/-- The expiry of the gap timer does nothing before its time. -/
theorem consoleGap_not_due (s : State) (c : ConsoleId) (h : s.expired (s.console c).receiver.gap? = false) : s.consoleGap c = s := by
  simp [State.consoleGap, h]

theorem bayGap_not_due (s : State) (b : BayId) (h : s.expired (s.bay b).link.receiver.gap? = false) : s.bayGap b = s := by
  simp [State.bayGap, h]

/-- When it is due the console's receiver is in HUNT. -/
theorem consoleGap_due (s : State) (c : ConsoleId) (h : s.expired (s.console c).receiver.gap? = true) :
    (s.consoleGap c).console c = { s.console c with receiver := .hunt } := by
  simp [State.consoleGap, h]

/-- When it is due the bay's receiver is in HUNT and a line error is counted. -/
theorem bayGap_due (s : State) (b : BayId) (h : s.expired (s.bay b).link.receiver.gap? = true) :
    (s.bayGap b).bay b =
      { s.bay b with link := { (s.bay b).link with receiver := .hunt, lineErrors := countUp (s.bay b).link.lineErrors } } := by
  simp [State.bayGap, State.countLineError, h]

/-- Bytes before a lead byte leave a receiver in HUNT and make nothing (R93). -/
theorem receiveBytes_noLead (g : Timer) (l : List Byte) (h : ∀ y ∈ l, y ≠ 0xA5) : receiveBytes g .hunt l = (.hunt, []) := by
  induction l with
  | nil => rfl
  | cons a l ih => simp_all [receiveBytes, receiveByte]

/-! ## The interrupt pin (R168) -/

@[simp] theorem intPin_eq_false (e : EventUnit) : e.intPin = false ↔ e.request = true := by simp [EventUnit.intPin]

/-! ## The end of a persist (R164) -/

@[simp] theorem outcome_area_none (x : Persist) (u : Bool) (h : x.step = .area) : x.outcome none u = some false := by
  simp [Persist.outcome, h]

@[simp] theorem outcome_control_none (x : Persist) (u : Bool) (h : x.step = .control) : x.outcome none u = some false := by
  simp [Persist.outcome, h]

@[simp] theorem outcome_readBack (x : Persist) (bytes : List Byte) (u : Bool) (h : x.step = .readBack) :
    x.outcome (some bytes) u = some (decide (bytes = x.capture) && !u) := by
  simp [Persist.outcome, h]

/-- The persist has ended, whatever its outcome; tables and the other groups stay (R164). -/
theorem persistEnded_prof (s : State) (x : Persist) (good : Bool) : (s.persistEnded x good).prof = s.prof.endPersist x good := by
  unfold State.persistEnded
  cases good <;> cases x.order <;> simp

end Sys2Proof.Machine
end

