-- ==== Sys2Proof/Laws/Watches.lean ====
section
/-!
SUPPORT. Laws/Watches.lean: what each operation that reports to the event unit does to the flag of a watch (R170, R172 to R174).
-/

namespace Sys2Proof.Machine

/-- A watch's own flag among the flags a report fires. -/
theorem fired_getLsbD (e : EventUnit) (judge : Watch → Bool) (n : Fin 4) :
    (e.fired judge).getLsbD (12 + n.val) = judge e.watches[n] := by
  have k : ∀ a b c d : Bool,
      let x := (if a then watchBit 0 else 0) ||| (if b then watchBit 1 else 0) ||| (if c then watchBit 2 else 0) |||
        (if d then watchBit 3 else 0)
      x.getLsbD 12 = a ∧ x.getLsbD 13 = b ∧ x.getLsbD 14 = c ∧ x.getLsbD 15 = d := by decide
  obtain ⟨k0, k1, k2, k3⟩ := k (judge e.watches[0]) (judge e.watches[1]) (judge e.watches[2]) (judge e.watches[3])
  match n with
  | 0 => exact k0
  | 1 => exact k1
  | 2 => exact k2
  | 3 => exact k3

/-- A report sets the flag of each watch it fires and no other watch's (R170). -/
theorem report_watch (s : State) (judge : Watch → Bool) (n : Fin 4) :
    (s.report judge).events.flags.getLsbD (12 + n.val) =
      (s.events.flags.getLsbD (12 + n.val) || judge s.events.watches[n]) := by
  simp [fired_getLsbD]

/-- The cause of a flag of section 10.1 below flag 12 touches no watch's flag. -/
theorem raise_watch (s : State) (f : Flag) (n : Fin 4) :
    (s.raise f).events.flags.getLsbD (12 + n.val) = s.events.flags.getLsbD (12 + n.val) := by
  have k : ∀ n : Fin 4, f.bit.getLsbD (12 + n.val) = false := by cases f <;> decide
  simp [State.raise, k n]

/-- A slot record that changes fires by its state and its allowance (R172, R173). -/
theorem setSlot_watch (s : State) (i : SlotId) (x : Slot) (n : Fin 4) :
    (s.setSlot i x).events.flags.getLsbD (12 + n.val) =
      (s.events.flags.getLsbD (12 + n.val) || (s.events.watches[n]).firesOnSlot i (s.slot i) x) := by
  unfold State.setSlot
  rw [report_watch]
  rfl

theorem firesOnSlot_same (i : SlotId) (x y : Slot) (h : x.state = y.state) (k : y.allowance = x.allowance) (w : Watch) :
    w.firesOnSlot i x y = false := by
  cases w <;> simp [Watch.firesOnSlot, h, k]

/-- An update that keeps state and allowance fires no watch. -/
theorem updSlot_watch_same (s : State) (i : SlotId) (f : Slot → Slot) (h : (s.slot i).state = (f (s.slot i)).state)
    (k : (f (s.slot i)).allowance = (s.slot i).allowance) (n : Fin 4) :
    (s.updSlot i f).events.flags.getLsbD (12 + n.val) = s.events.flags.getLsbD (12 + n.val) := by
  unfold State.updSlot
  rw [setSlot_watch, firesOnSlot_same i _ _ h k]
  simp

/-- The roll changes: a watch fires by the room reported before and the room after (R174). -/
theorem setRoll_watch (s : State) (roll : Option Roll) (n : Fin 4) :
    (s.setRoll roll).events.flags.getLsbD (12 + n.val) =
      (s.events.flags.getLsbD (12 + n.val) ||
        (s.events.watches[n]).firesOnRoom s.events.room (match roll with | some r => r.room | none => 0)) := by
  show (State.report _ _).events.flags.getLsbD _ = _
  rw [report_watch]
  rfl

/-- The room reported after a change of the roll. -/
theorem setRoll_room (s : State) (roll : Option Roll) :
    (s.setRoll roll).events.room = match roll with | some r => r.room | none => 0 := rfl

/-- Entry to STANDBY at the end of a command drops the roll (R7, R151); nothing else there reports. -/
theorem settleEngine_watch (s : State) (n : Fin 4) :
    (s.settleEngine).events.flags.getLsbD (12 + n.val) =
      (s.events.flags.getLsbD (12 + n.val) || (s.stopComplete && (s.events.watches[n]).firesOnRoom s.events.room 0)) := by
  unfold State.settleEngine
  split
  · rename_i h
    show (State.setRoll _ none).events.flags.getLsbD _ = _
    rw [setRoll_watch, h]
    rfl
  · rename_i h
    simp [h]

/-- What a command with power does to a watch's flag after its own effect. -/
theorem run_watch (s : State) (f : State → State) (h : s.engine ≠ .off) (n : Fin 4) :
    (s.run f).events.flags.getLsbD (12 + n.val) =
      ((f s.quiet).events.flags.getLsbD (12 + n.val) ||
        ((f s.quiet).closeSweep.stopComplete && ((f s.quiet).events.watches[n]).firesOnRoom (f s.quiet).events.room 0)) := by
  rw [run_on s f h, settleEngine_watch]
  simp

end Sys2Proof.Machine
end

