-- ==== Sys2Proof/Tests/Slice0.lean ====
section
/-!
SUPPORT. Tests/Slice0.lean: the checks of well-formedness refuse what is ill-formed, small tests of single operations, and for
every obligation with hypotheses states and operands that meet them together (test_witness_…), its clauses at their boundaries.
-/

set_option Elab.async false

namespace Sys2Proof.Tests

open Sys2Proof Sys2Proof.Machine

/-! ## Well-formedness -/

theorem test_refuses_control_commands :
    (Instr.registerWrite (.control 1)).wellFormed = false ∧ (Instr.registerWrite (.control 2)).wellFormed = false ∧
    (Instr.registerWrite (.control 3)).wellFormed = false := by decide

theorem test_refuses_register_offsets :
    registerOffsets.map (fun off => (Instr.registerWrite (.unused off 0)).wellFormed) = List.replicate 7 false := by decide +kernel

theorem test_accepts_plain_writes :
    (Instr.registerWrite (.control 0)).wellFormed = true ∧ (Instr.registerWrite (.control 4)).wellFormed = true ∧
    (Instr.registerWrite (.unused 0x1C 7)).wellFormed = true ∧ (Instr.registerWrite (.areaLo 1)).wellFormed = true ∧
    Instr.stop.wellFormed = true := by decide

theorem test_no_word_spells_a_command : decodeTableWord 32 0x12345678 = none := rfl

/-! ## Single operations -/

/-- The check of the nine digits is 29B1h (section 6.2). -/
theorem test_crc_of_digits : crc [0x31, 0x32, 0x33, 0x34, 0x35, 0x36, 0x37, 0x38, 0x39] = 0x29B1 := by decide +kernel

theorem test_probe_frame : ∃ high low, EngineFrame.probe.bytes 7 = [0xA5, 2, 0x10, 7, high, low] := ⟨_, _, rfl⟩

theorem test_receiver_reads_built_frame :
    receiveBytes ⟨0, 20⟩ .hunt (buildFrame 0x23 9 [4]) = (.hunt, [.frame [0x23, 9, 4]]) := by decide +kernel

/-- A lead byte in the place of LEN does not begin a frame (R93; log 40). -/
theorem test_receiver_bad_len :
    receiveBytes ⟨0, 20⟩ .hunt [0xA5, 0xA5, 2] = (.hunt, [.lineError]) ∧
    receiveBytes ⟨7, 20⟩ .hunt [0xA5, 2, 0x21] = (.body ⟨7, 20⟩ 2 [0x21], []) := by decide

theorem test_int_pin :
    { EventUnit.reset with flags := 4 }.intPin = true ∧ { EventUnit.reset with flags := 4, mask := 6 }.intPin = false := by decide

theorem test_number_bytes : toLE 4 0x01020304 = [4, 3, 2, 1] ∧ toBE 3 0x0A0B0C = [0x0A, 0x0B, 0x0C] := by decide

theorem test_ksn : formKsn 0x0102030405 0xABCDE = 0x01020304050ABCDE := by decide

theorem test_chunks_of_32 : chunkCount 32 8 = 4 ∧ chunkCount 16 32 = 1 := by decide

/-! ## Small states -/

/-- An area of 8 cells with a sweep every 100 ms. -/
def anArea : Area := { base := 0x40000, cells := 8, sweepMs := 100 }

/-- STANDBY after a load, with a base address. -/
def standby (lo : BitVec 32) : State :=
  { State.reset with engine := .standby, intake := { Intake.reset with areaLo := lo }, prof := { ProfileStore.reset with load := none } }

/-- A running engine with the area in use and nothing open. -/
def running : State :=
  { State.reset with
    engine := .running
    intake := { Intake.reset with area := some anArea }
    writer := { Writer.reset with state := .idle }
    prof := { ProfileStore.reset with load := none } }

/-- The order in hand of a kind, from cell 3. -/
def order (kind : OrderKind) (flags : BitVec 16) (params : List Byte) : Entry :=
  { cell := 3, kind := kind.code, tag := 7, flags := flags, params := params, condition := .validating }

def withOrderOf (s : State) (kind : OrderKind) (flags : BitVec 16) (params : List Byte) : State :=
  { s with intake := { s.intake with table := [order kind flags params] } }

def withSlot (s : State) (i : SlotId) (x : Slot) : State := { s with ks := { s.ks with slots := s.ks.slots.set i x } }

def withBay (s : State) (b : BayId) (x : Bay) : State := { s with bays := s.bays.set b x }

def withConsole (s : State) (c : ConsoleId) (x : Console) : State :=
  { s with ceu := { s.ceu with consoles := s.ceu.consoles.set c x } }

def withRecord (s : State) (r : Ceremony) : State := { s with ceu := { s.ceu with record := r } }

def withRequests (s : State) (l : List KsRequest) : State := { s with ks := { s.ks with requests := l } }

def aDefinition : Definition := { cls := .base 0x0102030405 true 10, bayMask := 0xFF, components := 2 }

def transportDefinition : Definition := { cls := .transport, bayMask := 0x08, components := 2 }

/-- A READY slot of a definition with one receipted serial and an allowance of 5. -/
def readySlot (d : Definition) : Slot :=
  { Slot.blank 4 (.key 9) with
    state := .ready, definition := some d, keyholders := [0x0312, 0x0477], checkValue := some 0xABCDEF, nextSerial := 1,
    receipted := 1, allowance := 5 }

def orphaned : Slot :=
  { readySlot aDefinition with claims := [⟨2, 1, true⟩, ⟨1, 2, false⟩, ⟨3, 3, true⟩], nextSerial := 4 }

def aReceipt : Receipt :=
  { outcome := .loaded, unconfirmed := false, bay := 0, slot := 5, generation := 4, ksn := 0x0102030405000001, label := 0,
    terminal := 0, model := 0, profile := 0, register := 0, checkValue := 0, time := 0, tag := 0 }

/-- The receipt queue full, with a bay's submission waiting. -/
def withFullQueue (s : State) : State :=
  { s with writer := { s.writer with state := .awaitRoll, queue := List.replicate 16 aReceipt } }

theorem settled_of_still (s : State) (h : s.intake.sweep = none ∧ s.engine ≠ .stopping) : s.settled :=
  ⟨fun w hw => (by rw [h.1] at hw; cases hw), by simp [State.stopComplete, h.2]⟩

theorem settled_of_left (s : State) (w : Sweep) (h : s.intake.sweep = some w ∧ w.left ≠ 0 ∧ s.engine ≠ .stopping) : s.settled :=
  ⟨fun v hv hl => (by rw [h.1] at hv; cases hv; exact absurd hl h.2.1), by simp [State.stopComplete, h.2.2]⟩

theorem areaLegal_of (k : Intake) (h : k.area = some anArea ∨ k.area = none) : k.areaLegal := by
  rcases h with h | h <;> simp [Intake.areaLegal, h, anArea]

/-! ## Witnesses: register window -/

def header (cells sweepMs : BitVec 16) : StationHeader := { format := 0x0A24, cells, sweepMs }

theorem test_witness_Start :
    (standby 0x40000).engine = .standby ∧ ((standby 0x40000).intake.areaHi ++ (standby 0x40000).intake.areaLo).setWidth 16 = 0#16 ∧
    ∀ h ∈ [header 8 0, header 64 10000],
      h.format = 0x0A24 ∧ 8 ≤ h.cells.toNat ∧ h.cells.toNat ≤ 64 ∧ h.sweepMs.toNat ≤ 10000 := by decide +kernel

theorem test_witness_Start_reports_orphans :
    (withSlot (standby 0x40000) 63 orphaned).events.startReport = true ∧ ((withSlot (standby 0x40000) 63 orphaned).slot 63).hasOrphan = true ∧
    { (standby 0x40000).events with startReport := false }.startReport = false := by decide +kernel

theorem test_witness_Start_refused :
    (standby 0x8000).settled ∧ ((standby 0x8000).intake.areaHi ++ (standby 0x8000).intake.areaLo).setWidth 16 ≠ 0#16 ∧
    (∀ h ∈ [{ header 8 0 with format := 0x0A25 }, header 7 0, header 65 0, header 8 10001],
      h.format ≠ 0x0A24 ∨ h.cells.toNat < 8 ∨ 64 < h.cells.toNat ∨ 10000 < h.sweepMs.toNat) ∧
    running.settled ∧ running.engine ≠ .standby ∧ (standby 0).engine ≠ .running :=
  ⟨settled_of_still _ (by decide), by decide, by decide, settled_of_still _ (by decide), by decide, by decide⟩

/-- A sweep under way at cell 2 with some visits left. -/
def sweeping (left : Nat) : State :=
  { running with intake := { running.intake with sweep := some { position := 2, left := left, backlogSeen := false }, pointer := 2 } }

def withWriter (s : State) (w : WriterState) : State := { s with writer := { s.writer with state := w } }

theorem test_witness_Nudge :
    (running.engine ≠ .off ∧ running.settled ∧ running.intake.areaLegal ∧ running.sweepArea = some anArea ∧ running.intake.sweep = none) ∧
    ((sweeping 1).engine ≠ .off ∧ (sweeping 1).settled ∧ (sweeping 1).intake.areaLegal ∧ (sweeping 1).sweepArea ≠ none ∧
      (sweeping 1).intake.sweep = some { position := 2, left := 1, backlogSeen := false }) ∧
    ((standby 0).settled ∧ (standby 0).sweepArea = none ∧ (standby 0).writer.state = .inactive) ∧
    (withWriter running .awaitRoll).settled ∧ (withWriter running .taking).settled :=
  ⟨⟨by decide, settled_of_still _ (by decide), areaLegal_of _ (by decide), by decide, by decide⟩,
   ⟨by decide, settled_of_left _ _ ⟨rfl, by decide, by decide⟩, areaLegal_of _ (by decide), by decide, by decide⟩,
   ⟨settled_of_still _ (by decide), by decide, by decide⟩, settled_of_still _ (by decide), settled_of_still _ (by decide)⟩

def withSweepTimer (s : State) (clock : BitVec 32) : State :=
  { s with clock := clock, intake := { s.intake with sweepTimer := some ⟨0xFFFFFFFF, 100⟩ } }

/-- The timer's start lies before the clock's wrap, and it is due 100 ms after. -/
theorem test_witness_SweepTimer :
    (withSweepTimer running 98).settled ∧ (withSweepTimer running 98).intake.areaLegal ∧
    (⟨0xFFFFFFFF, 100⟩ : Timer).due (withSweepTimer running 98).clock = false ∧
    (⟨0xFFFFFFFF, 100⟩ : Timer).due (withSweepTimer running 99).clock = true ∧
    (withSweepTimer running 99).intake.sweepTimer = some ⟨0xFFFFFFFF, 100⟩ ∧
    (withSweepTimer (sweeping 1) 99).settled ∧ (withSweepTimer (sweeping 1) 99).sweepArea ≠ none :=
  ⟨settled_of_still _ (by decide), areaLegal_of _ (by decide), by decide, by decide, by decide,
   settled_of_left _ _ ⟨rfl, by decide, by decide⟩, by decide⟩

theorem test_witness_Registers :
    running.engine ≠ .off ∧ running.settled ∧ (0 : BitVec 32) ≠ 1 ∧ (0 : BitVec 32) ≠ 2 ∧ (0 : BitVec 32) ≠ 3 ∧
    (0x1C : BitVec 32) ∉ registerOffsets ∧ (0x17 : BitVec 32) ∉ registerOffsets :=
  ⟨by decide, settled_of_still _ (by decide), by decide, by decide, by decide, by decide, by decide⟩

def fullTable (s : State) : State :=
  { s with intake := { s.intake with table := (List.range 32).map fun n =>
      { order .slotQuery 0 [] with cell := n + 8, condition := .withOwner } } }

theorem test_witness_StateRegister : (withFullQueue (fullTable running)).bounded := by
  unfold State.bounded; decide +kernel

/-! ## Witnesses: resets, power, tamper, load -/

theorem test_witness_Reset :
    running.engine ≠ .off ∧ (∀ m ∈ [MemoryStart.mk 0 0x55, ⟨1, 0⟩, ⟨0xFE, 0⟩], m.status ≠ 0xFF) ∧
    (MemoryStart.mk 0 0x55).status.getLsbD 0 = false ∧ (MemoryStart.mk 1 0).status.getLsbD 0 = true ∧ running.ks.latch = false ∧
    { running.ks with latch := true }.latch = true := by decide

/-- Persistent slots in each state of R44's table, at the ends of the range. -/
def mixedSlots : State :=
  withSlot (withSlot (withSlot (withSlot (withSlot running 47 (readySlot aDefinition)) 0 { orphaned with state := .draining }) 46
    { Slot.blank 2 .zeros with state := .assembling, definition := some aDefinition }) 1
    { readySlot aDefinition with state := .writing, target := some .ready, committed := some 5 }) 2
    { readySlot aDefinition with state := .writing, target := some .empty }

theorem test_witness_ResetOfSlots :
    (∀ i ∈ [(47, SlotState.ready), (0, .draining), (3, .empty), (46, .assembling)],
      i.1 < 48 ∧ (mixedSlots.slot (Fin.ofNat 64 i.1)).state = i.2) ∧
    ((mixedSlots.slot 1).state = .writing ∧ (mixedSlots.slot 1).target ≠ some .empty) ∧
    ((mixedSlots.slot 2).state = .writing ∧ (mixedSlots.slot 2).target = some .empty) ∧ 48 ≤ (48 : SlotId).val ∧
    mixedSlots.engine ≠ .off := by decide +kernel

theorem test_witness_Power :
    running.engine ≠ .off ∧ mixedSlots.ks.closure = none ∧ (MemoryStart.mk 0 0).status ≠ 0xFF := by decide

theorem test_witness_Tamper :
    (running.engine ≠ .off ∧ running.ks.latch = false ∧ running.engine ≠ .loading ∧ (fullTable running).intake.area.isSome = true) ∧
    State.reset.engine = .loading ∧ State.reset.ks.latch = false := by decide

/-- The area in use with the sweep timer stopped or running, and with SWEEP_MS 0. -/
theorem test_witness_Tamper_sweepTimer :
    (running.intake.area = some anArea ∧ running.intake.sweepTimer = none ∧ anArea.sweepMs ≠ 0 ∧ { anArea with sweepMs := 0 }.sweepMs = 0) ∧
    (withSweepTimer running 98).intake.sweepTimer = some ⟨0xFFFFFFFF, 100⟩ ∧ (withSweepTimer running 98).intake.area = some anArea := by
  decide

def unpowered (latch : Bool) : State :=
  { State.reset with engine := .off, ks := { KeyStore.reset with latch := latch } }

def overwriting (p : Fin 48) : State := { running with engine := .tampered, ks := { running.ks with latch := true, overwrite := some p } }

theorem test_witness_TamperByPower :
    ((unpowered false).engine = .off ∧ (unpowered false).ks.latch = false) ∧ running.engine ≠ .off ∧ (unpowered true).ks.latch = true ∧
    ∀ p ∈ [(0 : Fin 48), 47], (overwriting p).engine ≠ .off ∧ (overwriting p).ks.overwrite = some p := by decide +kernel

def loadingAt (clock : BitVec 32) : State := { State.reset with clock := clock }

def inGroup (g : Fin 4) (control : BitVec 16) : State :=
  { State.reset with prof := { ProfileStore.reset with control := control, load := some (.group g) } }

/-- The records of a group, all good, and an area of them with a check. -/
def goodRecords (g : Fin 4) : List Byte :=
  if g.val < 2 then (List.replicate 8 Profile.default.bytes).flatten else zeroBytes 128

theorem goodRecords_length (g : Fin 4) : (goodRecords g).length = 128 := by revert g; decide +kernel

def areaOf (g : Fin 4) (check : Nat) : Vector Byte 130 :=
  ⟨(goodRecords g ++ toLE 2 check).toArray, by simp [goodRecords_length, toLE]⟩

theorem field_areaOf (g : Fin 4) (check : Nat) : field (areaOf g check).toList 0 128 = goodRecords g := by
  show ((goodRecords g ++ toLE 2 check).drop 0).take 128 = _
  rw [List.drop_zero, List.take_left' (goodRecords_length g)]

theorem numberAt_areaOf (g : Fin 4) (check : Nat) : numberAt (areaOf g check).toList 128 2 = check % 65536 := by
  show ofLE (((goodRecords g ++ toLE 2 check).drop 128).take 2) = _
  rw [List.drop_left' (goodRecords_length g)]
  simp [toLE, ofLE, byteOf]
  omega

theorem test_witness_LoadStart :
    (State.reset.engine = .loading ∧ State.reset.prof.load = some (.waiting ⟨0, 100⟩) ∧ State.reset.settled) ∧
    ((⟨0, 100⟩ : Timer).due (loadingAt 99).clock = false ∧ (⟨0, 100⟩ : Timer).due (loadingAt 100).clock = true) ∧
    (loadingAt 100).settled ∧ (loadingAt 100).prof.load = some (.waiting ⟨0, 100⟩) :=
  ⟨⟨by decide, by decide, settled_of_still _ (by decide)⟩, by decide, settled_of_still _ (by decide), by decide⟩

theorem test_witness_GroupArea :
    (∀ g : Fin 4, (inGroup g 0x55).engine = .loading ∧ (inGroup g 0x55).prof.load = some (.group g) ∧
      (inGroup g 0x55).prof.control.toNat / 4 ^ g.val % 4 = 1 ∧ (inGroup g 0xAA).prof.control.toNat / 4 ^ g.val % 4 ≠ 1) ∧
    ∀ g : Fin 4,
      numberAt (areaOf g (crc (goodRecords g)).toNat).toList 128 2 =
        (crc (field (areaOf g (crc (goodRecords g)).toNat).toList 0 128)).toNat ∧
      numberAt (areaOf g ((crc (goodRecords g)).toNat + 1)).toList 128 2 ≠
        (crc (field (areaOf g ((crc (goodRecords g)).toNat + 1)).toList 0 128)).toNat := by
  refine ⟨by decide +kernel, fun g => ⟨?_, ?_⟩⟩ <;> rw [numberAt_areaOf, field_areaOf] <;>
    have := (crc (goodRecords g)).isLt <;> omega

/-- At the end of the load one bay's input is high, the others' are low. -/
theorem test_witness_LoadEnd :
    ((withBay (loadingAt 100) 7 (Bay.reset true)).bay 7).link.input = true ∧
    ((withBay (loadingAt 100) 7 (Bay.reset true)).bay 0).link.input = false ∧
    (withBay (loadingAt 100) 7 (Bay.reset true)).engine = .loading := by decide

/-- Good records are accepted, whatever the check is. -/
theorem test_witness_GroupRecords : ∀ g : Fin 4, groupRecords? g (areaOf g 0).toList ≠ none := by decide +kernel

/-! ## Witnesses: the tray -/

/-- A cell's bytes: OWNER, KIND, one FLAGS byte. -/
def cellBytes (owner kind flags : Byte) : Vector Byte 80 := (((Vector.replicate 80 0).set 0 owner).set 1 kind).set 8 flags

theorem test_witness_Visit :
    ((sweeping 8).engine ≠ .off ∧ (sweeping 8).intake.area = some anArea ∧
      (sweeping 8).intake.sweep = some { position := 2, left := 8, backlogSeen := false } ∧ (sweeping 8).visitDone = true ∧
      (∀ e ∈ (sweeping 8).intake.table, e.cell ≠ 2) ∧ (sweeping 8).intake.table.length < 32 ∧ (sweeping 8).engine ≠ .tampered) ∧
    ({ sweeping 1 with engine := .tampered }.visitDone = true ∧ { sweeping 1 with engine := .tampered }.engine = .tampered) ∧
    (∀ k ∈ [(0x00 : Byte), 0x0F], (cellBytes 1 k 0)[0] = 0x01 ∧
      ((cellBytes 1 k 0)[1].toNat = 0 ∨ 14 < (cellBytes 1 k 0)[1].toNat)) ∧
    ∀ k ∈ [(0x01 : Byte), 0x0E], 1 ≤ (cellBytes 1 k 0)[1].toNat ∧ (cellBytes 1 k 0)[1].toNat ≤ 14 := by decide

/-- FORCE at SLOT_ERASE and PERSIST at PROFILE_WRITE are defined; PERSIST at SLOT_ERASE is not. -/
theorem test_witness_Visit_flags :
    (entryOf 2 (cellBytes 1 3 1).toList).intakeRefusal = none ∧ (entryOf 2 (cellBytes 1 0x0C 2).toList).intakeRefusal = none ∧
    (entryOf 2 (cellBytes 1 3 2).toList).intakeRefusal = some .refusedField ∧
    (entryOf 2 (cellBytes 1 8 1).toList).intakeRefusal = some .refusedField := by decide +kernel

def sweepingFull (left : Nat) : State := { fullTable (sweeping left) with engine := .running }

def inTable (s : State) (cell : Nat) : State :=
  { s with intake := { s.intake with table := [{ order .bayQuery 0 [] with cell := cell, condition := .withOwner }] } }

theorem test_witness_OtherVisits :
    ((inTable (sweeping 2) 2).visitDone = true ∧ (inTable (sweeping 2) 2).intake.table.any (fun e => decide (e.cell = 2)) = true ∧
      (inTable (sweeping 2) 2).intake.sweep = some { position := 2, left := 2, backlogSeen := false }) ∧
    (cellBytes 0 0 0)[0] ≠ 0x01 ∧ (cellBytes 2 0 0)[0] ≠ 0x01 ∧
    ((sweepingFull 2).visitDone = true ∧ (∀ e ∈ (sweepingFull 2).intake.table, e.cell ≠ 2) ∧ 32 ≤ (sweepingFull 2).intake.table.length) ∧
    (sweeping 1).intake.sweep = some { position := 2, left := 1, backlogSeen := false } ∧ (sweeping 1).intake.sweepAgain = false := by
  decide +kernel

/-- An answer at take, and one more in the answer list; the backlog mark is set. -/
def answering : State :=
  { inTable running 3 with
    intake := { (inTable running 3).intake with atTake := some ⟨3, .ok, [1, 2]⟩, answers := [⟨5, .halted, []⟩], backlog := true } }

def listed : State := { answering with intake := { answering.intake with atTake := none } }

theorem test_witness_OwnerCheck :
    answering.engine ≠ .off ∧ answering.intake.areaLegal ∧ answering.intake.area = some anArea ∧
    answering.intake.atTake = some ⟨3, .ok, [1, 2]⟩ ∧ listed.intake.areaLegal ∧
    (listed.intake.atTake = none ∧ listed.intake.answers.head? = some ⟨5, .halted, []⟩) ∧
    (answering.intake.backlog = true ∧ answering.engine = .running ∧ answering.intake.sweep = none) :=
  ⟨by decide, areaLegal_of _ (by decide), by decide, by decide, areaLegal_of _ (by decide), by decide, by decide⟩

def aRoll (written : Nat) : Roll := { base := 0x80000, capacity := 16, written := written, sequence := 3 }

/-- WRITING with one receipt and a roll. -/
def writing (written : Nat) : State :=
  { running with writer := { running.writer with state := .writing, queue := [aReceipt], roll := some (aRoll written) } }

theorem test_witness_AreaFault :
    (sweeping 1).accessPossible .sweep = true ∧ answering.accessPossible .answer = true ∧
    (withWriter running .taking).accessPossible .takeAttempt = true ∧ (writing 15).accessPossible .receiptRecord = true ∧
    (writing 0).accessPossible .rollWritten = true ∧ { writing 0 with engine := .stopping }.accessPossible .rollWritten = true ∧
    { answering with engine := .tampered }.accessPossible .answer = true ∧
    (withSlot answering 63 { orphaned with state := .draining }).accessPossible .answer = true ∧
    ((withSlot answering 63 { orphaned with state := .draining }).slot 63).state = .draining ∧
    { withOrderOf running .slotQuery 0 [] with writer := (withWriter running .taking).writer }.validating = some (order .slotQuery 0 []) ∧
    { withOrderOf running .slotQuery 0 [] with writer := (withWriter running .taking).writer }.accessPossible .takeAttempt = true := by
  decide +kernel

/-! ## Witnesses: orders of the key store -/

def baseParams : List Byte := [63, 1, 2, 255, 1, 0, 0, 0, 10, 0, 0, 0, 1, 2, 3, 4, 5]

theorem test_witness_OrderFields :
    definition? baseParams = some (63, aDefinition) ∧
    definition? [0, 2, 3, 8, 0] = some (0, { cls := .transport, bayMask := 8, components := 3 }) := by decide +kernel

/-- The order is in hand and the key store takes orders. -/
abbrev StoreInHand (s : State) (kind : OrderKind) (e : Entry) : Prop :=
  s.engine ≠ .off ∧ s.ks.overwrite = none ∧ s.inHand kind = some e

def defining (s : State) : State := withOrderOf s .slotDefine 0 baseParams

theorem test_witness_SlotDefine :
    (StoreInHand (withOrderOf running .slotDefine 0 [64]) .slotDefine (order .slotDefine 0 [64]) ∧ definition? [64] = none) ∧
    (StoreInHand (defining running) .slotDefine (order .slotDefine 0 baseParams) ∧ ((defining running).slot 63).state = .empty ∧
      ∀ j : SlotId, j ≠ 63 → ((defining running).slot j).isBase = true → ((defining running).slot j).ksi ≠ 0x0102030405) ∧
    (((defining (withSlot running 5 (readySlot aDefinition))).slot 5).isBase = true ∧
      ((defining (withSlot running 5 (readySlot aDefinition))).slot 5).ksi = 0x0102030405) ∧
    (((defining (withSlot running 63 (readySlot transportDefinition))).slot 63).state ≠ .empty ∧
      ∀ j : SlotId, j ≠ 63 → ((defining (withSlot running 63 (readySlot transportDefinition))).slot j).isBase = true →
        ((defining (withSlot running 63 (readySlot transportDefinition))).slot j).ksi ≠ 0x0102030405) := by decide +kernel

/-- A field out of range is refused, and a good one waits, while the key array is being overwritten. -/
theorem test_witness_StoreOrders_overwriting :
    ∀ k ∈ [OrderKind.slotDefine, .slotQuery, .slotErase, .allowanceGrant, .claimsSettle],
      (withOrderOf (overwriting 47) k 0 [64]).engine ≠ .off ∧ (withOrderOf (overwriting 47) k 0 [64]).ks.overwrite = some 47 ∧
      (withOrderOf (overwriting 47) k 0 [64]).inHand k = some (order k 0 [64]) ∧ 63 < byteAt [64] 0 := by decide +kernel

theorem test_witness_SlotQuery :
    (∀ n ∈ [(63 : Byte), 64], StoreInHand (withOrderOf running .slotQuery 0 [n]) .slotQuery (order .slotQuery 0 [n])) ∧
    63 < byteAt [64] 0 ∧ (63 : SlotId).val = byteAt [63] 0 ∧ (Slot.blank 0 .zeros).sameButKeys (Slot.blank 0 (.key 7)) := by
  refine ⟨by decide +kernel, by decide, by decide, rfl⟩

def erasing (x : Slot) (i : SlotId) (flags : BitVec 16) : State :=
  withOrderOf (withSlot running i x) .slotErase flags [byteOf i.val]

theorem test_witness_SlotErase_refused :
    StoreInHand (withOrderOf running .slotErase 0 [64]) .slotErase (order .slotErase 0 [64]) ∧
    (StoreInHand (erasing (Slot.blank 0 .zeros) 5 0) .slotErase (order .slotErase 0 [5]) ∧
      ((erasing (Slot.blank 0 .zeros) 5 0).slot 5).definition = none) ∧
    (∀ x ∈ [SlotState.assembling, .writing, .draining],
      StoreInHand (erasing { orphaned with state := x } 5 1) .slotErase (order .slotErase 1 [5])) ∧
    (((erasing orphaned 5 0).slot 5).hasOrphan = true ∧ (order .slotErase 0 [5]).flags.getLsbD 0 = false) := by decide +kernel

theorem test_witness_SlotErase :
    (StoreInHand (erasing { Slot.blank 0xFFFF .zeros with definition := some aDefinition } 63 0) .slotErase (order .slotErase 0 [63]) ∧
      ((erasing { Slot.blank 0xFFFF .zeros with definition := some aDefinition } 63 0).slot 63).state = .empty ∧
      ((erasing { Slot.blank 0xFFFF .zeros with definition := some aDefinition } 63 0).slot 63).definition ≠ none) ∧
    (∀ i ∈ [(47 : SlotId), 48], ∀ x ∈ [{ readySlot aDefinition with holds := 1 }, orphaned, readySlot aDefinition],
      StoreInHand (erasing x i 1) .slotErase (order .slotErase 1 [byteOf i.val]) ∧ ((erasing x i 1).slot i).state = .ready ∧
      ((erasing x i 1).slot i).settle = none ∧ (order .slotErase 1 [byteOf i.val]).flags.getLsbD 0 = true) ∧
    ((erasing { readySlot aDefinition with holds := 1 } 47 1).slot 47).holds ≠ 0 ∧
    (∃ c ∈ ((erasing orphaned 47 1).slot 47).claims, c.orphan = false) ∧
    (((erasing (readySlot aDefinition) 48 0).slot 48).holds = 0 ∧
      ∀ c ∈ ((erasing (readySlot aDefinition) 48 0).slot 48).claims, c.orphan = true) ∧
    ∀ c ∈ ((erasing { orphaned with claims := [⟨2, 1, true⟩] } 47 1).slot 47).claims, c.orphan = true := by
  decide +kernel

def grantParams (amount : Nat) : List Byte := [5, 0, 0, 0] ++ toLE 4 amount

def granting (x : Slot) (amount : Nat) : State := withOrderOf (withSlot running 5 x) .allowanceGrant 0 (grantParams amount)

def anApproval : Approval := { slot := 5, amount := 100, keyholders := [1, 2], generation := 4, window := ⟨0, 120000⟩ }

theorem test_witness_AllowanceGrant_within :
    (∀ n ∈ [0, 1, 10, 11, 65536, 65537],
      StoreInHand (granting (readySlot aDefinition) n) .allowanceGrant (order .allowanceGrant 0 (grantParams n))) ∧
    numberAt (grantParams 0) 4 4 = 0 ∧ 65536 < numberAt (grantParams 65537) 4 4 ∧
    (1 ≤ numberAt (grantParams 65536) 4 4 ∧ numberAt (grantParams 65536) 4 4 ≤ 65536) ∧
    ((granting (readySlot transportDefinition) 1).slot 5).isTransport = true ∧
    (((granting (Slot.blank 0 .zeros) 1).slot 5).isTransport = false ∧ ((granting (Slot.blank 0 .zeros) 1).slot 5).state ≠ .ready) ∧
    (((granting (readySlot aDefinition) 10).slot 5).isTransport = false ∧ ((granting (readySlot aDefinition) 10).slot 5).state = .ready ∧
      numberAt (grantParams 10) 4 4 ≤ ((granting (readySlot aDefinition) 10).slot 5).freeLimit) := by decide +kernel

theorem test_witness_AllowanceGrant_above :
    ((granting (readySlot aDefinition) 11).slot 5).freeLimit < numberAt (grantParams 11) 4 4 ∧
    (granting (readySlot aDefinition) 11).ceu.record = .empty ∧
    (withRecord (granting (readySlot aDefinition) 11) (.approval anApproval)).ceu.record ≠ .empty ∧
    StoreInHand (withRecord (granting (readySlot aDefinition) 11) (.approval anApproval)) .allowanceGrant
      (order .allowanceGrant 0 (grantParams 11)) := by decide +kernel

def settling (x : Slot) : State := withOrderOf (withSlot running 5 x) .claimsSettle 0 [5]

theorem test_witness_ClaimsSettle :
    (∀ x ∈ [orphaned, readySlot aDefinition, { orphaned with state := .draining }],
      (settling x).engine = .running ∧ StoreInHand (settling x) .claimsSettle (order .claimsSettle 0 [5])) ∧
    ((settling orphaned).slot 5).hasOrphan = true ∧ ((settling (readySlot aDefinition)).slot 5).hasOrphan = false ∧
    ((settling orphaned).slot 5).settle = none ∧
    { (settling orphaned) with writer := { running.writer with queue := List.replicate 14 aReceipt } }.writer.queue.length +
      (((settling orphaned).slot 5).claims.filter (·.orphan)).length = 16 ∧
    ((withFullQueue (settling orphaned)).writer.queue.length = 16 ∧ (withFullQueue (settling orphaned)).intake.area ≠ none) := by
  decide +kernel

/-! ## Witnesses: requests at the key store -/

def anItem (i : SlotId) (k : Delivery) : Item := { base := i, register := 2, delivery := k, condition := .always, label := 0x55 }

def aRecord (i : SlotId) (k : Delivery) : ItemRecord :=
  { item := anItem i k, applies := true, claim := none, wrapGeneration := none, stage := .waiting }

def aPlan : Plan :=
  { bay := 3, rate := .r115200, probeTimeout := 100, override := none, repeats := 1, stopOnVoid := false, items := [anItem 5 .direct] }

def aRunning : RunningOrder := { order := 4, tag := 77, isRepeat := false, plan := aPlan }

/-- A bay at work in a session state, with two items. -/
def bayIn (state : SessionState) : Bay :=
  { Bay.reset true with
    running := some aRunning
    cache := some aPlan
    session := { Session.reset with state := state, attempted := 1, identity := some ⟨1, 2, 3, 4⟩, latched := some (0, Profile.default),
                                    records := [aRecord 5 .direct, aRecord 6 (.wrapped 7)], current := some 0 } }

def readyItem (base : SlotId) (register : Fin 8) : ItemRecord :=
  { item := { anItem base .direct with register := register }, applies := true,
    claim := some { slot := base, generation := 4, serial := 1, ksn := 0x0102030405000001 }, wrapGeneration := none, stage := .prepared }

def busyCipher (s : State) : State :=
  { s with cipher := { running := some { request := { requester := .component, op := .checkval 5 }, working := none }, waiting := [] } }

/-- A claim of bay 3 on slot 5 is the oldest request. -/
def asking (x : Slot) : State := withRequests (withBay (withSlot (busyCipher running) 5 x) 3 (bayIn .claiming)) [.claim 3 5, .release 1]

theorem test_witness_ClaimRequest :
    ((asking (readySlot aDefinition)).engine ≠ .off ∧ (asking (readySlot aDefinition)).ks.overwrite = none ∧
      (asking (readySlot aDefinition)).ks.requests.head? = some (.claim 3 5)) ∧
    ((asking { readySlot aDefinition with state := .draining }).slot 5).state ≠ .ready ∧
    ((asking (readySlot { aDefinition with bayMask := 0xF7 })).slot 5).admits 3 = false ∧
    (∃ c ∈ ((asking orphaned).slot 5).claims, c.bay = 3 ∧ c.orphan = true) ∧
    ((∃ c ∈ ((asking { orphaned with claims := [⟨3, 2, false⟩] }).slot 5).claims, c.bay = 3) ∧
      ∀ c ∈ ((asking { orphaned with claims := [⟨3, 2, false⟩] }).slot 5).claims, c.bay = 3 → c.orphan = false) ∧
    1048576 ≤ ((asking { readySlot aDefinition with nextSerial := 1048576 }).slot 5).nextSerial ∧
    (((asking { readySlot aDefinition with nextSerial := 1048575, allowance := 0 }).slot 5).nextSerial < 1048576 ∧
      ((asking { readySlot aDefinition with nextSerial := 1048575, allowance := 0 }).slot 5).allowance = 0) ∧
    ((asking (readySlot aDefinition)).bay 3).running = some aRunning ∧
    ((asking (readySlot aDefinition)).session 3).reason = none ∧ ((asking (readySlot aDefinition)).session 3).hasClaim = false := by
  decide +kernel

theorem test_witness_ClaimGranted :
    ∀ x ∈ [readySlot aDefinition, { readySlot aDefinition with nextSerial := 1048575, allowance := 1 }],
      ((asking x).slot 5).state = .ready ∧ ((asking x).slot 5).isBase = true ∧ ((asking x).slot 5).admits 3 = true ∧
      (∀ c ∈ ((asking x).slot 5).claims, c.bay ≠ 3) ∧ ((asking x).slot 5).nextSerial < 1048576 ∧ 0 < ((asking x).slot 5).allowance ∧
      ((asking x).session 3).reason = none ∧ (asking x).cipher.running ≠ none ∧ ((asking x).session 3).current = some 0 ∧
      ((asking x).session 3).records[0]? = some (aRecord 5 .direct) := by decide +kernel

def wrapping (x : Slot) : State := withRequests (withBay (withSlot (busyCipher running) 7 x) 3 (bayIn .claiming)) [.wrapUse 3 7]

theorem test_witness_WrapUse :
    ((wrapping (readySlot transportDefinition)).engine ≠ .off ∧ (wrapping (readySlot transportDefinition)).ks.overwrite = none ∧
      (wrapping (readySlot transportDefinition)).ks.requests.head? = some (.wrapUse 3 7)) ∧
    (((wrapping (readySlot transportDefinition)).slot 7).isTransport = true ∧ ((wrapping (readySlot transportDefinition)).slot 7).admits 3 = true) ∧
    (((wrapping { readySlot transportDefinition with state := .draining, holds := 8 }).slot 7).heldBy 3 = true ∧
      ((wrapping { readySlot transportDefinition with state := .draining, holds := 8 }).slot 7).state = .draining) ∧
    (((wrapping (readySlot { transportDefinition with bayMask := 0xF7 })).slot 7).admits 3 = false ∧
      ((wrapping (readySlot { transportDefinition with bayMask := 0xF7 })).slot 7).heldBy 3 = false) ∧
    (((wrapping { readySlot transportDefinition with state := .draining }).slot 7).state ≠ .ready ∧
      ((wrapping { readySlot transportDefinition with state := .draining }).slot 7).heldBy 3 = false) ∧
    (((wrapping (readySlot aDefinition)).slot 7).isTransport = false ∧ ((wrapping (readySlot aDefinition)).slot 7).heldBy 3 = false) ∧
    (((wrapping (readySlot transportDefinition)).session 3).records[1]? = some (aRecord 6 (.wrapped 7)) ∧
      (wrapping (readySlot transportDefinition)).cipher.running ≠ none) := by decide +kernel

/-- Both items of bay 3 hold claims: their receipts are due when a request is refused. -/
def refusedWith (n : Nat) : State :=
  let s := withBay running 3 { bayIn .claiming with
    session := { (bayIn .claiming).session with records := [readyItem 5 2, readyItem 6 3], current := some 1 } }
  withRequests { s with writer := { s.writer with state := .awaitRoll, queue := List.replicate n aReceipt } } [.wrapUse 3 7]

/-- With room for both receipts, for one, and for none. -/
theorem test_witness_ClaimRefused_claims :
    (∀ n ∈ [14, 15, 16], ((refusedWith n).bay 3).running = some aRunning ∧ ((refusedWith n).session 3).reason = none ∧
      ((refusedWith n).session 3).hasClaim = true ∧ (refusedWith n).writer.queue.length = n ∧
      (((refusedWith n).session 3).receipts 3 aRunning.tag (.void .claimRefused) ((refusedWith n).bay 3).buffer).length = 2 ∧
      (refusedWith n).ks.requests.head? = some (.wrapUse 3 7) ∧ ((refusedWith n).slot 7).state ≠ .ready ∧
      ((refusedWith n).bay 3).held = none) ∧
    ((wrapping (readySlot transportDefinition)).session 3).hasClaim = false ∧
    (aRecord 6 (.wrapped 7)).need = some (.claim 6) ∧ { readyItem 6 3 with item := anItem 6 (.wrapped 7) }.need = some (.wrap 7) := by
  decide +kernel

/-- The records of a first claim granted to a DIRECT item, with a second item that is to claim, to use its transport slot, or not at
all. -/
def afterGrant (second : List ItemRecord) : List ItemRecord :=
  [{ readyItem 5 2 with stage := .claimed }] ++ second

/-- Every case of what CLAIMING does next, the cipher unit at work or idle with the key given. -/
theorem test_witness_Claiming_goes_on :
    ({ readyItem 5 2 with stage := .claimed }.needsNothing ∧ { aRecord 6 .direct with applies := false }.needsNothing) ∧
    ((aRecord 6 (.wrapped 7)).needsClaim ∧ { readyItem 6 3 with item := anItem 6 (.wrapped 7) }.needsWrap 7) ∧
    ((asking (readySlot aDefinition)).session 3).records.set 0 { readyItem 5 2 with stage := .claimed } =
      afterGrant [aRecord 6 (.wrapped 7)] ∧
    (∀ y ∈ afterGrant [{ aRecord 6 .direct with applies := false }], y.needsNothing) ∧
    (asking (readySlot aDefinition)).cipher.running ≠ none ∧ ((asking (readySlot aDefinition)).session 3).gone = false ∧
    (running.cipher.running = none ∧ running.cipher.waiting = [] ∧ (readySlot aDefinition).keyFor 4 false = some 9) := by
  simp only [ItemRecord.needsNothing, ItemRecord.needsClaim, ItemRecord.needsWrap]
  decide +kernel

/-- A bay in CLAIMING under a reason fixed by a drop, a halt or a stop notice, with its claims granted or none. -/
def claimingUnder (ending : Ending) (records : List ItemRecord) : Bay :=
  { bayIn .claiming with
    session := { (bayIn .claiming).session with
      records := records, ending := ending, gone := decide (ending = .none), deferral := true,
      reason := some (match ending with | .none => .terminalLost | .halted => .halted | .engineStopped => .engineStopped) } }

theorem test_witness_Claiming_ended :
    ∀ e ∈ [Ending.none, .halted, .engineStopped], ∀ l ∈ [[aRecord 5 .direct], [readyItem 5 2, readyItem 6 3]],
      let x := claimingUnder e l
      x.running = some aRunning ∧ x.session.reason ≠ none ∧ x.session.refusal = none ∧ x.session.ending = e ∧
      (e = .none → x.session.gone = true) ∧ (x.session.hasClaim = true ↔ l.length = 2) ∧
      ∀ v, x.session.reason = some v → (x.session.receipts 3 aRunning.tag (.void v) x.buffer).length = if l.length = 2 then 2 else 0 := by
  decide +kernel

def withdrawing (deferred : Option SlotId) : State :=
  let s := withRequests (withBay running 3 (bayIn .claiming)) [.withdraw 3]
  { s with ks := { s.ks with deferred := s.ks.deferred.set 3 deferred } }

def releasing : State :=
  withRequests (withSlot (withSlot (withSlot (withSlot running 47 { readySlot aDefinition with state := .draining, holds := 8 }) 48
    { readySlot aDefinition with state := .draining, holds := 8 }) 7 { readySlot aDefinition with holds := 9 }) 8
    { readySlot aDefinition with state := .draining, holds := 9 }) [.release 3]

theorem test_witness_Withdrawal_Release :
    (∀ d ∈ [none, some (5 : SlotId)], (withdrawing d).engine ≠ .off ∧ (withdrawing d).ks.overwrite = none ∧
      (withdrawing d).ks.requests.head? = some (.withdraw 3) ∧ (withdrawing d).ks.deferred[(3 : BayId)] = d) ∧
    (releasing.engine ≠ .off ∧ releasing.ks.overwrite = none ∧ releasing.ks.requests.head? = some (.release 3)) ∧
    (releasing.slot 7).state ≠ .draining ∧ ((releasing.slot 8).state = .draining ∧ (releasing.slot 8).holds &&& ~~~(1#8 <<< 3) ≠ 0) ∧
    (∀ i ∈ [(47 : SlotId), 48], (releasing.slot i).state = .draining ∧ (releasing.slot i).heldBy 3 = true ∧
      (releasing.slot i).holds &&& ~~~(1#8 <<< 3) = 0 ∧ ∀ c ∈ (releasing.slot i).claims, c.orphan = true) := by decide +kernel

def closing (x : Slot) (c : Closure) : State :=
  let s := withRequests (withSlot running 5 x) [.closure]
  { s with ks := { s.ks with closure := some c } }

def twoClaims : Slot := { readySlot aDefinition with claims := [⟨2, 7, false⟩, ⟨3, 1, true⟩], nextSerial := 3 }

theorem test_witness_Closure :
    (∀ c ∈ [Closure.mk 5 4 3 1, ⟨5, 3, 3, 1⟩, ⟨5, 4, 2, 1⟩], (closing twoClaims c).engine ≠ .off ∧ (closing twoClaims c).ks.overwrite = none ∧
      (closing twoClaims c).ks.requests.head? = some .closure ∧ (closing twoClaims c).ks.closure = some c) ∧
    ((closing twoClaims ⟨5, 3, 3, 1⟩).slot 5).generation ≠ 3 ∧
    (∀ d ∈ ((closing twoClaims ⟨5, 4, 2, 1⟩).slot 5).claims, ¬(d.bay = 2 ∧ d.serial = 1)) ∧
    (((closing twoClaims ⟨5, 4, 3, 1⟩).slot 5).generation = 4 ∧
      ((closing twoClaims ⟨5, 4, 3, 1⟩).slot 5).claims = [⟨2, 7, false⟩] ++ ⟨3, 1, true⟩ :: [] ∧
      (∀ e ∈ [Claim.mk 2 7 false], ¬(e.bay = 3 ∧ e.serial = 1)) ∧ (closing twoClaims ⟨5, 4, 3, 1⟩).ks.deferred[(3 : BayId)] ≠ some 5 ∧
      ((closing twoClaims ⟨5, 4, 3, 1⟩).slot 5).state = .ready ∧ ((closing twoClaims ⟨5, 4, 3, 1⟩).slot 5).settle = none) := by
  decide +kernel

def settlingSlot (remaining : List Claim) : Slot :=
  { twoClaims with settle := some { order := some 4, tag := 7, remaining := remaining, unclosed := [⟨3, 1, true⟩], entered := 1 } }

/-- The same with bay 3's claim deferred on the slot. -/
def closingDeferred (x : Slot) (c : Closure) : State :=
  let s := withBay (closing x c) 3 { bayIn .claiming with session := { (bayIn .claiming).session with deferral := true } }
  { s with ks := { s.ks with deferred := s.ks.deferred.set 3 (some 5) } }

/-- One claim of bay 3 open, so that its closure leaves none. -/
def oneClaim : Slot := { readySlot aDefinition with claims := [⟨3, 1, false⟩], nextSerial := 2 }

theorem test_witness_Closure_drain :
    (∀ i ∈ [(47 : SlotId), 48], ((withSlot (closing oneClaim ⟨i, 4, 3, 1⟩) i { oneClaim with state := .draining }).slot i).state = .draining ∧
      ((withSlot (closing oneClaim ⟨i, 4, 3, 1⟩) i { oneClaim with state := .draining }).slot i).holds = 0 ∧
      ((withSlot (closing oneClaim ⟨i, 4, 3, 1⟩) i { oneClaim with state := .draining }).slot i).claims = [] ++ ⟨3, 1, false⟩ :: []) ∧
    ((closing { oneClaim with state := .draining, holds := 8 } ⟨5, 4, 3, 1⟩).slot 5).holds ≠ 0 ∧
    ∃ e ∈ ([⟨2, 7, false⟩] ++ [] : List Claim), e.orphan = false := by decide +kernel

theorem test_witness_Closure_settle :
    (∀ l ∈ [[], [Claim.mk 4 5 true]], ((closing (settlingSlot l) ⟨5, 4, 3, 1⟩).slot 5).state = .ready ∧
      ((closing (settlingSlot l) ⟨5, 4, 3, 1⟩).slot 5).settle =
        some { order := some 4, tag := 7, remaining := l, unclosed := [⟨3, 1, true⟩], entered := 1 } ∧
      (closing (settlingSlot l) ⟨5, 4, 3, 1⟩).settleWaits 5 = false ∧
      ([⟨3, 1, true⟩] : List Claim).filter (fun e => !(decide (e.bay = 3) && decide (e.serial = 1))) = []) ∧
    ([⟨3, 1, true⟩, ⟨2, 7, true⟩] : List Claim).filter (fun e => !(decide (e.bay = 3) && decide (e.serial = 1))) ≠ [] ∧
    running.engine ≠ .stopping := by decide +kernel

theorem test_witness_Closure_deferred :
    ((closingDeferred oneClaim ⟨5, 4, 3, 1⟩).ks.deferred[(3 : BayId)] = some 5 ∧ ((closingDeferred oneClaim ⟨5, 4, 3, 1⟩).slot 5).state = .ready ∧
      ((closingDeferred oneClaim ⟨5, 4, 3, 1⟩).slot 5).isBase = true ∧ ((closingDeferred oneClaim ⟨5, 4, 3, 1⟩).slot 5).admits 3 = true ∧
      ((closingDeferred oneClaim ⟨5, 4, 3, 1⟩).slot 5).nextSerial < 1048576 ∧ 0 < ((closingDeferred oneClaim ⟨5, 4, 3, 1⟩).slot 5).allowance ∧
      ((closingDeferred oneClaim ⟨5, 4, 3, 1⟩).slot 5).settle = none) ∧
    (((closingDeferred { oneClaim with state := .draining, holds := 1 } ⟨5, 4, 3, 1⟩).slot 5).state = .draining ∧
      ((closingDeferred { oneClaim with state := .draining, holds := 1 } ⟨5, 4, 3, 1⟩).slot 5).holds ≠ 0 ∧
      ((closingDeferred { oneClaim with state := .draining, holds := 1 } ⟨5, 4, 3, 1⟩).bay 3).running = some aRunning ∧
      ((closingDeferred { oneClaim with state := .draining, holds := 1 } ⟨5, 4, 3, 1⟩).session 3).hasClaim = false) := by
  decide +kernel

theorem test_witness_KeyGiven :
    (readySlot aDefinition).keyFor 4 false = some 9 ∧ (readySlot transportDefinition).keyFor 4 true = some 9 ∧
    { readySlot aDefinition with state := .draining }.keyFor 4 false = some 9 ∧ (readySlot aDefinition).keyFor 5 false = none ∧
    (readySlot aDefinition).keyFor 4 true = none := by decide

def arrayBusy (x : Slot) (queue : List SlotId) : State :=
  let s := withSlot running 5 x
  { s with ks := { s.ks with arrayWrite := some 5, writeQueue := queue } }

theorem test_witness_KeyArrayWrite :
    ∀ x ∈ [{ readySlot aDefinition with state := SlotState.writing, target := some .ready, committed := some 77 },
      { readySlot aDefinition with state := .writing, target := some .empty, eraseOrder := some 4, discarded := 2 }],
      ∀ q ∈ [[], [(9 : SlotId), 7]], (arrayBusy x q).engine ≠ .off ∧ (arrayBusy x q).ks.arrayWrite = some 5 ∧
        (arrayBusy x q).ks.writeQueue = q ∧ (arrayBusy x q).ks.overwrite = none ∧ ((arrayBusy x q).slot 5).target ≠ none := by
  decide +kernel

/-! ## Witnesses: ceremonies and consoles -/

def openBytes (slot count : Byte) (deadline : Nat) : List Byte :=
  [slot, count] ++ toLE 2 deadline ++ [0xAB, 0xCD, 0xEF, 0, 1, 0, 2, 0, 3, 0, 4, 0, 5, 0, 6, 0]

def definedSlot (components : Nat) : Slot :=
  { Slot.blank 4 .zeros with definition := some { aDefinition with components := components } }

def opening (x : Slot) (params : List Byte) : State := withOrderOf (withSlot running 5 x) .ceremonyOpen 0 params

def openFor (count deadline : Nat) : OpenParams :=
  { slot := 5, permitted := ([1, 2, 3, 4, 5, 6] : List CardId).take count, expected := 0xABCDEF, deadline := deadline }

theorem test_witness_CeremonyOpen :
    (∀ p ∈ [openBytes 64 2 30, openBytes 5 1 30, openBytes 5 7 30, openBytes 5 2 29, openBytes 5 2 901],
      StoreInHand (opening (definedSlot 2) p) .ceremonyOpen (order .ceremonyOpen 0 p) ∧ openParams? p = none) ∧
    (openParams? (openBytes 5 2 30) = some (openFor 2 30) ∧ openParams? (openBytes 5 6 900) = some (openFor 6 900)) ∧
    (withRecord (opening (definedSlot 2) (openBytes 5 2 30)) (.approval anApproval)).ceu.record ≠ .empty ∧
    ((opening (Slot.blank 0 .zeros) (openBytes 5 2 30)).slot 5).definition = none ∧
    ((opening (readySlot aDefinition) (openBytes 5 2 30)).slot 5).state ≠ .empty ∧
    (((opening (definedSlot 3) (openBytes 5 2 30)).slot 5).definition = some { aDefinition with components := 3 } ∧
      (openFor 2 30).permitted.length < 3) ∧
    (StoreInHand (opening (definedSlot 2) (openBytes 5 2 30)) .ceremonyOpen (order .ceremonyOpen 0 (openBytes 5 2 30)) ∧
      (opening (definedSlot 2) (openBytes 5 2 30)).ceu.record = .empty ∧ ((opening (definedSlot 2) (openBytes 5 2 30)).slot 5).state = .empty ∧
      2 ≤ (openFor 2 30).permitted.length) := by decide +kernel

def anAssembly : Assembly :=
  { order := 6, slot := 5, generation := 4, phase := .gathering, permitted := [1, 2], expected := 0, target := 2,
    deadline := some ⟨0, 30000⟩, contributors := [], accumulator := 0, rejects := 0 }

def aGrant : PendingGrant := { order := 9, slot := 5, amount := 100, generation := 4 }

/-- A ceremony holds the record; a component is in check and one more has arrived. -/
def inCeremony (r : Ceremony) : State :=
  let s := withConsole (withConsole (withRecord (withSlot running 5 { definedSlot 2 with state := .assembling }) r) 0
    { Console.reset with pending := true }) 1 { Console.reset with pending := true, card := some 2 }
  { s with ceu := { s.ceu with busy := true, inCheck := some ⟨0, 1, 1, 5, 6⟩, arrivals := [⟨1, 2, 2, 7, 8⟩] } }

/-- An approval holds the record and its grant is pending; console 1 holds a keyholder's card, console 2 another. -/
def inApproval (clock : BitVec 32) : State :=
  let s := withConsole (withConsole (withRecord (withSlot running 5 (readySlot aDefinition)) (.approval anApproval)) 1
    { Console.reset with card := some 2 }) 2 { Console.reset with card := some 3 }
  { s with clock := clock, ks := { s.ks with grant := some aGrant } }

def cancelling (s : State) (slot : Byte) : State := withOrderOf s .ceremonyCancel 0 [slot]

theorem test_witness_CeremonyCancel :
    (∀ n ∈ [(5 : Byte), 6, 63, 64], (cancelling running n).engine ≠ .off ∧
      (cancelling running n).inHand .ceremonyCancel = some (order .ceremonyCancel 0 [n])) ∧
    63 < byteAt [64] 0 ∧ (cancelling running 5).ceu.record = .empty ∧
    ((cancelling (inCeremony (.assembly anAssembly)) 5).inHand .ceremonyCancel = some (order .ceremonyCancel 0 [5]) ∧
      (cancelling (inCeremony (.assembly anAssembly)) 5).ceu.record = .assembly anAssembly ∧ anAssembly.slot ≠ 6 ∧
      anAssembly.phase ≠ .committing ∧ (cancelling (inCeremony (.assembly anAssembly)) 5).ceu.busy = true) ∧
    (cancelling (inCeremony (.assembly { anAssembly with phase := .committing })) 5).ceu.record =
      .assembly { anAssembly with phase := .committing } ∧
    ((cancelling (inApproval 0) 5).ceu.record = .approval anApproval ∧ anApproval.slot = 5 ∧ anApproval.slot ≠ 6 ∧
      (cancelling (inApproval 0) 5).ks.grant = some aGrant) := by decide +kernel

theorem test_witness_Deadline :
    { inCeremony (.assembly anAssembly) with clock := 30000 }.settled ∧ (⟨0, 30000⟩ : Timer).due 30000 = true ∧
    (⟨0, 30000⟩ : Timer).due 29999 = false ∧ (inCeremony (.assembly anAssembly)).ceu.record = .assembly anAssembly ∧
    anAssembly.deadline = some ⟨0, 30000⟩ ∧ anAssembly.phase = .gathering ∧
    (inCeremony (.assembly { anAssembly with phase := .finalCheck })).settled :=
  ⟨settled_of_still _ (by decide), by decide, by decide, by decide, by decide, by decide, settled_of_still _ (by decide)⟩

theorem test_witness_Approval :
    ((inApproval 0).engine ≠ .off ∧ (inApproval 0).engine ≠ .tampered ∧ (inApproval 0).ceu.record = .approval anApproval ∧
      (inApproval 0).ks.grant = some aGrant ∧ ((inApproval 0).console 1).card = some 2 ∧ (2 : CardId) ∈ anApproval.keyholders) ∧
    running.ceu.record = .empty ∧ ((inApproval 0).console 0).card = none ∧
    (((inApproval 0).console 2).card = some 3 ∧ (3 : CardId) ∉ anApproval.keyholders) ∧
    ((inApproval 120000).settled ∧ anApproval.window.due (inApproval 120000).clock = true ∧
      anApproval.window.due (inApproval 119999).clock = false) ∧
    (((inApproval 0).slot 5).state = .ready ∧ ((inApproval 0).slot 5).generation = aGrant.generation) :=
  ⟨by decide, by decide, by decide, by decide, ⟨settled_of_still _ (by decide), by decide, by decide⟩, by decide⟩

theorem test_witness_Card :
    running.engine ≠ .off ∧ running.settled ∧ running.engine ≠ .tampered ∧ (overwriting 0).engine = .tampered ∧ (overwriting 0).settled :=
  ⟨by decide, settled_of_still _ (by decide), by decide, by decide, settled_of_still _ (by decide)⟩

/-- An assembly in GATHERING, one contributor accepted, no check under way; console 1 holds card 2, console 2 holds card 1. -/
def gathering (s : State) : State :=
  withConsole (withConsole (withRecord (withSlot s 5 { definedSlot 2 with state := .assembling })
    (.assembly { anAssembly with contributors := [(1, 0)] })) 1 { Console.reset with card := some 2 }) 2 { Console.reset with card := some 1 }

theorem test_witness_Component_rejected :
    (running.engine ≠ .off ∧ running.engine ≠ .tampered ∧ running.ceu.record = .empty) ∧
    (inCeremony (.assembly { anAssembly with phase := .finalCheck })).ceu.record = .assembly { anAssembly with phase := .finalCheck } ∧
    ((inCeremony (.assembly anAssembly)).console 1).pending = true ∧
    (((gathering running).console 0).pending = false ∧ ((gathering running).console 0).card = none) ∧
    (((gathering running).console 2).card = some 1 ∧ (1 : CardId) ∈ anAssembly.permitted ∧ [((1 : CardId), (0 : ConsoleId))].any (fun x => x.1 == 1) = true) ∧
    (3 : CardId) ∉ anAssembly.permitted := by decide +kernel

theorem test_witness_Component_accepted :
    ((gathering running).ceu.record = .assembly { anAssembly with contributors := [(1, 0)] } ∧ anAssembly.phase = .gathering ∧
      ((gathering running).console 1).pending = false ∧ ((gathering running).console 1).card = some 2 ∧ (2 : CardId) ∈ anAssembly.permitted ∧
      [((1 : CardId), (0 : ConsoleId))].all (fun x => x.1 != 2) = true) ∧
    ((gathering running).ceu.busy = false ∧ (gathering running).ceu.arrivals = [] ∧ (gathering running).cipher.running = none ∧
      (gathering running).cipher.waiting = []) ∧
    (gathering (busyCipher running)).cipher.running ≠ none ∧
    { (gathering running).ceu with busy := true }.busy = true := by decide +kernel

/-- A component of console 0 is in check with its entered check value. -/
def checking (y : Assembly) (entered : CheckValue) (discard : Bool) : State :=
  let s := busyCipher (withRecord (withSlot running 5 { definedSlot 2 with state := .assembling }) (.assembly y))
  { s with ceu := { s.ceu with busy := true, inCheck := some ⟨0, 1, 1, 5, entered⟩, discard := discard } }

theorem value_ne_next (v : CheckValue) : v ≠ v + 1 := by bv_omega

theorem test_witness_ComponentCheck (y : Assembly) (entered : CheckValue) (discard : Bool) :
    (checking y entered discard).engine ≠ .off ∧
    (checking y entered discard).cipher.running = some { request := { requester := .component, op := .checkval 5 }, working := none } ∧
    (checking y entered discard).ceu.record = .assembly y ∧ (checking y entered discard).ceu.inCheck = some ⟨0, 1, 1, 5, entered⟩ ∧
    (checking y entered discard).ceu.arrivals = [] ∧ (checking y entered discard).ceu.discard = discard ∧
    (checking y entered discard).cipher.waiting = [] ∧ Config.checkValue 5 ≠ Config.checkValue 5 + 1 :=
  ⟨by simp [checking, busyCipher, withRecord, withSlot, running], rfl, rfl, rfl, rfl, rfl, rfl, value_ne_next _⟩

theorem test_witness_ComponentCheck_counts :
    anAssembly.rejects + 1 ≠ 3 ∧ { anAssembly with rejects := 2 }.rejects + 1 = 3 ∧ anAssembly.contributors.length + 1 ≠ anAssembly.target ∧
    { anAssembly with contributors := [(2, 1)] }.contributors.length + 1 = anAssembly.target := by decide

/-- A result to be discarded: no component is in check any more, another may have arrived for a new assembly. -/
def discarding (y : Ceremony) (arrivals : List Arrival) : State :=
  let s := busyCipher (withRecord running y)
  { s with ceu := { s.ceu with busy := true, discard := true, inCheck := none, arrivals := arrivals } }

theorem test_witness_Discard :
    ((discarding .empty []).engine ≠ .off ∧ (discarding .empty []).ceu.discard = true ∧ (discarding .empty []).ceu.arrivals = [] ∧
      (discarding .empty []).cipher.running = some { request := { requester := .component, op := .checkval 5 }, working := none }) ∧
    ((discarding (.assembly anAssembly) [⟨1, 2, 2, 7, 8⟩]).ceu.record = .assembly anAssembly ∧ anAssembly.phase = .gathering ∧
      (discarding (.assembly anAssembly) [⟨1, 2, 2, 7, 8⟩]).ceu.arrivals = ⟨1, 2, 2, 7, 8⟩ :: [] ∧
      ∀ k ∈ anAssembly.contributors, k.1 ≠ 2) :=
  ⟨⟨by simp [discarding, busyCipher, withRecord, running], rfl, rfl, rfl⟩, rfl, rfl, rfl, by simp [anAssembly]⟩

/-- The key array writes the commit of the assembly in the record. -/
def committing (slot : SlotId) : State :=
  withRecord (arrayBusy { readySlot aDefinition with state := .writing, target := some .ready, committed := some 77 } [])
    (.assembly { anAssembly with slot := slot, phase := .committing })

theorem test_witness_Commit :
    (committing 5).engine = .running ∧ (committing 5).ks.arrayWrite = some 5 ∧ ((committing 5).slot 5).target = some .ready ∧
    (committing 5).ceu.record = .assembly { anAssembly with phase := .committing } ∧ anAssembly.slot = 5 ∧
    (committing 6).ceu.record = .assembly { anAssembly with slot := 6, phase := .committing } ∧ (6 : SlotId) ≠ 5 := by decide +kernel

/-- A settle of slot 5 with its mark, what it still submits, and a submission that may wait in the line. -/
def settleInProgress (remaining : List Claim) (line : List Submission) : State :=
  { withSlot running 5 (settlingSlot remaining) with writer := { running.writer with line := line } }

theorem test_witness_Stop :
    (running.engine = .running ∧ running.ceu.record = .empty) ∧
    ((withOrderOf running .slotQuery 0 []).engine = .running ∧ (withOrderOf running .slotQuery 0 []).intake.area.isSome = true ∧
      (withOrderOf running .slotQuery 0 []).validating = some (order .slotQuery 0 [])) ∧
    ((inCeremony (.assembly anAssembly)).engine = .running ∧ (inCeremony (.assembly anAssembly)).ceu.record = .assembly anAssembly ∧
      anAssembly.phase ≠ .committing ∧ ((inCeremony (.assembly anAssembly)).slot 5).state = .assembling ∧
      (inCeremony (.assembly anAssembly)).ceu.busy = true) ∧
    (committing 5).ceu.record = .assembly { anAssembly with phase := .committing } ∧
    ((inApproval 0).ceu.record = .approval anApproval ∧ (inApproval 0).ks.grant = some aGrant ∧ ((inApproval 0).slot 5).state = .ready ∧
      ((inApproval 0).slot 5).generation = aGrant.generation ∧
      ((withSlot (inApproval 0) 5 { readySlot aDefinition with generation := 5 }).slot 5).generation ≠ aGrant.generation) ∧
    (∀ l ∈ [[], [Claim.mk 4 5 true]], ∀ w ∈ [[], [Submission.mk (.settle 5) aReceipt]],
      (settleInProgress l w).engine = .running ∧ ((settleInProgress l w).slot 5).settle =
        some { order := some 4, tag := 7, remaining := l, unclosed := [⟨3, 1, true⟩], entered := 1 } ∧
      (settleInProgress l w).settleWaits 5 = !w.isEmpty) := by decide +kernel

/-- An access that faults in RUNNING while a ceremony is open. -/
theorem test_witness_AreaFault_ceremony :
    (∀ r ∈ [Ceremony.assembly anAssembly, .assembly { anAssembly with phase := .committing }, .approval anApproval],
      (withRecord (withWriter running .taking) r).engine = .running ∧ (withRecord (withWriter running .taking) r).ceu.record = r ∧
      (withRecord (withWriter running .taking) r).accessPossible .takeAttempt = true) ∧ anAssembly.phase ≠ .committing := by
  decide +kernel

/-- A settle in progress at a fault: its submission in the line or not, with more to submit or not, a receipt to be closed or not. -/
def settleAtFault (v : Settle) (line : List Submission) : State :=
  withWriter (withSlot { running with writer := { running.writer with line := line } } 5 { twoClaims with settle := some v }) .taking

theorem test_witness_AreaFault_settle :
    ∀ left ∈ [[], [Claim.mk 4 5 true]], ∀ entered ∈ [[], [Claim.mk 3 1 true]],
      ∀ line ∈ [[], [Submission.mk (.bay 1) aReceipt, ⟨.settle 5, aReceipt⟩]],
      let v : Settle := { order := some 4, tag := 7, remaining := left, unclosed := entered, entered := entered.length }
      (settleAtFault v line).accessPossible .takeAttempt = true ∧ ((settleAtFault v line).slot 5).settle = some v ∧
      (settleAtFault v line).settleWaits 5 = !line.isEmpty ∧ ((settleAtFault v line).slot 7).settle = none ∧
      ((settleAtFault v line).slot 5).state = .ready := by decide +kernel

/-- The accumulator of an assembly is in check. -/
def finalChecking (i : SlotId) (expected : CheckValue) : State :=
  let s := withRecord (withSlot running i { definedSlot 2 with state := .assembling })
    (.assembly { anAssembly with slot := i, phase := .finalCheck, expected := expected })
  { s with ceu := { s.ceu with busy := true }
           cipher := { running := some { request := { requester := .accumulator, op := .checkval 5 }, working := none }, waiting := [] } }

theorem test_witness_AccumulatorCheck (i : SlotId) (expected : CheckValue) :
    (finalChecking i expected).engine ≠ .off ∧ (finalChecking i expected).cipher.waiting = [] ∧
    (finalChecking i expected).cipher.running =
      some { request := { requester := .accumulator, op := .checkval 5 }, working := none } ∧
    (finalChecking i expected).ceu.record = .assembly { anAssembly with slot := i, phase := .finalCheck, expected := expected } ∧
    (finalChecking i expected).ceu.discard = false ∧ (finalChecking i expected).ks.overwrite = none ∧
    Config.checkValue 5 ≠ Config.checkValue 5 + 1 :=
  ⟨by simp [finalChecking, withRecord, withSlot, running], rfl, rfl, rfl, rfl, rfl, value_ne_next _⟩

def sendingTo (queue : List ConsoleMessage) : State :=
  withConsole running 1 { Console.reset with sending := some .stationTampered, queue := queue, seq := 0xFF }

theorem test_witness_ConsoleLink :
    running.engine ≠ .off ∧ running.settled ∧ (running.console 1).receiver = .hunt ∧
    ((1 : Byte).toNat < 2 ∧ 42 < (43 : Byte).toNat) ∧
    toBE 2 (crc (byteOf [(0x41 : Byte), 7].length :: [0x41, 7])).toNat ≠ [1, 2] ∧
    ((0x3F : Byte).toNat < 0x40 ∧ 0x44 < (0x45 : Byte).toNat) ∧ (List.replicate 41 (0xA5 : Byte)).length < (42 : Byte).toNat ∧
    ((sendingTo []).settled ∧ ((sendingTo []).console 1).sending = some .stationTampered ∧ ((sendingTo []).console 1).queue = []) ∧
    ((sendingTo [.accepted 7]).settled ∧ ((sendingTo [.accepted 7]).console 1).queue = .accepted 7 :: []) :=
  ⟨by decide, settled_of_still _ (by decide), by decide, by decide, by decide +kernel, by decide, by decide,
   ⟨settled_of_still _ (by decide), by decide, by decide⟩, settled_of_still _ (by decide), by decide⟩

/-- Part of a frame was received at 10 ms, and the clock shows another time. -/
def partly (clock : BitVec 32) : State :=
  { withBay (withConsole running 1 { Console.reset with receiver := .body ⟨10, 20⟩ 5 [0x42] }) 3
      { Bay.reset true with link := { Link.reset true with receiver := .check ⟨10, 20⟩ [0x21, 4] none } } with
    clock := clock }

theorem test_witness_Gap (clock : BitVec 32) :
    (partly clock).engine = .running ∧ (partly clock).clock = clock ∧ (partly clock).settled ∧
    ((partly clock).console 1).receiver.gap? = some ⟨10, 20⟩ ∧ ((partly clock).bay 3).link.receiver.gap? = some ⟨10, 20⟩ :=
  ⟨rfl, rfl, settled_of_still _ ⟨rfl, by simp [partly, withBay, withConsole, running]⟩, rfl, rfl⟩

/-- The gap timer is due at 30 ms, and past the limit at 31. -/
theorem test_witness_Gap_due :
    ((⟨10, 20⟩ : Timer).due 29 = false ∧ (⟨10, 20⟩ : Timer).due 30 = true ∧ ¬(20 < ((30 : BitVec 32) - 10).toNat) ∧
      20 < ((31 : BitVec 32) - 10).toNat) ∧
    (((partly 30).bay 3).link.gapClosed 30).lineErrors = 0 ∧ (((partly 31).bay 3).link.gapClosed 31).lineErrors = 1 := by
  decide +kernel

/-- Kinds at the ends of their ranges with a payload that is not theirs. -/
theorem test_witness_WrongLength :
    (∀ k ∈ [(0x40, 3), (0x41, 1), (0x42, 18), (0x44, 40)], k.2 ≤ 40 ∧
      (List.replicate k.2 (0 : Byte)).length ≠ (if (byteOf k.1) = 0x40 then 2 else if (byteOf k.1) = 0x42 then 19 else 0)) ∧
    (∀ k ∈ [(0x20, 19), (0x21, 1), (0x22, 40), (0x23, 0)], k.2 ≤ 40 ∧
      (List.replicate k.2 (0 : Byte)).length ≠
        (if (byteOf k.1) = 0x20 then 20 else if (byteOf k.1) = 0x22 then 4 else if (byteOf k.1) = 0x23 then 1 else 0)) ∧
    ((0x1F : Byte).toNat < 0x20 ∧ 0x23 < (0x24 : Byte).toNat) := by decide

/-! ## Witnesses: orders of the bays -/

def planParams (count : Byte) (items : List Byte) : List Byte := [3, 5, 100, 0, 0xFF, 127, 1, count] ++ items

def directItem (slot : Byte) : List Byte := [slot, 2, 1, 0, 0, 0, 0x55, 0]

def wrappedItem (register : Byte) : List Byte := [6, register, 2, 7, 2, 7, 0x56, 0]

def twoItems : List Item := [⟨5, 2, .direct, .always, 0x55⟩, ⟨6, 3, .wrapped 7, .ifNotCap 7, 0x56⟩]

def twoItemPlan : Plan :=
  { bay := 3, rate := .r115200, probeTimeout := 100, override := none, repeats := 127, stopOnVoid := true, items := twoItems }

/-- Slots 5 and 6 are BASE slots with different KSIs, slot 7 a TRANSPORT slot. -/
def plannable (direct : Bool) : State :=
  withSlot (withSlot (withSlot running 5 (readySlot { aDefinition with cls := .base 1 direct 5 })) 6
    (readySlot { aDefinition with cls := .base 2 false 5 })) 7 (readySlot transportDefinition)

def planning (s : State) (params : List Byte) : State := withOrderOf s .planRun 0 params

def holding (x : Bay) : Bay := { x with held := some ⟨8, 9, .run aPlan⟩ }

theorem test_witness_PlanRun :
    (∀ n ∈ [(0 : Byte), 7], (planning running (planParams n [])).inHand .planRun = some (order .planRun 0 (planParams n [])) ∧
      plan? (planParams n []) = none) ∧
    plan? (planParams 2 (directItem 5 ++ wrappedItem 3)) = some twoItemPlan ∧
    (plan? (planParams 2 (directItem 5 ++ wrappedItem 2))).map (fun p => (p.items.map (·.register)).Nodup) = some False ∧
    ((twoItems.map (·.base)).Nodup ∧ (twoItems.map (·.register)).Nodup) ∧
    (∃ x ∈ twoItems, x.delivery = .direct ∧ ((plannable false).slot x.base).direct = false) ∧
    (∃ x ∈ twoItems, (running.slot x.base).isBase = false) ∧
    (∀ x ∈ twoItems, ((plannable true).slot x.base).isBase = true ∧ (x.delivery = .direct → ((plannable true).slot x.base).direct = true)) ∧
    ((plannable true).slot 7).isTransport = true ∧
    (((plannable true).bay 3).running = none ∧ ((withBay (plannable true) 3 (bayIn .loading)).bay 3).running ≠ none ∧
      ((withBay (plannable true) 3 (bayIn .loading)).bay 3).held = none ∧
      ((withBay (plannable true) 3 (holding (bayIn .loading))).bay 3).held ≠ none) := by
  refine ⟨by decide +kernel, by decide +kernel, ?_, by decide +kernel, by decide +kernel, by decide +kernel, by decide +kernel,
    by decide +kernel, by decide +kernel⟩
  have h : plan? (planParams 2 (directItem 5 ++ wrappedItem 2)) =
      some { twoItemPlan with items := [⟨5, 2, .direct, .always, 0x55⟩, ⟨6, 2, .wrapped 7, .ifNotCap 7, 0x56⟩] } := by
    decide +kernel
  rw [h]
  simp

def repeating (s : State) (params : List Byte) : State := withOrderOf s .planRepeat 0 params

def cached : State := withBay running 7 { Bay.reset true with cache := some aPlan }

theorem test_witness_PlanRepeat :
    (∀ p ∈ [[(8 : Byte), 0], [7, 128], [7, 127]], (repeating cached p).engine ≠ .off ∧
      (repeating cached p).inHand .planRepeat = some (order .planRepeat 0 p)) ∧
    7 < byteAt [8, 0] 0 ∧ 127 < byteAt [7, 128] 1 ∧ byteAt [7, 127] 1 ≤ 127 ∧ (7 : BayId).val = byteAt [7, 127] 0 ∧
    ((running.bay 7).running = none ∧ (running.bay 7).cache = none) ∧ ((cached.bay 7).running = none ∧ (cached.bay 7).cache = some aPlan) ∧
    (((withBay running 7 (bayIn .loading)).bay 7).running ≠ none ∧ ((withBay running 7 (bayIn .loading)).bay 7).held = none ∧
      ((withBay running 7 (holding (bayIn .loading))).bay 7).held ≠ none) := by decide +kernel

def halting (x : Bay) (bay : Byte) : State := withOrderOf (withBay running 3 x) .bayHalt 0 [bay]

theorem test_witness_BayHalt :
    ((halting (bayIn .loading) 8).inHand .bayHalt = some (order .bayHalt 0 [8]) ∧ 7 < byteAt [8] 0) ∧
    ((halting (Bay.reset true) 3).inHand .bayHalt = some (order .bayHalt 0 [3]) ∧ ((halting (Bay.reset true) 3).bay 3).running = none) ∧
    (∀ x ∈ [SessionState.awaitTerminal, .probing, .claiming, .preparing, .loading, .releasing, .unwinding, .filing, .awaitRemoval],
      ((halting (holding (bayIn x)) 3).bay 3).running = some aRunning ∧ ((halting (holding (bayIn x)) 3).session 3).ending = .none ∧
      ((halting (holding (bayIn x)) 3).session 3).state = x ∧ ((halting (holding (bayIn x)) 3).bay 3).held = some ⟨8, 9, .run aPlan⟩) ∧
    ((halting (bayIn .releasing) 3).session 3).begun = false ∧
    { (bayIn .releasing).session with begun := true }.begun = true ∧
    ((halting (bayIn .loading) 3).session 3).latched = some (0, Profile.default) := by decide +kernel

theorem test_witness_BayQuery :
    (∀ n ∈ [(7 : Byte), 8], (withOrderOf running .bayQuery 0 [n]).engine ≠ .off ∧
      (withOrderOf running .bayQuery 0 [n]).inHand .bayQuery = some (order .bayQuery 0 [n])) ∧
    (7 : BayId).val = byteAt [7] 0 ∧ 7 < byteAt [8] 0 := by decide

/-! ## Witnesses: profile store and watches -/

def profileParams (index : Byte) (p : Profile) : List Byte := [index] ++ zeroBytes 7 ++ p.bytes

def lowProfile : Profile := { Profile.default with replyTimeout := 50, retryLimit := 7, chunkSize := 8, settleTime := 100, removalTimeout := 600 }

/-- A persist of group 1 at one of its steps, the capture all zeros. -/
def persist (step : PersistStep) : Persist :=
  { group := 1, capture := zeroBytes 130, step := step, order := some 4, subject := .profile 15, touched := false }

def persistingAt (step : PersistStep) : State := { running with prof := { running.prof with persist := some (persist step) } }

def persisting : State := persistingAt .area

theorem test_witness_ProfileWrite :
    (∀ p ∈ [profileParams 16 lowProfile, profileParams 15 { lowProfile with replyTimeout := 49 },
        profileParams 15 { lowProfile with removalTimeout := 601 }],
      (15 < byteAt p 0 ∨ profile? (field p 8 16) = none) ∧
        (withOrderOf running .profileWrite 2 p).inHand .profileWrite = some (order .profileWrite 2 p)) ∧
    profile? (field (profileParams 15 lowProfile) 8 16) = some lowProfile ∧ (15 : Fin 16).val = byteAt (profileParams 15 lowProfile) 0 ∧
    ((order .profileWrite 2 []).flags.getLsbD 1 = true ∧ (order .profileWrite 0 []).flags.getLsbD 1 = false ∧
      persisting.prof.persist ≠ none ∧ running.prof.persist = none) ∧
    (withOrderOf persisting .profileWrite 2 (profileParams 15 lowProfile)).inHand .profileWrite =
      some (order .profileWrite 2 (profileParams 15 lowProfile)) := by decide +kernel

def mapParams (first count : Byte) : List Byte := [first, count, 0, 0, 0, 0, 0, 0] ++ (List.replicate 8 [(0x34 : Byte), 0x12, 15, 0]).flatten

theorem test_witness_MapWrite :
    (∀ p ∈ [mapParams 64 1, mapParams 0 0, mapParams 0 9, mapParams 31 2, mapParams 63 2],
      (withOrderOf running .modelMapWrite 2 p).inHand .modelMapWrite = some (order .modelMapWrite 2 p) ∧ mapWrite? p = none) ∧
    mapEntry? (field (mapParams 0 1 |>.set 10 16) 8 4) = none ∧ mapWrite? ((mapParams 32 8).set 38 16) = none ∧
    (∃ k, k < byteAt ((mapParams 32 8).set 38 16) 1 ∧ numberAt ((mapParams 32 8).set 38 16) (8 + k * 4) 2 ≠ 0 ∧
      15 < byteAt ((mapParams 32 8).set 38 16) (8 + k * 4 + 2)) ∧
    mapWrite? [5, 1, 0, 0, 0, 0, 0, 0, 0, 0, 16, 0] = some (5, [⟨0, 0⟩]) ∧
    mapWrite? (mapParams 24 8) = some (24, List.replicate 8 ⟨0x1234, 15⟩) ∧ mapWrite? (mapParams 63 1) = some (63, [⟨0x1234, 15⟩]) ∧
    (32 ≤ byteAt (mapParams 63 2) 0 ∧ 64 < byteAt (mapParams 63 2) 0 + byteAt (mapParams 63 2) 1) ∧
    (byteAt (mapParams 31 2) 0 < 32 ∧ 32 < byteAt (mapParams 31 2) 0 + byteAt (mapParams 31 2) 1) := by decide +kernel

theorem test_witness_PersistSteps :
    ∀ x ∈ [PersistStep.area, .control, .readBack], (persistingAt x).engine ≠ .off ∧ (persistingAt x).settled ∧
      (persistingAt x).prof.load = none ∧ (persistingAt x).prof.persist = some (persist x) ∧ (persist x).step = x :=
  fun _ _ => ⟨by simp [persistingAt, running], settled_of_still _ ⟨rfl, by simp [persistingAt, running]⟩, rfl, rfl, rfl⟩

theorem test_witness_PersistEnd :
    (∀ x ∈ [PersistStep.area, .control], x = .readBack ↔ (none : Option (Vector Byte 130)) ≠ none) ∧
    (PersistStep.readBack = .readBack ↔ some (Vector.replicate 130 (0 : Byte)) ≠ none) ∧
    ¬(PersistStep.readBack = .readBack ↔ (none : Option (Vector Byte 130)) ≠ none) ∧
    (Vector.replicate 130 (0 : Byte)).toList = (persist .readBack).capture ∧
    (Vector.replicate 130 (1 : Byte)).toList ≠ (persist .readBack).capture ∧
    persisting.prof.unreadable = false ∧ { persisting.prof with unreadable := true }.unreadable = true := by
  refine ⟨by simp, by simp, by simp, by decide, by decide, by decide, by decide⟩

theorem test_witness_WatchSet :
    (∀ p ∈ [[(4 : Byte), 0], [3, 5], [3, 1, 63, 0, 6, 0, 0, 0], [0, 4, 0, 0, 1, 0, 0, 0]],
      (withOrderOf (withSlot running 63 (readySlot aDefinition)) .watchSet 0 p).inHand .watchSet = some (order .watchSet 0 p)) ∧
    3 < byteAt [4, 0] 0 ∧ watch? [3, 5] = none ∧ watch? [3, 1, 63, 0, 6, 0, 0, 0] = some (.allowanceBelow 63 6) ∧
    watch? [0, 4, 0, 0, 1, 0, 0, 0] = some (.rollRoomBelow 1) ∧ running.intake.area.isSome = true := by decide +kernel

/-! ## Witnesses: bay links and sessions -/

/-- The watches set to four sources, with a room reported. -/
def watching (s : State) (room : Nat) (a b c d : Watch) : State :=
  { s with events := { s.events with room := room, watches := #v[a, b, c, d] } }

/-- The flags after a command. -/
def flagsAfter (c : Instr) (s : State) : BitVec 16 := match exec c s with | .next t => t.events.flags | _ => 0

/-- A granted claim takes the allowance from 5 to 4: of the four only the watch at threshold 5 fires (R172). -/
theorem test_watch_claim :
    flagsAfter .claimRequest (watching (asking (readySlot aDefinition)) 0 (.allowanceBelow 5 6) (.allowanceBelow 5 5)
      (.allowanceBelow 5 4) (.slotState 5)) = 0x2000 := by decide +kernel

/-- A grant of 10 takes the allowance from 5 to 15, and fires none. -/
theorem test_watch_grant :
    flagsAfter .allowanceGrant (watching (granting (readySlot aDefinition) 10) 0 (.allowanceBelow 5 6) (.allowanceBelow 5 15)
      (.allowanceBelow 5 16) (.slotState 5)) = 0 := by decide +kernel

/-- An erase that begins at once: the allowance goes to 0 and the state changes (R172, R173). -/
theorem test_watch_erase :
    flagsAfter .slotErase (watching (erasing (readySlot aDefinition) 47 0) 0 (.allowanceBelow 47 1) (.allowanceBelow 47 6)
      (.slotState 47) (.slotState 46)) = 0x5000 := by decide +kernel

/-- A receipt written takes the room from 16 to 15 (R174). -/
theorem test_watch_room :
    flagsAfter .receiptWriteSequence (watching (writing 0) 16 (.rollRoomBelow 17) (.rollRoomBelow 16) (.rollRoomBelow 15)
      (.bayPresence 3 .any)) = 0x2000 := by decide +kernel

def anExchange (frame : EngineFrame) : Exchange :=
  { frame := frame, seq := 4, bytes := frame.bytes 4, expected := frame.expects, retryLimit := 3, timeout := 500, retriesUsed := 0,
    resendPending := false, timer := some ⟨0, 500⟩ }

def exchanging (x : Bay) (e : Exchange) : Bay := { x with link := { x.link with exchange := some e, seq := 4, presence := .present } }

/-- The model map names profile 15 for model 1234h. -/
def mapped (wrapOnly : Bool) : State :=
  { running with prof := { running.prof with map := running.prof.map.set 63 ⟨0x1234, 15⟩,
                                             profiles := running.prof.profiles.set 15 { Profile.default with wrapOnly := wrapOnly } } }

def probing (s : State) (plan : Plan) : State :=
  withBay s 3 (exchanging { bayIn .probing with running := some { aRunning with plan := plan } } (anExchange .probe))

theorem test_witness_Ident :
    (∀ p ∈ [aPlan, { aPlan with override := some 15 }, twoItemPlan],
      (probing (mapped false) p).engine ≠ .off ∧ (probing (mapped false) p).engine ≠ .loading ∧
      ((probing (mapped false) p).bay 3).running = some { aRunning with plan := p } ∧
      ((probing (mapped false) p).bay 3).link.exchange = some (anExchange .probe) ∧ (anExchange .probe).expected = .ident ∧
      ((probing (mapped false) p).session 3).state = .probing ∧ ((probing (mapped false) p).session 3).gone = false) ∧
    ((probing (mapped false) aPlan).prof.lookup 0x1234 = some 15 ∧ (probing (mapped false) aPlan).prof.lookup 0x1235 = none) ∧
    ((probing (mapped true) aPlan).prof.profiles[(15 : Fin 16)].wrapOnly = true ∧ ∃ i ∈ aPlan.items, i.delivery = .direct) ∧
    ((probing (mapped false) aPlan).prof.profiles[(15 : Fin 16)].wrapOnly = false) := by decide +kernel

/-- Two entries with one model code: the lower one is the first that matches. -/
theorem test_witness_MapScan :
    let p : ProfileStore := { (mapped false).prof with map := (mapped false).prof.map.set 2 ⟨0x1234, 7⟩ }
    p.map[(2 : Fin 64)].model = 0x1234 ∧ p.map[(63 : Fin 64)].model = 0x1234 ∧ (∀ k : Fin 64, k < 2 → p.map[k].model ≠ 0x1234) ∧
    (∀ n : Fin 64, p.map[n].model ≠ 0x1235) ∧ p.lookup 0x1234 = some 7 := by decide +kernel

def somePlace : KeyPlace := { terminalKey := some 9, block := some (keyBytes 9), checkValue := some 0x112233 }

/-- A bay in LOADING, the first of its three items skipped, with chunks of 8 bytes. -/
def loading (place : DeliveryPlace) (current : Nat) : Bay :=
  { bayIn .loading with
    session := { (bayIn .loading).session with
                 records := [{ aRecord 4 .direct with applies := false }, readyItem 5 2, readyItem 6 3],
                 current := some current, begun := true, delivery := place, latched := some (0, { Profile.default with chunkSize := 8 }) }
    buffer := [⟨none, none, none⟩, somePlace, somePlace] }

def delivering (place : DeliveryPlace) (current : Nat) (frame : EngineFrame) : State :=
  withBay running 3 (exchanging (loading place current) (anExchange frame))

theorem test_witness_Delivery_ack :
    ((delivering .begin 1 (.begin 2)).engine ≠ .off ∧ (delivering .begin 1 (.begin 2)).engine ≠ .loading ∧
      ((delivering .begin 1 (.begin 2)).bay 3).running ≠ none ∧
      ((delivering .begin 1 (.begin 2)).bay 3).link.exchange = some (anExchange (.begin 2)) ∧ (anExchange (.begin 2)).expected = .ack ∧
      ((delivering .begin 1 (.begin 2)).session 3).state = .loading ∧
      ((delivering .begin 1 (.begin 2)).session 3).latched = some (0, { Profile.default with chunkSize := 8 }) ∧
      ((delivering .begin 1 (.begin 2)).session 3).delivery = .begin ∧
      ((delivering .begin 1 (.begin 2)).session 3).records[1]? = some (readyItem 5 2) ∧
      (∀ j ∈ ((delivering .begin 1 (.begin 2)).session 3).records.take 1, j.applies = false) ∧
      (((delivering .begin 1 (.begin 2)).bay 3).buffer[1]?).bind (·.block) = some (keyBytes 9)) ∧
    ∀ k ∈ [1, 2], ((delivering (.part k) 1 (.part 2 k 2 (keyBytes 9))).session 3).delivery = .part k ∧
      ((delivering (.part k) 1 (.part 2 k 2 (keyBytes 9))).session 3).current = some 1 ∧
      (anExchange (.part 2 k 2 (keyBytes 9))).expected = .ack ∧ (k < chunkCount (keyBytes 9).length 8 ↔ k = 1) := by decide +kernel

theorem test_witness_Delivery_check :
    ∀ n ∈ [1, 2], ((delivering .endItem n (.endItem 2 false)).bay 3).link.exchange = some (anExchange (.endItem 2 false)) ∧
      (anExchange (.endItem 2 false)).expected = .check ∧ ((delivering .endItem n (.endItem 2 false)).session 3).delivery = .endItem ∧
      ((delivering .endItem n (.endItem 2 false)).session 3).current = some n ∧
      ((delivering .endItem n (.endItem 2 false)).session 3).records[n]? = some (if n = 1 then readyItem 5 2 else readyItem 6 3) ∧
      ((delivering .endItem n (.endItem 2 false)).bay 3).buffer[n]? = some somePlace ∧ somePlace.checkValue = some 0x112233 ∧
      (∀ j ∈ ((delivering .endItem 2 (.endItem 2 false)).session 3).records.drop 3, j.applies = false) := by decide +kernel

/-- The terminal is in RELEASING or UNWINDING, its frame sent, with room for its two receipts alone. -/
def finishing (state : SessionState) (frame : EngineFrame) (queued : Nat) : State :=
  let s := withBay running 3 (exchanging { loading .begin 1 with session := { (loading .begin 1).session with state := state } } (anExchange frame))
  { s with writer := { s.writer with queue := List.replicate queued aReceipt, state := .awaitRoll } }

theorem test_witness_AckFiles :
    (((finishing .releasing .release 14).bay 3).running = some aRunning ∧
      ((finishing .releasing .release 14).bay 3).link.exchange = some (anExchange .release) ∧ (anExchange .release).expected = .ack ∧
      ((finishing .releasing .release 14).session 3).state = .releasing ∧ ((finishing .releasing .release 14).session 3).begun = true) ∧
    (((finishing .unwinding .rollback 14).session 3).state = .unwinding ∧ (anExchange .rollback).expected = .ack) ∧
    (((finishing .releasing .release 14).session 3).refusal = none ∧ ((finishing .releasing .release 14).session 3).ending = .none ∧
      ((finishing .releasing .release 14).session 3).gone = false) ∧
    (finishing .releasing .release 14).writer.queue.length +
      (((finishing .releasing .release 14).session 3).receipts 3 77 .loaded ((finishing .releasing .release 14).bay 3).buffer).length = 16 ∧
    (((finishing .releasing .release 14).session 3).identity = some ⟨1, 2, 3, 4⟩ ∧
      ((finishing .releasing .release 14).session 3).latched = some (0, { Profile.default with chunkSize := 8 })) := by decide +kernel

theorem test_witness_Strays :
    ((withBay running 3 (Bay.reset true)).settled ∧ ((withBay running 3 (Bay.reset true)).bay 3).running = none) ∧
    ((withBay running 3 (bayIn .claiming)).settled ∧ ((withBay running 3 (bayIn .claiming)).bay 3).running ≠ none ∧
      ((withBay running 3 (bayIn .claiming)).bay 3).link.exchange = none) ∧
    ((delivering .begin 1 (.begin 2)).settled ∧ (TerminalFrame.ack 5).seq ≠ (anExchange (.begin 2)).seq ∧
      (TerminalFrame.check 4 0 0).matches (anExchange (.begin 2)).expected = false) :=
  ⟨⟨settled_of_still _ (by decide), by decide⟩, ⟨settled_of_still _ (by decide), by decide, by decide⟩,
   settled_of_still _ (by decide), by decide, by decide⟩

/-- An exchange at its last retry but one, at its last, or with a resend pending. -/
def retrying (x : Bay) (used : Nat) (resend : Bool) : State :=
  withBay running 3 (exchanging x { anExchange .probe with retriesUsed := used, resendPending := resend })

theorem test_witness_Nak :
    (∀ used ∈ [2, 3], ((retrying (bayIn .probing) used false).bay 3).running ≠ none ∧
      ((retrying (bayIn .probing) used false).bay 3).link.exchange = some { anExchange .probe with retriesUsed := used } ∧
      (used < (anExchange .probe).retryLimit ↔ used = 2)) ∧
    ((retrying (bayIn .probing) 0 true).settled ∧
      ((retrying (bayIn .probing) 0 true).bay 3).link.exchange = some { anExchange .probe with resendPending := true }) ∧
    (((retrying (bayIn .probing) 3 false).session 3).state = .probing ∧ ((retrying (bayIn .probing) 3 false).session 3).gone = false) ∧
    (((retrying (loading .begin 1) 3 false).session 3).state = .loading ∧ ((retrying (loading .begin 1) 3 false).session 3).latched ≠ none) :=
  ⟨by decide +kernel, ⟨settled_of_still _ (by decide), by decide +kernel⟩, by decide +kernel, by decide +kernel⟩

/-- The reply timer has run out, with the receipt queue full. -/
def timedOut (state : SessionState) (used : Nat) : State :=
  { withFullQueue (retrying { loading .begin 1 with session := { (loading .begin 1).session with state := state } } used false) with
    clock := 500 }

theorem test_witness_ReplyTimer :
    { timedOut .probing 2 with clock := 499 }.settled ∧ (⟨0, 500⟩ : Timer).due 499 = false ∧
    (⟨0, 500⟩ : Timer).due (timedOut .probing 2).clock = true ∧
    (∀ x ∈ [SessionState.probing, .loading, .releasing, .unwinding],
      ((timedOut x 3).bay 3).link.exchange = some { anExchange .probe with retriesUsed := 3 } ∧ (anExchange .probe).retryLimit = 3 ∧
      ((timedOut x 3).session 3).state = x ∧ ((timedOut x 3).session 3).begun = true ∧ ((timedOut x 3).session 3).gone = false ∧
      ((timedOut x 3).bay 3).running ≠ none ∧ ((timedOut x 3).session 3).latched ≠ none ∧ 16 ≤ (timedOut x 3).writer.queue.length ∧
      (((timedOut x 3).session 3).records.any fun i => i.claim.isSome) = true) ∧
    (timedOut .unwinding 3).settled ∧ (anExchange .probe).timer = some ⟨0, 500⟩ ∧
    ((timedOut .probing 2).bay 3).link.sending = none ∧ { (bayIn .probing).link with sending := some (⟨4, [1]⟩, LineRate.r9600) }.sending ≠ none :=
  ⟨settled_of_still _ (by decide), by decide, by decide, by decide +kernel, settled_of_still _ (by decide), by decide, by decide, by decide⟩

def transmitting (following : List Transmission) (exchange : Option Exchange) : State :=
  withBay running 3 { bayIn .probing with
    link := { Link.reset true with rate := .r57600, sending := some (⟨4, [1]⟩, .r9600), following := following, exchange := exchange } }

theorem test_witness_BayLink :
    (running.engine ≠ .off ∧ running.engine ≠ .loading ∧ running.settled ∧ (running.bay 7).link.receiver = .hunt) ∧
    (∀ y ∈ [(0xA4 : Byte), 0xA6], y ≠ 0xA5) ∧ (List.replicate 41 (0xA5 : Byte)).length < (42 : Byte).toNat ∧
    ((transmitting [] none).settled ∧ ((transmitting [] none).bay 3).link.sending = some (⟨4, [1]⟩, .r9600) ∧
      ((transmitting [] none).bay 3).link.exchange = none ∧ ((transmitting [] none).bay 3).link.following = []) ∧
    ((transmitting [⟨5, [2]⟩] (some (anExchange .probe))).settled ∧
      ((transmitting [⟨5, [2]⟩] (some (anExchange .probe))).bay 3).link.exchange = some (anExchange .probe) ∧ (anExchange .probe).seq = 4 ∧
      ((transmitting [⟨5, [2]⟩] (some (anExchange .probe))).bay 3).link.following = ⟨5, [2]⟩ :: []) :=
  ⟨⟨by decide, by decide, settled_of_still _ (by decide), by decide⟩, by decide, by decide,
   ⟨settled_of_still _ (by decide), by decide, by decide, by decide⟩, settled_of_still _ (by decide), by decide +kernel, by decide,
   by decide⟩

def present (x : Bay) (presence : PresenceState) (clock : BitVec 32) : State :=
  { withBay running 3 { x with link := { x.link with presence := presence, presenceTimer := some ⟨0, 20⟩ } } with clock := clock }

theorem test_witness_Presence_input :
    (running.bay 3).link.input = false ∧ ((present (bayIn .idle) .present 0).bay 3).link.input = true ∧
    ((present (bayIn .idle) .present 0).bay 3).link.presence = .present ∧ ((present (bayIn .idle) .settling 0).bay 3).link.presence = .settling ∧
    (running.bay 3).link.presence = .absent ∧ { (running.bay 3).link with presence := .dropping }.presence = .dropping ∧
    State.reset.engine = .loading ∧ (State.reset.bay 3).link.input = false ∧ (unpowered false).engine = .off := by decide

theorem test_witness_Presence_timer :
    ((present (bayIn .awaitTerminal) .settling 19).settled ∧ (⟨0, 20⟩ : Timer).due 19 = false ∧ (⟨0, 20⟩ : Timer).due 20 = true ∧
      ((present (bayIn .awaitTerminal) .settling 20).bay 3).link.presenceTimer = some ⟨0, 20⟩ ∧
      ((present (bayIn .awaitTerminal) .settling 20).session 3).state = .awaitTerminal ∧
      ((present (bayIn .awaitTerminal) .settling 20).bay 3).running = some aRunning) ∧
    (∀ x ∈ [SessionState.idle, .awaitTerminal, .claiming, .preparing, .loading, .unwinding, .releasing],
      ((present (bayIn x) .dropping 20).bay 3).link.presence = .dropping ∧ ((present (bayIn x) .dropping 20).session 3).state = x) ∧
    (16 ≤ (withFullQueue (present (loading .begin 1) .dropping 20)).writer.queue.length ∧
      (((withFullQueue (present (loading .begin 1) .dropping 20)).session 3).records.any fun i => i.claim.isSome) = true) ∧
    { (bayIn .claiming).session with deferral := true }.reason = none :=
  ⟨⟨settled_of_still _ (by decide), by decide, by decide, by decide, by decide, by decide⟩, by decide +kernel, by decide +kernel, by decide⟩

/-- A rise and a drop of bay 3 fire the watches of that bay whose edge they have (R173). -/
theorem test_watch_presence :
    flagsAfter (.presenceTimerExpiry 3) (watching (present (bayIn .idle) .settling 20) 0 (.bayPresence 3 .rise) (.bayPresence 3 .fall)
      (.bayPresence 3 .any) (.bayPresence 2 .any)) = 0x5000 ∧
    flagsAfter (.presenceTimerExpiry 3) (watching (present (bayIn .idle) .dropping 20) 0 (.bayPresence 3 .rise) (.bayPresence 3 .fall)
      (.bayPresence 3 .any) (.bayPresence 2 .any)) = 0x6000 := by decide +kernel

def stuck (x : Bay) (state : SessionState) (clock : BitVec 32) : State :=
  { withBay running 3 { x with session := { x.session with state := state, removal := some ⟨0, 1000⟩ } } with clock := clock }

theorem test_witness_Removal :
    ((stuck (bayIn .idle) .awaitRemoval 999).settled ∧ (⟨0, 1000⟩ : Timer).due 999 = false) ∧
    ((stuck (bayIn .idle) .filing 1000).settled ∧ ((stuck (bayIn .idle) .filing 1000).session 3).state ≠ .awaitRemoval) ∧
    ((⟨0, 1000⟩ : Timer).due 1000 = true ∧ ((stuck (bayIn .idle) .awaitRemoval 1000).session 3).removal = some ⟨0, 1000⟩ ∧
      ((stuck (bayIn .idle) .awaitRemoval 1000).bay 3).running = some aRunning ∧ ((stuck (bayIn .idle) .awaitRemoval 1000).bay 3).held = none) ∧
    ((stuck (holding (bayIn .idle)) .awaitRemoval 1000).bay 3).held = some ⟨8, 9, .run aPlan⟩ :=
  ⟨⟨settled_of_still _ (by decide), by decide⟩, ⟨settled_of_still _ (by decide), by decide⟩, by decide, by decide⟩

/-- The bay of a terminal in a session state, one of its plan's terminals probed, two void before. -/
def leaving (state : SessionState) (begun : Bool) (plan : Plan) (outcome : TerminalOutcome) : Bay :=
  let x := loading .begin 1
  { exchanging x (anExchange .release) with
    running := some { aRunning with plan := plan }
    counters := { Counters.zero with attempted := 1, voided := 2 }
    session := { x.session with state := state, begun := begun, outcome := outcome } }

theorem bay_withBay (s : State) (b : BayId) (x : Bay) : (withBay s b x).bay b = x := by simp [withBay, State.bay]

theorem session_withBay (s : State) (b : BayId) (x : Bay) : (withBay s b x).session b = x.session := by
  rw [State.session, bay_withBay]

/-- Every state a stop notice finds (R135), with a held order, with a deferred claim, after a halt, and a bay without a plan. -/
theorem test_witness_Stop_bays :
    (∀ x ∈ [SessionState.awaitTerminal, .awaitRemoval, .probing, .releasing],
      (withBay running 3 (holding (leaving x false aPlan .none))).engine = .running ∧
      ((withBay running 3 (holding (leaving x false aPlan .none))).bay 3).running = some aRunning ∧
      ((withBay running 3 (holding (leaving x false aPlan .none))).session 3).endsAtOnce ∧
      ((withBay running 3 (holding (leaving x false aPlan .none))).session 3).ending = .none ∧
      ((withBay running 3 (holding (leaving x false aPlan .none))).bay 3).held = some ⟨8, 9, .run aPlan⟩) ∧
    (∀ x ∈ [SessionState.claiming, .preparing, .loading, .releasing, .unwinding, .filing],
      ((withBay running 3 (leaving x true aPlan .none)).session 3).state = x ∧ (leaving x true aPlan .none).session.begun = true ∧
      (leaving x true aPlan .none).session.latched ≠ none) ∧
    ({ (leaving .claiming false aPlan .none).session with deferral := true }.reason = none ∧
      { (leaving .claiming false aPlan .none).session with ending := .halted }.ending ≠ .none) ∧
    ((withBay running 3 (Bay.reset true)).bay 3).running = none := by
  simp only [session_withBay, bay_withBay, Session.endsAtOnce]
  exact ⟨by decide +kernel, by decide +kernel, by decide +kernel, by decide +kernel⟩

/-- Removals by the rows of R132: with K reached by the first terminal, not reached or 0, with stop-on-void and a void terminal. -/
def removalPlans : List Plan :=
  [{ aPlan with repeats := 1 }, { aPlan with repeats := 2 }, { aPlan with repeats := 0 }, { aPlan with repeats := 1, stopOnVoid := true }]

theorem test_witness_Drop_removal :
    (∀ x ∈ [SessionState.probing, .awaitRemoval, .releasing], ∀ p ∈ removalPlans, ∀ o ∈ [TerminalOutcome.none, .void .noReply],
      (present (leaving x false p o) .dropping 20).engine = .running ∧
      (leaving x false p o).running = some { aRunning with plan := p } ∧ (leaving x false p o).session.state = x ∧
      (leaving x false p o).session.begun = false ∧ (leaving x false p o).session.outcome = o ∧
      (leaving x false p o).session.attempted = 1 ∧ 0 < (leaving x false p o).counters.voided) ∧
    (removalPlans.map fun p => decide (p.repeats ≠ 0 ∧ p.repeats ≤ 1)) = [true, false, false, true] ∧
    (present (leaving .filing true aPlan (.void .noReply)) .dropping 20).settled ∧
    (leaving .filing true aPlan (.void .noReply)).session.state = .filing :=
  ⟨by decide +kernel, by decide +kernel, settled_of_still _ (by decide +kernel), by decide +kernel⟩

/-- A drop in LOADING with room for the two receipts alone or for one of them, with and without a recorded ending. -/
theorem test_witness_Drop_files :
    (∀ n ∈ [14, 15], (({ (leaving .loading true aPlan .none).session with unconfirmed := true }.receipts 3 77 (.void .terminalLost)
        (leaving .loading true aPlan .none).buffer).length ≤ 16 - (List.replicate n aReceipt).length ↔ n = 14)) ∧
    (leaving .loading true aPlan .none).session.refusal = none ∧ (leaving .unwinding true aPlan .none).session.ending = .none ∧
    { (leaving .unwinding true aPlan .none).session with ending := .halted }.ending = .halted := by decide +kernel

theorem test_witness_Skipped :
    ∀ g ∈ [false, true], let x : Bay := { leaving .releasing false aPlan .none with
        session := { (leaving .releasing false aPlan .none).session with gone := g } }
      x.running = some aRunning ∧ x.link.exchange = some (anExchange .release) ∧ (anExchange .release).expected = .ack ∧
      x.session.begun = false ∧ x.session.gone = g ∧ x.session.latched = some (0, { Profile.default with chunkSize := 8 }) ∧
      { x.session with latched := none }.latched = none := by decide +kernel

/-- The held order of an ending plan is a run or a repeat; a BAY_HALT may wait on it. -/
theorem test_witness_PlanEnd :
    (holding (bayIn .awaitRemoval)).held = some ⟨8, 9, .run aPlan⟩ ∧
    { holding (bayIn .awaitRemoval) with held := some ⟨8, 9, .again 3⟩ }.held = some ⟨8, 9, .again 3⟩ ∧
    (holding (bayIn .awaitRemoval)).cache = some aPlan ∧
    { bayIn .filing with halt := some ⟨6, .loading⟩ }.halt = some ⟨6, .loading⟩ := by decide

/-- The writer writes while bay 3 waits in FILING with its last receipt, its terminal gone and the next one recognised or not. -/
def lastReceipt (x : Bay) (stopping : Bool) : State :=
  let s := withBay (writing 15) 3 x
  { s with engine := if stopping then .stopping else .running, writer := { s.writer with line := [⟨.bay 3, aReceipt⟩] } }

theorem bay_lastReceipt (x : Bay) (stopping : Bool) : (lastReceipt x stopping).bay 3 = x := bay_withBay _ _ _

theorem test_witness_LastReceipt :
    (∀ p ∈ [false, true], ((lastReceipt (leaving .filing true aPlan .none) p).engine = .running ∨
        (lastReceipt (leaving .filing true aPlan .none) p).engine = .stopping) ∧
      (lastReceipt (leaving .filing true aPlan .none) p).writer.queue = aReceipt :: [] ∧
      (lastReceipt (leaving .filing true aPlan .none) p).writer.line = { submitter := .bay 3, receipt := aReceipt } :: [] ∧
      (lastReceipt (leaving .filing true aPlan .none) p).ks.closure = none) ∧
    (∀ o ∈ [TerminalOutcome.loaded, .void .noReply], let x := leaving .filing true aPlan o
      x.session.state = .filing ∧ x.session.toFile = [] ∧ x.running = some aRunning ∧ x.session.outcome = o ∧
      x.session.refusal = none ∧ x.session.ending = .none ∧ x.session.gone = false ∧ x.link.presence.isPresent = true ∧
      { x.session with gone := true }.gone = true ∧ { x.session with refusal := some (.serialsSpent, 63) }.refusal = some (.serialsSpent, 63) ∧
      { x.session with ending := .engineStopped }.ending = .engineStopped) := by decide +kernel

/-! ## Witnesses: cipher unit -/

/-- A bay in PREPARING: an item that is prepared, the item at work, and one that does not apply. -/
def preparing (x : ItemRecord) (k : KeyPlace) (reason : Option VoidReason) : Bay :=
  { bayIn .preparing with
    session := { (bayIn .preparing).session with records := [readyItem 5 2, x, { aRecord 9 .direct with applies := false }],
                                                 current := some 1, reason := reason }
    buffer := [somePlace, k, ⟨none, none, none⟩] }

def working (x : Bay) (op : CipherOp) (key : Option Key) : State :=
  let s := withBay (withSlot (withSlot running 6 (readySlot aDefinition)) 7 (readySlot transportDefinition)) 3 x
  { s with cipher := { running := some { request := { requester := .bay 3 1, op := op }, working := key }, waiting := [] } }

def claimed : ItemRecord := { readyItem 6 3 with stage := .claimed }

def wrapped : ItemRecord :=
  { readyItem 6 3 with item := { anItem 6 (.wrapped 7) with register := 3 }, wrapGeneration := some 4, stage := .derived }

theorem test_witness_Derive :
    (∀ r ∈ [none, some VoidReason.halted],
      (working (preparing claimed ⟨none, none, none⟩ r) (.derive 6 4 1) (some 9)).engine ≠ .off ∧
      (working (preparing claimed ⟨none, none, none⟩ r) (.derive 6 4 1) (some 9)).cipher.waiting = [] ∧
      ((working (preparing claimed ⟨none, none, none⟩ r) (.derive 6 4 1) (some 9)).session 3).state = .preparing ∧
      ((working (preparing claimed ⟨none, none, none⟩ r) (.derive 6 4 1) (some 9)).session 3).reason = r ∧
      ((working (preparing claimed ⟨none, none, none⟩ r) (.derive 6 4 1) (some 9)).session 3).records[1]? = some claimed ∧
      ((working (preparing claimed ⟨none, none, none⟩ r) (.derive 6 4 1) (some 9)).bay 3).buffer[1]? = some ⟨none, none, none⟩ ∧
      (∀ y ∈ ((working (preparing claimed ⟨none, none, none⟩ r) (.derive 6 4 1) (some 9)).session 3).records.take 1,
        y.applies = true → y.stage = .prepared) ∧ claimed.applies = true ∧ claimed.stage = .claimed) ∧
    ((working (bayIn .filing) (.derive 6 4 1) (some 9)).session 3).state ≠ .preparing := by decide +kernel

theorem test_witness_Checkval :
    (∀ x ∈ [readyItem 6 3, wrapped], ((working (preparing x ⟨some 5, none, none⟩ none) (.checkval 5) none).session 3).records[1]? = some x ∧
      ((working (preparing x ⟨some 5, none, none⟩ none) (.checkval 5) none).bay 3).buffer[1]? = some ⟨some 5, none, none⟩ ∧
      (∀ y ∈ ((working (preparing x ⟨some 5, none, none⟩ none) (.checkval 5) none).session 3).records.take 1,
        y.applies = true → y.stage = .prepared) ∧
      (∀ y ∈ ((working (preparing x ⟨some 5, none, none⟩ none) (.checkval 5) none).session 3).records.drop 2, y.applies = false) ∧
      x.applies = true) ∧
    (wrapped.item.delivery = .wrapped 7 ∧ wrapped.wrapGeneration = some 4 ∧ (readyItem 6 3).item.delivery = .direct ∧
      ((working (preparing wrapped ⟨some 5, none, none⟩ none) (.checkval 5) none).slot 7).keyFor 4 true = some 9) := by decide +kernel

theorem test_witness_Wrap :
    (working (preparing { wrapped with stage := .checked } ⟨some 5, none, some 1⟩ none) (.wrap 7 4 5) (some 9)).cipher.running =
      some { request := { requester := .bay 3 1, op := .wrap 7 4 5 }, working := some 9 } ∧
    ((working (preparing { wrapped with stage := .checked } ⟨some 5, none, some 1⟩ none) (.wrap 7 4 5) (some 9)).session 3).records[1]? =
      some { wrapped with stage := .checked } ∧
    ((working (preparing { wrapped with stage := .checked } ⟨some 5, none, some 1⟩ none) (.wrap 7 4 5) (some 9)).session 3).latched ≠ none := by
  decide +kernel

/-- A derivation of a bay waits behind the check of a component; its generation is not the slot's. -/
def unavailable : State :=
  let s := withFullQueue (working (preparing claimed ⟨none, none, none⟩ none) (.checkval 5) none)
  { s with cipher := { running := some { request := { requester := .component, op := .checkval 5 }, working := none },
                       waiting := [{ requester := .bay 3 1, op := .derive 6 3 1 }] } }

theorem test_witness_KeyUnavailable :
    unavailable.engine ≠ .off ∧ unavailable.cipher.waiting = [{ requester := .bay 3 1, op := .derive 6 3 1 }] ∧
    unavailable.ceu.record = .empty ∧ unavailable.ceu.arrivals = [] ∧ (unavailable.slot 6).keyFor 3 false = none ∧
    (unavailable.session 3).state = .preparing ∧ 16 ≤ unavailable.writer.queue.length ∧
    ((unavailable.session 3).records.any fun y => y.claim.isSome) = true := by decide +kernel

/-! ## Witnesses: receipt writer, invariants and frames -/

theorem test_witness_ReceiptWritten :
    (∀ n ∈ [0, 15], (writing n).engine = .running ∧ (writing n).intake.area = some anArea ∧ (writing n).writer.state = .writing ∧
      (writing n).writer.roll = some (aRoll n) ∧ (writing n).writer.queue = aReceipt :: [] ∧ (writing n).ks.closure = none ∧
      (aRoll n).written < (aRoll n).capacity) ∧
    (writing 0).writer.line = [] ∧ { (writing 0).writer with line := [⟨.settle 5, aReceipt⟩] }.line = ⟨.settle 5, aReceipt⟩ :: [] := by
  decide

def attempting (queue : List Receipt) (again : Bool) : State :=
  { running with writer := { running.writer with state := .taking, queue := queue, readAgain := again } }

theorem test_witness_TakeAttempt_again :
    ∀ q ∈ [[], [aReceipt]], ({ attempting q false with writer := { (attempting q false).writer with fromAwait := true } }).writer.fromAwait = true ∧
      ({ attempting q false with writer := { (attempting q false).writer with fromAwait := true } }).writer.readAgain = false ∧
      (0 : BitVec 32) ≠ 1 ∧ (2 : BitVec 32) ≠ 0 := by decide

/-- STOPPING with the writer at work and a bay's plan open, so that the engine stays; without it the writer is the last at work. -/
def lastAtWork (s : State) (x : Bay) : State := { withBay s 3 x with engine := .stopping }

theorem settled_of_writer (s : State) (h : s.intake.sweep = none ∧ (s.writer.state = .writing ∨ s.writer.state = .taking)) :
    s.settled :=
  ⟨fun w hw => (by rw [h.1] at hw; cases hw), by rcases h.2 with h | h <;> simp [State.stopComplete, h]⟩

theorem test_witness_Writer_stopping :
    (∀ x ∈ [bayIn .filing, Bay.reset true], ((lastAtWork (writing 15) x).bay 3).running = x.running) ∧
    ((bayIn .filing).running ≠ none ∧ (Bay.reset true).running = none) ∧
    (lastAtWork (writing 15) (bayIn .filing)).settled ∧ (lastAtWork (attempting [aReceipt] false) (Bay.reset true)).settled ∧
    ((lastAtWork (writing 15) (Bay.reset true)).engine = .stopping ∧ (lastAtWork (writing 15) (Bay.reset true)).intake.table = [] ∧
      (lastAtWork (writing 15) (Bay.reset true)).ceu.record = .empty ∧
      (lastAtWork (writing 15) (Bay.reset true)).intake.area = some anArea) ∧
    { (writing 0).ks with closure := some ⟨5, 4, 3, 1⟩ }.closure ≠ none :=
  ⟨fun x _ => by rw [show (lastAtWork (writing 15) x).bay 3 = x from bay_withBay _ _ _], by decide,
   settled_of_writer _ (by decide), settled_of_writer _ (by decide), by decide, by decide⟩

/-- Nothing else is open where every bay is IDLE. -/
theorem test_witness_NothingOpen : (lastAtWork (writing 15) (Bay.reset true)).nothingOpen :=
  ⟨by decide +kernel, by decide, by decide⟩

/-- Two receipts, and room for the last or for more. -/
theorem test_witness_ReceiptWritten_full :
    ∀ n ∈ [14, 15], let s := writing n
      { s.writer with queue := [aReceipt, aReceipt] }.queue = aReceipt :: [aReceipt] ∧ ([aReceipt] : List Receipt) ≠ [] ∧
      s.writer.roll = some (aRoll n) ∧ (n = 14 ↔ n + 1 < (aRoll n).capacity) := by decide

theorem test_witness_TakeAttempt :
    ((attempting [] false).settled ∧ (attempting [] false).engine = .running ∧ (attempting [] false).intake.area = some anArea ∧
      (attempting [] false).writer.state = .taking ∧ (attempting [] false).ks.closure = none) ∧
    (16 ≤ (16 : BitVec 32).toNat ∧ (65535 : BitVec 32).toNat ≤ 65535 ∧ (0x80000 : BitVec 64).toNat % 64 = 0) ∧
    ((15 : BitVec 32).toNat < 16 ∧ 65535 < (65536 : BitVec 32).toNat ∧ (0x80020 : BitVec 64).toNat % 64 ≠ 0) ∧
    ((attempting [aReceipt] true).settled ∧ (attempting [aReceipt] true).writer.readAgain = true) ∧
    ((attempting [aReceipt] false).settled ∧ (attempting [aReceipt] false).writer.queue ≠ [] ∧ (attempting [aReceipt] false).writer.fromAwait = false) :=
  ⟨⟨settled_of_still _ (by decide), by decide, by decide, by decide, by decide⟩, by decide, by decide,
   ⟨settled_of_still _ (by decide), by decide⟩, settled_of_still _ (by decide), by decide, by decide⟩

theorem test_witness_Ksn : (1048575 : Nat) < 2 ^ 20 := by decide

/-- States that have the invariants, with commands and without. -/
theorem test_witness_Invariants :
    (withSlot running 5 (readySlot aDefinition)).accounted ∧ (withFullQueue (fullTable running)).bounded ∧ running.prof.legal ∧
    running.atRest ∧ (standby 0).pending = [] ∧ { standby 0 with pending := [Instr.stop] }.pending = Instr.stop :: [] := by
  refine ⟨?_, test_witness_StateRegister, ?_, ⟨areaLegal_of _ (by decide), settled_of_still _ (by decide)⟩, rfl, rfl⟩
  · unfold State.accounted Slot.balanced Slot.capped; decide +kernel
  · unfold ProfileStore.legal; decide +kernel

theorem test_witness_Frames :
    (List.replicate 40 (0xA5 : Byte)).length ≤ 40 ∧ (running.bay 7).link.receiver = .hunt ∧ (running.console 2).receiver = .hunt := by
  decide

end Sys2Proof.Tests
end

section
/-!
SUPPORT. The STATE register: the word a read of STATE returns is R2's fields side by side, with zeros between them.
-/

namespace Sys2Proof.Machine

/-- The layout of STATE in R2: bits 3:0, 13:8, 20:16 and 24, and zeros between them and above. -/
def stateFields (engine : BitVec 4) (orders : BitVec 6) (depth : BitVec 5) (roll : BitVec 1) : BitVec 32 :=
  0#7 ++ roll ++ 0#3 ++ depth ++ 0#2 ++ orders ++ 0#4 ++ engine

/-- Side by side is a sum, since the low part stays below the weight of the high one. -/
theorem toNat_append_eq_add {n m : Nat} (x : BitVec n) (y : BitVec m) : (x ++ y).toNat = x.toNat * 2 ^ m + y.toNat := by
  rw [BitVec.toNat_append, ← Nat.shiftLeft_add_eq_or_of_lt y.isLt, Nat.shiftLeft_eq]

theorem append_and_append_eq_zero {n m : Nat} {x₁ x₂ : BitVec n} {y₁ y₂ : BitVec m} (hx : x₁ &&& x₂ = 0#n)
    (hy : y₁ &&& y₂ = 0#m) : (x₁ ++ y₁) &&& (x₂ ++ y₂) = 0#(n + m) := by
  rw [BitVec.and_append, hx, hy, BitVec.zero_append_zero]

section
variable (engine : BitVec 4) (orders : BitVec 6) (depth : BitVec 5) (roll : BitVec 1)

theorem stateFields_toNat : (stateFields engine orders depth roll).toNat =
    engine.toNat + orders.toNat * 2 ^ 8 + depth.toNat * 2 ^ 16 + roll.toNat * 2 ^ 24 := by
  simp only [stateFields, toNat_append_eq_add, BitVec.toNat_ofNat]
  omega

theorem stateFields_extract_toNat (start len : Nat) :
    ((stateFields engine orders depth roll).extractLsb' start len).toNat =
      (engine.toNat + orders.toNat * 2 ^ 8 + depth.toNat * 2 ^ 16 + roll.toNat * 2 ^ 24) / 2 ^ start % 2 ^ len := by
  rw [BitVec.extractLsb'_toNat, stateFields_toNat, Nat.shiftRight_eq_div_pow]

@[simp] theorem stateFields_engine : (stateFields engine orders depth roll).extractLsb' 0 4 = engine :=
  BitVec.extractLsb'_append_eq_right

@[simp] theorem stateFields_orders : (stateFields engine orders depth roll).extractLsb' 8 6 = orders :=
  BitVec.eq_of_toNat_eq (by rw [stateFields_extract_toNat]; omega)

@[simp] theorem stateFields_depth : (stateFields engine orders depth roll).extractLsb' 16 5 = depth :=
  BitVec.eq_of_toNat_eq (by rw [stateFields_extract_toNat]; omega)

@[simp] theorem stateFields_roll : (stateFields engine orders depth roll).extractLsb' 24 1 = roll :=
  BitVec.eq_of_toNat_eq (by rw [stateFields_extract_toNat]; omega)

/-- ROLL_PRESENT, a field of one bit, read as a bit. -/
theorem stateFields_getLsbD_roll : (stateFields engine orders depth roll).getLsbD 24 = roll.getLsbD 0 :=
  calc (stateFields engine orders depth roll).getLsbD 24
    _ = ((stateFields engine orders depth roll).extractLsb' 24 1).getLsbD 0 := by rw [BitVec.getLsbD_extractLsb']; simp
    _ = roll.getLsbD 0 := by rw [stateFields_roll]

/-- Outside the four fields the word is 0: part by part, from bit 0 up, the mask is 0 on a field and the word is 0 on a gap. -/
theorem stateFields_elsewhere : stateFields engine orders depth roll &&& ~~~0x011F3F0F#32 = 0#32 := by
  have mask : ~~~0x011F3F0F#32 = BitVec.allOnes 7 ++ 0#1 ++ BitVec.allOnes 3 ++ 0#5 ++ BitVec.allOnes 2 ++ 0#6 ++
      BitVec.allOnes 4 ++ 0#4 := by decide
  rw [mask]
  refine append_and_append_eq_zero ?_ BitVec.and_zero
  refine append_and_append_eq_zero ?_ BitVec.zero_and
  refine append_and_append_eq_zero ?_ BitVec.and_zero
  refine append_and_append_eq_zero ?_ BitVec.zero_and
  refine append_and_append_eq_zero ?_ BitVec.and_zero
  refine append_and_append_eq_zero ?_ BitVec.zero_and
  exact append_and_append_eq_zero BitVec.zero_and BitVec.and_zero

end

/-- Counts that fit their fields are read as they stand; the code of an engine state always fits. -/
theorem State.stateRegister_eq_stateFields {s : State} (hTable : s.intake.table.length < 2 ^ 6)
    (hQueue : s.writer.queue.length < 2 ^ 5) :
    s.stateRegister = stateFields (BitVec.ofNat 4 s.engine.code) (BitVec.ofNat 6 s.intake.table.length)
      (BitVec.ofNat 5 s.writer.queue.length) (BitVec.ofBool s.writer.roll.isSome) := by
  have hEngine : s.engine.code < 2 ^ 4 := by cases s.engine <;> decide
  have hRoll : (if s.writer.roll.isSome then 2 ^ 24 else 0) = s.writer.roll.isSome.toNat * 2 ^ 24 := by
    cases s.writer.roll.isSome <;> rfl
  have := Bool.toNat_le s.writer.roll.isSome
  apply BitVec.eq_of_toNat_eq
  rw [stateFields_toNat, State.stateRegister, hRoll]
  simp only [BitVec.toNat_ofNat, BitVec.toNat_ofBool, Nat.mod_eq_of_lt hEngine, Nat.mod_eq_of_lt hTable,
    Nat.mod_eq_of_lt hQueue]
  omega

theorem State.readRegister_state (s : State) : s.readRegister 0x18 = s.stateRegister := rfl

/-- Settles O7: the word read is R2's layout (`stateFields`), so each clause is one of the layout's. -/
theorem stateRegisterFields : Obligations.StateRegisterFields := by
  rintro s ⟨table_le, queue_le, -⟩
  have hTable : s.intake.table.length < 2 ^ 6 := by omega
  have hQueue : s.writer.queue.length < 2 ^ 5 := by omega
  rw [State.readRegister_state, State.stateRegister_eq_stateFields hTable hQueue]
  refine ⟨?engine, ?orders, ?depth, ?roll, stateFields_elsewhere ..⟩
  case engine => exact stateFields_engine ..
  case orders => rw [stateFields_orders, BitVec.toNat_ofNat, Nat.mod_eq_of_lt hTable]
  case depth => rw [stateFields_depth, BitVec.toNat_ofNat, Nat.mod_eq_of_lt hQueue]
  case roll => rw [stateFields_getLsbD_roll]; simp

end Sys2Proof.Machine
end

section
/-!
SUPPORT. Serials: how each operation that changes a slot record keeps the slot's serials accounted for (R53, R57).
-/

namespace Sys2Proof.Machine

/-! ## One slot record -/

/-- What `State.accounted` says of one slot (R53, R57). -/
def Slot.accounted (x : Slot) : Prop := x.balanced ∧ x.capped

theorem Slot.accounted_iff (x : Slot) : x.accounted ↔
    x.nextSerial = x.receipted + x.claims.length ∧ x.nextSerial + x.allowance ≤ 1048576 := Iff.rfl

theorem Slot.blank_accounted (generation : BitVec 16) (stored : StoredKey) : (Slot.blank generation stored).accounted :=
  ⟨rfl, Nat.zero_le _⟩

theorem Slot.erased_accounted (x : Slot) : x.erased.accounted := ⟨rfl, Nat.zero_le _⟩

theorem Slot.zeroized_accounted (x : Slot) (i : SlotId) : (x.zeroized i).accounted := Slot.blank_accounted _ _

/-- A claim is granted only against an allowance (R48). -/
theorem Slot.allowance_pos_of_decideClaim {x : Slot} {b : BayId} (h : x.decideClaim b = .grant) : 0 < x.allowance := by
  unfold Slot.decideClaim at h
  split_ifs at h
  omega

section
variable {x : Slot} (h : x.accounted)
include h

/-- The serial handed out is an open claim and is paid from the allowance (R50). -/
theorem Slot.accounted.grantClaim {b : BayId} (granted : x.decideClaim b = .grant) : (x.grantClaim b).accounted := by
  have paid := Slot.allowance_pos_of_decideClaim granted
  rw [Slot.accounted_iff] at h
  simp only [Slot.accounted_iff, Slot.grantClaim, List.length_append, List.length_singleton]
  omega

/-- A closure moves one serial from the open claims to the receipted (R52). -/
theorem Slot.accounted.closeClaim {c : Closure} (closes : x.closes c = true) : (x.closeClaim c).accounted := by
  rw [Slot.closes, Bool.and_eq_true, List.any_eq_true] at closes
  obtain ⟨-, d, d_mem, d_named⟩ := closes
  have one_less := List.length_eraseP_add_one d_mem
    (p := fun d => decide (d.bay = c.bay) && decide (d.serial = c.serial)) d_named
  rw [Slot.accounted_iff] at h
  simp only [Slot.accounted_iff, Slot.closeClaim]
  omega

/-- A grant adds no more than the serial space has left (R57). -/
theorem Slot.accounted.grantAllowance (amount : Nat) :
    Slot.accounted { x with allowance := x.allowance + x.granted amount } := by
  rw [Slot.accounted_iff] at h
  simp only [Slot.accounted_iff, Slot.granted]
  omega

theorem Slot.accounted.written (ok : Bool) : (x.written ok).accounted := by
  unfold Slot.written
  split
  · split <;> exact h
  all_goals exact h

theorem Slot.accounted.closedBy (i : SlotId) (c : Option Closure) : (x.closedBy i c).accounted := by
  unfold Slot.closedBy
  split
  · split
    next closing => exact h.closeClaim closing.2
    next => exact h
  · exact h

/-- A reset turns live claims into orphans and so drops none (R44). -/
theorem Slot.accounted.afterReset : x.afterReset.accounted := by
  have serials : x.resetState.nextSerial = x.nextSerial ∧ x.resetState.receipted = x.receipted ∧
      x.resetState.allowance = x.allowance := by
    unfold Slot.resetState
    split <;> exact ⟨rfl, rfl, rfl⟩
  obtain ⟨next, receipted, allowance⟩ := serials
  simpa [Slot.accounted_iff, Slot.afterReset, next, receipted, allowance] using h

theorem Slot.accounted.reset (i : SlotId) (c : Option Closure) : (x.reset i c).accounted := by
  unfold Slot.reset
  split
  · exact (h.closedBy i c).afterReset
  · exact Slot.blank_accounted _ _

theorem Slot.accounted.unpowered (i : SlotId) (writing : Bool) : (x.unpowered i writing).accounted := by
  unfold Slot.unpowered
  split
  · exact h
  · exact Slot.blank_accounted _ _

end

/-! ## The operations of State that the others are made of -/

section
variable {s : State} (h : s.accounted)
include h

/-- What leaves every slot record alone; the frame lemmas say what does. -/
theorem State.accounted.of_slots {t : State} (same : ∀ i, t.slot i = s.slot i) : t.accounted := by
  intro i
  rw [same i]
  exact h i

/-- One slot record changes and stays accounted for, by default because the change is in none of its counts. -/
theorem State.accounted.updSlot (i : SlotId) (f : Slot → Slot)
    (keeps : (s.slot i).accounted → (f (s.slot i)).accounted := by exact id) :
    (s.updSlot i f).accounted := by
  intro j
  rw [updSlot_slot]
  split
  · exact keeps (h i)
  · exact h j

theorem State.accounted.updKs (f : KeyStore → KeyStore) (same : ∀ k, (f k).slots = k.slots := by exact fun _ => rfl) :
    (s.updKs f).accounted :=
  h.of_slots (slot_of_slots (same s.ks))

/-- A fold keeps what each of its steps keeps. -/
theorem State.accounted.foldl {α : Type} {f : State → α → State} (keeps : ∀ t a, t.accounted → (f t a).accounted)
    (l : List α) : (l.foldl f s).accounted :=
  List.foldlRecOn l f h fun t ht a _ => keeps t a ht

theorem State.accounted.withEngine (e : EngineState) : State.accounted { s with engine := e } := h

theorem State.accounted.emit (o : List Output) : (s.emit o).accounted := h

theorem State.accounted.raise (f : Flag) : (s.raise f).accounted := h

theorem State.accounted.storeFaultUnless (ok : Bool) : (if ok then s else s.raise .storeFault).accounted := by
  split
  · exact h
  · exact h.raise .storeFault

theorem State.accounted.completeOrder (n : Nat) (r : Result) (d : List Byte) : (s.completeOrder n r d).accounted :=
  h.of_slots (by simp)

theorem State.accounted.answerAtTake (n : Nat) (r : Result) (d : List Byte) : (s.answerAtTake n r d).accounted :=
  h.of_slots (by simp)

theorem State.accounted.refuseAtTake (e : Entry) (r : Result) : (s.refuseAtTake e r).accounted := h.of_slots (by simp)

theorem State.accounted.kickArray : s.kickArray.accounted := h.of_slots (by simp)

theorem State.accounted.queueWrite (i : SlotId) : (s.queueWrite i).accounted := h.of_slots (by simp)

theorem State.accounted.enterReceipt (r : Receipt) : (s.enterReceipt r).accounted := h.of_slots (by simp)

theorem State.accounted.waitInLine (x : Submission) : (s.waitInLine x).accounted := h.of_slots (by simp)

theorem State.accounted.toConsoles (m : ConsoleMessage) : (s.toConsoles m).accounted := h.of_slots (by simp)

theorem State.accounted.emptyRecord : s.emptyRecord.accounted := h.of_slots (by simp)

theorem State.accounted.takeArrivals : s.takeArrivals.accounted := h.of_slots (by simp)

theorem State.accounted.commitResult (i : SlotId) (ok : Bool) : (s.commitResult i ok).accounted := h.of_slots (by simp)

theorem State.accounted.kickCipher : s.kickCipher.accounted := h.of_slots (by simp)

theorem State.accounted.stopBays : s.stopBays.accounted := h.of_slots (by simp)

theorem State.accounted.closeSweep : s.closeSweep.accounted := h.of_slots (by simp)

theorem State.accounted.settleEngine : s.settleEngine.accounted := h.of_slots (by simp)

/-! ## Drains and erases (R33 to R35) -/

theorem State.accounted.answerErase (i : SlotId) (r : Result) : (s.answerErase i r).accounted := by
  unfold State.answerErase
  split
  · exact h
  · exact (h.updSlot i _).completeOrder _ _ _

theorem State.accounted.beginErase (i : SlotId) : (s.beginErase i).accounted := by
  unfold State.beginErase
  split
  · refine (h.updSlot i _ ?_).queueWrite i
    exact fun _ => (s.slot i).erased_accounted
  · refine (h.updSlot i _ ?_).answerErase i .ok
    exact fun _ => (s.slot i).erased_accounted

theorem State.accounted.testDrain (i : SlotId) : (s.testDrain i).accounted := by
  unfold State.testDrain
  split
  · exact h.beginErase i
  · exact h

theorem State.accounted.releaseSlot (b : BayId) (i : SlotId) : (State.releaseSlot b s i).accounted := by
  unfold State.releaseSlot
  split
  · exact (h.updSlot i _).testDrain i
  · exact h

theorem State.accounted.releaseHolds (b : BayId) : (s.releaseHolds b).accounted :=
  h.foldl (fun _ i ht => ht.releaseSlot b i) _

theorem State.accounted.beginDrain (e : Entry) (i : SlotId) : (s.beginDrain e i).accounted :=
  (State.accounted.updSlot (s := s.hold e) h i _).testDrain i

theorem State.accounted.endDrain (i : SlotId) : (s.endDrain i).accounted := by
  unfold State.endDrain
  split
  · exact (h.updSlot i _).answerErase i .engineStopped
  · exact h

/-! ## Assemblies and grants (R23 to R25, R57) -/

theorem State.accounted.startAssembly (i : SlotId) : (s.startAssembly i).accounted := h.updSlot i _

theorem State.accounted.endAssemblySlot (i : SlotId) : (s.endAssemblySlot i).accounted := by
  unfold State.endAssemblySlot
  split
  · exact h.updSlot i _
  · exact h

theorem State.accounted.commitKey (i : SlotId) (key : Key) (ids : List CardId) (value : CheckValue) :
    (s.commitKey i key ids value).accounted := by
  unfold State.commitKey
  split
  · refine (h.updSlot i _ ?_).queueWrite i
    exact fun _ => ⟨rfl, Nat.zero_le _⟩
  · exact h.updSlot i _ fun _ => ⟨rfl, Nat.zero_le _⟩

theorem State.accounted.applyGrant (i : SlotId) (amount : Nat) : (s.applyGrant i amount).accounted :=
  h.updSlot i _ fun hx => hx.grantAllowance amount

/-! ## Settles (R55, R56) -/

theorem State.accounted.updSettle (i : SlotId) (f : Settle → Settle) : (s.updSettle i f).accounted := h.updSlot i _

theorem State.accounted.answerSettle (i : SlotId) (r : Result) : (s.answerSettle i r).accounted := by
  unfold State.answerSettle
  split
  · exact (h.updSettle i _).completeOrder _ _ _
  · exact h

theorem State.accounted.testSettle (i : SlotId) : (s.testSettle i).accounted := by
  unfold State.testSettle
  split
  · exact h
  · split_ifs
    · exact h
    · exact (h.answerSettle i .ok).updSlot i _
    · exact h.answerSettle i .engineStopped
    · exact h

theorem State.accounted.stopSettle (i : SlotId) : (s.stopSettle i).accounted :=
  ((h.updSettle i _).answerSettle i .engineStopped).testSettle i

theorem State.accounted.settleEntered (i : SlotId) (c : Claim) : (s.settleEntered i c).accounted := h.updSettle i _

omit h in
theorem State.accounted.submitSettle (i : SlotId) (l : List Claim) {s : State} (h : s.accounted) :
    (State.submitSettle i l s).accounted := by
  induction l generalizing s with
  | nil => exact (h.updSettle i _).testSettle i
  | cons c rest ih =>
    unfold State.submitSettle
    split_ifs
    · exact ih ((h.settleEntered i c).enterReceipt _)
    · exact (h.updSettle i _).waitInLine _
    · exact h.stopSettle i

theorem State.accounted.resumeSettle (i : SlotId) (r : Receipt) : (s.resumeSettle i r).accounted := by
  have entered := h.settleEntered i { bay := r.bay, serial := Ksn.serial r.ksn, orphan := true }
  unfold State.resumeSettle
  dsimp only
  split
  · exact entered.submitSettle i _
  · exact entered

theorem State.accounted.settleClosed (i : SlotId) (c : Claim) : (s.settleClosed i c).accounted :=
  (h.updSettle i _).testSettle i

theorem State.accounted.beginSettle (e : Entry) (i : SlotId) : (s.beginSettle e i).accounted :=
  (State.accounted.updSlot (s := s.hold e) h i _).submitSettle i _

theorem State.accounted.testSettles : s.testSettles.accounted := h.foldl (fun _ i ht => ht.testSettle i) _

theorem State.accounted.withdrawSettle (waiting : List SlotId) (i : SlotId) :
    (State.withdrawSettle waiting s i).accounted := by
  unfold State.withdrawSettle
  split
  · exact h.stopSettle i
  · exact h

theorem State.accounted.withdrawSettles : s.withdrawSettles.accounted :=
  State.accounted.foldl (s := s.updWriter _) h (fun _ i ht => ht.withdrawSettle _ i) _

/-! ## Requests taken by the key store (R38, R48 to R50, R52) -/

theorem State.accounted.takeClaim (b : BayId) (i : SlotId) : (s.takeClaim b i).accounted := by
  unfold State.takeClaim
  split
  next granted =>
    refine (h.updSlot i (·.grantClaim b) ?_).of_slots (by simp)
    exact fun hx => hx.grantClaim granted
  next => exact h.of_slots (by simp)
  next =>
    refine h.of_slots ?_
    dsimp only
    split <;> simp [State.slot]

theorem State.accounted.takeWrap (b : BayId) (i : SlotId) : (s.takeWrap b i).accounted := by
  unfold State.takeWrap
  split
  · exact (h.updSlot i fun x => { x with holds := x.holds ||| bayBit b }).of_slots (by simp)
  · exact h.of_slots (by simp)

theorem State.accounted.retakeDeferred (b : BayId) (i : SlotId) : (s.retakeDeferred b i).accounted := by
  unfold State.retakeDeferred
  split
  · refine State.accounted.takeClaim ?_ b i
    exact h.of_slots (by simp [State.slot])
  · exact h

theorem State.accounted.takeClosure (c : Closure) : (s.takeClosure c).accounted := by
  have taken : s.closureTaken.accounted := h.of_slots (by simp)
  unfold State.takeClosure
  dsimp only
  split
  next closes =>
    refine (((taken.updSlot c.slot (·.closeClaim c) ?_).retakeDeferred c.bay c.slot).testDrain c.slot).settleClosed c.slot _
    exact fun hx => hx.closeClaim (by simpa using closes)
  next => exact taken

/-! ## Ceremonies (chapter 4) -/

theorem State.accounted.endAssembly (a : Assembly) (code : Result) : (s.endAssembly a code).accounted := by
  refine ((State.accounted.endAssemblySlot ?_ a.slot).completeOrder _ _ _).toConsoles _ |>.emptyRecord
  exact h.of_slots (by simp)

theorem State.accounted.componentFailed (y : Assembly) (a : Arrival) : (s.componentFailed y a).accounted := by
  have rejected (z : Assembly) : ((State.rejectArrival .checkFailed s a).setAssembly z).accounted := h.of_slots (by simp)
  unfold State.componentFailed
  dsimp only
  split
  · exact (rejected _).endAssembly _ .componentRejects
  · exact (rejected _).takeArrivals

theorem State.accounted.componentChecked (value : CheckValue) : (s.componentChecked value).accounted := by
  have ended : s.checkEnded.accounted := h.of_slots (by simp)
  unfold State.componentChecked
  dsimp only
  split
  · exact ended.takeArrivals
  · split
    · split
      · exact ended.of_slots (by simp)
      · exact ended.componentFailed _ _
    · exact ended.takeArrivals

theorem State.accounted.commitAssembly (a : Assembly) (value : CheckValue) : (s.commitAssembly a value).accounted := by
  have committed : ((s.setAssembly { a with accumulator := 0, phase := .committing }).commitKey a.slot a.accumulator
      (a.contributors.map (·.1)) value).accounted :=
    State.accounted.commitKey (s := s.setAssembly _) (h.of_slots (by simp)) _ _ _ _
  unfold State.commitAssembly
  dsimp only
  split
  · exact committed
  · exact committed.commitResult _ _

theorem State.accounted.accumulatorChecked (value : CheckValue) : (s.accumulatorChecked value).accounted := by
  have ended : s.checkEnded.accounted := h.of_slots (by simp)
  unfold State.accumulatorChecked
  dsimp only
  split
  · exact ended.takeArrivals
  · split
    · split
      · exact ended.commitAssembly _ value
      · exact ended.endAssembly _ .checkMismatch
    · exact ended

theorem State.accounted.openCeremony (e : Entry) (p : OpenParams) : (s.openCeremony e p).accounted := by
  have started := h.startAssembly p.slot
  unfold State.openCeremony
  split
  · exact h.refuseAtTake e .refusedState
  · dsimp only
    split
    · exact (started.endAssemblySlot p.slot).refuseAtTake e .refusedField
    · exact started.of_slots (by simp)

theorem State.accounted.grantOutcome (o : ApprovalOutcome) : (s.grantOutcome o).accounted := by
  unfold State.grantOutcome
  split
  · exact h
  · dsimp only
    have taken : (s.updKs fun k => { k with grant := none }).accounted := h.updKs _
    split
    · exact taken.completeOrder _ _ _
    · split
      · exact (taken.applyGrant _ _).completeOrder _ _ _
      all_goals exact taken.completeOrder _ _ _

theorem State.accounted.endApproval (p : Approval) (o : ApprovalOutcome) : (s.endApproval p o).accounted :=
  ((h.grantOutcome o).toConsoles _).emptyRecord

theorem State.accounted.stopCeremony : s.stopCeremony.accounted := by
  unfold State.stopCeremony
  split
  · exact h
  · split
    · exact h
    · exact h.endAssembly _ .engineStopped
  · exact h.endApproval _ .stopped

theorem State.accounted.takeVote (c : ConsoleId) (seq : Byte) (o : ApprovalOutcome) : (s.takeVote c seq o).accounted := by
  have told (m : ConsoleMessage) : (s.toConsole c m).accounted := h.of_slots (by simp)
  unfold State.takeVote
  split
  · exact told _
  · exact told _
  · split
    · exact told _
    · split
      · exact (told _).endApproval _ o
      · exact told _

theorem State.accounted.takeConsoleFrame (c : ConsoleId) (f : ConsoleFrame) : (s.takeConsoleFrame c f).accounted := by
  unfold State.takeConsoleFrame
  split
  · exact h
  · cases f with
    | cardIn seq id => exact h
    | cardOut seq => exact h
    | component seq value entered => exact h.of_slots (by simp)
    | approve seq => exact h.takeVote c seq .granted
    | decline seq => exact h.takeVote c seq .notApproved

theorem State.accounted.receiveConsole (c : ConsoleId) (f : ConsoleFrame) : (s.receiveConsole c f).accounted :=
  State.accounted.takeConsoleFrame (s := s.updConsole c _) h c f

theorem State.accounted.consoleByte (c : ConsoleId) (byte : Byte) : (State.consoleByte c s byte).accounted := by
  have heard (r : Receiver) : (s.updConsole c fun x => { x with receiver := r }).accounted := h
  unfold State.consoleByte
  dsimp only
  split
  · split
    · exact (heard _).takeConsoleFrame c _
    · exact heard _
  all_goals exact heard _

/-! ## The waiting line and the receipt writer (R143, R145) -/

theorem State.accounted.resumeSubmitter (x : Submission) : (s.resumeSubmitter x).accounted := by
  unfold State.resumeSubmitter
  split
  · exact h.of_slots (by simp)
  · exact h.resumeSettle _ x.receipt

theorem State.accounted.admitWaiting : s.admitWaiting.accounted := by
  unfold State.admitWaiting
  split
  · exact h
  · exact (State.accounted.enterReceipt (s := s.updWriter _) h _).resumeSubmitter _

theorem State.accounted.writeReceipt (a : Area) (roll : Roll) (r : Receipt) (rest : List Receipt) :
    (s.writeReceipt a roll r rest).accounted := by
  refine State.accounted.of_slots (State.accounted.admitWaiting ?_) fun _ => rfl
  exact h.of_slots (by simp [State.slot])

/-! ## Key array writes (R27, R28, R43) -/

theorem State.accounted.writeEnded (i : SlotId) (ok : Bool) : (s.writeEnded i ok).accounted := by
  have written := (h.updKs fun k => { k with arrayWrite := none }).updSlot i (·.written ok) fun hx => hx.written ok
  have reported := written.storeFaultUnless ok
  unfold State.writeEnded
  dsimp only
  refine State.accounted.kickArray ?_
  split
  · exact reported.commitResult i ok
  all_goals exact reported.answerErase i _

/-! ## The stop notice and the area fault (R6, R19) -/

theorem State.accounted.stopNotice : s.stopNotice.accounted := h.stopCeremony.stopBays.testSettles

theorem State.accounted.areaFault : s.areaFault.accounted := by
  have lost : ((s.raise .areaFault).endSweeps.updIntake fun k => { k with area := none }).writerInactive.loseAnswers.accounted :=
    h.of_slots (by simp)
  have undrained := (lost.foldl (fun _ i ht => ht.endDrain i) (List.finRange 64)).withdrawSettles
  unfold State.areaFault
  dsimp only
  split
  · exact (undrained.withEngine .stopping).stopNotice
  · exact undrained

/-! ## Tamper, resets and main power (R42 to R45) -/

theorem State.accounted.zeroizeSlot (i : SlotId) : (s.zeroizeSlot i).accounted :=
  h.updSlot i _ fun _ => (s.slot i).zeroized_accounted i

theorem State.accounted.tamperStore : s.tamperStore.accounted :=
  (h.foldl (fun _ i ht => ht.zeroizeSlot i) (List.finRange 64)).updKs _

theorem State.accounted.tamper : s.tamper.accounted := by
  have store := h.tamperStore
  unfold State.tamper
  dsimp only
  split
  · exact store.of_slots fun i => by simp [State.slot]
  · exact store.of_slots fun i => by simp [State.slot]

theorem State.accounted.setLatch : s.setLatch.accounted := by
  have latched : (s.updKs fun k => { k with latch := true }).accounted := h.updKs _
  unfold State.setLatch
  dsimp only
  split
  · exact latched.tamperStore
  · exact latched.tamper.closeSweep.settleEngine

theorem State.accounted.resetBlocks : s.resetBlocks.accounted := by
  intro i
  have same : s.resetBlocks.slot i = (s.slot i).reset i s.ks.closure := by
    simp [State.slot, State.resetBlocks, KeyStore.afterReset]
  rw [same]
  exact Slot.accounted.reset (h i) i _

theorem State.accounted.resetWith (mem : MemoryStart) : (s.resetWith mem).accounted := by
  have reset := h.resetBlocks.kickArray
  unfold State.resetWith State.readMemory
  split_ifs
  · exact reset.of_slots (by simp)
  · exact reset
  · exact reset.of_slots (by simp)

theorem State.accounted.losePower : s.losePower.accounted := by
  intro i
  have same : s.losePower.slot i = (s.slot i).unpowered i (decide (s.ks.arrayWrite = some i)) := by
    simp [State.slot, State.losePower]
  rw [same]
  exact Slot.accounted.unpowered (h i) i _

/-! ## What every command shares -/

theorem State.accounted.quiet : s.quiet.accounted := h

theorem State.accounted.dropRequest : s.dropRequest.accounted := h

theorem State.accounted.run {f : State → State} (keeps : s.quiet.accounted → (f s.quiet).accounted) :
    (s.run f).accounted := by
  by_cases power : s.engine = .off
  · rw [run_off s f power]
    exact h.quiet
  · rw [run_on s f power]
    exact (keeps h.quiet).closeSweep.settleEngine

theorem State.accounted.withOrder (kind : OrderKind) {f : Entry → State → State}
    (keeps : ∀ e, (f e s).accounted) : (s.withOrder kind f).accounted := by
  unfold State.withOrder
  split
  · exact keeps _
  · exact h

theorem State.accounted.withStoreOrder {α : Type} (kind : OrderKind) (fields : List Byte → Option α)
    {f : α → Entry → State → State} (keeps : ∀ x e, (f x e s).accounted) : (s.withStoreOrder kind fields f).accounted := by
  refine h.withOrder kind fun e => ?_
  split
  · exact h.refuseAtTake e .refusedField
  · split
    · exact keeps _ e
    · exact h

end

/-! ## Completions that leave every slot record alone (R86, R125, R164) -/

theorem bayCompletion_slot (s : State) (b : BayId) (store : State → State) (same : ∀ i, (store s).slot i = s.slot i)
    (i : SlotId) : (s.bayCompletion b store).slot i = s.slot i := by
  unfold State.bayCompletion
  (repeat' split) <;> simp [same]

@[simp] theorem persistEnded_slot (s : State) (x : Persist) (good : Bool) (i : SlotId) :
    (s.persistEnded x good).slot i = s.slot i := by
  unfold State.persistEnded
  dsimp only
  (repeat' split) <;> simp

/-! ## The commands -/

/-- The command answers a next state in which every slot's serials are accounted for. -/
def endsAccounted (o : Host.Outcome State Fault Refusal) : Prop := ∃ t, o = .next t ∧ t.accounted

theorem endsAccounted_next {t : State} (h : t.accounted) : endsAccounted (.next t) := ⟨t, rfl, h⟩

section
variable {s : State} (h : s.accounted)
include h

theorem endsAccounted_run {f : State → State} (keeps : s.quiet.accounted → (f s.quiet).accounted) :
    endsAccounted (.next (s.run f)) := endsAccounted_next (h.run keeps)

/-- A command whose own effect leaves every slot record alone. -/
theorem endsAccounted_run_of_slots {f : State → State} (same : ∀ i, (f s.quiet).slot i = s.quiet.slot i) :
    endsAccounted (.next (s.run f)) := endsAccounted_run h fun hq => hq.of_slots same

theorem endsAccounted_runBays_of_slots {f : State → State} (same : ∀ i, (f s.quiet).slot i = s.quiet.slot i) :
    endsAccounted (.next (s.runBays f)) := by
  refine endsAccounted_run_of_slots h fun i => ?_
  split
  · exact same i
  · rfl

/-! ## Commands that change slot records -/

theorem execStop_accounted : endsAccounted (execStop s) := by
  refine endsAccounted_run h fun hq => ?_
  split
  · refine State.accounted.stopNotice ((hq.withEngine .stopping).of_slots ?_)
    simp
  · exact hq

theorem execAreaFault_accounted (access : AreaAccess) : endsAccounted (execAreaFault access s) := by
  refine endsAccounted_run h fun hq => ?_
  split
  · exact (hq.emit _).areaFault
  · exact hq

theorem execReset_accounted (mem : MemoryStart) : endsAccounted (execReset mem s) := by
  refine endsAccounted_next ?_
  split
  · exact h.quiet
  · exact h.resetWith mem

theorem execMainPowerLoss_accounted : endsAccounted (execMainPowerLoss s) := by
  refine endsAccounted_next ?_
  split
  · exact h.quiet
  · exact h.losePower

theorem execPowerOnReset_accounted (tmpCase tmpBatlow : Bool) (mem : MemoryStart) :
    endsAccounted (execPowerOnReset tmpCase tmpBatlow mem s) :=
  endsAccounted_next (State.accounted.resetWith (h.losePower.updKs _) mem)

theorem execTmpCaseActive_accounted : endsAccounted (execTmpCaseActive s) := by
  have active := h.quiet.updKs fun k => { k with tmpCase := true }
  refine endsAccounted_next ?_
  dsimp only
  split
  · exact active
  · exact active.setLatch

theorem execTmpBatlowActive_accounted : endsAccounted (execTmpBatlowActive s) := by
  have active := h.quiet.updKs fun k => { k with tmpBatlow := true }
  refine endsAccounted_next ?_
  dsimp only
  split
  · exact active
  · exact active.setLatch

theorem execZeroizeOverwriteDone_accounted (ok : Bool) : endsAccounted (execZeroizeOverwriteDone ok s) := by
  refine endsAccounted_run h fun hq => ?_
  split
  · exact hq
  next p _ =>
    have overwritten := (hq.updSlot ⟨p.val, by omega⟩ fun x => { x with stored := if ok then .zeros else .noKey }).updKs
      fun k => { k with overwrite := nextPosition p }
    exact (overwritten.storeFaultUnless ok).kickArray

theorem execSlotDefine_accounted : endsAccounted (execSlotDefine s) := by
  refine endsAccounted_run h fun hq => hq.withStoreOrder _ _ fun x e => ?_
  dsimp only
  split_ifs
  · exact hq.refuseAtTake e .refusedField
  · exact hq.refuseAtTake e .refusedState
  · exact (hq.updSlot _ _).answerAtTake _ _ _

theorem execSlotErase_accounted : endsAccounted (execSlotErase s) := by
  refine endsAccounted_run h fun hq => hq.withStoreOrder _ _ fun i e => ?_
  dsimp only
  split
  · exact (hq.updSlot i _).answerAtTake _ _ _
  · split
    · exact hq.refuseAtTake e .refusedState
    · exact hq.beginDrain e i
  all_goals exact hq.refuseAtTake e .refusedState

theorem execAllowanceGrant_accounted : endsAccounted (execAllowanceGrant s) := by
  refine endsAccounted_run h fun hq => hq.withStoreOrder _ _ fun x e => ?_
  dsimp only
  split_ifs
  · exact hq.refuseAtTake e .refusedClass
  · exact hq.refuseAtTake e .refusedState
  · exact hq.of_slots (by simp)
  · exact (hq.applyGrant _ _).answerAtTake _ _ _

theorem execClaimsSettle_accounted : endsAccounted (execClaimsSettle s) := by
  refine endsAccounted_run h fun hq => hq.withStoreOrder _ _ fun i e => ?_
  split_ifs
  · exact hq.refuseAtTake e .refusedState
  · exact hq.beginSettle e i
  · exact hq.answerAtTake _ _ _

theorem execCeremonyOpen_accounted : endsAccounted (execCeremonyOpen s) := by
  refine endsAccounted_run h fun hq => hq.withOrder _ fun e => ?_
  split
  · exact hq.refuseAtTake e .refusedField
  · split_ifs
    · exact hq.refuseAtTake e .ceremonyBusy
    · exact hq.openCeremony e _
    · exact hq

theorem execCeremonyCancel_accounted : endsAccounted (execCeremonyCancel s) := by
  refine endsAccounted_run h fun hq => hq.withOrder _ fun e => ?_
  split
  · exact hq.refuseAtTake e .refusedField
  · split
    · split
      · exact (hq.answerAtTake _ _ _).endAssembly _ .cancelled
      · exact hq.refuseAtTake e .refusedState
    · split
      · exact (hq.answerAtTake _ _ _).endApproval _ .notApproved
      · exact hq.refuseAtTake e .refusedState
    · exact hq.refuseAtTake e .refusedState

theorem execDeadlineExpiry_accounted : endsAccounted (execDeadlineExpiry s) := by
  refine endsAccounted_run h fun hq => ?_
  split
  · split
    · exact hq.endAssembly _ .deadline
    · exact hq
  · exact hq

theorem execWindowExpiry_accounted : endsAccounted (execWindowExpiry s) := by
  refine endsAccounted_run h fun hq => ?_
  split
  · split
    · exact hq.endApproval _ .notApproved
    · exact hq
  all_goals exact hq

theorem execClaimRequest_accounted : endsAccounted (execClaimRequest s) := by
  refine endsAccounted_run h fun hq => ?_
  split
  · exact hq.dropRequest.takeClaim _ _
  · exact hq

theorem execWrapUse_accounted : endsAccounted (execWrapUse s) := by
  refine endsAccounted_run h fun hq => ?_
  split
  · exact hq.dropRequest.takeWrap _ _
  · exact hq

theorem execHoldRelease_accounted : endsAccounted (execHoldRelease s) := by
  refine endsAccounted_run h fun hq => ?_
  split
  · exact hq.dropRequest.releaseHolds _
  · exact hq

theorem execClaimClosure_accounted : endsAccounted (execClaimClosure s) := by
  refine endsAccounted_run h fun hq => ?_
  split
  · exact hq.dropRequest.takeClosure _
  · exact hq

theorem execKeyArrayWriteComplete_accounted : endsAccounted (execKeyArrayWriteComplete s) := by
  refine endsAccounted_run h fun hq => ?_
  split
  · exact hq.writeEnded _ true
  · exact hq

theorem execKeyArrayWriteFail_accounted : endsAccounted (execKeyArrayWriteFail s) := by
  refine endsAccounted_run h fun hq => ?_
  split
  · exact hq.writeEnded _ false
  · exact hq

theorem execCheckvalDone_accounted : endsAccounted (execCheckvalDone s) := by
  have released : s.quiet.releaseCipher.accounted := h
  refine endsAccounted_run h fun hq => ?_
  split
  · refine State.accounted.kickCipher ?_
    split
    · exact released.of_slots (bayCompletion_slot _ _ _ (by simp))
    · exact released.componentChecked _
    · exact released.accumulatorChecked _
  · exact hq

theorem receiveConsole_endsAccounted (c : ConsoleId) (f : ConsoleFrame) :
    endsAccounted (.next (s.run fun s => s.receiveConsole c f)) :=
  endsAccounted_run h fun hq => hq.receiveConsole c f

theorem execConsoleBadFrame_accounted (c : ConsoleId) (bytes : List Byte) : endsAccounted (execConsoleBadFrame c bytes s) :=
  endsAccounted_run h fun hq => hq.foldl (fun _ byte ht => ht.consoleByte c byte) bytes

theorem execConsoleGapExpiry_accounted (c : ConsoleId) (bytes : List Byte) :
    endsAccounted (execConsoleGapExpiry c bytes s) := by
  refine endsAccounted_run h fun hq => State.accounted.foldl ?_ (fun _ byte ht => ht.consoleByte c byte) bytes
  unfold State.consoleGap
  split <;> exact hq

theorem execReceiptWriteSequence_accounted : endsAccounted (execReceiptWriteSequence s) := by
  refine endsAccounted_run h fun hq => ?_
  split
  · split
    · exact hq.writeReceipt _ _ _ _
    · exact hq
  · exact hq

/-- Every command answers a next state and keeps every slot's serials accounted for (R53, R57). -/
theorem exec_accounted (c : Instr) : endsAccounted (exec c s) := by
  cases c with
  | stop => exact execStop_accounted h
  | areaFault access => exact execAreaFault_accounted h access
  | reset mem | pcieLinkReset mem => exact execReset_accounted h mem
  | mainPowerLoss => exact execMainPowerLoss_accounted h
  | powerOnReset tmpCase tmpBatlow mem => exact execPowerOnReset_accounted h tmpCase tmpBatlow mem
  | tmpCaseActive => exact execTmpCaseActive_accounted h
  | tmpBatlowActive => exact execTmpBatlowActive_accounted h
  | zeroizeOverwriteDone ok => exact execZeroizeOverwriteDone_accounted h ok
  | slotDefine => exact execSlotDefine_accounted h
  | slotErase => exact execSlotErase_accounted h
  | allowanceGrant => exact execAllowanceGrant_accounted h
  | claimsSettle => exact execClaimsSettle_accounted h
  | ceremonyOpen => exact execCeremonyOpen_accounted h
  | ceremonyCancel => exact execCeremonyCancel_accounted h
  | deadlineExpiry => exact execDeadlineExpiry_accounted h
  | windowExpiry => exact execWindowExpiry_accounted h
  | claimRequest => exact execClaimRequest_accounted h
  | wrapUse => exact execWrapUse_accounted h
  | holdRelease => exact execHoldRelease_accounted h
  | claimClosure => exact execClaimClosure_accounted h
  | keyArrayWriteComplete => exact execKeyArrayWriteComplete_accounted h
  | keyArrayWriteFail => exact execKeyArrayWriteFail_accounted h
  | checkvalDone => exact execCheckvalDone_accounted h
  | cardIn | cardOut | component | approve | decline => exact receiveConsole_endsAccounted h _ _
  | consoleBadFrame console bytes => exact execConsoleBadFrame_accounted h console bytes
  | consoleGapExpiry console bytes => exact execConsoleGapExpiry_accounted h console bytes
  | receiptWriteSequence => exact execReceiptWriteSequence_accounted h
  -- The remaining commands leave every slot record alone, as the frame lemmas of what they do say.
  | slotQuery => exact endsAccounted_run h fun hq => hq.withStoreOrder _ _ fun _ _ => hq.answerAtTake _ _ _
  | planRun | planRepeat | bayHalt | bayQuery | profileWrite | modelMapWrite | watchSet =>
    refine endsAccounted_run h fun hq => hq.withOrder _ fun e => hq.of_slots fun i => ?_
    (repeat' split) <;> simp
  | ident | ack | check | nak => exact endsAccounted_runBays_of_slots h (by simp)
  | bayLineError bay bytes =>
    exact endsAccounted_runBays_of_slots h fun i => foldl_keeps (fun t : State => t.slot i) _ (by simp) _ _
  | bayGapExpiry bay bytes =>
    refine endsAccounted_runBays_of_slots h fun i => (foldl_keeps (fun t : State => t.slot i) _ (by simp) _ _).trans ?_
    simp
  | bayPresHigh | bayPresLow => exact endsAccounted_next (h.quiet.of_slots (by simp [State.quiet]))
  | bayTransmitEnd | replyTimerExpiry | presenceTimerExpiry | removalTimerExpiry =>
    refine endsAccounted_runBays_of_slots h fun i => ?_
    (repeat' split) <;> simp
  | deriveDone | wrapDone =>
    refine endsAccounted_run_of_slots h fun i => ?_
    split
    · simp [bayCompletion_slot]
    · rfl
  | start hdr =>
    refine endsAccounted_run_of_slots h fun i => ?_
    dsimp only
    (repeat' split) <;> simp
  | nudge | eventsRead | eventMaskWrite | registerWrite | groupAreaRead | memoryBusyTimeout | sweepTimerExpiry
  | sweepCellVisit | ownerCheck | claimWithdrawal | consoleTransmitEnd | takeAttempt | persistEnd
  | serialMemoryReady =>
    refine endsAccounted_run_of_slots h fun i => ?_
    (repeat' split) <;> simp

end

theorem step_accounted {s : State} (h : s.accounted) : endsAccounted (step s) := by
  unfold step
  split
  next c rest _ => exact exec_accounted (s := { s with pending := rest }) h c
  next => exact endsAccounted_next h

/-- Settles O57: a step answers one next state, and by `step_accounted` its serials are accounted for. -/
theorem serialsAccountedAtEveryStep : Obligations.SerialsAccountedAtEveryStep := by
  intro s t next h
  obtain ⟨u, answer, accounted⟩ := step_accounted h
  rw [next] at answer
  obtain rfl : t = u := by injection answer
  exact accounted

end Sys2Proof.Machine
end

section
/-!
SUPPORT. The reply timer: what a resend does to the bay's link and what an exchange's failure does to its session, one lemma per row
of the table of R100 and per session state that takes NO_REPLY.
-/

namespace Sys2Proof.Machine

/-! ## What a settled state rests on -/

/-- The conditions of R7 read the bays by their running places alone. -/
theorem all_running_isNone_congr {s t : State} (running : ∀ c, (t.bay c).running = (s.bay c).running) :
    t.bays.toList.all (fun x => x.running.isNone) = s.bays.toList.all (fun x => x.running.isNone) := by
  have same : t.bays.map (·.running) = s.bays.map (·.running) :=
    Vector.ext fun i hi => by simpa [State.bay] using running ⟨i, hi⟩
  have read (u : State) : u.bays.toList.all (fun x => x.running.isNone) = (u.bays.map (·.running)).toList.all (·.isNone) := by
    rw [Vector.toList_map, List.all_map]
    rfl
  rw [read, read, same]

/-- What leaves these parts alone ends no sweep and completes no STOPPING (R7, R14). -/
theorem State.settled.congr {s t : State} (h : s.settled) (engine : t.engine = s.engine) (intake : t.intake = s.intake)
    (ceu : t.ceu = s.ceu) (writer : t.writer = s.writer) (running : ∀ c, (t.bay c).running = (s.bay c).running) :
    t.settled := by
  obtain ⟨sweep, stop⟩ := h
  refine ⟨?_, ?_⟩
  · simpa [State.visitDone, State.validating, intake] using sweep
  · simpa [State.stopComplete, all_running_isNone_congr running, engine, intake, ceu, writer] using stop

/-! ## The transmitter (R91) -/

/-- A link once a frame has been given to its transmitter (R91). -/
def Link.given (l : Link) (m : Transmission) : Link :=
  if l.sending.isNone then { l with sending := some (m, l.rate) } else { l with following := l.following ++ [m] }

@[simp] theorem Link.given_exchange (l : Link) (m : Transmission) : (l.given m).exchange = l.exchange := by
  unfold Link.given
  split <;> rfl

theorem Link.given_sending {l : Link} {m : Transmission} (free : l.sending = none) :
    (l.given m).sending = some (m, l.rate) := by
  simp [Link.given, free]

theorem Link.given_following {l : Link} {m : Transmission} (busy : l.sending ≠ none) :
    (l.given m).following = l.following ++ [m] := by
  simp [Link.given, busy]

theorem transmit_bay_self (s : State) (b : BayId) (m : Transmission) :
    (s.transmit b m).bay b = { s.bay b with link := (s.bay b).link.given m } := by
  unfold State.transmit Link.given
  dsimp only
  split <;> simp

theorem transmit_out (s : State) (b : BayId) (m : Transmission) :
    (s.transmit b m).out =
      if (s.bay b).link.sending = none then s.out ++ [.bayFrame b (s.bay b).link.rate m.bytes] else s.out := by
  unfold State.transmit
  simp only [Option.isNone_iff_eq_none]
  split <;> simp [State.emit]

/-! ## Resends and new exchanges (R96, R97) -/

theorem resend_bay_self (s : State) (b : BayId) (e : Exchange) :
    (s.resend b e).bay b = { s.bay b with
      link := { (s.bay b).link with exchange := some { e with timer := none } }.given { seq := e.seq, bytes := e.bytes } } := by
  unfold State.resend
  rw [transmit_bay_self, updLink_bay_self]

theorem resend_out (s : State) (b : BayId) (e : Exchange) :
    (s.resend b e).out =
      if (s.bay b).link.sending = none then s.out ++ [.bayFrame b (s.bay b).link.rate e.bytes] else s.out := by
  unfold State.resend
  rw [transmit_out, updLink_bay_self, updLink_out]

/-- A resend changes no running place, and ends no sweep and no STOPPING. -/
theorem State.settled.resend {s : State} (h : s.settled) (b : BayId) (e : Exchange) : (s.resend b e).settled := by
  refine h.congr (by simp) (by simp) (by simp) (by simp) fun c => ?_
  by_cases own : c = b
  · subst own
    rw [resend_bay_self]
  · rw [resend_other s b e c own]

theorem openExchange_session (s : State) (b : BayId) (frame : EngineFrame) (retryLimit timeout : Nat) :
    (s.openExchange b frame retryLimit timeout).session b = s.session b := by
  simp [State.openExchange, State.session, transmit_bay_self]

theorem openExchange_frame_sent (s : State) (b : BayId) (frame : EngineFrame) (retryLimit timeout : Nat) :
    ((s.openExchange b frame retryLimit timeout).bay b).link.exchange.map (·.frame) = some frame := by
  simp [State.openExchange, transmit_bay_self]

theorem sendLatched_session (s : State) (b : BayId) (frame : EngineFrame) :
    (s.sendLatched b frame).session b = s.session b := by
  unfold State.sendLatched
  split
  · exact openExchange_session ..
  · rfl

theorem sendLatched_frame_sent {s : State} {b : BayId} (frame : EngineFrame) (latched : (s.session b).latched ≠ none) :
    ((s.sendLatched b frame).bay b).link.exchange.map (·.frame) = some frame := by
  unfold State.sendLatched
  split
  · exact openExchange_frame_sent ..
  next none_latched => exact absurd none_latched latched

/-! ## An exchange closes (R103) -/

theorem closeExchange_exchange (s : State) (b : BayId) (e : Exchange) :
    ((s.closeExchange b e).bay b).link.exchange = none := by
  simp [State.closeExchange]

@[simp] theorem closeExchange_session (s : State) (b : BayId) (e : Exchange) :
    (s.closeExchange b e).session b = s.session b := by
  simp [State.closeExchange, State.session]

/-! ## What a failure leads to (R120, R129) -/

theorem updSession_session_self (s : State) (b : BayId) (f : Session → Session) :
    (s.updSession b f).session b = f (s.session b) := by
  simp [State.session]

/-- While the terminal is there its removal is awaited (R132). -/
theorem awaitRemoval_present {s : State} {b : BayId} (present : (s.session b).gone = false) :
    ((s.awaitRemoval b).session b).state = .awaitRemoval ∧ ((s.awaitRemoval b).bay b).link = (s.bay b).link := by
  simp [State.awaitRemoval, present, updSession_session_self]

theorem unwind_session (s : State) (b : BayId) (reason : VoidReason) :
    (s.unwind b reason).session b =
      { s.session b with state := .unwinding, reason := some ((s.session b).reason.getD reason), current := none } := by
  unfold State.unwind
  rw [sendLatched_session, updSession_session_self]

theorem unwind_frame_sent {s : State} {b : BayId} (reason : VoidReason) (latched : (s.session b).latched ≠ none) :
    ((s.unwind b reason).bay b).link.exchange.map (·.frame) = some .rollback := by
  refine sendLatched_frame_sent _ ?_
  rw [updSession_session_self]
  exact latched

/-! ## Filing into a full queue (R131, R143) -/

/-- A granted claim has its receipt (R140). -/
theorem Session.receipts_ne_nil {x : Session} (b : BayId) (tag : BitVec 32) (outcome : TerminalOutcome)
    (buffer : List KeyPlace) (granted : ∃ i ∈ x.records, i.claim ≠ none) : x.receipts b tag outcome buffer ≠ [] := by
  obtain ⟨i, mem, claim⟩ := granted
  obtain ⟨c, hc⟩ := Option.ne_none_iff_exists'.mp claim
  obtain ⟨n, hn, rfl⟩ := List.mem_iff_getElem.mp mem
  have place : (x.records[n], n) ∈ x.records.zipIdx := List.mem_zipIdx_iff_getElem?.mpr (List.getElem?_eq_getElem hn)
  unfold Session.receipts
  intro nil
  have none_filed := List.filterMap_eq_nil_iff.mp nil _ place
  simp [hc] at none_filed

@[simp] theorem waitInLine_session (s : State) (x : Submission) (b : BayId) : (s.waitInLine x).session b = s.session b := by
  unfold State.waitInLine
  dsimp only
  split <;> rfl

/-- The first receipt that finds the queue full keeps the session where it is, but for what is left to file. -/
theorem fileReceipts_session_of_full {s : State} {b : BayId} {l : List Receipt} (full : s.queueHasRoom = false)
    (some_left : l ≠ []) :
    (State.fileReceipts b l s).session b = { s.session b with toFile := l.tail } := by
  cases l with
  | nil => exact absurd rfl some_left
  | cons r rest => simp [State.fileReceipts, full, updSession_session_self]

/-- With a claim granted and the queue full, the voided terminal waits in FILING. -/
theorem fileVoid_session_of_full {s : State} {b : BayId} (reason : VoidReason) (full : s.queueHasRoom = false)
    (granted : ∃ i ∈ (s.session b).records, i.claim ≠ none) :
    ((s.fileVoid b reason).session b).state = .filing ∧
    ((s.fileVoid b reason).session b).unconfirmed = (s.session b).unconfirmed ∧
    ((s.fileVoid b reason).session b).outcome = .void ((s.session b).reason.getD reason) := by
  unfold State.fileVoid State.file
  rw [fileReceipts_session_of_full, updSession_session_self]
  · exact ⟨rfl, rfl, rfl⟩
  · exact full
  · exact Session.receipts_ne_nil _ _ _ _ granted

/-! ## NO_REPLY and TERMINAL_REFUSED by session state (R120, R122, R127 to R129) -/

section
variable {s : State} {b : BayId} (e : ExchangeFailure)

theorem sessionFailure_probing (state : (s.session b).state = .probing) : s.sessionFailure b e = s.awaitRemoval b := by
  simp [State.sessionFailure, state]

/-- From BEGIN on a failure unwinds the terminal. -/
theorem sessionFailure_begun
    (state : (s.session b).state = .loading ∨ ((s.session b).state = .releasing ∧ (s.session b).begun = true)) :
    s.sessionFailure b e = s.unwind b e.reason := by
  obtain loading | ⟨releasing, begun⟩ := state
  · simp [State.sessionFailure, loading]
  · simp [State.sessionFailure, releasing, begun]

theorem sessionFailure_unwinding (state : (s.session b).state = .unwinding) :
    s.sessionFailure b e = (s.updSession b fun y => { y with unconfirmed := true }).fileVoid b e.reason := by
  simp [State.sessionFailure, state]

end

/-! ## The table of R100 -/

/-- The exchange as its first two rows leave it to the resend. -/
def Exchange.retried (x : Exchange) : Exchange :=
  { x with resendPending := false, retriesUsed := if x.resendPending then x.retriesUsed else x.retriesUsed + 1 }

theorem replyExpired_resends (s : State) (b : BayId) {x : Exchange}
    (left : x.resendPending = true ∨ x.retriesUsed < x.retryLimit) :
    s.replyExpired b x = s.resend b x.retried := by
  unfold State.replyExpired Exchange.retried
  cases pending : x.resendPending with
  | true => simp
  | false =>
    have below : x.retriesUsed < x.retryLimit := by simpa [pending] using left
    simp [below]

theorem replyExpired_ends (s : State) (b : BayId) {x : Exchange} (clear : x.resendPending = false)
    (spent : x.retryLimit ≤ x.retriesUsed) :
    s.replyExpired b x = (s.closeExchange b x).sessionFailure b .noReply := by
  simp [State.replyExpired, clear, Nat.not_lt.mpr spent]

/-! ## The command -/

section
variable {s : State} {b : BayId} {x : Exchange} (awake : s.baysAwake = true) (opened : (s.bay b).link.exchange = some x)
include awake opened

/-- The command tests the timer of the bay's exchange. -/
theorem exec_replyTimerExpiry :
    exec (.replyTimerExpiry b) s = .next (s.run fun u => if u.expired x.timer then u.replyExpired b x else u) := by
  refine congrArg Host.Outcome.next (run_eq _ _ _ ?_)
  simp [awake, opened]

theorem exec_replyTimerExpiry_early (settled : s.settled) (early : s.expired x.timer = false) :
    exec (.replyTimerExpiry b) s = .next s.quiet := by
  rw [exec_replyTimerExpiry awake opened]
  exact congrArg Host.Outcome.next (run_id _ _ settled (by simp [early]))

theorem exec_replyTimerExpiry_due (due : s.expired x.timer = true) :
    exec (.replyTimerExpiry b) s = .next (s.run fun u => u.replyExpired b x) := by
  rw [exec_replyTimerExpiry awake opened]
  exact congrArg Host.Outcome.next (run_eq _ _ _ (by simp [due]))

/-- The first two rows: the whole effect of the command is the resend. -/
theorem exec_replyTimerExpiry_resends (settled : s.settled) (on : s.engine ≠ .off) (due : s.expired x.timer = true)
    (left : x.resendPending = true ∨ x.retriesUsed < x.retryLimit) :
    exec (.replyTimerExpiry b) s = .next (s.quiet.resend b x.retried) := by
  rw [exec_replyTimerExpiry_due awake opened due, ← replyExpired_resends s.quiet b left]
  refine congrArg Host.Outcome.next (run_settled _ _ on ?_)
  rw [replyExpired_resends s.quiet b left]
  exact (settled_quiet s settled).resend b x.retried

/-- The last row: the exchange is closed, and the session takes NO_REPLY. -/
theorem exec_replyTimerExpiry_ends (due : s.expired x.timer = true) (clear : x.resendPending = false)
    (spent : x.retryLimit ≤ x.retriesUsed) :
    exec (.replyTimerExpiry b) s = .next (s.run fun u => (u.closeExchange b x).sessionFailure b .noReply) := by
  rw [exec_replyTimerExpiry_due awake opened due]
  exact congrArg Host.Outcome.next (run_eq _ _ _ (replyExpired_ends s.quiet b clear spent))

end

/-- Settles O50, row by row: before its time the expiry does nothing, the first two rows are a resend (`resend_bay_self`), and the
last one closes the exchange and is a failure to the session, by the session's state. -/
theorem replyTimerByTable : Obligations.ReplyTimerByTable := by
  intro s b x w on loaded settled opened armed
  have awake : s.baysAwake = true := by simp [State.baysAwake, on, loaded]
  have expired : s.expired x.timer = w.due s.clock := by rw [armed]; rfl
  refine ⟨fun early => ?early, fun due left => ?resends, fun due clear spent => ?ends⟩
  case early => exact exec_replyTimerExpiry_early awake opened settled (expired.trans early)
  case resends =>
    refine ⟨_, exec_replyTimerExpiry_resends awake opened settled on (expired.trans due) left, ?_⟩
    have bay := resend_bay_self s.quiet b x.retried
    refine ⟨?exchange, fun free => ⟨?sending, ?begins⟩, fun busy => ⟨?following, ?waits⟩, ?session,
      resend_other s.quiet b _, ?frame⟩
    case exchange => rw [bay, Link.given_exchange]; rfl
    case sending => rw [bay]; exact Link.given_sending free
    case begins => rw [resend_out, quiet_bay, if_pos free]; rfl
    case following => rw [bay]; exact Link.given_following busy
    case waits => rw [resend_out, quiet_bay, if_neg busy]; rfl
    case session => rw [bay]; rfl
    case frame => simp
  case ends =>
    refine ⟨_, exec_replyTimerExpiry_ends awake opened (expired.trans due) clear spent, ?_⟩
    obtain ⟨-, bays, sessions, -⟩ := run_parts s (fun u => (u.closeExchange b x).sessionFailure b .noReply) on
    have closed := closeExchange_session s.quiet b x
    refine ⟨fun c other => ?other, ?slots, ?ceu, ?cipher, ?prof, ?clock, fun state present _ => ?probing,
      fun state => ?begun, fun state full granted => ?unwinding⟩
    case other => rw [bays]; simp [other]
    case slots | ceu | cipher | prof | clock => simp [run_frame s _ on]
    case probing =>
      rw [sessions, bays, sessionFailure_probing _ (by rw [closed]; exact state)]
      obtain ⟨awaits, link⟩ := awaitRemoval_present (s := s.quiet.closeExchange b x) (by rw [closed]; exact present)
      exact ⟨awaits, by rw [link, closeExchange_exchange]⟩
    case begun =>
      rw [sessions, bays, sessionFailure_begun _ (by rw [closed]; exact state), unwind_session, closed]
      exact ⟨rfl, rfl, fun latched => unwind_frame_sent _ (by rw [closed]; exact latched)⟩
    case unwinding =>
      rw [sessions, sessionFailure_unwinding _ (by rw [closed]; exact state)]
      have noRoom : s.queueHasRoom = false := by simpa [State.queueHasRoom] using full
      have filed := fileVoid_session_of_full
        (s := (s.quiet.closeExchange b x).updSession b fun y => { y with unconfirmed := true }) (b := b)
        ExchangeFailure.noReply.reason noRoom (by rw [updSession_session_self, closed]; exact granted)
      rw [updSession_session_self, closed] at filed
      exact filed

end Sys2Proof.Machine
end

section
/-!
SUPPORT. Registers: the interrupt request bit by bit, when a new value of the event unit sends the message, and what each register
access does to a settled state.
-/

namespace Sys2Proof.Machine

/-! ## The interrupt request (R168) -/

theorem request_iff (e : EventUnit) : e.request = true ↔ e.flags &&& e.mask ≠ 0 := by simp [EventUnit.request]

/-- A word is not 0 when some place of it holds a one. -/
theorem ne_zero_iff_exists_getLsbD {w : Nat} (x : BitVec w) : x ≠ 0 ↔ ∃ k, k < w ∧ x.getLsbD k = true := by
  rw [ne_eq, BitVec.eq_of_getLsbD_eq_iff]
  simp

theorem request_iff_exists (e : EventUnit) :
    e.request = true ↔ ∃ k, k < 16 ∧ e.flags.getLsbD k = true ∧ e.mask.getLsbD k = true := by
  rw [request_iff, ne_zero_iff_exists_getLsbD]
  simp only [BitVec.getLsbD_and, Bool.and_eq_true]

/-- The message goes out exactly when the request becomes active. -/
theorem setEvents_eq (s : State) (e : EventUnit) :
    s.setEvents e =
      { s with events := e,
               out := s.out ++ if s.events.flags &&& s.events.mask = 0 ∧ e.flags &&& e.mask ≠ 0 then [.pcieMessage] else [] } := by
  have becomes : (!s.events.request && e.request) = true ↔ s.events.flags &&& s.events.mask = 0 ∧ e.flags &&& e.mask ≠ 0 := by
    rw [Bool.and_eq_true, Bool.not_eq_true', ← Bool.not_eq_true, request_iff, request_iff, not_not]
  simp only [State.setEvents, becomes]
  split <;> simp

/-- No message goes out while the new value does not ask for one. -/
theorem setEvents_of_no_request (s : State) {e : EventUnit} (inactive : e.flags &&& e.mask = 0) :
    s.setEvents e = { s with events := e } := by
  simp [setEvents_eq, inactive]

/-! ## The commands -/

section
variable {s : State}

/-- EVENTS_READ clears the flags it returns, so it never makes the request active. -/
theorem exec_eventsRead (on : s.engine ≠ .off) (settled : s.settled) :
    exec .eventsRead s =
      .next { s with events := { s.events with flags := 0 }, out := [.readData (s.events.flags.setWidth 32)] } := by
  have cleared (flags : BitVec 16) : flags &&& ~~~flags = 0 := BitVec.and_not_self _
  refine congrArg Host.Outcome.next ((run_settled s _ on ?_).trans ?_)
  · exact settled
  · simp only [cleared]
    rw [setEvents_of_no_request _ BitVec.zero_and]
    rfl

theorem exec_eventMaskWrite (v : BitVec 32) (on : s.engine ≠ .off) (settled : s.settled) :
    exec (.eventMaskWrite v) s =
      .next { s with events := { s.events with mask := v.setWidth 16 },
                     out := if s.events.flags &&& s.events.mask = 0 ∧ s.events.flags &&& v.setWidth 16 ≠ 0
                            then [.pcieMessage] else [] } := by
  refine congrArg Host.Outcome.next ((run_settled s _ on ?_).trans ?_)
  · exact settled
  · rw [setEvents_eq]
    rfl

theorem exec_registerWrite_areaLo (v : BitVec 32) (on : s.engine ≠ .off) (settled : s.settled) :
    exec (.registerWrite (.areaLo v)) s = .next { s with intake := { s.intake with areaLo := v }, out := [] } :=
  congrArg Host.Outcome.next (run_settled s _ on settled)

theorem exec_registerWrite_areaHi (v : BitVec 32) (on : s.engine ≠ .off) (settled : s.settled) :
    exec (.registerWrite (.areaHi v)) s = .next { s with intake := { s.intake with areaHi := v }, out := [] } :=
  congrArg Host.Outcome.next (run_settled s _ on settled)

/-- Every other write is discarded (R1). -/
theorem exec_registerWrite_discarded {w : PlainWrite} (settled : s.settled) (not_lo : ∀ v, w ≠ .areaLo v)
    (not_hi : ∀ v, w ≠ .areaHi v) : exec (.registerWrite w) s = .next s.quiet := by
  refine congrArg Host.Outcome.next (run_id s _ settled ?_)
  cases w with
  | areaLo v => exact absurd rfl (not_lo v)
  | areaHi v => exact absurd rfl (not_hi v)
  | control _ | events _ | state _ | unused _ _ => rfl

end

/-- Settles O6: INT# is the request bit by bit (`request_iff_exists`), and the rest is one lemma per access. -/
theorem registerEffects : Obligations.RegisterEffects := by
  refine ⟨fun s on settled => exec_eventsRead on settled, fun e => (intPin_eq_false e).trans (request_iff_exists e),
    fun s on settled => ⟨?mask, ?areaLo, ?areaHi, ?control, ?events, ?state, ?unused⟩⟩
  case mask => exact fun v => exec_eventMaskWrite v on settled
  case areaLo => exact fun v => exec_registerWrite_areaLo v on settled
  case areaHi => exact fun v => exec_registerWrite_areaHi v on settled
  case control => exact fun _ _ _ _ => exec_registerWrite_discarded settled nofun nofun
  case events | state => exact fun _ => exec_registerWrite_discarded settled nofun nofun
  case unused => exact fun _ _ _ => exec_registerWrite_discarded settled nofun nofun

end Sys2Proof.Machine
end

section

set_option Elab.async false

/-!
SUPPORT. What the operations of the blocks only add to: the answers due, the event flags, the key store's requests and the receipt
queue grow, the order table loses entries only, and the bounded stores stay within their bounds (R17, R62, R142). One lemma per
operation, so that a statement about any of these parts follows an operation without looking into it again.
-/

namespace Sys2Proof.Machine

/-- From `s` to `t` answers, flags, requests and receipts are only added, entries leave the order table only, and no store outgrows its
bound. -/
structure State.Grows (s t : State) : Prop where
  cells : (t.intake.table.map (·.cell)).Sublist (s.intake.table.map (·.cell))
  answers : s.intake.answers <+: t.intake.answers
  flags : ∀ k, s.events.flags.getLsbD k = true → t.events.flags.getLsbD k = true
  requests : s.ks.requests <+: t.ks.requests
  receipts : s.writer.queue <+: t.writer.queue
  receiptsFit : s.writer.queue.length ≤ 16 → t.writer.queue.length ≤ 16
  framesFit : ∀ c : ConsoleId, (s.console c).queue.length ≤ 8 → (t.console c).queue.length ≤ 8

namespace State.Grows

theorem refl (s : State) : s.Grows s :=
  ⟨.refl _, List.prefix_refl _, fun _ => id, List.prefix_refl _, List.prefix_refl _, id, fun _ => id⟩

theorem trans {r s t : State} (h : r.Grows s) (k : s.Grows t) : r.Grows t where
  cells := k.cells.trans h.cells
  answers := h.answers.trans k.answers
  flags n := k.flags n ∘ h.flags n
  requests := h.requests.trans k.requests
  receipts := h.receipts.trans k.receipts
  receiptsFit := k.receiptsFit ∘ h.receiptsFit
  framesFit c := k.framesFit c ∘ h.framesFit c

/-! ## What it is for -/

theorem bounded {s t : State} (h : s.Grows t) (fits : s.bounded) : t.bounded := by
  obtain ⟨table, queue, frames⟩ := fits
  have shorter := h.cells.length_le
  rw [List.length_map, List.length_map] at shorter
  exact ⟨shorter.trans table, h.receiptsFit queue, fun c => h.framesFit c (frames c)⟩

/-- An answer that is due stays due. -/
theorem mem_answers {s t : State} (h : s.Grows t) {x : Answer} (due : x ∈ s.intake.answers) : x ∈ t.intake.answers :=
  h.answers.subset due

theorem mem_requests {s t : State} (h : s.Grows t) {x : KsRequest} (standing : x ∈ s.ks.requests) : x ∈ t.ks.requests :=
  h.requests.subset standing

/-- An entry that has left the order table does not come back. -/
theorem not_in_table {s t : State} (h : s.Grows t) {cell : Nat} (gone : ∀ e ∈ s.intake.table, e.cell ≠ cell) :
    ∀ e ∈ t.intake.table, e.cell ≠ cell := by
  intro e mem same
  obtain ⟨e', mem', cell'⟩ := List.mem_map.mp (h.cells.subset (List.mem_map_of_mem mem))
  exact gone e' mem' (cell'.trans same)

end State.Grows

/-- A flag is set when its bit is. -/
theorem State.hasFlag_iff (s : State) (f : Flag) : s.hasFlag f ↔ ∃ k, s.events.flags.getLsbD k = true ∧ f.bit.getLsbD k = true := by
  rw [State.hasFlag, Ne, BitVec.eq_of_getLsbD_eq_iff]
  push Not
  refine ⟨fun ⟨k, _, both⟩ => ⟨k, by simpa using both⟩, fun ⟨k, both⟩ => ⟨k, BitVec.lt_of_getLsbD both.1, by simpa using both⟩⟩

/-- A flag that is set stays set. -/
theorem State.Grows.hasFlag {s t : State} (h : s.Grows t) {f : Flag} (set : s.hasFlag f) : t.hasFlag f := by
  rw [State.hasFlag_iff] at set ⊢
  obtain ⟨k, inFlags, inBit⟩ := set
  exact ⟨k, h.flags k inFlags, inBit⟩

theorem State.hasFlag_raise (s : State) (f : Flag) : (s.raise f).hasFlag f := by
  have one : f.bit ≠ 0 := by cases f <;> decide
  have both : (s.events.flags ||| f.bit) &&& f.bit = f.bit := by
    ext k
    simp only [BitVec.getElem_and, BitVec.getElem_or]
    cases f.bit[k] <;> simp
  rw [State.hasFlag, raise_events]
  simpa only [both] using one

/-! ## Updates of one block -/

section
variable {r s : State} (h : r.Grows s)
include h

namespace State.Grows

/-- What leaves these parts alone, by the frame lemmas. -/
theorem same {t : State} (table : t.intake.table = s.intake.table := by simp)
    (answers : t.intake.answers = s.intake.answers := by simp) (flags : t.events.flags = s.events.flags := by simp)
    (requests : t.ks.requests = s.ks.requests := by simp) (queue : t.writer.queue = s.writer.queue := by simp)
    (consoles : ∀ c, t.console c = s.console c := by simp) : r.Grows t :=
  h.trans
    { cells := by rw [table]
      answers := by rw [answers]
      flags := by simp [flags]
      requests := by rw [requests]
      receipts := by rw [queue]
      receiptsFit := by rw [queue]; exact id
      framesFit := by simp [consoles] }

theorem updIntake (f : Intake → Intake) (table : (f s.intake).table = s.intake.table := by rfl)
    (answers : (f s.intake).answers = s.intake.answers := by rfl) : r.Grows (s.updIntake f) :=
  h.same table answers rfl rfl rfl fun _ => rfl

theorem updKs (f : KeyStore → KeyStore) (requests : (f s.ks).requests = s.ks.requests := by rfl) : r.Grows (s.updKs f) :=
  h.same rfl rfl rfl requests rfl fun _ => rfl

theorem updWriter (f : Writer → Writer) (queue : (f s.writer).queue = s.writer.queue := by rfl) : r.Grows (s.updWriter f) :=
  h.same rfl rfl rfl rfl queue fun _ => rfl

theorem updCeu (f : ComponentUnit → ComponentUnit) (consoles : (f s.ceu).consoles = s.ceu.consoles := by rfl) :
    r.Grows (s.updCeu f) :=
  h.same rfl rfl rfl rfl rfl fun c => by simp [State.console, consoles]

theorem updCipher (f : CipherUnit → CipherUnit) : r.Grows (s.updCipher f) := h.same rfl rfl rfl rfl rfl fun _ => rfl

theorem updProf (f : ProfileStore → ProfileStore) : r.Grows (s.updProf f) := h.same rfl rfl rfl rfl rfl fun _ => rfl

theorem updBay (b : BayId) (f : Bay → Bay) : r.Grows (s.updBay b f) := h.same rfl rfl rfl rfl rfl fun _ => rfl

theorem updLink (b : BayId) (f : Link → Link) : r.Grows (s.updLink b f) := h.updBay b _

theorem updSession (b : BayId) (f : Session → Session) : r.Grows (s.updSession b f) := h.updBay b _

theorem updCounters (b : BayId) (f : Counters → Counters) : r.Grows (s.updCounters b f) := h.updBay b _

theorem updPlace (b : BayId) (n : Nat) (f : KeyPlace → KeyPlace) : r.Grows (s.updPlace b n f) := h.updBay b _

theorem withEngine (e : EngineState) : r.Grows { s with engine := e } := h.same rfl rfl rfl rfl rfl fun _ => rfl

theorem emit (o : List Output) : r.Grows (s.emit o) := h.same rfl rfl rfl rfl rfl fun _ => rfl

theorem updConsole (c : ConsoleId) (f : Console → Console)
    (queue : (s.console c).queue.length ≤ 8 → (f (s.console c)).queue.length ≤ 8 := by exact id) : r.Grows (s.updConsole c f) :=
  h.trans
    { refl s with
      framesFit := fun d fits => by
        rw [updConsole_console]
        split
        next own => exact queue (own ▸ fits)
        next => exact fits }

theorem raiseBits (bits : BitVec 16) : r.Grows (s.raiseBits bits) :=
  h.trans { refl s with flags := fun k set => by simp [set] }

theorem raise (f : Flag) : r.Grows (s.raise f) := h.raiseBits f.bit

theorem report (judge : Watch → Bool) : r.Grows (s.report judge) := h.raiseBits _

theorem setSlot (i : SlotId) (x : Slot) : r.Grows (s.setSlot i x) :=
  (h.updKs fun k => { k with slots := k.slots.set i x }).report _

theorem updSlot (i : SlotId) (f : Slot → Slot) : r.Grows (s.updSlot i f) := h.setSlot i _

theorem request (x : KsRequest) : r.Grows (s.request x) :=
  h.trans { refl s with requests := List.prefix_append _ _ }

/-! ## Answers (R13, R17, R18) -/

theorem setCondition (cell : Nat) (c : EntryCondition) : r.Grows (s.setCondition cell c) := by
  refine h.trans { refl s with cells := ?_ }
  have cells : (s.setCondition cell c).intake.table.map (·.cell) = s.intake.table.map (·.cell) := by
    simp only [State.setCondition, updIntake_intake, List.map_map]
    refine List.map_congr_left fun e _ => ?_
    simp only [Function.comp_apply]
    split <;> rfl
  rw [cells]

theorem hold (e : Entry) : r.Grows (s.hold e) := h.setCondition _ _

theorem triggerSweep : r.Grows s.triggerSweep := h.same

theorem freeEntry (cell : Nat) : r.Grows (s.freeEntry cell) := by
  have freed : r.Grows
      (s.updIntake fun k => { k with table := k.table.filter (fun e => e.cell != cell), backlog := false }) :=
    h.trans { refl s with cells := List.filter_sublist.map _ }
  unfold State.freeEntry
  dsimp only
  split
  · exact freed.triggerSweep
  · exact freed

theorem answered (cell : Nat) : r.Grows (s.answered cell) := (h.raise .orderAnswered).freeEntry cell

theorem completeOrder (cell : Nat) (result : Result) (data : List Byte) : r.Grows (s.completeOrder cell result data) := by
  unfold State.completeOrder
  split
  · have held := h.setCondition cell .answerDue
    exact held.trans { refl _ with answers := List.prefix_append _ _ }
  · exact h.answered cell

theorem answerAtTake (cell : Nat) (result : Result) (data : List Byte) : r.Grows (s.answerAtTake cell result data) := by
  unfold State.answerAtTake
  split
  · exact (h.setCondition cell .answerDue).updIntake _
  · exact h.answered cell

theorem refuseAtTake (e : Entry) (result : Result) : r.Grows (s.refuseAtTake e result) := h.answerAtTake _ _ _

/-! ## The receipt queue and the current roll (R142 to R145) -/

theorem setRoll (roll : Option Roll) : r.Grows (s.setRoll roll) := by
  have reported := (h.updWriter fun w => { w with roll }).report
    (Watch.firesOnRoom s.events.room (s.updWriter fun w => { w with roll }).writer.room)
  exact reported.same rfl rfl rfl rfl rfl fun _ => rfl

theorem enterReceipt (x : Receipt) (room : s.queueHasRoom = true) : r.Grows (s.enterReceipt x) := by
  have entered : r.Grows (s.updWriter fun w => { w with queue := w.queue ++ [{ x with time := s.clock }] }) := by
    refine h.trans { refl s with receipts := List.prefix_append _ _, receiptsFit := fun _ => ?_ }
    have below : s.writer.queue.length < 16 := by simpa [State.queueHasRoom] using room
    simpa using below
  unfold State.enterReceipt
  dsimp only
  split
  · exact entered.updWriter _
  · exact entered

theorem waitInLine (x : Submission) : r.Grows (s.waitInLine x) := by
  have waits := h.updWriter fun w => { w with line := w.line ++ [x] }
  unfold State.waitInLine
  dsimp only
  split
  · exact waits.raise _
  · exact waits

theorem writerInactive : r.Grows s.writerInactive := (h.updWriter _).setRoll none

theorem enterStandby : r.Grows s.enterStandby := ((h.withEngine .standby).updIntake _).writerInactive

theorem settleEngine : r.Grows s.settleEngine := by
  unfold State.settleEngine
  split
  · exact h.enterStandby
  · exact h

theorem closeSweep : r.Grows s.closeSweep := by
  unfold State.closeSweep
  split
  · split
    · dsimp only
      split
      · exact (h.updIntake _).triggerSweep
      · exact h.updIntake _
    · exact h
  · exact h

/-! ## Slots (R26, R33 to R35, R55 to R57) -/

theorem kickArray : r.Grows s.kickArray := by
  unfold State.kickArray
  split
  · exact h
  · split
    · exact h
    · exact h.updKs _

theorem queueWrite (i : SlotId) : r.Grows (s.queueWrite i) := (h.updKs _).kickArray

theorem answerErase (i : SlotId) (result : Result) : r.Grows (s.answerErase i result) := by
  unfold State.answerErase
  split
  · exact h
  · exact (h.updSlot i _).completeOrder _ _ _

theorem beginErase (i : SlotId) : r.Grows (s.beginErase i) := by
  unfold State.beginErase
  split
  · exact (h.updSlot i _).queueWrite i
  · exact (h.updSlot i _).answerErase i _

theorem testDrain (i : SlotId) : r.Grows (s.testDrain i) := by
  unfold State.testDrain
  split
  · exact h.beginErase i
  · exact h

theorem releaseSlot (b : BayId) (i : SlotId) : r.Grows (State.releaseSlot b s i) := by
  unfold State.releaseSlot
  split
  · exact (h.updSlot i _).testDrain i
  · exact h

/-- A fold adds what its steps add. -/
theorem foldl {α : Type} {f : State → α → State} (step : ∀ {t} a, r.Grows t → r.Grows (f t a)) (l : List α) :
    r.Grows (l.foldl f s) :=
  List.foldlRecOn l f h fun _ grown a _ => step a grown

theorem releaseHolds (b : BayId) : r.Grows (s.releaseHolds b) := h.foldl (fun i grown => grown.releaseSlot b i) _

theorem startAssembly (i : SlotId) : r.Grows (s.startAssembly i) := h.updSlot i _

theorem endAssemblySlot (i : SlotId) : r.Grows (s.endAssemblySlot i) := by
  unfold State.endAssemblySlot
  split
  · exact h.updSlot i _
  · exact h

theorem commitKey (i : SlotId) (key : Key) (ids : List CardId) (value : CheckValue) : r.Grows (s.commitKey i key ids value) := by
  unfold State.commitKey
  dsimp only
  split
  · exact (h.updSlot i _).queueWrite i
  · exact h.updSlot i _

theorem applyGrant (i : SlotId) (amount : Nat) : r.Grows (s.applyGrant i amount) := h.updSlot i _

theorem updSettle (i : SlotId) (f : Settle → Settle) : r.Grows (s.updSettle i f) := h.updSlot i _

theorem answerSettle (i : SlotId) (result : Result) : r.Grows (s.answerSettle i result) := by
  unfold State.answerSettle
  split
  · exact (h.updSettle i _).completeOrder _ _ _
  · exact h

theorem testSettle (i : SlotId) : r.Grows (s.testSettle i) := by
  unfold State.testSettle
  split
  · exact h
  · split_ifs
    · exact h
    · exact (h.answerSettle i _).updSlot i _
    · exact h.answerSettle i _
    · exact h

theorem stopSettle (i : SlotId) : r.Grows (s.stopSettle i) := ((h.updSettle i _).answerSettle i _).testSettle i

theorem settleEntered (i : SlotId) (c : Claim) : r.Grows (s.settleEntered i c) := h.updSettle i _

omit h in
theorem submitSettle (i : SlotId) (l : List Claim) {s : State} (h : r.Grows s) : r.Grows (State.submitSettle i l s) := by
  induction l generalizing s with
  | nil => exact (h.updSettle i _).testSettle i
  | cons c rest ih =>
    unfold State.submitSettle
    dsimp only
    split
    next room => exact ih ((h.settleEntered i c).enterReceipt _ (by simpa [State.queueHasRoom] using room))
    next =>
      split
      · exact (h.updSettle i _).waitInLine _
      · exact h.stopSettle i

theorem resumeSettle (i : SlotId) (x : Receipt) : r.Grows (s.resumeSettle i x) := by
  unfold State.resumeSettle
  dsimp only
  split
  · exact submitSettle i _ (h.settleEntered i _)
  · exact h.settleEntered i _

theorem settleClosed (i : SlotId) (c : Claim) : r.Grows (s.settleClosed i c) := (h.updSettle i _).testSettle i

/-! ## Links and consoles (R62, R91, R96 to R104) -/

theorem openExchange (b : BayId) (f : EngineFrame) (m n : Nat) : r.Grows (s.openExchange b f m n) := h.same

theorem resend (b : BayId) (e : Exchange) : r.Grows (s.resend b e) := h.same

theorem transmitNext (b : BayId) : r.Grows (s.transmitNext b) := h.same

theorem closeExchange (b : BayId) (e : Exchange) : r.Grows (s.closeExchange b e) := h.updLink b _

theorem abandonExchange (b : BayId) : r.Grows (s.abandonExchange b) := h.same

theorem countStray (b : BayId) : r.Grows (s.countStray b) := h.updLink b _

theorem countLineError (b : BayId) : r.Grows (s.countLineError b) := h.updLink b _

theorem closeGap (b : BayId) : r.Grows (s.closeGap b) := h.updLink b _

theorem beginConsole (c : ConsoleId) (m : ConsoleMessage) : r.Grows (s.beginConsole c m) := (h.updConsole c _).emit _

theorem toConsole (c : ConsoleId) (m : ConsoleMessage) : r.Grows (s.toConsole c m) := by
  unfold State.toConsole
  split
  · exact h.beginConsole c m
  · split
    next room =>
      exact h.updConsole c _ fun _ => by
        rw [List.length_append]
        exact room
    next => exact h

theorem toConsoles (m : ConsoleMessage) : r.Grows (s.toConsoles m) := ((h.toConsole 0 m).toConsole 1 m).toConsole 2 m

/-! ## Plans, terminals and filing (chapter 7) -/

theorem startPlan (b : BayId) (n : Nat) (tag : BitVec 32) (again : Bool) (p : Plan) : r.Grows (s.startPlan b n tag again p) :=
  h.updBay b _

theorem startOrder (b : BayId) (x : HeldOrder) : r.Grows (s.startOrder b x) := by
  unfold State.startOrder
  split
  · exact h.startPlan ..
  · exact h.startPlan ..
  · exact h

theorem finishPlan (b : BayId) (x : RunningOrder) (result : Result) (refusing : Byte) :
    r.Grows (s.finishPlan b x result refusing) := by
  unfold State.finishPlan
  dsimp only
  split
  · exact (h.completeOrder _ _ _).updBay b _
  · exact ((h.completeOrder _ _ _).completeOrder _ _ _).updBay b _

theorem planEnd (b : BayId) (result : Result) (refusing : Byte) : r.Grows (s.planEnd b result refusing) := by
  unfold State.planEnd
  split
  · exact h
  · dsimp only
    split
    · exact h.finishPlan ..
    · exact ((h.finishPlan ..).updBay b _).startOrder b _

theorem takeRise (b : BayId) : r.Grows (s.takeRise b) := by
  unfold State.takeRise
  split
  · exact h
  · exact (h.updBay b _).openExchange ..

theorem takeRemoval (b : BayId) : r.Grows (s.takeRemoval b) := by
  unfold State.takeRemoval
  split
  · exact h
  · dsimp only
    split_ifs
    · exact h.planEnd ..
    · exact h.planEnd ..
    · exact h.planEnd ..
    · exact (h.updSession b _).takeRise b
    · exact h.updSession b _

theorem awaitRemoval (b : BayId) : r.Grows (s.awaitRemoval b) := by
  unfold State.awaitRemoval
  split
  · exact h.takeRemoval b
  · exact h.updSession b _

theorem leaveTerminal (b : BayId) : r.Grows (s.leaveTerminal b) := by
  unfold State.leaveTerminal
  split
  · exact h.planEnd ..
  · exact h.awaitRemoval b
  · exact h.planEnd ..

theorem endFiling (b : BayId) : r.Grows (s.endFiling b) := by
  have cleared := (h.updBay b fun x => { x with buffer := [] }).request (.release b)
  unfold State.endFiling
  dsimp only
  split
  · exact (cleared.updCounters b _).leaveTerminal b
  · exact cleared.leaveTerminal b

omit h in
theorem fileReceipts (b : BayId) (l : List Receipt) {s : State} (h : r.Grows s) : r.Grows (State.fileReceipts b l s) := by
  induction l generalizing s with
  | nil => exact (h.updSession b _).endFiling b
  | cons x rest ih =>
    unfold State.fileReceipts
    split
    next room => exact ih (h.enterReceipt x room)
    next => exact (h.updSession b _).waitInLine _

theorem file (b : BayId) (o : TerminalOutcome) : r.Grows (s.file b o) := fileReceipts b _ (h.updSession b _)

theorem fileVoid (b : BayId) (reason : VoidReason) : r.Grows (s.fileVoid b reason) := h.file b _

theorem resumeSubmitter (x : Submission) : r.Grows (s.resumeSubmitter x) := by
  unfold State.resumeSubmitter
  split
  · exact fileReceipts _ _ h
  · exact h.resumeSettle ..

theorem admitWaiting (room : s.queueHasRoom = true) : r.Grows s.admitWaiting := by
  unfold State.admitWaiting
  split
  · exact h
  next x rest _ => exact ((h.updWriter fun w => { w with line := rest }).enterReceipt _ room).resumeSubmitter _

/-! ## The cipher queue (chapter 5) -/

theorem keyUnavailable (x : CipherRequest) : r.Grows (s.keyUnavailable x) := by
  unfold State.keyUnavailable
  split
  · split
    · exact h.fileVoid ..
    · exact h
  · exact h
  · exact h

omit h in
theorem startCipher (l : List CipherRequest) {s : State} (h : r.Grows s) : r.Grows (State.startCipher l s) := by
  induction l generalizing s with
  | nil => exact h.updCipher _
  | cons x rest ih =>
    unfold State.startCipher
    split
    · exact h.updCipher _
    · exact ih (h.keyUnavailable x)

theorem kickCipher : r.Grows s.kickCipher := by
  unfold State.kickCipher
  split
  · exact h
  · exact startCipher _ h

theorem submitCipher (x : Requester) (op : CipherOp) : r.Grows (s.submitCipher x op) := (h.updCipher _).kickCipher

theorem releaseCipher : r.Grows s.releaseCipher := h.updCipher _

/-! ## The session from identification to the end of loading -/

theorem sendLatched (b : BayId) (f : EngineFrame) : r.Grows (s.sendLatched b f) := by
  unfold State.sendLatched
  split
  · exact h.openExchange ..
  · exact h

theorem sendPart (b : BayId) (n : Nat) (i : ItemRecord) (number : Nat) : r.Grows (s.sendPart b n i number) := by
  unfold State.sendPart
  split
  · exact (h.updSession b _).openExchange ..
  · exact h

theorem sendEnd (b : BayId) (i : ItemRecord) : r.Grows (s.sendEnd b i) := (h.updSession b _).sendLatched ..

theorem enterReleasing (b : BayId) : r.Grows (s.enterReleasing b) := (h.updSession b _).sendLatched ..

theorem unwind (b : BayId) (reason : VoidReason) : r.Grows (s.unwind b reason) := (h.updSession b _).sendLatched ..

theorem deliverFrom (b : BayId) (n : Nat) : r.Grows (s.deliverFrom b n) := by
  unfold State.deliverFrom
  split
  · exact h.sendPart ..
  · exact h.enterReleasing b

theorem enterLoading (b : BayId) : r.Grows (s.enterLoading b) := (h.updSession b _).sendLatched ..

theorem prepareNext (b : BayId) : r.Grows (s.prepareNext b) := by
  unfold State.prepareNext
  split
  · exact (h.updSession b _).submitCipher ..
  · exact h.enterLoading b

theorem enterPreparing (b : BayId) : r.Grows (s.enterPreparing b) := (h.updBay b _).prepareNext b

theorem claimNext (b : BayId) : r.Grows (s.claimNext b) := by
  unfold State.claimNext
  split
  · exact (h.updSession b _).request _
  · exact (h.updSession b _).request _
  · exact h.enterPreparing b

theorem claimingOver (b : BayId) (reason : VoidReason) : r.Grows (s.claimingOver b reason) := by
  unfold State.claimingOver
  dsimp only
  split_ifs
  · exact (h.updSession b _).fileVoid ..
  · exact (h.updSession b _).leaveTerminal b
  · exact ((h.updSession b _).request _).leaveTerminal b

theorem claimGranted (b : BayId) : r.Grows (s.claimGranted b) := by
  unfold State.claimGranted
  split
  · exact h.claimingOver ..
  · exact h.claimNext b

theorem claimRefused (b : BayId) (code : Result) (i : SlotId) : r.Grows (s.claimRefused b code i) := by
  unfold State.claimRefused
  split
  · exact h.claimingOver ..
  · dsimp only
    split
    · exact (h.updSession b _).fileVoid ..
    · exact ((h.updSession b _).request _).leaveTerminal b

theorem recordClaim (b : BayId) (c : GrantedClaim) : r.Grows (s.recordClaim b c) := by
  unfold State.recordClaim
  split
  · exact h.updSession b _
  · exact h

theorem recordWrap (b : BayId) (i : SlotId) (g : BitVec 16) : r.Grows (s.recordWrap b i g) := h.updSession b _

theorem identified (b : BayId) (p : Plan) (d : Identity) : r.Grows (s.identified b p d) := by
  unfold State.identified
  dsimp only
  split
  · exact ((h.updSession b _).updCounters b _).awaitRemoval b
  · split
    · exact (((h.updSession b _).updSession b _).updCounters b _ |>.updSession b _).claimNext b
    · exact (((h.updSession b _).updSession b _).updCounters b _ |>.updCounters b _).enterReleasing b

theorem loadingReply (b : BayId) (f : TerminalFrame) : r.Grows (s.loadingReply b f) := by
  unfold State.loadingReply
  dsimp only
  split
  · exact h.deliverFrom ..
  · split
    · split
      · exact h.sendPart ..
      · exact h.sendEnd ..
    · exact h
  · split
    · split
      · exact (h.updSession b _).deliverFrom ..
      · exact h.unwind ..
    · exact h
  · exact h

theorem sessionReply (b : BayId) (f : TerminalFrame) : r.Grows (s.sessionReply b f) := by
  unfold State.sessionReply
  dsimp only
  split
  · exact h.identified ..
  · exact h.loadingReply ..
  · split
    · exact (h.updCounters b _).file ..
    · exact h.awaitRemoval b
  · exact h.fileVoid ..
  · exact h

theorem sessionFailure (b : BayId) (e : ExchangeFailure) : r.Grows (s.sessionFailure b e) := by
  unfold State.sessionFailure
  dsimp only
  split
  · exact h.awaitRemoval b
  · exact h.unwind ..
  · split
    · exact h.unwind ..
    · exact h.awaitRemoval b
  · exact (h.updSession b _).fileVoid ..
  all_goals exact h

theorem busyRetry (b : BayId) (e : Exchange) : r.Grows (s.busyRetry b e) := by
  unfold State.busyRetry
  split_ifs
  · exact h.countStray b
  · exact h.updLink b _
  · exact (h.closeExchange b e).sessionFailure ..

theorem takeFrame (b : BayId) (f : TerminalFrame) : r.Grows (s.takeFrame b f) := by
  unfold State.takeFrame
  split
  · exact h
  · exact h.countStray b
  · split
    · exact h.countStray b
    · split
      · split
        · exact h.busyRetry ..
        · exact ((h.closeExchange b _).updLink b _).sessionFailure ..
      · split
        · exact (h.closeExchange b _).sessionReply ..
        · exact h.countStray b

theorem stopClaiming (b : BayId) (reason : VoidReason) : r.Grows (s.stopClaiming b reason) := by
  unfold State.stopClaiming
  dsimp only
  split
  · exact (h.updSession b _).request _
  · exact h.updSession b _

theorem sessionDrop (b : BayId) : r.Grows (s.sessionDrop b) := by
  have gone := h.updSession b fun y => { y with gone := true }
  unfold State.sessionDrop
  dsimp only
  split
  · exact h
  · exact h
  · exact gone.awaitRemoval b
  · exact gone.stopClaiming ..
  · exact gone.updSession b _
  · exact (gone.updSession b _).fileVoid ..
  · split
    · exact (gone.updSession b _).fileVoid ..
    · exact gone.awaitRemoval b
  · exact (gone.updSession b _).fileVoid ..
  · exact gone
  · exact (gone.updSession b _).takeRemoval b

theorem haltSession (b : BayId) (reason : VoidReason) : r.Grows (s.haltSession b reason) := by
  unfold State.haltSession
  dsimp only
  split
  iterate 3 exact h
  iterate 2 exact h.planEnd ..
  · exact (h.abandonExchange b).planEnd ..
  · exact h.stopClaiming ..
  · exact h.updSession b _
  · exact (h.abandonExchange b).unwind ..
  · split
    · exact (h.abandonExchange b).unwind ..
    · exact (h.abandonExchange b).planEnd ..

theorem dropHeld (b : BayId) (result : Result) : r.Grows (s.dropHeld b result) := by
  unfold State.dropHeld
  split
  · exact h
  · exact (h.updBay b _).completeOrder _ _ _

theorem stopBay (b : BayId) : r.Grows (s.stopBay b) := by
  unfold State.stopBay
  split
  · exact h
  · dsimp only
    split
    · exact ((h.dropHeld b _).updSession b _).haltSession ..
    · exact h.dropHeld ..

theorem stopBays : r.Grows s.stopBays := h.foldl (fun b grown => grown.stopBay b) _

/-! ## Requests taken by the key store (R38, R48 to R52) -/

theorem takeClaim (b : BayId) (i : SlotId) : r.Grows (s.takeClaim b i) := by
  unfold State.takeClaim
  split
  · exact ((h.updSlot i _).recordClaim ..).claimGranted b
  · exact h.claimRefused ..
  · dsimp only
    split
    · exact ((h.updKs _).updSession b _).request _
    · exact (h.updKs _).updSession b _

theorem takeWrap (b : BayId) (i : SlotId) : r.Grows (s.takeWrap b i) := by
  unfold State.takeWrap
  split
  · exact ((h.updSlot i _).recordWrap ..).claimGranted b
  · exact h.claimRefused ..

theorem takeWithdrawal (b : BayId) : r.Grows (s.takeWithdrawal b) := by
  unfold State.takeWithdrawal
  split
  · exact h
  · exact (h.updKs _).claimingOver ..

theorem retakeDeferred (b : BayId) (i : SlotId) : r.Grows (s.retakeDeferred b i) := by
  unfold State.retakeDeferred
  split
  · exact ((h.updKs _).updSession b _).takeClaim ..
  · exact h

theorem takeClosure (c : Closure) : r.Grows (s.takeClosure c) := by
  have taken : r.Grows s.closureTaken := h.updKs _
  unfold State.takeClosure
  dsimp only
  split
  · exact (((taken.updSlot _ _).retakeDeferred ..).testDrain _).settleClosed ..
  · exact taken

/-! ## Ceremonies (chapter 4) -/

theorem emptyRecord : r.Grows s.emptyRecord := by
  unfold State.emptyRecord
  dsimp only
  split
  · exact (h.updCeu _).raise _
  · exact h.updCeu _

theorem rejectArrival (reason : RejectReason) (a : Arrival) : r.Grows (State.rejectArrival reason s a) :=
  (h.updConsole _ _).toConsole ..

theorem rejectArrivals (reason : RejectReason) : r.Grows (s.rejectArrivals reason) :=
  (h.foldl (fun a grown => grown.rejectArrival reason a) _).updCeu _

theorem setAssembly (a : Assembly) : r.Grows (s.setAssembly a) := h.updCeu _

omit h in
theorem takeComponents (l : List Arrival) {s : State} (h : r.Grows s) : r.Grows (State.takeComponents l s) := by
  induction l generalizing s with
  | nil => exact h.updCeu _
  | cons a rest ih =>
    unfold State.takeComponents
    split
    · split_ifs
      · exact ih ((h.rejectArrival _ a).updCeu _)
      · exact (h.updCeu _).submitCipher ..
      · exact h
    · exact h

theorem takeArrivals : r.Grows s.takeArrivals := takeComponents _ h

theorem discardCheck : r.Grows s.discardCheck := by
  unfold State.discardCheck
  split
  · dsimp only
    split
    · exact (h.rejectArrival ..).updCeu _
    · exact h.updCeu _
  · exact h

theorem endAssembly (a : Assembly) (code : Result) : r.Grows (s.endAssembly a code) := by
  have checked := ((h.setAssembly { a with accumulator := 0 }).rejectArrivals .ceremonyEnded).discardCheck
  exact (((checked.endAssemblySlot a.slot).completeOrder a.order code (a.answerData 0)).toConsoles
    (.assemblyClosed a.slot code 0)).emptyRecord

theorem beginFinalCheck (a : Assembly) : r.Grows (s.beginFinalCheck a) :=
  (((h.setAssembly _).rejectArrivals _).updCeu _).submitCipher ..

theorem componentFailed (y : Assembly) (a : Arrival) : r.Grows (s.componentFailed y a) := by
  unfold State.componentFailed
  dsimp only
  split
  · exact ((h.rejectArrival ..).setAssembly _).endAssembly ..
  · exact ((h.rejectArrival ..).setAssembly _).takeArrivals

theorem componentAccepted (y : Assembly) (a : Arrival) : r.Grows (s.componentAccepted y a) := by
  unfold State.componentAccepted
  dsimp only
  split
  · exact (((((h.setAssembly _).updConsole _ _).toConsole ..).toConsoles _).raise _).beginFinalCheck _
  · exact (((((h.setAssembly _).updConsole _ _).toConsole ..).toConsoles _).raise _).takeArrivals

theorem checkEnded : r.Grows s.checkEnded := h.updCeu _

theorem componentChecked (value : CheckValue) : r.Grows (s.componentChecked value) := by
  unfold State.componentChecked
  dsimp only
  split
  · exact h.checkEnded.takeArrivals
  · split
    · split
      · exact h.checkEnded.componentAccepted ..
      · exact h.checkEnded.componentFailed ..
    · exact h.checkEnded.takeArrivals

theorem commitResult (i : SlotId) (ok : Bool) : r.Grows (s.commitResult i ok) := by
  unfold State.commitResult
  split
  · split
    · exact ((h.completeOrder _ _ _).toConsoles _).emptyRecord
    · exact h
  · exact h

theorem commitAssembly (a : Assembly) (value : CheckValue) : r.Grows (s.commitAssembly a value) := by
  unfold State.commitAssembly
  dsimp only
  split
  · exact (h.setAssembly _).commitKey ..
  · exact ((h.setAssembly _).commitKey ..).commitResult ..

theorem accumulatorChecked (value : CheckValue) : r.Grows (s.accumulatorChecked value) := by
  unfold State.accumulatorChecked
  dsimp only
  split
  · exact h.checkEnded.takeArrivals
  · split
    · split
      · exact h.checkEnded.commitAssembly ..
      · exact h.checkEnded.endAssembly ..
    · exact h.checkEnded

theorem grantOutcome (o : ApprovalOutcome) : r.Grows (s.grantOutcome o) := by
  unfold State.grantOutcome
  split
  · exact h
  · dsimp only
    split
    · exact (h.updKs _).completeOrder _ _ _
    · split
      · exact ((h.updKs _).applyGrant ..).completeOrder _ _ _
      all_goals exact (h.updKs _).completeOrder _ _ _

theorem endApproval (p : Approval) (o : ApprovalOutcome) : r.Grows (s.endApproval p o) :=
  ((h.grantOutcome o).toConsoles _).emptyRecord

theorem stopCeremony : r.Grows s.stopCeremony := by
  unfold State.stopCeremony
  split
  · exact h
  · split
    · exact h
    · exact h.endAssembly ..
  · exact h.endApproval ..

/-! ## The register window (R5, R6) -/

theorem reportStart : r.Grows s.reportStart := by
  unfold State.reportStart
  split
  · have reported : r.Grows { s with events := { s.events with startReport := false } } := h.same rfl rfl rfl rfl rfl fun _ => rfl
    dsimp only
    split
    · exact reported.raise _
    · exact reported
  · exact h

theorem armSweepTimer : r.Grows s.armSweepTimer := h.same

theorem useArea (base : BitVec 64) (x : StationHeader) : r.Grows (s.useArea base x) :=
  ((((h.withEngine .running).updIntake _).armSweepTimer.updIntake _).updWriter _).reportStart

theorem stopValidating : r.Grows s.stopValidating := by
  unfold State.stopValidating
  split
  · exact h.refuseAtTake ..
  · exact h

theorem testSettles : r.Grows s.testSettles := h.foldl (fun i grown => grown.testSettle i) _

theorem stopNotice : r.Grows s.stopNotice := h.stopCeremony.stopBays.testSettles

theorem endSweeps : r.Grows s.endSweeps := h.updIntake _

theorem endDrain (i : SlotId) : r.Grows (s.endDrain i) := by
  unfold State.endDrain
  split
  · exact (h.updSlot i _).answerErase ..
  · exact h

theorem withdrawSettle (waiting : List SlotId) (i : SlotId) : r.Grows (State.withdrawSettle waiting s i) := by
  unfold State.withdrawSettle
  split
  · exact h.stopSettle i
  · exact h

theorem withdrawSettles : r.Grows s.withdrawSettles :=
  (h.updWriter _).foldl (fun i grown => grown.withdrawSettle _ i) _

/-! ## Orders (chapters 2 to 4, 7 and 9) -/

theorem beginDrain (e : Entry) (i : SlotId) : r.Grows (s.beginDrain e i) := ((h.hold e).updSlot i _).testDrain i

theorem requestApproval (e : Entry) (i : SlotId) (amount : Nat) : r.Grows (s.requestApproval e i amount) := by
  unfold State.requestApproval
  split
  · exact (((h.hold e).updKs _).updCeu _).toConsoles _
  · exact h.refuseAtTake ..

theorem beginSettle (e : Entry) (i : SlotId) : r.Grows (s.beginSettle e i) := submitSettle i _ ((h.hold e).updSlot i _)

theorem writeEnded (i : SlotId) (ok : Bool) : r.Grows (s.writeEnded i ok) := by
  have written := (h.updKs fun k => { k with arrayWrite := none }).updSlot i (·.written ok)
  have reported : r.Grows (if ok then (s.updKs fun k => { k with arrayWrite := none }).updSlot i (·.written ok)
      else ((s.updKs fun k => { k with arrayWrite := none }).updSlot i (·.written ok)).raise .storeFault) := by
    split
    · exact written
    · exact written.raise _
  unfold State.writeEnded
  dsimp only
  refine kickArray ?_
  split
  · exact reported.commitResult ..
  all_goals exact reported.answerErase ..

theorem openCeremony (e : Entry) (p : OpenParams) : r.Grows (s.openCeremony e p) := by
  unfold State.openCeremony
  split
  · exact h.refuseAtTake ..
  · dsimp only
    split
    · exact ((h.startAssembly _).endAssemblySlot _).refuseAtTake ..
    · exact (((h.startAssembly _).hold e).setAssembly _).toConsoles _

theorem placeOrder (e : Entry) (b : BayId) (x : PlanSource) : r.Grows (s.placeOrder e b x) := by
  unfold State.placeOrder
  dsimp only
  split
  · exact (h.hold e).startOrder ..
  · exact (h.hold e).updBay b _
  · exact h.refuseAtTake ..

theorem haltBay (e : Entry) (b : BayId) : r.Grows (s.haltBay e b) :=
  (((h.hold e).dropHeld b _).updBay b _).haltSession ..

theorem beginPersist (e : Entry) (g : Fin 4) (x : PersistSubject) : r.Grows (s.beginPersist e g x) :=
  ((h.hold e).updProf _).emit _

theorem finishWrite (e : Entry) (g : Fin 4) (x : PersistSubject) : r.Grows (s.finishWrite e g x) := by
  unfold State.finishWrite
  split
  · exact h.beginPersist ..
  · exact h.answerAtTake _ _ _

theorem advancePersist (x : Persist) : r.Grows (s.advancePersist x) := h.same

theorem persistEnded (x : Persist) (good : Bool) : r.Grows (s.persistEnded x good) := by
  have ended := h.updProf fun p => p.endPersist x good
  have reported : r.Grows
      (if good then s.updProf fun p => p.endPersist x good else (s.updProf fun p => p.endPersist x good).raise .storeFault) := by
    split
    · exact ended
    · exact ended.raise _
  unfold State.persistEnded
  dsimp only
  split
  · exact reported.completeOrder _ _ _
  · exact reported

theorem withOrder (kind : OrderKind) {f : Entry → State → State} (own : ∀ e, r.Grows (f e s)) : r.Grows (s.withOrder kind f) := by
  unfold State.withOrder
  split
  · exact own _
  · exact h

theorem withStoreOrder {α : Type} (kind : OrderKind) (fields : List Byte → Option α) {f : α → Entry → State → State}
    (own : ∀ x e, r.Grows (f x e s)) : r.Grows (s.withStoreOrder kind fields f) := by
  refine h.withOrder kind fun e => ?_
  split
  · exact h.refuseAtTake ..
  · split
    · exact own _ e
    · exact h

/-! ## Completions of the cipher unit (R82 to R86, R125) -/

theorem bayCompletion (b : BayId) {store : State → State} (own : r.Grows (store s)) : r.Grows (s.bayCompletion b store) := by
  unfold State.bayCompletion
  split
  · split
    · exact h.fileVoid ..
    · exact own.prepareNext b
  · exact h

theorem setStage (b : BayId) (n : Nat) (x : Stage) : r.Grows (s.setStage b n x) := h.updSession b _

theorem storeKey (b : BayId) (n : Nat) (key : Key) : r.Grows (State.storeKey b n key s) := (h.updPlace b n _).setStage ..

theorem storeCheckValue (b : BayId) (n : Nat) (value : CheckValue) : r.Grows (State.storeCheckValue b n value s) := by
  have placed (f : KeyPlace → KeyPlace) (x : Stage) : r.Grows ((s.updPlace b n f).setStage b n x) := (h.updPlace b n f).setStage ..
  unfold State.storeCheckValue
  dsimp only
  split <;> split <;> exact placed _ _

theorem storeBlock (b : BayId) (n : Nat) (block : BitVec 256) : r.Grows (State.storeBlock b n block s) :=
  (h.updPlace b n _).setStage ..

/-! ## What arrives at the links (R62, R66, R77, R93, R94, R99, R106) -/

theorem takeComponent (c : ConsoleId) (seq : Byte) (value : Key) (entered : CheckValue) :
    r.Grows (s.takeComponent c seq value entered) := by
  unfold State.takeComponent
  split
  · exact h.toConsole ..
  · exact ((h.updConsole c _).updCeu _).takeArrivals

theorem takeVote (c : ConsoleId) (seq : Byte) (o : ApprovalOutcome) : r.Grows (s.takeVote c seq o) := by
  unfold State.takeVote
  split
  · exact h.toConsole ..
  · exact h.toConsole ..
  · split
    · exact h.toConsole ..
    · split
      · exact (h.toConsole ..).endApproval ..
      · exact h.toConsole ..

theorem takeConsoleFrame (c : ConsoleId) (f : ConsoleFrame) : r.Grows (s.takeConsoleFrame c f) := by
  unfold State.takeConsoleFrame
  split
  · exact h
  · split
    · exact h.updConsole c _
    · exact h.updConsole c _
    · exact h.takeComponent ..
    · exact h.takeVote ..
    · exact h.takeVote ..

theorem receiveConsole (c : ConsoleId) (f : ConsoleFrame) : r.Grows (s.receiveConsole c f) :=
  (h.updConsole c _).takeConsoleFrame c f

theorem consoleByte (c : ConsoleId) (x : Byte) : r.Grows (State.consoleByte c s x) := by
  unfold State.consoleByte
  dsimp only
  split
  · split
    · exact (h.updConsole c _).takeConsoleFrame ..
    · exact h.updConsole c _
  all_goals exact h.updConsole c _

theorem consoleGap (c : ConsoleId) : r.Grows (s.consoleGap c) := by
  unfold State.consoleGap
  split
  · exact h.updConsole c _
  · exact h

theorem receiveTerminal (b : BayId) (f : TerminalFrame) : r.Grows (s.receiveTerminal b f) :=
  ((h.closeGap b).updLink b _).takeFrame b f

theorem bayByte (b : BayId) (x : Byte) : r.Grows (State.bayByte b s x) := by
  have gap := h.closeGap b
  unfold State.bayByte
  dsimp only
  split
  · split
    · exact (gap.updLink b _).takeFrame ..
    · exact (gap.updLink b _).countLineError b
  · exact (gap.updLink b _).countLineError b
  · exact gap.updLink b _

theorem bayGap (b : BayId) : r.Grows (s.bayGap b) := by
  unfold State.bayGap
  split
  · exact (h.updLink b _).countLineError b
  · exact h

theorem armReply (b : BayId) (seq : Byte) : r.Grows (s.armReply b seq) := h.same

theorem replyExpired (b : BayId) (e : Exchange) : r.Grows (s.replyExpired b e) := by
  unfold State.replyExpired
  split_ifs
  · exact h.resend ..
  · exact h.resend ..
  · exact (h.closeExchange b e).sessionFailure ..

theorem presenceInput (b : BayId) (level : Bool) : r.Grows (s.presenceInput b level) := h.same

theorem recogniseRise (b : BayId) : r.Grows (s.recogniseRise b) := by
  have risen := (h.updLink b fun l => { l with presence := .present, presenceTimer := none }).report (Watch.firesOnPresence b true)
  unfold State.recogniseRise
  dsimp only
  split
  · exact risen.takeRise b
  · exact risen

theorem recogniseDrop (b : BayId) : r.Grows (s.recogniseDrop b) :=
  (((h.updLink b _).report _).abandonExchange b).sessionDrop b

/-! ## Rolls (R147 to R149) and the load (R158 to R160) -/

theorem pokeWriter : r.Grows s.pokeWriter := h.same

theorem requestSweep : r.Grows s.requestSweep := h.same

theorem takeRoll (a : Area) (base : BitVec 64) (capacity : BitVec 32) : r.Grows (s.takeRoll a base capacity) :=
  (((h.emit _).setRoll _).updWriter _).raise _

theorem noRoll (ready : BitVec 32) : r.Grows (s.noRoll ready) := by
  unfold State.noRoll
  split_ifs
  · exact h.updWriter _
  · exact h.updWriter _
  · exact h.updWriter _
  · exact (h.updWriter _).raise _

theorem declineRoll (a : Area) : r.Grows (s.declineRoll a) := ((h.emit _).raise _).noRoll _

theorem memoryReady (control : BitVec 16) : r.Grows (s.memoryReady control) := h.updProf _

theorem judge (g : Fin 4) (area : List Byte) : r.Grows (s.judge g area) := by
  unfold State.judge
  dsimp only
  split
  · exact (h.updProf _).raise _
  · exact h.updProf _

end State.Grows

end

end Sys2Proof.Machine
end

section

set_option Elab.async false

/-!
SUPPORT. The stores at every step: the bounds of the order table, the receipt queue and the console queues (R17, R62, R142), the ranges
of profiles and map entries (R155, R156), and what holds between two commands (R5, R7, R14).
-/

namespace Sys2Proof.Machine

/-- The command answers a next state of which `P` holds. -/
def endsIn (P : State → Prop) (o : Host.Outcome State Fault Refusal) : Prop := ∃ t, o = .next t ∧ P t

theorem endsIn_next {P : State → Prop} {t : State} (h : P t) : endsIn P (.next t) := ⟨t, rfl, h⟩

/-- What every command keeps and a tick keeps, every step keeps. -/
theorem step_keeps {P : State → Prop} (command : ∀ c s, P s → endsIn P (exec c s)) (tick : ∀ s, P s → P s.tick)
    (queue : ∀ s rest, P s → P { s with pending := rest }) (s t : State) (next : step s = .next t) (h : P s) : P t := by
  unfold step at next
  split at next
  next c rest _ =>
    obtain ⟨u, answer, hu⟩ := command c { s with pending := rest } (queue s rest h)
    rw [answer] at next
    injection next with same
    exact same ▸ hu
  next =>
    injection next with same
    exact same ▸ tick s h

/-! ## Commands that only add -/

/-- What surrounds a command only adds (R7, R14). -/
theorem State.Grows.run {s : State} {f : State → State} (own : s.quiet.Grows (f s.quiet)) : s.Grows (s.run f) := by
  have quiet : s.Grows s.quiet := (State.Grows.refl s).same
  by_cases power : s.engine = .off
  · rwa [run_off s f power]
  · rw [run_on s f power]
    exact (quiet.trans own).closeSweep.settleEngine

theorem State.Grows.runBays {s : State} {f : State → State} (own : s.quiet.Grows (f s.quiet)) : s.Grows (s.runBays f) := by
  refine State.Grows.run ?_
  split
  · exact own
  · exact .refl _

/-! ## The bounded stores (R17, R62, R142) -/

theorem State.bounded.run {s : State} (h : s.bounded) {f : State → State} (own : s.quiet.bounded → (f s.quiet).bounded) :
    (s.run f).bounded := by
  by_cases power : s.engine = .off
  · rw [run_off s f power]
    exact h
  · rw [run_on s f power]
    exact ((State.Grows.refl _).closeSweep.settleEngine).bounded (own h)

/-- Changes elsewhere leave the bounded stores alone. -/
theorem State.bounded.congr {s t : State} (h : s.bounded) (table : t.intake.table = s.intake.table := by simp)
    (queue : t.writer.queue = s.writer.queue := by simp) (consoles : ∀ c, t.console c = s.console c := by simp) : t.bounded := by
  simpa [State.bounded, table, queue, consoles] using h

/-- What a reset leaves is empty. -/
theorem State.bounded.of_empty {s : State} (table : s.intake.table = []) (queue : s.writer.queue = [])
    (consoles : ∀ c, (s.console c).queue = []) : s.bounded := by
  simp [State.bounded, table, queue, consoles]

section
variable {s : State} (h : s.bounded)
include h

/-- Each console's queue is emptied before STATION_TAMPERED is shown (R79). -/
theorem State.bounded.tamperCeu : s.tamperCeu.bounded := by
  obtain ⟨table, queue, -⟩ := h
  refine ((State.Grows.refl _).toConsoles .stationTampered).bounded ⟨table, queue, fun c => ?_⟩
  simp [State.console, Console.tampered]

theorem State.bounded.tamperWriter : s.tamperWriter.bounded := by
  obtain ⟨table, -, frames⟩ := h
  exact ((State.Grows.refl _).setRoll none).bounded ⟨table, Nat.zero_le _, frames⟩

theorem State.bounded.tamperIntake : s.tamperIntake.bounded := by
  obtain ⟨table, queue, frames⟩ := h
  unfold State.tamperIntake
  split
  · have due : State.bounded (s.updIntake fun k =>
        { k with table := k.table.map (·.withCondition .answerDue),
                 answers := k.table.map fun e => { cell := e.cell, result := .tampered, data := [] }, atTake := none }) :=
      ⟨by simpa using table, queue, frames⟩
    dsimp only
    split
    · exact (State.Grows.refl _).armSweepTimer.bounded due
    · exact due
  · exact ((State.Grows.refl _).foldl (fun cell grown => grown.answered cell) _).bounded ⟨table, queue, frames⟩

theorem State.bounded.enterTampered : s.enterTampered.bounded := by
  have marked : State.bounded { s with engine := .tampered } := h
  exact (((State.Grows.refl _).raise .tamper).bounded marked).tamperIntake

theorem State.bounded.tamperStore : s.tamperStore.bounded := h.congr

theorem State.bounded.withBays (bays : Vector Bay 8) (prof : ProfileStore) : State.bounded { s with bays, prof } := h

theorem State.bounded.tamper : s.tamper.bounded := by
  have cleared : ((s.tamperStore.updCipher fun _ => CipherUnit.reset).tamperCeu).tamperWriter.bounded :=
    (State.bounded.tamperCeu (h.tamperStore.congr)).tamperWriter
  unfold State.tamper
  dsimp only
  split
  · exact cleared.withBays _ _
  · exact (cleared.withBays _ _).enterTampered

theorem State.bounded.setLatch : s.setLatch.bounded := by
  have latched : State.bounded (s.updKs fun k => { k with latch := true }) := h
  unfold State.setLatch
  dsimp only
  split
  · exact State.bounded.tamperStore latched
  · exact ((State.Grows.refl _).closeSweep.settleEngine).bounded (State.bounded.tamper latched)

theorem State.bounded.endLoad : s.endLoad.bounded := by
  unfold State.endLoad
  dsimp only
  split
  · refine State.bounded.enterTampered ?_
    split
    · exact State.bounded.tamperCeu h
    · exact h
  · exact h

theorem State.bounded.memoryUnreadable : s.memoryUnreadable.bounded := by
  refine State.bounded.endLoad (((State.Grows.refl _).raise .profileFault).bounded ?_)
  exact h

omit h in
/-- A reset empties every store (R8). -/
theorem resetWith_bounded (s : State) (mem : MemoryStart) : (s.resetWith mem).bounded := by
  have reset : s.resetBlocks.kickArray.bounded :=
    .of_empty (by simp [State.resetBlocks, Intake.reset]) (by simp [State.resetBlocks, Writer.reset]) fun c => by
      simp [State.resetBlocks, State.console, ComponentUnit.reset, Console.reset]
  unfold State.resetWith State.readMemory
  split_ifs
  · exact reset.memoryUnreadable
  · exact reset
  · exact reset.congr

/-- A cell is taken only into a table with room (R13). -/
theorem State.bounded.visitCell (a : Area) (w : Sweep) (cell : List Byte) : (s.visitCell a w cell).bounded := by
  obtain ⟨table, queue, frames⟩ := h
  unfold State.visitCell
  dsimp only
  split_ifs with _ _ room
  · exact ⟨table, queue, frames⟩
  · have taken : State.bounded ((((s.updIntake fun k =>
          { k with sweep := some { w with position := (w.position + 1) % a.cells, left := w.left - 1 } }).emit
          [.busWrite (a.at (cellOffset w.position)) [0x02]]).updIntake fun k =>
        { k with table := k.table ++ [entryOf w.position cell], pointer := (w.position + 1) % a.cells })) :=
      ⟨by simpa using room, queue, frames⟩
    unfold State.takeCell
    dsimp only
    split
    · exact ((State.Grows.refl _).refuseAtTake ..).bounded taken
    · split
      · exact ((State.Grows.refl _).refuseAtTake ..).bounded taken
      · exact taken
  · have left : (s.updIntake fun k =>
        { k with sweep := some { w with position := (w.position + 1) % a.cells, left := w.left - 1 } }).bounded :=
      ⟨table, queue, frames⟩
    unfold State.leaveCell
    dsimp only
    split
    · exact left
    · exact ((State.Grows.refl _).raise .trayBacklog).bounded left
  · exact ⟨table, queue, frames⟩

theorem State.bounded.areaFault : s.areaFault.bounded := by
  have out : ((s.raise .areaFault).endSweeps.updIntake fun k => { k with area := none }).writerInactive.bounded :=
    ((State.Grows.refl s).raise .areaFault |>.endSweeps.updIntake _ |>.writerInactive).bounded h
  have lost : (((s.raise .areaFault).endSweeps.updIntake fun k =>
      { k with area := none }).writerInactive.loseAnswers).bounded := by
    refine ((State.Grows.refl _).foldl (fun cell grown => grown.answered cell) _).bounded ?_
    exact out
  have undrained := (((State.Grows.refl _).foldl (fun i grown => grown.endDrain i) (List.finRange 64)).withdrawSettles).bounded lost
  unfold State.areaFault
  dsimp only
  split
  · exact (((State.Grows.refl _).withEngine .stopping).stopNotice).bounded undrained
  · exact undrained

/-- The head of the queue leaves before a waiting receipt is entered (R143, R145). -/
theorem State.bounded.writeReceipt (a : Area) (roll : Roll) (x : Receipt) (rest : List Receipt)
    (queue : s.writer.queue = x :: rest) : (s.writeReceipt a roll x rest).bounded := by
  have written := (((State.Grows.refl s).emit (receiptWrites a roll x)).setRoll
    (some { roll with written := roll.written + 1 })).bounded h
  obtain ⟨table, fits, frames⟩ := written
  have below : rest.length < 16 := by simpa [queue] using fits
  have left : State.bounded ((((s.emit (receiptWrites a roll x)).setRoll (some { roll with written := roll.written + 1 })).updWriter
      fun w => { w with queue := rest })) := ⟨table, below.le, frames⟩
  refine (((((State.Grows.refl _).updKs fun k => { k with closure := some x.closure }).request .closure).admitWaiting ?_).updWriter
    _).bounded left
  simpa [State.queueHasRoom] using below

theorem exec_bounded (c : Instr) : endsIn State.bounded (exec c s) := by
  -- A command that only adds, by the lemma of its own effect.
  have adds {f : State → State} (own : s.quiet.Grows (f s.quiet)) : endsIn State.bounded (.next (s.run f)) :=
    endsIn_next (own.run.bounded h)
  have bays {f : State → State} (own : s.quiet.Grows (f s.quiet)) : endsIn State.bounded (.next (s.runBays f)) :=
    endsIn_next (own.runBays.bounded h)
  have grown := State.Grows.refl s.quiet
  -- The head of the key store's requests leaves; the bounded stores are not in it.
  have requests {f : State → State} (own : (f s.quiet).bounded) : endsIn State.bounded (.next (s.run f)) :=
    endsIn_next (h.run fun _ => own)
  have dropped : s.quiet.dropRequest.bounded := h
  have taken := State.Grows.refl s.quiet.dropRequest
  cases c with
  | reset mem | pcieLinkReset mem =>
    refine endsIn_next ?_
    split
    · exact h
    · exact resetWith_bounded s mem
  | powerOnReset tmpCase tmpBatlow mem => exact endsIn_next (resetWith_bounded _ mem)
  | mainPowerLoss =>
    refine endsIn_next ?_
    split
    · exact h
    · exact .of_empty rfl rfl fun c => by
        simp [State.losePower, State.reset, State.console, ComponentUnit.reset, Console.reset]
  | tmpCaseActive =>
    have active : (s.quiet.updKs fun k => { k with tmpCase := true }).bounded := h
    refine endsIn_next ?_
    dsimp only
    split
    · exact h
    · exact active.setLatch
  | tmpBatlowActive =>
    have active : (s.quiet.updKs fun k => { k with tmpBatlow := true }).bounded := h
    refine endsIn_next ?_
    dsimp only
    split
    · exact h
    · exact active.setLatch
  | areaFault access =>
    refine requests ?_
    split
    · exact State.bounded.areaFault (s := s.quiet.emit _) h
    · exact h
  | sweepCellVisit cell =>
    refine requests ?_
    split
    · split
      · exact State.bounded.visitCell (s := s.quiet) h ..
      · exact h
    · exact h
  | ownerCheck owner =>
    refine requests ?_
    split
    · refine ((State.Grows.refl _).answered _).bounded ?_
      exact State.bounded.congr (s := s) h (by simp only [Intake.dropAnswer, emit_intake, updIntake_intake]; split <;> rfl) rfl
        fun _ => rfl
    · exact h
  | receiptWriteSequence =>
    refine requests ?_
    split
    next a roll x rest _ _ queue =>
      split
      · exact State.bounded.writeReceipt (s := s.quiet) h a roll x rest queue
      · exact h
    next => exact h
  | groupAreaRead area =>
    refine requests ?_
    split
    · have judged {g : Fin 4} := (grown.judge g area.toList).bounded h
      dsimp only
      split
      · exact judged
      · exact judged.endLoad
    · exact h
  | memoryBusyTimeout =>
    refine requests ?_
    split
    · split
      · exact State.bounded.memoryUnreadable h
      · exact h
    · exact h
  | eventsRead | eventMaskWrite => exact requests h
  | watchSet =>
    refine requests ?_
    unfold State.withOrder
    split
    · dsimp only
      split
      · refine ((State.Grows.refl _).answerAtTake _ _ _).bounded ?_
        exact State.bounded.congr (s := s) h
      · exact (grown.refuseAtTake ..).bounded h
    · exact h
  | claimRequest =>
    refine requests ?_
    split
    · exact (taken.takeClaim ..).bounded dropped
    · exact h
  | wrapUse =>
    refine requests ?_
    split
    · exact (taken.takeWrap ..).bounded dropped
    · exact h
  | claimWithdrawal =>
    refine requests ?_
    split
    · exact (taken.takeWithdrawal _).bounded dropped
    · exact h
  | holdRelease =>
    refine requests ?_
    split
    · exact (taken.releaseHolds _).bounded dropped
    · exact h
  | claimClosure =>
    refine requests ?_
    split
    · exact (taken.takeClosure _).bounded dropped
    · exact h
  | start hdr =>
    refine adds ?_
    split
    · dsimp only
      split
      · split
        · exact grown.useArea ..
        · exact grown.raise _
      · exact grown.raise _
    · exact grown
  | stop =>
    refine adds ?_
    split
    · exact ((grown.withEngine .stopping).endSweeps.stopValidating).stopNotice
    · exact grown
  | nudge value => exact adds grown.requestSweep.pokeWriter
  | registerWrite w =>
    refine adds ?_
    split
    · exact grown.updIntake _
    · exact grown.updIntake _
    all_goals exact grown
  | zeroizeOverwriteDone ok =>
    refine adds ?_
    split
    · exact grown
    · dsimp only
      refine State.Grows.kickArray ?_
      split
      · exact (grown.updSlot _ _).updKs _
      · exact ((grown.updSlot _ _).updKs _).raise _
  | sweepTimerExpiry =>
    refine adds ?_
    split
    · split
      · exact (grown.updIntake _).triggerSweep
      · exact grown
    · exact grown
  | slotDefine =>
    refine adds (grown.withStoreOrder _ _ fun x e => ?_)
    dsimp only
    split_ifs
    · exact grown.refuseAtTake ..
    · exact grown.refuseAtTake ..
    · exact (grown.updSlot _ _).answerAtTake _ _ _
  | slotQuery => exact adds (grown.withStoreOrder _ _ fun _ _ => grown.answerAtTake _ _ _)
  | slotErase =>
    refine adds (grown.withStoreOrder _ _ fun i e => ?_)
    dsimp only
    split
    · exact (grown.updSlot _ _).answerAtTake _ _ _
    · split
      · exact grown.refuseAtTake ..
      · exact grown.beginDrain ..
    all_goals exact grown.refuseAtTake ..
  | allowanceGrant =>
    refine adds (grown.withStoreOrder _ _ fun x e => ?_)
    dsimp only
    split_ifs
    · exact grown.refuseAtTake ..
    · exact grown.refuseAtTake ..
    · exact grown.requestApproval ..
    · exact (grown.applyGrant ..).answerAtTake _ _ _
  | claimsSettle =>
    refine adds (grown.withStoreOrder _ _ fun i e => ?_)
    split_ifs
    · exact grown.refuseAtTake ..
    · exact grown.beginSettle ..
    · exact grown.answerAtTake _ _ _
  | ceremonyOpen =>
    refine adds (grown.withOrder _ fun e => ?_)
    split
    · exact grown.refuseAtTake ..
    · split_ifs
      · exact grown.refuseAtTake ..
      · exact grown.openCeremony ..
      · exact grown
  | ceremonyCancel =>
    refine adds (grown.withOrder _ fun e => ?_)
    split
    · exact grown.refuseAtTake ..
    · split
      · split
        · exact (grown.answerAtTake _ _ _).endAssembly ..
        · exact grown.refuseAtTake ..
      · split
        · exact (grown.answerAtTake _ _ _).endApproval ..
        · exact grown.refuseAtTake ..
      · exact grown.refuseAtTake ..
  | planRun =>
    refine adds (grown.withOrder _ fun e => ?_)
    split
    · exact grown.refuseAtTake ..
    · split
      · exact grown.refuseAtTake ..
      · exact grown.placeOrder ..
  | planRepeat =>
    refine adds (grown.withOrder _ fun e => ?_)
    split
    · exact grown.refuseAtTake ..
    · split_ifs
      · exact grown.refuseAtTake ..
      · exact grown.refuseAtTake ..
      · exact grown.placeOrder ..
  | bayHalt =>
    refine adds (grown.withOrder _ fun e => ?_)
    split
    · exact grown.refuseAtTake ..
    · split
      · exact grown.refuseAtTake ..
      · exact grown.haltBay ..
  | bayQuery =>
    refine adds (grown.withOrder _ fun e => ?_)
    split
    · exact grown.refuseAtTake ..
    · exact (grown.updLink _ _).answerAtTake _ _ _
  | profileWrite =>
    refine adds (grown.withOrder _ fun e => ?_)
    split
    · split
      · exact grown.refuseAtTake ..
      · exact (grown.updProf _).finishWrite ..
    · exact grown.refuseAtTake ..
  | modelMapWrite =>
    refine adds (grown.withOrder _ fun e => ?_)
    split
    · split
      · exact grown.refuseAtTake ..
      · exact (grown.updProf _).finishWrite ..
    · exact grown.refuseAtTake ..
  | keyArrayWriteComplete | keyArrayWriteFail =>
    refine adds ?_
    split
    · exact grown.writeEnded ..
    · exact grown
  | deriveDone =>
    refine adds ?_
    split
    · exact (grown.releaseCipher.bayCompletion _ (grown.releaseCipher.storeKey ..)).kickCipher
    · exact grown
  | checkvalDone =>
    refine adds ?_
    split
    · refine State.Grows.kickCipher ?_
      split
      · exact grown.releaseCipher.bayCompletion _ (grown.releaseCipher.storeCheckValue ..)
      · exact grown.releaseCipher.componentChecked _
      · exact grown.releaseCipher.accumulatorChecked _
    · exact grown
  | wrapDone =>
    refine adds ?_
    split
    · exact (grown.releaseCipher.bayCompletion _ (grown.releaseCipher.storeBlock ..)).kickCipher
    · exact grown
  | cardIn | cardOut | component | approve | decline => exact adds (grown.receiveConsole _ _)
  | consoleGapExpiry console bytes => exact adds ((grown.consoleGap _).foldl (fun x more => more.consoleByte _ x) bytes)
  | consoleBadFrame console bytes => exact adds (grown.foldl (fun x more => more.consoleByte _ x) bytes)
  | consoleTransmitEnd console =>
    refine adds ?_
    split
    · exact grown
    · exact grown.updConsole _ _
    next queue =>
      refine (grown.updConsole _ _ fun fits => ?_).beginConsole ..
      rw [queue, List.length_cons] at fits
      exact (Nat.le_succ _).trans fits
  | deadlineExpiry =>
    refine adds ?_
    split
    · split
      · exact grown.endAssembly ..
      · exact grown
    · exact grown
  | windowExpiry =>
    refine adds ?_
    split
    · split
      · exact grown.endApproval ..
      · exact grown
    all_goals exact grown
  | ident | ack | check | nak => exact bays (grown.receiveTerminal ..)
  | bayLineError bay bytes => exact bays (grown.foldl (fun x more => more.bayByte _ x) bytes)
  | bayGapExpiry bay bytes => exact bays ((grown.bayGap _).foldl (fun x more => more.bayByte _ x) bytes)
  | bayTransmitEnd bay =>
    refine bays ?_
    split
    · exact (grown.armReply ..).transmitNext _
    · exact grown
  | replyTimerExpiry bay =>
    refine bays ?_
    split
    · split
      · exact grown.replyExpired ..
      · exact grown
    · exact grown
  | bayPresHigh bay | bayPresLow bay => exact endsIn_next ((grown.presenceInput ..).bounded h)
  | presenceTimerExpiry bay =>
    refine bays ?_
    split
    · split
      · exact grown.recogniseRise _
      · exact grown.recogniseDrop _
      all_goals exact grown
    · exact grown
  | removalTimerExpiry bay =>
    refine bays ?_
    split
    · exact grown.planEnd ..
    · exact grown
  | takeAttempt ready base capacity =>
    refine adds ?_
    split
    · split_ifs
      · exact grown.takeRoll ..
      · exact grown.declineRoll _
      · exact grown.noRoll _
      · exact grown
    · exact grown
  | persistEnd readBack =>
    refine adds ?_
    split
    · exact grown
    · split
      · exact grown.persistEnded ..
      · exact grown
  | serialMemoryReady control =>
    refine adds ?_
    split
    · exact grown.memoryReady _
    · exact grown
    · exact grown.advancePersist _
    · exact grown

end

end Sys2Proof.Machine
end

section

set_option Elab.async false

/-!
SUPPORT. The profile store's ranges (R155, R156) and what holds between two commands (R5, R7, R14) at every step.
-/

namespace Sys2Proof.Machine

/-! ## Records as they are read (R159, R161, R162) -/

theorem ofLE_lt (bytes : List Byte) : ofLE bytes < 256 ^ bytes.length := by
  induction bytes with
  | nil => simp [ofLE]
  | cons b rest ih =>
    have byte := b.isLt
    simp only [ofLE, List.length_cons, pow_succ]
    omega

theorem numberAt_lt (bytes : List Byte) (off len : Nat) : numberAt bytes off len < 256 ^ len :=
  (ofLE_lt _).trans_le (Nat.pow_le_pow_right (by decide) (by simp [field]))

/-- A profile record that is accepted is in its range (R159, R161). -/
theorem inRange_of_profile? {record : List Byte} {p : Profile} (read : profile? record = some p) : p.inRange = true := by
  unfold profile? at read
  dsimp only at read
  split at read
  next ok =>
    rw [Bool.and_eq_true] at ok
    exact Option.some.inj read ▸ ok.1
  next => cases read

/-- A map entry with an unused model code is held as one (R156). -/
def MapEntry.legal (e : MapEntry) : Prop := e.model = 0 → e.profile = 0

theorem MapEntry.unused_legal : MapEntry.unused.legal := fun _ => rfl

theorem legal_of_mapEntry? {record : List Byte} {e : MapEntry} (read : mapEntry? record = some e) : e.legal := by
  unfold mapEntry? at read
  split_ifs at read with unused _
  · exact Option.some.inj read ▸ MapEntry.unused_legal
  · obtain rfl := Option.some.inj read
    intro zero
    have small := numberAt_lt record 0 2
    have same := congrArg BitVec.toNat zero
    simp only [BitVec.toNat_ofNat, BitVec.ofNat_eq_ofNat] at same
    omega

theorem allSome_mem {α : Type} {l : List (Option α)} {r : List α} (all : allSome l = some r) {x : α} (mem : x ∈ r) :
    some x ∈ l := by
  induction l generalizing r with
  | nil =>
    obtain rfl : [] = r := Option.some.inj all
    cases mem
  | cons o rest ih =>
    cases o with
    | none => cases all
    | some y =>
      obtain ⟨tail, tail_all, rfl⟩ := Option.map_eq_some_iff.mp all
      obtain rfl | later := List.mem_cons.mp mem
      · exact List.mem_cons_self
      · exact List.mem_cons_of_mem _ (ih tail_all later)

theorem getD_of_forall {α : Type} {P : α → Prop} {l : List α} (all : ∀ x ∈ l, P x) {d : α} (default : P d) (n : Nat) :
    P (l.getD n d) := by
  rw [List.getD_eq_getElem?_getD]
  cases found : l[n]? with
  | none => exact default
  | some x => exact all x (List.mem_of_getElem? found)

/-! ## The profile store -/

/-- The records of a group lie in their ranges. -/
def GroupRecords.legal : GroupRecords → Prop
  | .profiles l => ∀ p ∈ l, p.inRange = true
  | .entries l => ∀ e ∈ l, MapEntry.legal e

theorem defaultRecords_legal (g : Fin 4) : (defaultRecords g).legal := by
  unfold defaultRecords
  split <;> simp [GroupRecords.legal]

theorem groupRecords?_legal {g : Fin 4} {area : List Byte} {r : GroupRecords} (read : groupRecords? g area = some r) :
    r.legal := by
  unfold groupRecords? at read
  split at read
  all_goals
    obtain ⟨l, all, rfl⟩ := Option.map_eq_some_iff.mp read
    intro x mem
    obtain ⟨record, _, accepted⟩ := List.mem_map.mp (allSome_mem all mem)
  · exact inRange_of_profile? accepted
  · exact legal_of_mapEntry? accepted

theorem judgeGroup_legal (control : BitVec 16) (g : Fin 4) (area : List Byte) : (judgeGroup control g area).2.legal := by
  unfold judgeGroup
  split_ifs
  · exact defaultRecords_legal g
  · exact defaultRecords_legal g
  · split
    next read => exact groupRecords?_legal read
    next => exact defaultRecords_legal g

namespace ProfileStore.legal

theorem of_defaults {p : ProfileStore} (profiles : p.profiles = Vector.replicate 16 Profile.default)
    (map : p.map = Vector.replicate 64 MapEntry.unused) : p.legal := by
  refine ⟨fun i => ?_, fun i _ => ?_⟩
  · simp only [profiles, Fin.getElem_fin, Vector.getElem_replicate]
    decide
  · simp only [map, Fin.getElem_fin, Vector.getElem_replicate]
    rfl

section
variable {p : ProfileStore} (h : p.legal)
include h

theorem congr {q : ProfileStore} (profiles : q.profiles = p.profiles := by simp) (map : q.map = p.map := by simp) : q.legal := by
  simpa [ProfileStore.legal, profiles, map] using h

theorem writeGroup (g : Fin 4) {r : GroupRecords} (records : r.legal) : (p.writeGroup g r).legal := by
  obtain ⟨profiles, map⟩ := h
  cases r with
  | profiles l =>
    refine ⟨fun i => ?_, map⟩
    simp only [ProfileStore.writeGroup, Fin.getElem_fin, Vector.getElem_ofFn]
    split
    · exact getD_of_forall (P := fun x : Profile => x.inRange = true) records (by decide) _
    · exact profiles i
  | entries l =>
    refine ⟨fun i => by simpa only [ProfileStore.writeGroup] using profiles i, fun i => ?_⟩
    simp only [ProfileStore.writeGroup, Fin.getElem_fin, Vector.getElem_ofFn]
    split
    · exact getD_of_forall (P := MapEntry.legal) records MapEntry.unused_legal _
    · exact map i

theorem setProfile (i : Fin 16) {x : Profile} (range : x.inRange = true) :
    ProfileStore.legal { p with profiles := p.profiles.set i x } := by
  obtain ⟨profiles, map⟩ := h
  refine ⟨fun j => ?_, map⟩
  simp only [Fin.getElem_fin, Vector.getElem_set]
  split
  · exact range
  · exact profiles j

theorem writeMap (first : Nat) {l : List MapEntry} (entries : ∀ e ∈ l, e.legal) : (p.writeMap first l).legal := by
  obtain ⟨profiles, map⟩ := h
  refine ⟨fun i => by simpa only [ProfileStore.writeMap] using profiles i, fun i => ?_⟩
  simp only [ProfileStore.writeMap, Fin.getElem_fin, Vector.getElem_ofFn]
  split
  · exact getD_of_forall (P := MapEntry.legal) entries MapEntry.unused_legal _
  · exact map i

theorem touch (g : Fin 4) : (p.touch g).legal := h

end

end ProfileStore.legal

theorem mapWrite?_legal {params : List Byte} {first : Nat} {l : List MapEntry} (read : mapWrite? params = some (first, l)) :
    ∀ e ∈ l, e.legal := by
  unfold mapWrite? at read
  dsimp only at read
  split at read
  · obtain ⟨l', all, same⟩ := Option.map_eq_some_iff.mp read
    obtain ⟨rfl, rfl⟩ := Prod.mk.inj same
    intro e mem
    obtain ⟨record, _, accepted⟩ := List.mem_map.mp (allSome_mem all mem)
    exact legal_of_mapEntry? accepted
  · cases read

/-- The profile store of a state is legal. -/
def State.profilesLegal (s : State) : Prop := s.prof.legal

section
variable {s : State} (h : s.profilesLegal)
include h

/-- What leaves the records alone; the frame lemmas say what does. -/
theorem State.profilesLegal.congr {t : State} (profiles : t.prof.profiles = s.prof.profiles := by simp)
    (map : t.prof.map = s.prof.map := by simp) : t.profilesLegal :=
  ProfileStore.legal.congr h profiles map

theorem State.profilesLegal.run {f : State → State} (own : (f s.quiet).profilesLegal) : (s.run f).profilesLegal := by
  by_cases power : s.engine = .off
  · rw [run_off s f power]
    exact h
  · rw [run_on s f power]
    exact own.congr

omit h in
/-- A reset puts the defaults in every record (R158). -/
theorem resetWith_profilesLegal (s : State) (mem : MemoryStart) : (s.resetWith mem).profilesLegal := by
  have reset : s.resetBlocks.kickArray.profilesLegal := .of_defaults (by simp [State.resetBlocks, ProfileStore.beginLoad])
    (by simp [State.resetBlocks, ProfileStore.beginLoad])
  unfold State.resetWith State.readMemory
  split_ifs
  · exact reset.congr
  · exact reset
  · exact reset

theorem State.profilesLegal.setLatch : s.setLatch.profilesLegal := h.congr

theorem State.profilesLegal.judge (g : Fin 4) (area : List Byte) : (s.judge g area).profilesLegal := by
  have judged := ProfileStore.legal.writeGroup h g (judgeGroup_legal s.prof.control g area)
  unfold State.judge
  dsimp only
  split <;> exact judged

/-- Commands of the profile store, the loads and the resets apart, leave it as it is. -/
theorem exec_profilesLegal (c : Instr) : endsIn State.profilesLegal (exec c s) := by
  have runs {f : State → State} (own : (f s.quiet).profilesLegal) : endsIn State.profilesLegal (.next (s.run f)) :=
    endsIn_next (h.run own)
  have elsewhere {f : State → State} (same : (f s.quiet).prof = s.quiet.prof) : endsIn State.profilesLegal (.next (s.run f)) := by
    refine runs ?_
    rw [State.profilesLegal, same]
    exact h
  have bays {f : State → State} (same : (f s.quiet).prof = s.quiet.prof) :
      endsIn State.profilesLegal (.next (s.runBays f)) := by
    refine elsewhere ?_
    split
    · exact same
    · rfl
  cases c with
  | reset mem | pcieLinkReset mem =>
    refine endsIn_next ?_
    split
    · exact h
    · exact resetWith_profilesLegal s mem
  | powerOnReset tmpCase tmpBatlow mem => exact endsIn_next (resetWith_profilesLegal _ mem)
  | mainPowerLoss =>
    refine endsIn_next ?_
    split
    · exact h
    · exact .of_defaults rfl rfl
  | tmpCaseActive | tmpBatlowActive =>
    refine endsIn_next ?_
    dsimp only
    split
    · exact h
    · exact State.profilesLegal.setLatch (h.congr rfl rfl)
  | groupAreaRead area =>
    refine runs ?_
    split
    next g _ =>
      have judged := State.profilesLegal.judge (s := s.quiet) h g area.toList
      dsimp only
      split
      · exact judged
      · exact judged.congr
    · exact h
  | memoryBusyTimeout =>
    refine runs ?_
    split
    · split
      · exact State.profilesLegal.congr (s := s.quiet) h
      · exact h
    · exact h
  | profileWrite =>
    refine runs ?_
    unfold State.withOrder
    split
    · dsimp only
      split
      next x _ _ read =>
        have written := (ProfileStore.legal.setProfile h x (inRange_of_profile? read)).touch (profileGroup x)
        split
        · exact State.profilesLegal.congr (s := s.quiet) h
        · exact ProfileStore.legal.congr written
      next => exact State.profilesLegal.congr (s := s.quiet) h
    · exact h
  | modelMapWrite =>
    refine runs ?_
    unfold State.withOrder
    split
    · dsimp only
      split
      next first l read =>
        have written := (ProfileStore.legal.writeMap h first (mapWrite?_legal read)).touch (mapGroup first)
        split
        · exact State.profilesLegal.congr (s := s.quiet) h
        · exact ProfileStore.legal.congr written
      next => exact State.profilesLegal.congr (s := s.quiet) h
    · exact h
  | persistEnd readBack =>
    refine runs ?_
    split
    · exact h
    · split
      · rw [State.profilesLegal, persistEnded_prof]
        exact h
      · exact h
  | serialMemoryReady control =>
    refine runs ?_
    split
    · exact h
    · exact h
    · unfold State.advancePersist
      split <;> exact h
    · exact h
  | bayPresHigh | bayPresLow => exact endsIn_next (State.profilesLegal.congr (s := s.quiet) h)
  | consoleBadFrame console bytes => exact elsewhere (foldl_keeps (fun t : State => t.prof) _ (by simp) _ _)
  | consoleGapExpiry console bytes =>
    refine elsewhere ((foldl_keeps (fun t : State => t.prof) _ (by simp) _ _).trans ?_)
    unfold State.consoleGap
    split <;> rfl
  | bayLineError bay bytes => exact bays (foldl_keeps (fun t : State => t.prof) _ (by simp) _ _)
  | bayGapExpiry bay bytes => exact bays ((foldl_keeps (fun t : State => t.prof) _ (by simp) _ _).trans (by simp))
  | ident | ack | check | nak => exact bays (by simp)
  | bayTransmitEnd | replyTimerExpiry | presenceTimerExpiry | removalTimerExpiry =>
    refine bays ?_
    (repeat' split) <;> simp
  | cardIn | cardOut | component | approve | decline => exact elsewhere (by simp)
  | slotDefine | slotQuery | slotErase | allowanceGrant | claimsSettle =>
    refine elsewhere ?_
    unfold State.withStoreOrder State.withOrder
    dsimp only
    (repeat' split) <;> simp
  | ceremonyOpen | ceremonyCancel | planRun | planRepeat | bayHalt | bayQuery | watchSet =>
    refine elsewhere ?_
    unfold State.withOrder
    dsimp only
    (repeat' split) <;> simp
  | checkvalDone | deriveDone | wrapDone =>
    refine elsewhere ?_
    unfold State.bayCompletion
    (repeat' split) <;> simp
  | start hdr =>
    refine elsewhere ?_
    dsimp only
    (repeat' split) <;> simp
  | stop | nudge | eventsRead | eventMaskWrite | registerWrite | zeroizeOverwriteDone | sweepTimerExpiry | sweepCellVisit
  | ownerCheck | areaFault | claimRequest | wrapUse | claimWithdrawal | holdRelease | claimClosure | keyArrayWriteComplete
  | keyArrayWriteFail | consoleTransmitEnd | deadlineExpiry | windowExpiry | receiptWriteSequence | takeAttempt =>
    refine elsewhere ?_
    (repeat' split) <;> simp

end

/-! ## Between two commands (R5, R7, R14) -/

/-- Sweeps end with their last visit. -/
def State.swept (s : State) : Prop := ∀ w, s.intake.sweep = some w → w.left = 0 → s.visitDone = false

@[simp] theorem pokeWriter_intake (s : State) : s.pokeWriter.intake = s.intake := by simp

/-- With no sweep in progress a trigger starts one wherever the area can be swept (R12). -/
theorem triggerSweep_intake {s : State} (idle : s.intake.sweep = none) :
    s.triggerSweep.intake = { s.intake with
      sweep := s.sweepArea.map fun a => { position := s.intake.pointer, left := a.cells, backlogSeen := false } } := by
  unfold State.triggerSweep State.requestSweep
  cases area : s.sweepArea with
  | none => simp [← idle]
  | some a => simp [idle, State.beginSweep]

theorem sweepArea_eq_some {s : State} {a : Area} (sweepable : s.sweepArea = some a) : s.intake.area = some a := by
  unfold State.sweepArea at sweepable
  split at sweepable
  · exact sweepable
  · cases sweepable

/-- After its last visit a sweep ends, and with the sweep-again flag set one more is triggered (R12, R14). -/
theorem closeSweep_done {s : State} {w : Sweep} (sweep : s.intake.sweep = some w) (last : w.left = 0) (done : s.visitDone = true) :
    s.closeSweep =
      if s.intake.sweepAgain then (s.updIntake fun k => { k with sweep := none, sweepAgain := false }).triggerSweep
      else s.updIntake fun k => { k with sweep := none, sweepAgain := false } := by
  obtain ⟨position, left, seen⟩ := w
  obtain rfl : left = 0 := last
  unfold State.closeSweep
  simp only [sweep, done, if_true]

/-- A sweep that ends here may start one more, which has all of a legal area's cells to visit. -/
theorem closeSweep_swept {s : State} (legal : s.intake.areaLegal) : s.closeSweep.swept := by
  by_cases swept : s.swept
  · rwa [closeSweep_settled s swept]
  · unfold State.swept at swept
    push Not at swept
    obtain ⟨w, sweep, last, done⟩ := swept
    rw [closeSweep_done sweep last (by simpa using done)]
    intro v started none_left
    split at started
    · rw [triggerSweep_intake rfl] at started
      obtain ⟨a, sweepable, rfl⟩ := Option.map_eq_some_iff.mp started
      have area : s.intake.area = some a := sweepArea_eq_some sweepable
      rw [Intake.areaLegal, area] at legal
      have cells : a.cells = 0 := none_left
      omega
    · cases started

theorem settleEngine_settled_of_swept {s : State} (swept : s.swept) : s.settleEngine.settled := by
  unfold State.settleEngine
  split
  · refine ⟨fun w sweep => ?_, ?_⟩
    · cases sweep
    · simp [State.stopComplete, State.enterStandby]
  next open_ => exact ⟨swept, by simpa using open_⟩

section
variable {s : State} (h : s.atRest)
include h

theorem State.atRest.run {f : State → State} (legal : (f s.quiet).intake.areaLegal) : (s.run f).atRest := by
  by_cases power : s.engine = .off
  · rw [run_off s f power]
    exact h
  · rw [run_on s f power]
    refine ⟨?_, settleEngine_settled_of_swept (closeSweep_swept legal)⟩
    unfold State.settleEngine
    split
    · trivial
    · simpa [Intake.areaLegal] using legal

/-- A state that differs in nothing that matters between two commands. -/
theorem State.atRest.congr {t : State} (engine : t.engine = s.engine := by simp) (intake : t.intake = s.intake := by simp)
    (ceu : t.ceu = s.ceu := by simp) (writer : t.writer = s.writer := by simp)
    (running : ∀ c, (t.bay c).running = (s.bay c).running := by simp) : t.atRest := by
  obtain ⟨legal, settled⟩ := h
  exact ⟨intake ▸ legal, settled.congr engine intake ceu writer running⟩

omit h in
/-- Where the engine is neither in STOPPING nor in a sweep nothing is left to do. -/
theorem State.atRest.of_reset {s : State} (engine : s.engine ≠ .stopping) (area : s.intake.area = none)
    (sweep : s.intake.sweep = none) : s.atRest := by
  refine ⟨by simp [Intake.areaLegal, area], settled_of_engine s engine fun w some_sweep => ?_⟩
  rw [sweep] at some_sweep
  cases some_sweep

omit h in
/-- With the area out of use an entry that frees triggers nothing (R12, R13). -/
theorem answered_intake_of_no_area {s : State} (area : s.intake.area = none) (cell : Nat) :
    (s.answered cell).intake = { s.intake with table := s.intake.table.filter (fun e => e.cell != cell), backlog := false } := by
  unfold State.answered State.freeEntry
  dsimp only
  split
  · simp [State.triggerSweep, State.requestSweep, State.sweepArea, area]
  · rfl

omit h in
/-- Answers lost with the area out of use start no sweep (R9, R18). -/
theorem foldl_answered_idle {s : State} (area : s.intake.area = none) (sweep : s.intake.sweep = none) (cells : List Nat) :
    (cells.foldl State.answered s).intake.area = none ∧ (cells.foldl State.answered s).intake.sweep = none := by
  induction cells generalizing s with
  | nil => exact ⟨area, sweep⟩
  | cons cell rest ih =>
    refine ih ?_ ?_
    · rw [answered_intake_of_no_area area]; exact area
    · rw [answered_intake_of_no_area area]; exact sweep

omit h in
theorem enterTampered_atRest {s : State} (area : s.intake.area = none) (sweep : s.intake.sweep = none) : s.enterTampered.atRest := by
  refine .of_reset (by simp [State.enterTampered]) (by simp [State.enterTampered, area]) ?_
  unfold State.enterTampered State.tamperIntake
  simp only [raise_intake, area, Option.isSome_none, Bool.false_eq_true, if_false]
  refine (foldl_answered_idle ?_ ?_ _).2
  · exact area
  · exact sweep

omit h in
/-- The end of a load begins no sweep, for there is no area (R160). -/
theorem endLoad_atRest {s : State} (area : s.intake.area = none) (sweep : s.intake.sweep = none) : s.endLoad.atRest := by
  unfold State.endLoad
  dsimp only
  split
  · split
    · exact enterTampered_atRest (by simpa using area) (by simpa using sweep)
    · exact enterTampered_atRest area sweep
  · exact .of_reset (by simp) area sweep

omit h in
theorem resetWith_atRest (s : State) (mem : MemoryStart) : (s.resetWith mem).atRest := by
  have area : s.resetBlocks.kickArray.intake.area = none := by simp [State.resetBlocks, Intake.reset]
  have sweep : s.resetBlocks.kickArray.intake.sweep = none := by simp [State.resetBlocks, Intake.reset]
  unfold State.resetWith State.readMemory
  split_ifs
  · exact endLoad_atRest area sweep
  · exact .of_reset (by simp [State.resetBlocks]) area sweep
  · exact .of_reset (by simp [State.resetBlocks]) (by simpa using area) (by simpa using sweep)

omit h in
/-- The header's tests are those of a legal area (R5). -/
theorem useArea_areaLegal (s : State) (base : BitVec 64) (x : StationHeader) (legal : headerLegal x = true) :
    (s.useArea base x).intake.areaLegal := by
  have area : (s.useArea base x).intake.area = some { base, cells := x.cells.toNat, sweepMs := x.sweepMs.toNat } := by
    simp [State.useArea, State.writerActive]
  simp only [headerLegal, Bool.and_eq_true, decide_eq_true_eq] at legal
  obtain ⟨⟨-, low, high⟩, interval⟩ := legal
  rw [Intake.areaLegal, area]
  exact ⟨low, high, interval⟩

omit h in
theorem areaFault_area (s : State) : s.areaFault.intake.area = none := by
  unfold State.areaFault
  dsimp only
  split <;> simp [foldl_keeps (fun t : State => t.intake.area)]

theorem State.atRest.setLatch : s.setLatch.atRest := by
  obtain ⟨legal, swept, stop⟩ := h
  unfold State.setLatch
  dsimp only
  split
  next off =>
    refine ⟨by simpa [Intake.areaLegal] using legal, by simpa [State.visitDone, State.validating] using swept, ?_⟩
    have off : s.engine = .off := off
    simp [State.stopComplete, off]
  next =>
    have tampered : State.tamper (s.updKs fun k => { k with latch := true }) |>.intake.areaLegal := by
      simpa [Intake.areaLegal] using legal
    refine ⟨?_, settleEngine_settled_of_swept (closeSweep_swept tampered)⟩
    unfold State.settleEngine
    split
    · trivial
    · simpa [Intake.areaLegal] using legal

omit h in
theorem dropAnswer_area (k : Intake) : k.dropAnswer.area = k.area := by
  unfold Intake.dropAnswer
  split <;> rfl

omit h in
/-- The presence input is on the link alone (R106). -/
theorem presenceInput_running (s : State) (b : BayId) (level : Bool) (c : BayId) :
    ((s.presenceInput b level).bay c).running = (s.bay c).running := by
  by_cases own : c = b
  · subst own
    unfold State.presenceInput
    (repeat' split) <;> simp
  · rw [presenceInput_other s b level c own]

theorem exec_atRest (c : Instr) : endsIn State.atRest (exec c s) := by
  have runs {f : State → State} (legal : (f s.quiet).intake.areaLegal) : endsIn State.atRest (.next (s.run f)) :=
    endsIn_next (h.run legal)
  -- What leaves the area as it is leaves it legal.
  have keeps {f : State → State} (area : (f s.quiet).intake.area = s.quiet.intake.area) :
      endsIn State.atRest (.next (s.run f)) := by
    refine runs ?_
    rw [Intake.areaLegal, area]
    exact h.1
  have bays {f : State → State} (area : (f s.quiet).intake.area = s.quiet.intake.area) :
      endsIn State.atRest (.next (s.runBays f)) := by
    refine keeps ?_
    split
    · exact area
    · rfl
  cases c with
  | reset mem | pcieLinkReset mem =>
    refine endsIn_next ?_
    split
    · exact h
    · exact resetWith_atRest s mem
  | powerOnReset tmpCase tmpBatlow mem => exact endsIn_next (resetWith_atRest _ mem)
  | mainPowerLoss =>
    refine endsIn_next ?_
    split
    · exact h
    · exact .of_reset (by simp [State.losePower]) rfl rfl
  | tmpCaseActive | tmpBatlowActive =>
    refine endsIn_next ?_
    dsimp only
    split
    · exact h
    · exact State.atRest.setLatch (h.congr rfl rfl rfl rfl fun _ => rfl)
  | start hdr =>
    refine runs ?_
    dsimp only
    split
    · split
      · split
        next tests => exact useArea_areaLegal _ _ _ tests.2
        next => exact h.1
      · exact h.1
    · exact h.1
  | areaFault access =>
    refine runs ?_
    split
    · rw [Intake.areaLegal, areaFault_area]
      trivial
    · exact h.1
  | bayPresHigh bay | bayPresLow bay =>
    exact endsIn_next (State.atRest.congr (s := s.quiet) h (by simp) (by simp) (by simp) (by simp)
      (presenceInput_running _ _ _))
  | consoleBadFrame console bytes => exact keeps (foldl_keeps (fun t : State => t.intake.area) _ (by simp) _ _)
  | consoleGapExpiry console bytes =>
    refine keeps ((foldl_keeps (fun t : State => t.intake.area) _ (by simp) _ _).trans ?_)
    unfold State.consoleGap
    split <;> rfl
  | bayLineError bay bytes => exact bays (foldl_keeps (fun t : State => t.intake.area) _ (by simp) _ _)
  | bayGapExpiry bay bytes => exact bays ((foldl_keeps (fun t : State => t.intake.area) _ (by simp) _ _).trans (by simp))
  | ident | ack | check | nak => exact bays (by simp)
  | bayTransmitEnd | replyTimerExpiry | presenceTimerExpiry | removalTimerExpiry =>
    refine bays ?_
    (repeat' split) <;> simp
  | cardIn | cardOut | component | approve | decline => exact keeps (by simp)
  | slotDefine | slotQuery | slotErase | allowanceGrant | claimsSettle =>
    refine keeps ?_
    unfold State.withStoreOrder State.withOrder
    dsimp only
    (repeat' split) <;> simp
  | ceremonyOpen | ceremonyCancel | planRun | planRepeat | bayHalt | bayQuery | watchSet | profileWrite | modelMapWrite =>
    refine keeps ?_
    unfold State.withOrder
    dsimp only
    (repeat' split) <;> simp
  | checkvalDone | deriveDone | wrapDone =>
    refine keeps ?_
    unfold State.bayCompletion
    (repeat' split) <;> simp
  | ownerCheck owner =>
    refine keeps ?_
    (repeat' split) <;> simp [dropAnswer_area]
  | persistEnd readBack =>
    refine keeps ?_
    unfold State.persistEnded
    dsimp only
    (repeat' split) <;> simp
  | stop | nudge | eventsRead | eventMaskWrite | registerWrite | zeroizeOverwriteDone | groupAreaRead | memoryBusyTimeout
  | sweepTimerExpiry | sweepCellVisit | claimRequest | wrapUse | claimWithdrawal | holdRelease | claimClosure
  | keyArrayWriteComplete | keyArrayWriteFail | consoleTransmitEnd | deadlineExpiry | windowExpiry | receiptWriteSequence
  | takeAttempt | serialMemoryReady =>
    refine keeps ?_
    (repeat' split) <;> simp

end

/-- Settles O58: each of the three is kept by every command, and a tick changes only the clock. -/
theorem storesLegalAtEveryStep : Obligations.StoresLegalAtEveryStep :=
  ⟨step_keeps (fun c _ h => exec_bounded h c) (fun _ h => h) fun _ _ h => h,
   step_keeps (P := State.profilesLegal) (fun c _ h => exec_profilesLegal h c) (fun _ h => h) fun _ _ h => h,
   step_keeps (fun c _ h => exec_atRest h c) (fun _ h => h) fun _ _ h => h⟩

end Sys2Proof.Machine
end

section

set_option Elab.async false

/-!
SUPPORT. The step, the command queue, the KSN, the key access and the reset state.
-/

namespace Sys2Proof.Machine

/-- Settles O1: the two cases of `step`. -/
theorem stepRunsFrontCommandOrTicks : Obligations.StepRunsFrontCommandOrTicks := by
  refine ⟨fun c rest s queue => ?_, fun s empty => ?_⟩
  · simp only [step, queue]
  · simp only [step, empty, State.tick]

/-! ## Every command keeps the queue (log 25) -/

theorem run_pending {s : State} {f : State → State} (own : (f s.quiet).pending = s.pending) : (s.run f).pending = s.pending := by
  by_cases power : s.engine = .off
  · rw [run_off s f power]
    rfl
  · obtain ⟨pending, -⟩ := run_frame s f power
    exact pending.trans own

theorem resetWith_pending (s : State) (mem : MemoryStart) : (s.resetWith mem).pending = s.pending := by
  unfold State.resetWith State.readMemory
  split_ifs <;> simp [State.resetBlocks]

theorem exec_pending (c : Instr) (s : State) : endsIn (fun t => t.pending = s.pending) (exec c s) := by
  have runs {f : State → State} (own : (f s.quiet).pending = s.pending) :
      endsIn (fun t => t.pending = s.pending) (.next (s.run f)) := endsIn_next (run_pending own)
  have bays {f : State → State} (own : (f s.quiet).pending = s.pending) :
      endsIn (fun t => t.pending = s.pending) (.next (s.runBays f)) := by
    refine runs ?_
    split
    · exact own
    · rfl
  cases c with
  | reset mem | pcieLinkReset mem =>
    refine endsIn_next ?_
    split
    · rfl
    · exact resetWith_pending s mem
  | powerOnReset tmpCase tmpBatlow mem => exact endsIn_next (resetWith_pending _ mem)
  | mainPowerLoss =>
    refine endsIn_next ?_
    split <;> rfl
  | tmpCaseActive | tmpBatlowActive =>
    refine endsIn_next ?_
    dsimp only
    split
    · rfl
    · simp
  | bayPresHigh | bayPresLow => exact endsIn_next (by simp)
  | consoleBadFrame console bytes => exact runs (foldl_keeps (fun t : State => t.pending) _ (by simp) _ _)
  | consoleGapExpiry console bytes =>
    refine runs ((foldl_keeps (fun t : State => t.pending) _ (by simp) _ _).trans ?_)
    unfold State.consoleGap
    split <;> rfl
  | bayLineError bay bytes => exact bays (foldl_keeps (fun t : State => t.pending) _ (by simp) _ _)
  | bayGapExpiry bay bytes => exact bays ((foldl_keeps (fun t : State => t.pending) _ (by simp) _ _).trans (by simp))
  | ident | ack | check | nak => exact bays (by simp)
  | bayTransmitEnd | replyTimerExpiry | presenceTimerExpiry | removalTimerExpiry =>
    refine bays ?_
    (repeat' split) <;> simp
  | cardIn | cardOut | component | approve | decline => exact runs (by simp)
  | slotDefine | slotQuery | slotErase | allowanceGrant | claimsSettle =>
    refine runs ?_
    unfold State.withStoreOrder State.withOrder
    dsimp only
    (repeat' split) <;> simp
  | ceremonyOpen | ceremonyCancel | planRun | planRepeat | bayHalt | bayQuery | watchSet | profileWrite | modelMapWrite =>
    refine runs ?_
    unfold State.withOrder
    dsimp only
    (repeat' split) <;> simp
  | checkvalDone | deriveDone | wrapDone =>
    refine runs ?_
    unfold State.bayCompletion
    (repeat' split) <;> simp
  | persistEnd readBack =>
    refine runs ?_
    unfold State.persistEnded
    dsimp only
    (repeat' split) <;> simp
  | start hdr =>
    refine runs ?_
    dsimp only
    (repeat' split) <;> simp
  | stop | nudge | eventsRead | eventMaskWrite | registerWrite | zeroizeOverwriteDone | groupAreaRead | memoryBusyTimeout
  | sweepTimerExpiry | sweepCellVisit | ownerCheck | areaFault | claimRequest | wrapUse | claimWithdrawal | holdRelease
  | claimClosure | keyArrayWriteComplete | keyArrayWriteFail | consoleTransmitEnd | deadlineExpiry | windowExpiry
  | receiptWriteSequence | takeAttempt | serialMemoryReady =>
    refine runs ?_
    (repeat' split) <;> simp

/-- Settles O2. -/
theorem everyCommandAnswersAndKeepsQueue : Obligations.EveryCommandAnswersAndKeepsQueue := exec_pending

/-! ## Numbers in bytes (R176) and KSNs (R46) -/

theorem byteOf_eq_iff (m n : Nat) : byteOf m = byteOf n ↔ m % 256 = n % 256 := by
  simp [byteOf, ← BitVec.toNat_inj]

theorem toLE_length (k v : Nat) : (toLE k v).length = k := by
  induction k generalizing v with
  | zero => rfl
  | succ k ih => simp [toLE, ih]

theorem toBE_length (k v : Nat) : (toBE k v).length = k := by simp [toBE, toLE_length]

/-- The low bytes of a number come first, then those of the rest. -/
theorem toLE_add (j k a b : Nat) (low : b < 256 ^ j) : toLE (j + k) (a * 256 ^ j + b) = toLE j b ++ toLE k a := by
  induction j generalizing b with
  | zero => simp [toLE, show b = 0 by simpa using low]
  | succ j ih =>
    have split_first : (a * 256 ^ (j + 1) + b) / 256 = a * 256 ^ j + b / 256 := by
      rw [show a * 256 ^ (j + 1) + b = 256 * (a * 256 ^ j) + b by ring]
      omega
    have first : byteOf (a * 256 ^ (j + 1) + b) = byteOf b := by
      rw [byteOf_eq_iff, show a * 256 ^ (j + 1) + b = 256 * (a * 256 ^ j) + b by ring]
      omega
    have rest : b / 256 < 256 ^ j := by
      rw [pow_succ] at low
      omega
    rw [show j + 1 + k = j + k + 1 by omega]
    simp only [toLE, first, split_first, ih _ rest, List.cons_append]

theorem toBE_add (j k a b : Nat) (low : b < 256 ^ j) : toBE (j + k) (a * 256 ^ j + b) = toBE k a ++ toBE j b := by
  simp [toBE, toLE_add j k a b low]

theorem formKsn_toNat (ksi : BitVec 40) {serial : Nat} (small : serial < 2 ^ 20) :
    (formKsn ksi serial).toNat = ksi.toNat * 2 ^ 24 + serial := by
  rw [formKsn, toNat_append_eq_add, BitVec.toNat_setWidth, BitVec.toNat_ofNat]
  omega

/-- Settles O24: the KSN is the number `ksi * 2 ^ 24 + serial`, and its fields are digits of it. -/
theorem ksnFormedFromKsiAndSerial : Obligations.KsnFormedFromKsiAndSerial := by
  intro ksi serial small
  have number := formKsn_toNat ksi small
  have width := ksi.isLt
  refine ⟨?ksi, ?serial, ?zeros, ?read, ?bytes⟩
  case ksi =>
    apply BitVec.eq_of_toNat_eq
    rw [BitVec.extractLsb'_toNat, number, Nat.shiftRight_eq_div_pow]
    omega
  case serial =>
    rw [BitVec.extractLsb'_toNat, number, Nat.shiftRight_eq_div_pow]
    omega
  case zeros =>
    apply BitVec.eq_of_toNat_eq
    rw [BitVec.extractLsb'_toNat, number, Nat.shiftRight_eq_div_pow, BitVec.toNat_ofNat]
    omega
  case read =>
    rw [Ksn.serial, number]
    omega
  case bytes =>
    rw [number, show ksi.toNat * 2 ^ 24 + serial = ksi.toNat * 256 ^ 3 + serial by norm_num]
    rw [show (8 : Nat) = 3 + 5 from rfl, toBE_add 3 5 _ _ (by omega)]
    congr 1
    have high : byteOf (serial / 256 / 256) = byteOf (serial / 65536 % 16) := (byteOf_eq_iff _ _).mpr (by omega)
    have middle : byteOf (serial / 256) = byteOf (serial / 256 % 256) := (byteOf_eq_iff _ _).mpr (by omega)
    have last : byteOf serial = byteOf (serial % 256) := (byteOf_eq_iff _ _).mpr (by omega)
    simp only [toBE, toLE, List.reverse_cons, List.reverse_nil, List.nil_append, List.cons_append, high, middle, last]

/-! ## Key access (R41) -/

/-- A key is given under the three conditions of R41, and then it is what the slot's storage holds. -/
theorem keyFor_eq_some_iff (x : Slot) (generation : BitVec 16) (forWrap : Bool) (k : Key) :
    x.keyFor generation forWrap = some k ↔
      ((x.state = .ready ∨ x.state = .draining) ∧ x.generation = generation ∧
        (if forWrap then x.isTransport else x.isBase) = true) ∧
      (x.stored = .key k ∨ (x.stored = .zeros ∧ k = 0)) := by
  unfold Slot.keyFor
  generalize (if forWrap then x.isTransport else x.isBase) = cls
  split_ifs with allowed
  · rw [and_iff_right allowed]
    cases stored : x.stored with
    | noKey => simp
    | zeros => simp only [Option.some.injEq, reduceCtorEq, false_or, true_and, eq_comm]
    | key k' => simp
  · refine iff_of_false nofun ?_
    exact fun given => allowed given.1

/-- Settles O30. -/
theorem keyGivenOnlyByRule : Obligations.KeyGivenOnlyByRule := by
  intro x generation k
  refine ⟨fun given => ?derive, fun given => ?wrap, fun state stored => ⟨fun base => ?_, fun transport => ?_⟩⟩
  case derive => exact ((keyFor_eq_some_iff ..).mp given).1
  case wrap => exact ((keyFor_eq_some_iff ..).mp given).1
  · exact (keyFor_eq_some_iff ..).mpr ⟨⟨state, rfl, base⟩, .inl stored⟩
  · exact (keyFor_eq_some_iff ..).mpr ⟨⟨state, rfl, transport⟩, .inl stored⟩

/-! ## The reset state -/

/-- Settles O59: every store is empty, every record at its default, and the engine is in LOADING without an area. -/
theorem invariantsHoldAtReset : Obligations.InvariantsHoldAtReset := by
  refine ⟨fun i => ?_, .of_empty rfl rfl fun c => ?_, .of_defaults rfl rfl, .of_reset (by simp [State.reset]) rfl rfl⟩
  · have blank : State.reset.slot i = Slot.blank 0 .zeros := by simp [State.slot, State.reset, KeyStore.reset]
    rw [blank]
    exact Slot.blank_accounted _ _
  · simp [State.console, State.reset, ComponentUnit.reset, Console.reset]

end Sys2Proof.Machine
end

section

set_option Elab.async false

/-!
SUPPORT. START, NUDGE, the sweep timer and the sweep over the tray (R5, R11 to R16, R18).
-/

namespace Sys2Proof.Machine

/-! ## START (R5) -/

/-- Flags, mask and watches are read by no test of R7 or R14. -/
theorem State.settled.raise {s : State} (h : s.settled) (f : Flag) : (s.raise f).settled :=
  h.congr rfl rfl rfl rfl fun _ => rfl

theorem anyOrphan_iff (s : State) : s.ks.anyOrphan = true ↔ ∃ i, (s.slot i).hasOrphan = true := by
  simp only [KeyStore.anyOrphan, List.any_eq_true, Vector.mem_toList_iff, Vector.mem_iff_getElem, State.slot]
  refine ⟨fun ⟨x, ⟨i, hi, same⟩, orphan⟩ => ⟨⟨i, hi⟩, ?_⟩, fun ⟨i, orphan⟩ => ⟨_, ⟨i.val, i.isLt, rfl⟩, orphan⟩⟩
  subst same
  exact orphan

theorem reportStart_events (s : State) : s.reportStart.events = { s.events with
    startReport := false
    flags := if s.events.startReport = true ∧ s.ks.anyOrphan = true then s.events.flags ||| Flag.orphansPresent.bit
      else s.events.flags } := by
  unfold State.reportStart
  by_cases report : s.events.startReport = true
  · cases s.ks.anyOrphan <;> simp [report]
  · have unreported : s.events.startReport = false := by simpa using report
    simp only [unreported, Bool.false_eq_true, if_false, false_and]
    rw [← unreported]

theorem useArea_events (s : State) (base : BitVec 64) (x : StationHeader) : (s.useArea base x).events = { s.events with
    startReport := false
    flags := if s.events.startReport = true ∧ s.ks.anyOrphan = true then s.events.flags ||| Flag.orphansPresent.bit
      else s.events.flags } := by
  unfold State.useArea
  dsimp only
  rw [reportStart_events]
  simp [State.writerActive]

theorem useArea_intake (s : State) (base : BitVec 64) (x : StationHeader) : (s.useArea base x).intake = { s.intake with
    area := some { base, cells := x.cells.toNat, sweepMs := x.sweepMs.toNat }
    pointer := 0
    sweep := some { position := 0, left := x.cells.toNat, backlogSeen := false }
    sweepTimer := if x.sweepMs.toNat = 0 then none else some { start := s.clock, interval := x.sweepMs.toNat } } := by
  simp [State.useArea, State.writerActive, State.armSweepTimer, State.beginSweep, State.timer]

theorem useArea_state (s : State) (base : BitVec 64) (x : StationHeader) :
    (s.useArea base x).engine = .running ∧ (s.useArea base x).writer.state = .taking := by
  simp [State.useArea, State.writerActive]

theorem useArea_settled (s : State) (base : BitVec 64) {x : StationHeader} (cells : 8 ≤ x.cells.toNat) :
    (s.useArea base x).settled := by
  refine settled_of_engine _ (by simp [(useArea_state s base x).1]) fun w sweep last => ?_
  rw [useArea_intake] at sweep
  obtain rfl := Option.some.inj sweep
  have none_left : x.cells.toNat = 0 := last
  omega

theorem headerLegal_iff (x : StationHeader) : headerLegal x = true ↔
    x.format = 0x0A24 ∧ 8 ≤ x.cells.toNat ∧ x.cells.toNat ≤ 64 ∧ x.sweepMs.toNat ≤ 10000 := by
  simp [headerLegal, and_assoc]

/-- A START that passes its tests is the area coming into use, and leaves nothing to do at once. -/
theorem exec_start_legal {s : State} {x : StationHeader} (standby : s.engine = .standby)
    (aligned : (s.intake.areaHi ++ s.intake.areaLo).setWidth 16 = 0#16) (legal : headerLegal x = true) :
    exec (.start (some x)) s = .next (s.quiet.useArea (s.intake.areaHi ++ s.intake.areaLo) x) := by
  have own : (if s.quiet.engine = .standby then
      if (s.quiet.intake.areaHi ++ s.quiet.intake.areaLo).setWidth 16 = 0#16 ∧ headerLegal x = true then
        s.quiet.useArea (s.quiet.intake.areaHi ++ s.quiet.intake.areaLo) x
      else s.quiet.raise .areaFault else s.quiet) = s.quiet.useArea (s.intake.areaHi ++ s.intake.areaLo) x := by
    simp [standby, aligned, legal]
  refine congrArg Host.Outcome.next ((run_settled _ _ (by simp [standby]) ?_).trans own)
  refine own.symm ▸ useArea_settled _ _ ((headerLegal_iff x).mp legal).2.1

/-- A START that fails a test is the flag alone. -/
theorem exec_start_refused {s : State} {hdr : Option StationHeader} (settled : s.settled) (standby : s.engine = .standby)
    (fails : (s.intake.areaHi ++ s.intake.areaLo).setWidth 16 ≠ 0#16 ∨ ∀ x, hdr = some x → headerLegal x = false) :
    exec (.start hdr) s = .next (s.quiet.raise .areaFault) := by
  have raised : (s.quiet.raise .areaFault).settled := (settled_quiet s settled).raise _
  cases hdr with
  | none =>
    refine congrArg Host.Outcome.next ((run_eq _ _ (fun u => u.raise .areaFault) (by simp [standby])).trans
      (run_settled _ _ (by simp [standby]) raised))
  | some x =>
    have fails : ¬((s.intake.areaHi ++ s.intake.areaLo).setWidth 16 = 0#16 ∧ headerLegal x = true) := by
      rintro ⟨aligned, legal⟩
      obtain misaligned | illegal := fails
      · exact misaligned aligned
      · exact absurd legal (by simp [illegal x rfl])
    refine congrArg Host.Outcome.next ((run_eq _ _ (fun u => u.raise .areaFault) ?_).trans
      (run_settled _ _ (by simp [standby]) raised))
    simp only [quiet_frame, standby, if_true, if_neg fails]

/-- Settles O3. -/
theorem startByRule : Obligations.StartByRule := by
  refine ⟨fun s x standby aligned format low high interval => ?legal, fun s hdr settled =>
    ⟨fun ⟨standby, fails⟩ => ?refused, fun other => ?start, fun other => ?stop⟩⟩
  case legal =>
    refine ⟨_, exec_start_legal standby aligned ((headerLegal_iff x).mpr ⟨format, low, high, interval⟩), ?_⟩
    obtain ⟨running, taking⟩ := useArea_state s.quiet (s.intake.areaHi ++ s.intake.areaLo) x
    rw [useArea_intake, useArea_events]
    refine ⟨running, rfl, rfl, rfl, rfl, taking, rfl, ?_, fun report orphan => ?_, fun report => ?_, ?_⟩
    · dsimp only
      split
      · exact .inr rfl
      · exact .inl rfl
    · rw [State.hasFlag, useArea_events]
      rw [← anyOrphan_iff] at orphan
      simp only [quiet_frame, report, orphan, and_self, if_true]
      exact State.hasFlag_raise s .orphansPresent
    · simp [report]
    · simp
  case refused =>
    refine ⟨_, exec_start_refused settled standby ?_, ?_⟩
    · obtain misaligned | rfl | ⟨x, rfl, illegal⟩ := fails
      · exact .inl misaligned
      · exact .inr nofun
      · refine .inr fun y same => ?_
        obtain rfl := Option.some.inj same
        rw [← Bool.not_eq_true, headerLegal_iff]
        rintro ⟨format, low, high, interval⟩
        obtain other | few | many | long := illegal
        · exact other format
        all_goals omega
    · simp [standby]
  case start => exact congrArg Host.Outcome.next (run_id _ _ settled (by simp [other]))
  case stop => exact congrArg Host.Outcome.next (run_id _ _ settled (by simp [other]))

/-! ## Sweep triggers (R12) and the writer's answer to them (R147) -/

theorem requestSweep_idle {s : State} (unused : s.sweepArea = none) : s.requestSweep = s := by
  simp [State.requestSweep, unused]

theorem requestSweep_starts {s : State} {a : Area} (sweepable : s.sweepArea = some a) (idle : s.intake.sweep = none) :
    s.requestSweep = s.beginSweep a := by
  simp [State.requestSweep, sweepable, idle]

theorem requestSweep_again {s : State} {w : Sweep} (sweepable : s.sweepArea ≠ none) (sweep : s.intake.sweep = some w) :
    s.requestSweep = s.updIntake fun k => { k with sweepAgain := true } := by
  obtain ⟨a, area⟩ := Option.ne_none_iff_exists'.mp sweepable
  simp [State.requestSweep, area, sweep]

theorem pokeWriter_awaitRoll {s : State} (state : s.writer.state = .awaitRoll) :
    s.pokeWriter = s.updWriter fun w => { w with state := .taking, fromAwait := true } := by
  simp [State.pokeWriter, state]

theorem pokeWriter_taking {s : State} (state : s.writer.state = .taking) :
    s.pokeWriter = s.updWriter fun w => { w with readAgain := true } := by
  simp [State.pokeWriter, state]

theorem pokeWriter_other {s : State} (state : s.writer.state = .inactive ∨ s.writer.state = .idle ∨ s.writer.state = .writing) :
    s.pokeWriter = s := by
  obtain state | state | state := state <;> simp [State.pokeWriter, state]

@[simp] theorem pokeWriter_out (s : State) : s.pokeWriter.out = s.out := by
  unfold State.pokeWriter
  split <;> rfl

/-- A sweep is over a legal area's cells, so it has visits left when it starts. -/
theorem areaLegal_cells {s : State} {a : Area} (legal : s.intake.areaLegal) (area : s.intake.area = some a) : a.cells ≠ 0 := by
  rw [Intake.areaLegal, area] at legal
  exact fun none_left => by simp [none_left] at legal

/-- What the tests of R7 and R14 read. -/
theorem State.settled.of_parts {s t : State} (h : s.settled) (engine : t.engine = s.engine := by simp)
    (table : t.intake.table = s.intake.table := by simp) (atTake : t.intake.atTake = s.intake.atTake := by simp)
    (sweep : t.intake.sweep = s.intake.sweep := by simp) (ceu : t.ceu.record = s.ceu.record := by simp)
    (writer : t.writer.state = s.writer.state := by simp)
    (running : ∀ c, (t.bay c).running = (s.bay c).running := by simp) : t.settled := by
  obtain ⟨swept, stop⟩ := h
  refine ⟨?_, ?_⟩
  · simpa [State.visitDone, State.validating, table, atTake, sweep] using swept
  · simpa [State.stopComplete, all_running_isNone_congr running, engine, table, ceu, writer] using stop

section
variable {s : State} (h : s.settled) (legal : s.intake.areaLegal)
include h

/-- A writer that begins a take attempt keeps the engine in STOPPING (R7). -/
theorem State.settled.pokeWriter : s.pokeWriter.settled := by
  cases state : s.writer.state with
  | awaitRoll =>
    rw [pokeWriter_awaitRoll state]
    exact ⟨h.1, by simp [State.stopComplete]⟩
  | taking =>
    rw [pokeWriter_taking state]
    exact h.of_parts
  | inactive | idle | writing =>
    rw [pokeWriter_other (by simp [state])]
    exact h

include legal

theorem State.settled.requestSweep : s.requestSweep.settled := by
  cases area : s.sweepArea with
  | none => rwa [requestSweep_idle area]
  | some a =>
    cases sweep : s.intake.sweep with
    | none =>
      rw [requestSweep_starts area sweep]
      refine ⟨fun w started last => ?_, h.2⟩
      obtain rfl := Option.some.inj started
      exact absurd last (areaLegal_cells legal (sweepArea_eq_some area))
    | some w =>
      rw [requestSweep_again (by simp [area]) sweep]
      exact h.of_parts

theorem State.settled.triggerSweep : s.triggerSweep.settled := by
  unfold State.triggerSweep
  split
  · exact (h.requestSweep legal).pokeWriter
  · exact h.requestSweep legal

end

theorem triggerSweep_idle {s : State} (unused : s.sweepArea = none) : s.triggerSweep = s := by
  simp [State.triggerSweep, unused, requestSweep_idle unused]

theorem triggerSweep_starts {s : State} {a : Area} (sweepable : s.sweepArea = some a) (idle : s.intake.sweep = none) :
    s.triggerSweep = (s.beginSweep a).pokeWriter := by
  simp [State.triggerSweep, sweepable, idle, requestSweep_starts sweepable idle]

theorem triggerSweep_again {s : State} {w : Sweep} (sweepable : s.sweepArea ≠ none) (sweep : s.intake.sweep = some w) :
    s.triggerSweep = s.updIntake fun k => { k with sweepAgain := true } := by
  simp [State.triggerSweep, sweep, requestSweep_again sweepable sweep]

@[simp] theorem requestSweep_out (s : State) : s.requestSweep.out = s.out := by
  unfold State.requestSweep
  split
  · rfl
  · split <;> rfl

@[simp] theorem triggerSweep_out (s : State) : s.triggerSweep.out = s.out := by
  unfold State.triggerSweep
  split <;> simp

section
variable {s : State}

theorem exec_nudge (on : s.engine ≠ .off) (settled : s.settled) (legal : s.intake.areaLegal) (v : BitVec 32) :
    exec (.nudge v) s = .next s.quiet.requestSweep.pokeWriter :=
  congrArg Host.Outcome.next (run_settled _ _ on (((settled_quiet s settled).requestSweep legal).pokeWriter))

/-- The timer as its expiry arms it again, one interval after it was due. -/
def State.sweepTimerAgain (s : State) (w : Timer) : State :=
  s.updIntake fun k => { k with sweepTimer := some { w with start := w.start + BitVec.ofNat 32 w.interval } }

theorem exec_sweepTimerExpiry_due {w : Timer} (on : s.engine ≠ .off) (settled : s.settled) (legal : s.intake.areaLegal)
    (armed : s.intake.sweepTimer = some w) (due : w.due s.clock = true) :
    exec .sweepTimerExpiry s = .next (s.quiet.sweepTimerAgain w).triggerSweep := by
  have armedAgain : (s.quiet.sweepTimerAgain w).settled := settled.of_parts rfl rfl rfl rfl rfl rfl fun _ => rfl
  refine congrArg Host.Outcome.next ((run_eq _ _ (fun u => (u.sweepTimerAgain w).triggerSweep) ?_).trans
    (run_settled _ _ on (armedAgain.triggerSweep legal)))
  simp only [quiet_frame, armed, due, if_true]
  rfl

theorem exec_sweepTimerExpiry_early {w : Timer} (settled : s.settled) (armed : s.intake.sweepTimer = some w)
    (early : w.due s.clock = false) : exec .sweepTimerExpiry s = .next s.quiet :=
  congrArg Host.Outcome.next (run_id _ _ settled (by simp [armed, early]))

end

/-- Settles O5: both triggers are `requestSweep`, for the timer after it has been armed again. -/
theorem sweepTriggers : Obligations.SweepTriggers := by
  refine ⟨fun s v on settled legal => ⟨_, exec_nudge on settled legal v, ?nudge⟩, fun s w on settled legal armed =>
    ⟨exec_sweepTimerExpiry_early settled armed,
      fun due => ⟨_, exec_sweepTimerExpiry_due on settled legal armed due, ?timer⟩⟩⟩
  case nudge =>
    refine ⟨fun a area idle => ?starts, fun w area sweep => ?again, fun unused => ?unused, fun state => ?awaitRoll,
      fun state => ?taking, fun state => ?other, ?_⟩
    case starts => rw [pokeWriter_intake, requestSweep_starts (s := s.quiet) area idle]; exact ⟨rfl, rfl⟩
    case again => rw [pokeWriter_intake, requestSweep_again (s := s.quiet) area sweep]; exact ⟨sweep, rfl⟩
    case unused => rw [pokeWriter_intake, requestSweep_idle (s := s.quiet) unused]; rfl
    case awaitRoll => rw [pokeWriter_awaitRoll (by simpa using state)]; simp
    case taking => rw [pokeWriter_taking (by simpa using state)]; simpa using state
    case other => rw [pokeWriter_other (by simpa using state)]; simp
    simp
  case timer =>
    have area : (s.quiet.sweepTimerAgain w).sweepArea = s.sweepArea := rfl
    refine ⟨?rearmed, fun a sweepable idle => ?starts, fun v sweepable sweep => ?again, fun unused => ?unused, ?_⟩
    case rearmed => simp [State.sweepTimerAgain]
    case starts =>
      rw [triggerSweep_starts (area.trans sweepable) idle, pokeWriter_intake]
      refine ⟨rfl, rfl, fun state => ?_⟩
      rw [pokeWriter_awaitRoll (by simpa [State.sweepTimerAgain] using state)]
      rfl
    case again =>
      rw [triggerSweep_again (s := s.quiet.sweepTimerAgain w) sweepable sweep]
      exact ⟨sweep, rfl, rfl⟩
    case unused => rw [triggerSweep_idle (area.trans unused)]; exact ⟨rfl, rfl⟩
    simp [State.sweepTimerAgain]

end Sys2Proof.Machine
end

section

set_option Elab.async false

/-!
SUPPORT. The tray: what a visit makes of a cell, the end of a sweep, and the writing of answers (R9, R11 to R18).
-/

namespace Sys2Proof.Machine

/-! ## Numbers of a record (R176) -/

theorem numberAt_zero (bytes : List Byte) (off : Nat) : numberAt bytes off 0 = 0 := by simp [numberAt, field, ofLE]

/-- A little-endian number is its first byte and 256 times the rest. -/
theorem numberAt_succ (bytes : List Byte) (off len : Nat) (inside : off < bytes.length) :
    numberAt bytes off (len + 1) = bytes[off].toNat + 256 * numberAt bytes (off + 1) len := by
  simp only [numberAt, field, List.drop_eq_getElem_cons inside, List.take_succ_cons, ofLE]

theorem numberAt_toNat16 (bytes : List Byte) (off : Nat) : (BitVec.ofNat 16 (numberAt bytes off 2)).toNat = numberAt bytes off 2 := by
  exact Nat.mod_eq_of_lt (numberAt_lt bytes off 2)

theorem numberAt_toNat32 (bytes : List Byte) (off : Nat) : (BitVec.ofNat 32 (numberAt bytes off 4)).toNat = numberAt bytes off 4 := by
  exact Nat.mod_eq_of_lt (numberAt_lt bytes off 4)

/-! ## Answers at take (R16) -/

theorem answerAtTake_of_area {s : State} (area : s.intake.area.isSome = true) (cell : Nat) (result : Result) (data : List Byte) :
    s.answerAtTake cell result data =
      s.updIntake fun k =>
        { k with table := k.table.map fun e => if e.cell = cell then e.withCondition .answerDue else e,
                 atTake := some { cell, result, data } } := by
  unfold State.answerAtTake
  rw [if_pos area]
  rfl

/-- Conditions of other cells' entries stay. -/
theorem map_condition_append {table : List Entry} {e : Entry} (other : ∀ x ∈ table, x.cell ≠ e.cell) (c : EntryCondition) :
    ((table ++ [e]).map fun x => if x.cell = e.cell then x.withCondition c else x) = table ++ [e.withCondition c] := by
  rw [List.map_append]
  congr 1
  · exact (List.map_congr_left fun x mem => if_neg (other x mem)).trans (List.map_id _)
  · simp

/-! ## A POSTED cell is taken (R9, R14 to R16) -/

/-- The intake unit with the cell's entry in the table, the sweep and its pointer past the cell, and the answer given at take. -/
def State.cellTaken (s : State) (a : Area) (w : Sweep) (e : Entry) (answer : Option Answer) : State :=
  (s.emit [.busWrite (a.at (cellOffset w.position)) [0x02]]).updIntake fun k =>
    { k with sweep := some { w with position := (w.position + 1) % a.cells, left := w.left - 1 }, table := k.table ++ [e],
             pointer := (w.position + 1) % a.cells, atTake := answer }

/-- The code of an answer given at take: TAMPERED, or the first check of R16 that fails. -/
def State.takeRefusal (s : State) (e : Entry) : Option Result := if s.engine = .tampered then some .tampered else e.intakeRefusal

section
variable {s : State} {a : Area} {w : Sweep} {cell : List Byte} (area : s.intake.area = some a)
  (fresh : ∀ e ∈ s.intake.table, e.cell ≠ w.position) (posted : cell.getD 0 0 = 0x01) (room : s.intake.table.length < 32)

include fresh in
theorem visitCell_of_fresh : (s.intake.table.any fun e => decide (e.cell = w.position)) = false := by
  simpa using fresh

include area fresh posted room in
theorem visitCell_refuses {code : Result} (refuses : s.takeRefusal (entryOf w.position cell) = some code) :
    s.visitCell a w cell = s.cellTaken a w ((entryOf w.position cell).withCondition .answerDue)
      (some { cell := w.position, result := code, data := [] }) := by
  have taken (t : State) (intake : t.intake.area = some a) (table : t.intake.table = s.intake.table ++ [entryOf w.position cell]) :
      t.refuseAtTake (entryOf w.position cell) code = t.updIntake fun k =>
        { k with table := s.intake.table ++ [(entryOf w.position cell).withCondition .answerDue],
                 atTake := some { cell := w.position, result := code, data := [] } } := by
    rw [State.refuseAtTake, answerAtTake_of_area (by simp [intake])]
    have same := map_condition_append (e := entryOf w.position cell) fresh .answerDue
    simp only [State.updIntake, table]
    rw [← same]
    rfl
  unfold State.visitCell State.takeCell
  simp only [visitCell_of_fresh fresh, posted, room, Bool.false_eq_true, if_true, if_false, updIntake_engine]
  unfold State.takeRefusal at refuses
  split at refuses
  next tampered =>
    obtain rfl := Option.some.inj refuses
    simp only [tampered, if_true]
    rw [taken _ (by simpa using area) (by simp)]
    rfl
  next untampered =>
    simp only [untampered, if_false, refuses]
    rw [taken _ (by simpa using area) (by simp)]
    rfl

include fresh posted room in
theorem visitCell_takes (free : s.intake.atTake = none) (passes : s.takeRefusal (entryOf w.position cell) = none) :
    s.visitCell a w cell = s.cellTaken a w (entryOf w.position cell) none := by
  unfold State.takeRefusal at passes
  split at passes
  next => cases passes
  next untampered =>
    unfold State.visitCell State.takeCell
    simp only [visitCell_of_fresh fresh, posted, room, Bool.false_eq_true, if_true, if_false, updIntake_engine, if_neg untampered,
      passes]
    unfold State.cellTaken State.updIntake
    rw [← free]
    rfl

end

/-- An order at hand or its answer keeps the sweep from its next cell and the engine from STANDBY. -/
theorem cellTaken_settled (s : State) (a : Area) (w : Sweep) {e : Entry} {answer : Option Answer}
    (waits : answer.isSome = true ∨ e.condition = .validating) : (s.cellTaken a w e answer).settled := by
  refine settled_of_waiting _ ?_ (by simp [State.cellTaken])
  obtain given | inHand := waits
  · obtain ⟨x, rfl⟩ := Option.isSome_iff_exists.mp given
    rfl
  · simp [State.visitDone, State.validating, State.cellTaken, inHand]

theorem visitDone_iff (s : State) : s.visitDone = true ↔ s.intake.atTake = none ∧ s.validating = none := by
  simp [State.visitDone]

theorem exec_sweepCellVisit {s : State} {a : Area} {w : Sweep} (cell : Vector Byte 80) (area : s.intake.area = some a)
    (sweep : s.intake.sweep = some w) (done : s.visitDone = true) :
    exec (.sweepCellVisit cell) s = .next (s.run fun u => u.visitCell a w cell.toList) := by
  refine congrArg Host.Outcome.next (run_eq _ _ _ ?_)
  simp [area, sweep, done]

/-- The cell's entry, read byte by byte (R15). -/
theorem entryOf_fields (position : Nat) (cell : Vector Byte 80) :
    (entryOf position cell.toList).cell = position ∧ (entryOf position cell.toList).kind = cell[1] ∧
    (entryOf position cell.toList).tag.toNat =
      cell[4].toNat + 256 * cell[5].toNat + 65536 * cell[6].toNat + 16777216 * cell[7].toNat ∧
    (entryOf position cell.toList).flags.toNat = cell[8].toNat + 256 * cell[9].toNat ∧
    (entryOf position cell.toList).params = cell.toList.drop 16 := by
  have length : cell.toList.length = 80 := by simp
  refine ⟨rfl, ?_, ?_, ?_, ?_⟩
  · simp [entryOf, List.getD_eq_getElem?_getD]
  · simp only [entryOf, numberAt_toNat32]
    rw [numberAt_succ _ _ _ (by omega), numberAt_succ _ _ _ (by omega), numberAt_succ _ _ _ (by omega),
      numberAt_succ _ _ _ (by omega), numberAt_zero]
    simp only [Vector.getElem_toList, Nat.reduceAdd]
    omega
  · simp only [entryOf, numberAt_toNat16]
    rw [numberAt_succ _ _ _ (by omega), numberAt_succ _ _ _ (by omega), numberAt_zero]
    simp only [Vector.getElem_toList, Nat.reduceAdd]
    omega
  · simp only [entryOf, field]
    exact List.take_of_length_le (by simp)

theorem posted_getD (cell : Vector Byte 80) : cell.toList.getD 0 0 = cell[0] := by
  simp [List.getD_eq_getElem?_getD]

/-- The two checks of R16 on the entry. -/
theorem takeRefusal_eq (s : State) (e : Entry) : s.takeRefusal e =
    if s.engine = .tampered then some .tampered
    else if 1 ≤ e.kind.toNat ∧ e.kind.toNat ≤ 14 then
      if e.flags &&& ~~~(if e.kind = 0x03 then 1 else if e.kind = 0x0C ∨ e.kind = 0x0D then 2 else 0) ≠ 0 then some .refusedField
      else none
    else some .refusedKind := by
  unfold State.takeRefusal Entry.intakeRefusal knownKind
  by_cases tampered : s.engine = .tampered
  · simp only [if_pos tampered]
  · simp only [if_neg tampered]
    by_cases known : 1 ≤ e.kind.toNat ∧ e.kind.toNat ≤ 14
    · simp only [known, and_self, decide_true, Bool.true_eq_false, if_false, if_true]
      rfl
    · simp only [known, decide_false, if_true, if_false]

/-- Settles O14: the visit is `cellTaken`, with the answer that `takeRefusal` gives or with the order in hand. -/
theorem visitTakesPostedCell : Obligations.VisitTakesPostedCell := by
  intro s a w cell on area sweep done fresh posted room
  obtain ⟨free, none_validating⟩ := (visitDone_iff s).mp done
  obtain ⟨position, kind, tag, flags, params⟩ := entryOf_fields w.position cell
  have posted' : cell.toList.getD 0 0 = 0x01 := (posted_getD cell).trans posted
  have refusal := takeRefusal_eq s (entryOf w.position cell.toList)
  rw [kind] at refusal
  cases answer : s.takeRefusal (entryOf w.position cell.toList) with
  | some code =>
    have visit := visitCell_refuses (s := s.quiet) area fresh posted' room answer
    have settled := cellTaken_settled s.quiet a w (e := (entryOf w.position cell.toList).withCondition .answerDue)
      (answer := some { cell := w.position, result := code, data := [] }) (.inl rfl)
    refine ⟨_, (entryOf w.position cell.toList).withCondition .answerDue, (exec_sweepCellVisit cell area sweep done).trans
      (congrArg Host.Outcome.next ((run_settled _ _ on (visit.symm ▸ settled)).trans visit)), ?_⟩
    refine ⟨position, kind, tag, flags, params, rfl, rfl, rfl, rfl, fun tampered => ?_, fun untampered unknown => ?_,
      fun untampered low high => ⟨fun undefined => ?_, fun defined => ?_⟩, rfl, rfl, rfl, rfl, rfl, rfl, rfl, rfl, rfl, rfl⟩
    · rw [answer, if_pos tampered] at refusal
      obtain rfl := Option.some.inj refusal
      exact ⟨rfl, rfl⟩
    · rw [answer, if_neg untampered, if_neg (by omega)] at refusal
      obtain rfl := Option.some.inj refusal
      exact ⟨rfl, rfl⟩
    · simp only [Entry.withCondition] at undefined
      rw [answer, if_neg untampered, if_pos ⟨low, high⟩, if_pos undefined] at refusal
      obtain rfl := Option.some.inj refusal
      exact ⟨rfl, rfl⟩
    · simp only [Entry.withCondition] at defined
      rw [answer, if_neg untampered, if_pos ⟨low, high⟩, if_neg (not_not_intro defined)] at refusal
      cases refusal
  | none =>
    have visit := visitCell_takes (s := s.quiet) (a := a) fresh posted' room free answer
    have settled := cellTaken_settled s.quiet a w (e := entryOf w.position cell.toList) (answer := none) (.inr rfl)
    refine ⟨_, entryOf w.position cell.toList, (exec_sweepCellVisit cell area sweep done).trans
      (congrArg Host.Outcome.next ((run_settled _ _ on (visit.symm ▸ settled)).trans visit)), ?_⟩
    rw [answer] at refusal
    refine ⟨position, kind, tag, flags, params, rfl, rfl, rfl, rfl, fun tampered => ?_, fun untampered unknown => ?_,
      fun untampered low high => ⟨fun undefined => ?_, fun _ => ⟨rfl, rfl, ?_⟩⟩, rfl, rfl, rfl, rfl, rfl, rfl, rfl, rfl, rfl, rfl⟩
    · rw [if_pos tampered] at refusal
      cases refusal
    · rw [if_neg untampered, if_neg (by omega)] at refusal
      cases refusal
    · rw [if_neg untampered, if_pos ⟨low, high⟩, if_pos undefined] at refusal
      cases refusal
    · rw [State.validating] at none_validating
      simp [State.validating, State.cellTaken, List.find?_append, none_validating, entryOf]

/-! ## Visits that take nothing, and the end of a sweep (R11 to R14) -/

/-- The sweep past the cell it has just visited. -/
def State.sweepPast (s : State) (a : Area) (w : Sweep) : State :=
  s.updIntake fun k => { k with sweep := some { w with position := (w.position + 1) % a.cells, left := w.left - 1 } }

theorem visitCell_passes {s : State} {a : Area} {w : Sweep} {cell : List Byte}
    (passed : (∃ e ∈ s.intake.table, e.cell = w.position) ∨ cell.getD 0 0 ≠ 0x01) : s.visitCell a w cell = s.sweepPast a w := by
  unfold State.visitCell
  dsimp only
  split
  · rfl
  next free =>
    obtain taken | unposted := passed
    · exact absurd (by simpa using taken) free
    · rw [if_neg unposted]
      rfl

theorem visitCell_leaves {s : State} {a : Area} {w : Sweep} {cell : List Byte} (fresh : ∀ e ∈ s.intake.table, e.cell ≠ w.position)
    (posted : cell.getD 0 0 = 0x01) (full : 32 ≤ s.intake.table.length) : s.visitCell a w cell = (s.sweepPast a w).leaveCell w := by
  unfold State.visitCell
  simp only [visitCell_of_fresh fresh, posted, Nat.not_lt.mpr full, Bool.false_eq_true, if_true, if_false]
  rfl

/-- A sweep with visits left, outside STOPPING, leaves nothing to do at once. -/
theorem settled_of_visits {s : State} {w : Sweep} (engine : s.engine ≠ .stopping) (sweep : s.intake.sweep = some w) (left : w.left ≠ 0) :
    s.settled := by
  refine settled_of_engine s engine fun v same last => ?_
  obtain rfl := Option.some.inj (sweep.symm.trans same)
  exact absurd last left

theorem leaveCell_sweep {s : State} {w v : Sweep} (sweep : s.intake.sweep = some v) (same : v.backlogSeen = w.backlogSeen) :
    (s.leaveCell w).intake = { s.intake with backlog := true, sweep := some { v with backlogSeen := true } } := by
  unfold State.leaveCell
  dsimp only
  split
  next seen =>
    have : v = { v with backlogSeen := true } := by rw [← seen, ← same]
    rw [← this, ← sweep]
    rfl
  next => simp [sweep]

theorem leaveCell_flags (s : State) (w : Sweep) : (s.leaveCell w).events.flags =
    if w.backlogSeen then s.events.flags else s.events.flags ||| Flag.trayBacklog.bit := by
  unfold State.leaveCell
  dsimp only
  split <;> rfl

theorem leaveCell_writer (s : State) (w : Sweep) : (s.leaveCell w).writer = s.writer := by
  unfold State.leaveCell
  dsimp only
  split <;> rfl

/-- Outside STOPPING the end of a command leaves the engine where it is (R7). -/
theorem settleEngine_of_engine {s : State} (engine : s.engine ≠ .stopping) : s.settleEngine = s :=
  settleEngine_settled s (by simp [State.stopComplete, engine])

/-- A sweep that ends without the sweep-again flag leaves nothing of it. -/
theorem closeSweep_ends {s : State} {w : Sweep} (sweep : s.intake.sweep = some w) (last : w.left = 0) (done : s.visitDone = true)
    (once : s.intake.sweepAgain = false) : s.closeSweep = s.updIntake fun k => { k with sweep := none, sweepAgain := false } := by
  rw [closeSweep_done sweep last done, once]
  rfl

/-- One that ends with the flag is followed by the next, from the sweep pointer. -/
theorem closeSweep_again {s : State} {w : Sweep} {a : Area} (sweep : s.intake.sweep = some w) (last : w.left = 0)
    (done : s.visitDone = true) (again : s.intake.sweepAgain = true) (sweepable : s.sweepArea = some a) :
    s.closeSweep = ((s.updIntake fun k => { k with sweep := none, sweepAgain := false }).beginSweep a).pokeWriter := by
  rw [closeSweep_done sweep last done, if_pos again]
  exact triggerSweep_starts sweepable rfl

theorem sweepArea_of {s : State} {a : Area} (engine : s.engine = .running ∨ s.engine = .tampered) (area : s.intake.area = some a) :
    s.sweepArea = some a := by
  simp [State.sweepArea, engine, area]

/-- Settles O15. -/
theorem otherVisits : Obligations.OtherVisits := by
  refine ⟨fun s a w cell engine area sweep done left => ?more, fun s a w cell engine area sweep done left unposted => ?last⟩
  case more =>
    have on : s.engine ≠ .off := by obtain e | e := engine <;> simp [e]
    have going : s.engine ≠ .stopping := by obtain e | e := engine <;> simp [e]
    have left' : w.left - 1 ≠ 0 := by omega
    have past : (s.quiet.sweepPast a w).settled := settled_of_visits going rfl left'
    refine ⟨fun passed => ?passes, fun fresh posted full => ?leaves⟩
    case passes =>
      have visit : s.quiet.visitCell a w cell.toList = s.quiet.sweepPast a w :=
        visitCell_passes (by rw [posted_getD]; exact passed)
      exact (exec_sweepCellVisit cell area sweep done).trans
        (congrArg Host.Outcome.next ((run_settled _ _ on (visit.symm ▸ past)).trans visit))
    case leaves =>
      have visit : s.quiet.visitCell a w cell.toList = (s.quiet.sweepPast a w).leaveCell w :=
        visitCell_leaves fresh ((posted_getD cell).trans posted) full
      have intake := leaveCell_sweep (s := s.quiet.sweepPast a w) (w := w) rfl rfl
      have settled : ((s.quiet.sweepPast a w).leaveCell w).settled :=
        settled_of_visits (by simpa [State.sweepPast] using going) (by rw [intake]) left'
      refine ⟨_, (exec_sweepCellVisit cell area sweep done).trans
        (congrArg Host.Outcome.next ((run_settled _ _ on (visit.symm ▸ settled)).trans visit)), ?_⟩
      rw [intake, leaveCell_flags, leaveCell_writer]
      refine ⟨rfl, rfl, fun unseen => by rw [unseen]; rfl, fun seen => by rw [seen]; rfl, rfl, rfl, ?_⟩
      simp [State.sweepPast]
  case last =>
    have on : s.engine ≠ .off := by obtain e | e := engine <;> simp [e]
    have going : s.engine ≠ .stopping := by obtain e | e := engine <;> simp [e]
    have visit : s.quiet.visitCell a w cell.toList = s.quiet.sweepPast a w := visitCell_passes (by rw [posted_getD]; exact .inr unposted)
    have ended : s.run (fun u => u.visitCell a w cell.toList) = (s.quiet.sweepPast a w).closeSweep := by
      rw [run_on s _ on, visit, settleEngine_of_engine (by simpa [State.sweepPast] using going)]
    have last : (w.left - 1) = 0 := by omega
    refine ⟨_, (exec_sweepCellVisit cell area sweep done).trans (congrArg Host.Outcome.next ended), ?_⟩
    cases again : s.intake.sweepAgain with
    | false =>
      rw [closeSweep_ends (s := s.quiet.sweepPast a w) rfl last done again]
      exact ⟨rfl, fun _ => ⟨rfl, rfl⟩, nofun, rfl, rfl, rfl, rfl, rfl, rfl, rfl, rfl, rfl, rfl⟩
    | true =>
      rw [closeSweep_again (s := s.quiet.sweepPast a w) rfl last done again (sweepArea_of engine area)]
      refine ⟨?_, nofun, fun _ => ⟨?_, fun state => ?_⟩, ?_⟩
      · rw [pokeWriter_intake]; rfl
      · rw [pokeWriter_intake]; rfl
      · rw [pokeWriter_awaitRoll (by exact state)]; rfl
      · simp [State.sweepPast]

/-! ## Answers are written (R13, R18) -/

/-- Nothing but interrupt messages goes out. -/
def State.tells (s t : State) : Prop := ∃ more, t.out = s.out ++ more ∧ ∀ o ∈ more, o = .pcieMessage

theorem State.tells.of_out {s t : State} (same : t.out = s.out) : s.tells t := ⟨[], by simp [same], nofun⟩

theorem State.tells.trans {r s t : State} (h : r.tells s) (k : s.tells t) : r.tells t := by
  obtain ⟨x, outs, onlyMessages⟩ := h
  obtain ⟨y, outt, onlyMessages'⟩ := k
  refine ⟨x ++ y, by rw [outt, outs, List.append_assoc], fun o mem => ?_⟩
  obtain early | later := List.mem_append.mp mem
  · exact onlyMessages o early
  · exact onlyMessages' o later

theorem raiseBits_tells (s : State) (bits : BitVec 16) : s.tells (s.raiseBits bits) := by
  unfold State.tells State.raiseBits State.setEvents
  dsimp only
  split
  · exact ⟨[.pcieMessage], rfl, by simp⟩
  · exact ⟨[], by simp, nofun⟩

theorem freeEntry_out (s : State) (cell : Nat) : (s.freeEntry cell).out = s.out := by
  unfold State.freeEntry
  dsimp only
  split
  · rw [triggerSweep_out]
    rfl
  · rfl

theorem answered_tells (s : State) (cell : Nat) : s.tells (s.answered cell) :=
  (raiseBits_tells s _).trans (.of_out (freeEntry_out _ _))

theorem closeSweep_out (s : State) : s.closeSweep.out = s.out := by
  unfold State.closeSweep
  split
  · split
    · dsimp only
      split
      · rw [triggerSweep_out]
        rfl
      · rfl
    · rfl
  · rfl

theorem settleEngine_tells (s : State) : s.tells s.settleEngine := by
  unfold State.settleEngine
  split
  · exact raiseBits_tells _ _
  · exact .of_out rfl

theorem run_tells {s : State} {f : State → State} (on : s.engine ≠ .off) : (f s.quiet).tells (s.run f) := by
  rw [run_on s f on]
  exact (State.tells.of_out (closeSweep_out _)).trans (settleEngine_tells _)

theorem triggerSweep_backlog (s : State) : s.triggerSweep.intake.backlog = s.intake.backlog := by
  cases sweepable : s.sweepArea with
  | none => rw [triggerSweep_idle sweepable]
  | some a =>
    cases sweep : s.intake.sweep with
    | none => rw [triggerSweep_starts sweepable sweep, pokeWriter_intake]; rfl
    | some w => rw [triggerSweep_again (by simp [sweepable]) sweep]; rfl

theorem closeSweep_backlog (s : State) : s.closeSweep.intake.backlog = s.intake.backlog := by
  unfold State.closeSweep
  split
  · split
    · dsimp only
      split
      · rw [triggerSweep_backlog]
        rfl
      · rfl
    · rfl
  · rfl

theorem settleEngine_backlog {s : State} (clear : s.intake.backlog = false) : s.settleEngine.intake.backlog = false := by
  unfold State.settleEngine
  split
  · rfl
  · exact clear

/-- The intake unit once an entry has freed: the entry and the backlog mark are gone, and with the mark a sweep is triggered. -/
theorem answered_intake (s : State) (cell : Nat) :
    (s.answered cell).intake.table = s.intake.table.filter (fun e => e.cell != cell) ∧ (s.answered cell).intake.backlog = false := by
  unfold State.answered State.freeEntry
  dsimp only
  split
  · simp [triggerSweep_backlog]
  · exact ⟨rfl, rfl⟩

theorem dropAnswer_fields (k : Intake) :
    k.dropAnswer.table = k.table ∧ k.dropAnswer.atTake = none ∧
    k.dropAnswer.answers = (if k.atTake.isSome then k.answers else k.answers.tail) ∧ k.dropAnswer.backlog = k.backlog ∧
    k.dropAnswer.sweep = k.sweep := by
  unfold Intake.dropAnswer
  cases atTake : k.atTake <;> simp [atTake]

theorem nextAnswer_eq {k : Intake} {x : Answer} (next : k.atTake = some x ∨ (k.atTake = none ∧ k.answers.head? = some x)) :
    k.nextAnswer = some x := by
  unfold Intake.nextAnswer
  obtain given | ⟨free, head⟩ := next
  · rw [given]
  · rw [free]
    exact head

/-- The answer leaves its place and is written with OWNER at TAKEN. -/
def State.checkOwner (s : State) (a : Area) (x : Answer) (owner : Byte) : State :=
  ((s.updIntake (·.dropAnswer)).emit (if owner = 0x02 then answerWrites a x else [])).answered x.cell

/-- With the backlog mark the entry's freeing starts a sweep where none is in progress (R13). -/
theorem answered_sweeps {s : State} {a : Area} (cell : Nat) (engine : s.engine = .running) (area : s.intake.area = some a)
    (idle : s.intake.sweep = none) (backlog : s.intake.backlog = true) :
    (s.answered cell).intake.sweep = some { position := s.intake.pointer, left := a.cells, backlogSeen := false } := by
  have sweepable : ((s.raise .orderAnswered).updIntake fun k =>
      { k with table := k.table.filter (fun e => e.cell != cell), backlog := false }).sweepArea = some a :=
    sweepArea_of (.inl engine) area
  unfold State.answered State.freeEntry
  simp only [raise_intake, backlog, if_true]
  rw [triggerSweep_starts sweepable idle, pokeWriter_intake]
  rfl

/-- Settles O16. -/
theorem ownerCheckWritesAnswer : Obligations.OwnerCheckWritesAnswer := by
  intro s a x owner on legal area next
  have command : exec (.ownerCheck owner) s = .next (s.run fun u => u.checkOwner a x owner) := by
    refine congrArg Host.Outcome.next (run_eq _ _ _ ?_)
    simp only [quiet_frame, area, nextAnswer_eq next]
    rfl
  obtain ⟨table, atTake, answers, backlog, sweep⟩ := dropAnswer_fields s.intake
  have effect := run_frame s (fun u => u.checkOwner a x owner) on
  obtain ⟨table', backlog'⟩ := answered_intake ((s.quiet.updIntake (·.dropAnswer)).emit
    (if owner = 0x02 then answerWrites a x else [])) x.cell
  have messages : ((s.quiet.updIntake (·.dropAnswer)).emit (if owner = 0x02 then answerWrites a x else [])).tells
      (s.run fun u => u.checkOwner a x owner) := (answered_tells _ _).trans (run_tells on)
  refine ⟨_, command, ?flag, ?table, ?atTake, fun given => ?atTakeKept, fun free => ?head, ?backlog, fun taken => ?written,
    fun lost => ?lost, fun marked running idle => ?sweeps, ?_⟩
  case flag =>
    rw [run_on s _ on]
    exact ((State.Grows.refl _).freeEntry x.cell |>.closeSweep.settleEngine).hasFlag (State.hasFlag_raise _ _)
  case table =>
    rw [run_on s _ on]
    simpa [State.checkOwner, table] using table'
  case atTake => simp only [effect]; simp [State.checkOwner, atTake]
  case atTakeKept => simp only [effect]; simp [State.checkOwner, answers, given]
  case head => simp only [effect]; simp [State.checkOwner, answers, free]
  case backlog =>
    rw [run_on s _ on]
    exact settleEngine_backlog ((closeSweep_backlog _).trans backlog')
  case written =>
    obtain ⟨more, out, only⟩ := messages
    refine ⟨more, ?_, only⟩
    rw [out, if_pos taken]
    rfl
  case lost =>
    obtain ⟨more, out, only⟩ := messages
    rw [out, if_neg lost]
    simpa using only
  case sweeps =>
    have started := answered_sweeps (s := (s.quiet.updIntake (·.dropAnswer)).emit
      (if owner = 0x02 then answerWrites a x else [])) (a := a) x.cell running ((dropAnswer_area s.intake).trans area)
      (sweep.trans idle) (backlog.trans marked)
    have settled : (s.quiet.checkOwner a x owner).settled :=
      settled_of_visits (by simp [State.checkOwner, running]) started (areaLegal_cells legal area)
    rw [run_settled s _ on settled, State.checkOwner, started]
    simp
  simp only [effect]
  simp [State.checkOwner]

end Sys2Proof.Machine
end

section

set_option Elab.async false

/-!
SUPPORT. The field checks of the orders: when the fields of the parameters lie out of range (R16, R29, R65, R114, R155, R162, R170).
-/

namespace Sys2Proof.Machine

/-! ## Single fields -/

theorem slotAt_eq_none_iff (p : List Byte) (o : Nat) : slotAt p o = none ↔ 63 < byteAt p o := by
  unfold slotAt
  split <;> simp <;> omega

theorem bayAt_eq_none_iff (p : List Byte) (o : Nat) : bayAt p o = none ↔ 7 < byteAt p o := by
  unfold bayAt
  split <;> simp <;> omega

theorem slotAt_val {p : List Byte} {o : Nat} {i : SlotId} (h : slotAt p o = some i) : i.val = byteAt p o := by
  unfold slotAt at h
  split at h
  · exact (Fin.val_eq_of_eq (Option.some.inj h)).symm
  · cases h

theorem bayAt_val {p : List Byte} {o : Nat} {b : BayId} (h : bayAt p o = some b) : b.val = byteAt p o := by
  unfold bayAt at h
  split at h
  · exact (Fin.val_eq_of_eq (Option.some.inj h)).symm
  · cases h

theorem lineRate?_eq_none_iff (n : Nat) : lineRate? n = none ↔ n = 0 ∨ 6 < n := by
  unfold lineRate?
  split <;> simp_all <;> omega

theorem override?_eq_none_iff (n : Nat) : override? n = none ↔ 15 < n ∧ n ≠ 0xFF := by
  unfold override?
  split
  · simp_all
  · split <;> simp_all <;> omega

theorem condition?_eq_none_iff (code n : Nat) : condition? code n = none ↔ 3 < code ∨ ((code = 1 ∨ code = 2) ∧ 7 < n) := by
  unfold condition?
  split
  · simp_all
  split
  · split <;> simp_all <;> omega
  split
  · split <;> simp_all <;> omega
  split <;> simp_all
  omega

theorem delivery?_eq_none_iff (p : List Byte) (o : Nat) :
    delivery? p o = none ↔ (byteAt p o ≠ 1 ∧ byteAt p o ≠ 2) ∨ (byteAt p o = 2 ∧ 63 < byteAt p (o + 1)) := by
  unfold delivery?
  split
  · simp_all
  split <;> simp_all [slotAt_eq_none_iff]

theorem timeoutInRange_iff (ms : Nat) : timeoutInRange ms = true ↔ 50 ≤ ms ∧ ms ≤ 5000 ∧ ms % 10 = 0 := by
  simp [timeoutInRange]

/-! ## Items and plans (R114) -/

theorem item?_eq_none_iff (p : List Byte) (o : Nat) : item? p o = none ↔
    63 < byteAt p o ∨ 7 < byteAt p (o + 1) ∨ (byteAt p (o + 2) ≠ 1 ∧ byteAt p (o + 2) ≠ 2) ∨
    (byteAt p (o + 2) = 2 ∧ 63 < byteAt p (o + 3)) ∨ 3 < byteAt p (o + 4) ∨
    ((byteAt p (o + 4) = 1 ∨ byteAt p (o + 4) = 2) ∧ 7 < byteAt p (o + 5)) := by
  have parts : item? p o = none ↔ slotAt p o = none ∨ bayAt p (o + 1) = none ∨ delivery? p (o + 2) = none ∨
      condition? (byteAt p (o + 4)) (byteAt p (o + 5)) = none := by
    unfold item?
    cases slotAt p o <;> cases bayAt p (o + 1) <;> cases delivery? p (o + 2) <;>
      cases condition? (byteAt p (o + 4)) (byteAt p (o + 5)) <;> simp
  rw [parts, slotAt_eq_none_iff, bayAt_eq_none_iff, delivery?_eq_none_iff, condition?_eq_none_iff]
  simp only [or_assoc]

/-- The items are refused with any one of them. -/
theorem items?_eq_none_iff (p : List Byte) (n : Nat) : items? p n = none ↔ ∃ k, k < n ∧ item? p (8 + k * 8) = none := by
  induction n with
  | zero => simp [items?]
  | succ n ih =>
    have parts : items? p (n + 1) = none ↔ items? p n = none ∨ item? p (8 + n * 8) = none := by
      simp only [items?]
      cases items? p n <;> cases item? p (8 + n * 8) <;> simp
    rw [parts, ih]
    constructor
    · rintro (⟨k, low, refused⟩ | refused)
      · exact ⟨k, by omega, refused⟩
      · exact ⟨n, by omega, refused⟩
    · rintro ⟨k, low, refused⟩
      obtain rfl | before := Nat.eq_or_lt_of_le (Nat.lt_succ_iff.mp low)
      · exact .inr refused
      · exact .inl ⟨k, before, refused⟩

theorem plan?_eq_none_iff (p : List Byte) : plan? p = none ↔
    7 < byteAt p 0 ∨ byteAt p 1 = 0 ∨ 6 < byteAt p 1 ∨ numberAt p 2 2 < 50 ∨ 5000 < numberAt p 2 2 ∨ numberAt p 2 2 % 10 ≠ 0 ∨
    (15 < byteAt p 4 ∧ byteAt p 4 ≠ 0xFF) ∨ 127 < byteAt p 5 ∨ 1 < byteAt p 6 ∨ byteAt p 7 = 0 ∨ 6 < byteAt p 7 ∨
    ∃ k, k < byteAt p 7 ∧ item? p (8 + k * 8) = none := by
  rw [← items?_eq_none_iff]
  have bay := bayAt_eq_none_iff p 0
  have rate := lineRate?_eq_none_iff (byteAt p 1)
  have override := override?_eq_none_iff (byteAt p 4)
  unfold plan?
  split
  next _ _ _ someBay someRate someOverride =>
    rw [someBay] at bay
    rw [someRate] at rate
    rw [someOverride] at override
    simp only [reduceCtorEq, false_iff] at bay rate override
    split
    next inRange =>
      rw [timeoutInRange_iff] at inRange
      cases items? p (byteAt p 7) with
      | none => simp
      | some items => simp; omega
    next outOfRange =>
      rw [timeoutInRange_iff] at outOfRange
      simp
      omega
  next absent =>
    simp only [true_iff]
    cases someBay : bayAt p 0 with
    | none => exact .inl (bay.mp someBay)
    | some b =>
      cases someRate : lineRate? (byteAt p 1) with
      | none =>
        have := rate.mp someRate
        omega
      | some r =>
        cases someOverride : override? (byteAt p 4) with
        | none =>
          have := override.mp someOverride
          omega
        | some o => exact absurd someOverride (absent b r o someBay someRate)

/-! ## Definitions, ceremonies and watches (R29, R65, R170) -/

theorem definition?_eq_none_iff (p : List Byte) : definition? p = none ↔
    63 < byteAt p 0 ∨ (byteAt p 2 ≠ 2 ∧ byteAt p 2 ≠ 3) ∨ (byteAt p 1 ≠ 1 ∧ byteAt p 1 ≠ 2) ∨
    (byteAt p 1 = 1 ∧ (1 < byteAt p 4 ∨ 65536 < numberAt p 8 4)) ∨ (byteAt p 1 = 2 ∧ byteAt p 4 ≠ 0) := by
  have slot := slotAt_eq_none_iff p 0
  unfold definition?
  dsimp only
  split
  next absent =>
    simp only [true_iff]
    exact .inl (slot.mp absent)
  next i found =>
    rw [found] at slot
    simp only [reduceCtorEq, false_iff] at slot
    split
    next count =>
      simp only [true_iff]
      omega
    next count =>
      split
      next cls direct =>
        split <;> simp only [reduceCtorEq, true_iff, false_iff] <;> omega
      next cls direct =>
        split <;> simp only [reduceCtorEq, true_iff, false_iff] <;> omega
      next cls direct =>
        simp only [reduceCtorEq, false_iff]
        omega
      next noBase noDirect noTransport =>
        simp only [true_iff]
        by_cases base : byteAt p 1 = 1
        · by_cases zero : byteAt p 4 = 0
          · exact absurd zero (noBase base)
          · by_cases one : byteAt p 4 = 1
            · exact absurd one (noDirect base)
            · omega
        · by_cases transport : byteAt p 1 = 2
          · have := mt (noTransport transport) not_false
            omega
          · omega

theorem definition?_fields {p : List Byte} {i : SlotId} {d : Definition} (h : definition? p = some (i, d)) :
    i.val = byteAt p 0 ∧ d.components = byteAt p 2 ∧ d.bayMask.toNat = byteAt p 3 ∧
    (byteAt p 1 = 1 → d.cls = .base (BitVec.ofNat 40 (ofBE (field p 0x0C 5))) (decide (byteAt p 4 = 1)) (numberAt p 8 4)) ∧
    (byteAt p 1 = 2 → d.cls = .transport) := by
  unfold definition? at h
  dsimp only at h
  split at h
  next => cases h
  next j slot =>
    split at h
    next => cases h
    next =>
      split at h
      next base direct =>
        split at h
        · obtain ⟨rfl, rfl⟩ := Prod.mk.inj (Option.some.inj h)
          exact ⟨slotAt_val slot, rfl, rfl, fun _ => by simp [direct], by omega⟩
        · cases h
      next base direct =>
        split at h
        · obtain ⟨rfl, rfl⟩ := Prod.mk.inj (Option.some.inj h)
          exact ⟨slotAt_val slot, rfl, rfl, fun _ => by simp [direct], by omega⟩
        · cases h
      next transport direct =>
        obtain ⟨rfl, rfl⟩ := Prod.mk.inj (Option.some.inj h)
        exact ⟨slotAt_val slot, rfl, rfl, by omega, fun _ => rfl⟩
      next => cases h

theorem openParams?_eq_none_iff (p : List Byte) : openParams? p = none ↔
    63 < byteAt p 0 ∨ byteAt p 1 < 2 ∨ 6 < byteAt p 1 ∨ ¬(idsAt p 8 (byteAt p 1)).Nodup ∨
    (0 : CardId) ∈ idsAt p 8 (byteAt p 1) ∨ numberAt p 2 2 < 30 ∨ 900 < numberAt p 2 2 := by
  have slot := slotAt_eq_none_iff p 0
  unfold openParams?
  dsimp only
  split
  next absent => simp [slot.mp absent]
  next i found =>
    rw [found] at slot
    simp only [reduceCtorEq, false_iff] at slot
    split
    next good =>
      obtain ⟨two, six, distinct, nonzero, low, high⟩ := good
      simp only [reduceCtorEq, false_iff, distinct, not_true_eq_false, nonzero, false_or]
      omega
    next bad =>
      simp only [true_iff]
      by_contra good
      simp only [not_or, not_not] at good
      obtain ⟨_, two, six, distinct, nonzero, low, high⟩ := good
      exact bad ⟨by omega, by omega, distinct, nonzero, by omega, by omega⟩

theorem watch?_eq_none_iff (p : List Byte) : watch? p = none ↔
    4 < byteAt p 1 ∨ (byteAt p 1 = 1 ∧ (63 < byteAt p 2 ∨ numberAt p 4 4 = 0 ∨ 1048576 < numberAt p 4 4)) ∨
    (byteAt p 1 = 2 ∧ 63 < byteAt p 2) ∨ (byteAt p 1 = 3 ∧ (7 < byteAt p 2 ∨ byteAt p 3 = 0 ∨ 3 < byteAt p 3)) ∨
    (byteAt p 1 = 4 ∧ (numberAt p 4 4 = 0 ∨ 65535 < numberAt p 4 4)) := by
  have slot := slotAt_eq_none_iff p 2
  have bay := bayAt_eq_none_iff p 2
  unfold watch?
  split
  next source =>
    simp only [reduceCtorEq, false_iff]
    omega
  next source =>
    split
    next i found =>
      rw [found] at slot
      simp only [reduceCtorEq, false_iff] at slot
      split <;> simp only [reduceCtorEq, true_iff, false_iff] <;> omega
    next absent =>
      have := slot.mp absent
      simp only [reduceCtorEq, true_iff, false_iff]
      omega
  next source =>
    rw [Option.map_eq_none_iff, slot]
    omega
  next source =>
    split
    next b found edge =>
      rw [found] at bay
      simp only [reduceCtorEq, false_iff] at bay
      simp only [reduceCtorEq, true_iff, false_iff]
      omega
    next b found edge =>
      rw [found] at bay
      simp only [reduceCtorEq, false_iff] at bay
      simp only [reduceCtorEq, true_iff, false_iff]
      omega
    next b found edge =>
      rw [found] at bay
      simp only [reduceCtorEq, false_iff] at bay
      simp only [reduceCtorEq, true_iff, false_iff]
      omega
    next noRise noFall noAny =>
      simp only [true_iff]
      cases someBay : bayAt p 2 with
      | none =>
        have := bay.mp someBay
        omega
      | some b =>
        by_cases one : byteAt p 3 = 1
        · exact absurd one (noRise b someBay)
        by_cases two : byteAt p 3 = 2
        · exact absurd two (noFall b someBay)
        by_cases three : byteAt p 3 = 3
        · exact absurd three (noAny b someBay)
        omega
  next source =>
    split <;> simp only [reduceCtorEq, true_iff, false_iff] <;> omega
  next noOff noAllowance noState noPresence noRoom =>
    simp only [true_iff]
    rw [imp_false] at noOff noAllowance noState noPresence noRoom
    omega

/-! ## Profiles and map records (R155, R156, R161, R162) -/

theorem profile?_eq_none_iff (r : List Byte) : profile? r = none ↔
    numberAt r 0 2 < 50 ∨ 5000 < numberAt r 0 2 ∨ numberAt r 0 2 % 10 ≠ 0 ∨ 7 < byteAt r 2 ∨
    (byteAt r 3 ≠ 8 ∧ byteAt r 3 ≠ 16 ∧ byteAt r 3 ≠ 32) ∨ numberAt r 4 2 < 100 ∨ 2000 < numberAt r 4 2 ∨
    600 < numberAt r 6 2 ∨ 1 < byteAt r 8 := by
  unfold profile? Profile.inRange
  dsimp only
  rw [ite_eq_right_iff]
  simp only [reduceCtorEq, imp_false, Bool.and_eq_true, decide_eq_true_eq, timeoutInRange_iff, List.contains_iff_mem,
    List.mem_cons, List.not_mem_nil, or_false]
  omega

theorem allSome_eq_none_iff {α : Type} (l : List (Option α)) : allSome l = none ↔ none ∈ l := by
  induction l with
  | nil => simp [allSome]
  | cons x l ih => cases x <;> simp [allSome, ih]

/-- With every element present the list of their values has their places. -/
theorem allSome_getElem? {α : Type} {l : List (Option α)} {values : List α} (h : allSome l = some values) (k : Nat) :
    l[k]? = values[k]?.map some := by
  induction l generalizing values k with
  | nil =>
    obtain rfl : [] = values := by simpa [allSome] using h
    simp
  | cons x l ih =>
    cases x with
    | none => cases h
    | some a =>
      obtain ⟨rest, tail, rfl⟩ := Option.map_eq_some_iff.mp h
      cases k with
      | zero => rfl
      | succ k => simpa using ih tail k

theorem allSome_length {α : Type} {l : List (Option α)} {values : List α} (h : allSome l = some values) : values.length = l.length := by
  induction l generalizing values with
  | nil =>
    obtain rfl : [] = values := by simpa [allSome] using h
    rfl
  | cons x l ih =>
    cases x with
    | none => cases h
    | some a =>
      obtain ⟨rest, tail, rfl⟩ := Option.map_eq_some_iff.mp h
      simp [ih tail]

theorem recordsOf_getElem? (area : List Byte) (size count k : Nat) :
    (recordsOf area size count)[k]? = if k < count then some (field area (k * size) size) else none := by
  unfold recordsOf
  split
  next low => simp [List.getElem?_eq_getElem (l := List.range count) (by simpa using low)]
  next high => simp [List.getElem?_eq_none (l := List.range count) (by simpa using high)]

theorem field_field (l : List Byte) (off len at' n : Nat) (inside : at' + n ≤ len) :
    field (field l off len) at' n = field l (off + at') n := by
  simp only [field, List.drop_take, List.drop_drop, List.take_take]
  congr 1
  omega

theorem field_drop (l : List Byte) (off at' n : Nat) : field (l.drop off) at' n = field l (off + at') n := by
  simp only [field, List.drop_drop]

theorem byteAt_field (l : List Byte) (off len at' : Nat) (inside : at' < len) : byteAt (field l off len) at' = byteAt l (off + at') := by
  simp [byteAt, field, List.getD_eq_getElem?_getD, inside]

theorem mapEntry?_eq_none_iff (r : List Byte) : mapEntry? r = none ↔ numberAt r 0 2 ≠ 0 ∧ 15 < byteAt r 2 := by
  unfold mapEntry?
  split
  next unused => simp [unused]
  next used => split <;> simp [used] <;> omega

theorem mapEntry?_fields {r : List Byte} {x : MapEntry} (h : mapEntry? r = some x) :
    x.model.toNat = numberAt r 0 2 ∧ x.profile.val = if numberAt r 0 2 = 0 then 0 else byteAt r 2 := by
  unfold mapEntry? at h
  split at h
  next unused =>
    obtain rfl := Option.some.inj h
    simp [unused, MapEntry.unused]
  next used =>
    split at h
    · obtain rfl := Option.some.inj h
      exact ⟨numberAt_toNat16 r 0, by simp [used]⟩
    · cases h

/-- Record `k` of the parameters is record `k` of the order's list. -/
theorem mapRecord_fields (p : List Byte) (k : Nat) :
    numberAt (field (p.drop 8) (k * 4) 4) 0 2 = numberAt p (8 + k * 4) 2 ∧
    byteAt (field (p.drop 8) (k * 4) 4) 2 = byteAt p (8 + k * 4 + 2) := by
  rw [field_drop]
  exact ⟨congrArg ofLE (field_field p _ 4 0 2 (by omega)), byteAt_field p _ 4 2 (by omega)⟩

theorem mapRecords_refused_iff (p : List Byte) (count : Nat) :
    allSome ((recordsOf (p.drop 8) 4 count).map mapEntry?) = none ↔
      ∃ k, k < count ∧ numberAt p (8 + k * 4) 2 ≠ 0 ∧ 15 < byteAt p (8 + k * 4 + 2) := by
  rw [allSome_eq_none_iff, List.mem_map]
  simp only [recordsOf, List.mem_map, List.mem_range]
  constructor
  · rintro ⟨r, ⟨k, low, rfl⟩, refused⟩
    rw [mapEntry?_eq_none_iff, (mapRecord_fields p k).1, (mapRecord_fields p k).2] at refused
    exact ⟨k, low, refused⟩
  · rintro ⟨k, low, refused⟩
    refine ⟨_, ⟨k, low, rfl⟩, ?_⟩
    rwa [mapEntry?_eq_none_iff, (mapRecord_fields p k).1, (mapRecord_fields p k).2]

/-- The entries named lie in one half of the map (R162). -/
theorem mapRange_iff (first count : Nat) :
    (first ≤ 63 ∧ 1 ≤ count ∧ count ≤ 8 ∧ (first + count - 1) / 32 = first / 32) ↔
      ¬(63 < first ∨ count = 0 ∨ 8 < count ∨ (first < 32 ∧ 32 < first + count) ∨ (32 ≤ first ∧ 64 < first + count)) := by
  omega

theorem mapWrite?_eq_none_iff (p : List Byte) : mapWrite? p = none ↔
    63 < byteAt p 0 ∨ byteAt p 1 = 0 ∨ 8 < byteAt p 1 ∨ (byteAt p 0 < 32 ∧ 32 < byteAt p 0 + byteAt p 1) ∨
    (32 ≤ byteAt p 0 ∧ 64 < byteAt p 0 + byteAt p 1) ∨
    ∃ k, k < byteAt p 1 ∧ numberAt p (8 + k * 4) 2 ≠ 0 ∧ 15 < byteAt p (8 + k * 4 + 2) := by
  unfold mapWrite?
  dsimp only
  split
  next inRange =>
    rw [Option.map_eq_none_iff, mapRecords_refused_iff]
    have := (mapRange_iff _ _).mp inRange
    tauto
  next outOfRange =>
    rw [mapRange_iff, not_not] at outOfRange
    tauto

theorem mapWrite?_fields {p : List Byte} {first : Nat} {l : List MapEntry} (h : mapWrite? p = some (first, l)) :
    first = byteAt p 0 ∧ l.length = byteAt p 1 ∧
    ∀ k x, l[k]? = some x → x.model.toNat = numberAt p (8 + k * 4) 2 ∧
      x.profile.val = if numberAt p (8 + k * 4) 2 = 0 then 0 else byteAt p (8 + k * 4 + 2) := by
  unfold mapWrite? at h
  dsimp only at h
  split at h
  next =>
    obtain ⟨values, entries, same⟩ := Option.map_eq_some_iff.mp h
    obtain ⟨rfl, rfl⟩ := Prod.mk.inj same
    refine ⟨rfl, by simpa [recordsOf] using allSome_length entries, fun k x mem => ?_⟩
    have record := allSome_getElem? entries k
    rw [mem, List.getElem?_map, recordsOf_getElem?] at record
    split at record
    next =>
      obtain ⟨model, profile⟩ := mapEntry?_fields (Option.some.inj record)
      rw [(mapRecord_fields p k).1] at model profile
      rw [(mapRecord_fields p k).2] at profile
      exact ⟨model, profile⟩
    next => cases record
  next => cases h

/-- Settles O18. -/
theorem orderFieldChecks : Obligations.OrderFieldChecks :=
  ⟨fun p => ⟨definition?_eq_none_iff p, fun _ _ => definition?_fields⟩, openParams?_eq_none_iff,
    ⟨plan?_eq_none_iff, item?_eq_none_iff⟩, profile?_eq_none_iff,
    fun p => ⟨mapWrite?_eq_none_iff p, fun _ _ => mapWrite?_fields⟩, watch?_eq_none_iff⟩

end Sys2Proof.Machine
end

section

set_option Elab.async false

/-!
SUPPORT. Watches over a command (R170, R172 to R174): the operations that touch no watch's flag, one lemma per operation, and how a
chain of slot and roll changes adds up to what fires from its first state to its last.
-/

namespace Sys2Proof.Machine

/-! ## Operations that touch no watch's flag -/

@[simp] theorem Flag.bit_watch (f : Flag) (n : Fin 4) : f.bit.getLsbD (12 + n.val) = false := by
  revert n
  cases f <;> decide

section
variable (s : State) (n : Fin 4)

@[simp] theorem freeEntry_watch (cell : Nat) :
    (s.freeEntry cell).events.flags.getLsbD (12 + n.val) = s.events.flags.getLsbD (12 + n.val) := by
  simp [State.freeEntry, apply_ite]

@[simp] theorem answered_watch (cell : Nat) :
    (s.answered cell).events.flags.getLsbD (12 + n.val) = s.events.flags.getLsbD (12 + n.val) := by
  simp [State.answered]

@[simp] theorem completeOrder_watch (cell : Nat) (result : Result) (data : List Byte) :
    (s.completeOrder cell result data).events.flags.getLsbD (12 + n.val) = s.events.flags.getLsbD (12 + n.val) := by
  unfold State.completeOrder
  split <;> simp

@[simp] theorem answerAtTake_watch (cell : Nat) (result : Result) (data : List Byte) :
    (s.answerAtTake cell result data).events.flags.getLsbD (12 + n.val) = s.events.flags.getLsbD (12 + n.val) := by
  unfold State.answerAtTake
  split <;> simp

@[simp] theorem refuseAtTake_watch (e : Entry) (result : Result) :
    (s.refuseAtTake e result).events.flags.getLsbD (12 + n.val) = s.events.flags.getLsbD (12 + n.val) := by
  simp [State.refuseAtTake]

@[simp] theorem waitInLine_watch (x : Submission) :
    (s.waitInLine x).events.flags.getLsbD (12 + n.val) = s.events.flags.getLsbD (12 + n.val) := by
  unfold State.waitInLine
  dsimp only
  split <;> simp

/-! ### Slots, but for their states and allowances (R35, R55, R56) -/

@[simp] theorem updSettle_watch (i : SlotId) (f : Settle → Settle) :
    (s.updSettle i f).events.flags.getLsbD (12 + n.val) = s.events.flags.getLsbD (12 + n.val) := by
  exact updSlot_watch_same s i _ rfl rfl n

@[simp] theorem answerSettle_watch (i : SlotId) (result : Result) :
    (s.answerSettle i result).events.flags.getLsbD (12 + n.val) = s.events.flags.getLsbD (12 + n.val) := by
  unfold State.answerSettle
  split <;> simp

@[simp] theorem testSettle_watch (i : SlotId) :
    (s.testSettle i).events.flags.getLsbD (12 + n.val) = s.events.flags.getLsbD (12 + n.val) := by
  unfold State.testSettle
  split
  · rfl
  · split_ifs
    · rfl
    · exact (updSlot_watch_same _ i _ rfl rfl n).trans (answerSettle_watch s n i _)
    · simp
    · rfl

@[simp] theorem stopSettle_watch (i : SlotId) :
    (s.stopSettle i).events.flags.getLsbD (12 + n.val) = s.events.flags.getLsbD (12 + n.val) := by
  simp [State.stopSettle]

@[simp] theorem settleEntered_watch (i : SlotId) (c : Claim) :
    (s.settleEntered i c).events.flags.getLsbD (12 + n.val) = s.events.flags.getLsbD (12 + n.val) := by
  simp [State.settleEntered]

omit s in
@[simp] theorem submitSettle_watch (i : SlotId) (l : List Claim) (s : State) :
    (State.submitSettle i l s).events.flags.getLsbD (12 + n.val) = s.events.flags.getLsbD (12 + n.val) := by
  induction l generalizing s with
  | nil => simp [State.submitSettle]
  | cons c rest ih =>
    unfold State.submitSettle
    dsimp only
    split
    · simp [ih]
    · split <;> simp

@[simp] theorem resumeSettle_watch (i : SlotId) (r : Receipt) :
    (s.resumeSettle i r).events.flags.getLsbD (12 + n.val) = s.events.flags.getLsbD (12 + n.val) := by
  unfold State.resumeSettle
  dsimp only
  split <;> simp

@[simp] theorem settleClosed_watch (i : SlotId) (c : Claim) :
    (s.settleClosed i c).events.flags.getLsbD (12 + n.val) = s.events.flags.getLsbD (12 + n.val) := by
  simp [State.settleClosed]

@[simp] theorem answerErase_watch (i : SlotId) (result : Result) :
    (s.answerErase i result).events.flags.getLsbD (12 + n.val) = s.events.flags.getLsbD (12 + n.val) := by
  unfold State.answerErase
  split
  · rfl
  · rw [completeOrder_watch]
    exact updSlot_watch_same s i _ rfl rfl n

/-! ### Plans, terminals and filing (chapter 7) -/

@[simp] theorem finishPlan_watch (b : BayId) (r : RunningOrder) (result : Result) (refusing : Byte) :
    (s.finishPlan b r result refusing).events.flags.getLsbD (12 + n.val) = s.events.flags.getLsbD (12 + n.val) := by
  unfold State.finishPlan
  dsimp only
  split <;> simp

@[simp] theorem planEnd_watch (b : BayId) (result : Result) (refusing : Byte) :
    (s.planEnd b result refusing).events.flags.getLsbD (12 + n.val) = s.events.flags.getLsbD (12 + n.val) := by
  unfold State.planEnd
  split
  · rfl
  · dsimp only
    split <;> simp

@[simp] theorem takeRemoval_watch (b : BayId) :
    (s.takeRemoval b).events.flags.getLsbD (12 + n.val) = s.events.flags.getLsbD (12 + n.val) := by
  unfold State.takeRemoval
  split
  · rfl
  · split_ifs <;> simp [apply_ite]

@[simp] theorem awaitRemoval_watch (b : BayId) :
    (s.awaitRemoval b).events.flags.getLsbD (12 + n.val) = s.events.flags.getLsbD (12 + n.val) := by
  unfold State.awaitRemoval
  split <;> simp

@[simp] theorem leaveTerminal_watch (b : BayId) :
    (s.leaveTerminal b).events.flags.getLsbD (12 + n.val) = s.events.flags.getLsbD (12 + n.val) := by
  unfold State.leaveTerminal
  split <;> simp

@[simp] theorem endFiling_watch (b : BayId) :
    (s.endFiling b).events.flags.getLsbD (12 + n.val) = s.events.flags.getLsbD (12 + n.val) := by
  unfold State.endFiling
  dsimp only
  split <;> simp

omit s in
@[simp] theorem fileReceipts_watch (b : BayId) (l : List Receipt) (s : State) :
    (State.fileReceipts b l s).events.flags.getLsbD (12 + n.val) = s.events.flags.getLsbD (12 + n.val) := by
  induction l generalizing s with
  | nil => simp [State.fileReceipts]
  | cons r rest ih =>
    unfold State.fileReceipts
    split <;> simp [ih]

@[simp] theorem file_watch (b : BayId) (o : TerminalOutcome) :
    (s.file b o).events.flags.getLsbD (12 + n.val) = s.events.flags.getLsbD (12 + n.val) := by
  simp [State.file]

@[simp] theorem fileVoid_watch (b : BayId) (reason : VoidReason) :
    (s.fileVoid b reason).events.flags.getLsbD (12 + n.val) = s.events.flags.getLsbD (12 + n.val) := by
  simp [State.fileVoid]

@[simp] theorem resumeSubmitter_watch (x : Submission) :
    (s.resumeSubmitter x).events.flags.getLsbD (12 + n.val) = s.events.flags.getLsbD (12 + n.val) := by
  unfold State.resumeSubmitter
  split <;> simp

@[simp] theorem admitWaiting_watch :
    (s.admitWaiting).events.flags.getLsbD (12 + n.val) = s.events.flags.getLsbD (12 + n.val) := by
  unfold State.admitWaiting
  split <;> simp

/-! ### The cipher queue (chapter 5) -/

@[simp] theorem keyUnavailable_watch (r : CipherRequest) :
    (s.keyUnavailable r).events.flags.getLsbD (12 + n.val) = s.events.flags.getLsbD (12 + n.val) := by
  unfold State.keyUnavailable
  split
  · split <;> simp
  · rfl
  · rfl

omit s in
@[simp] theorem startCipher_watch (l : List CipherRequest) (s : State) :
    (State.startCipher l s).events.flags.getLsbD (12 + n.val) = s.events.flags.getLsbD (12 + n.val) := by
  induction l generalizing s with
  | nil => simp [State.startCipher]
  | cons r rest ih =>
    unfold State.startCipher
    split <;> simp [ih]

@[simp] theorem kickCipher_watch :
    (s.kickCipher).events.flags.getLsbD (12 + n.val) = s.events.flags.getLsbD (12 + n.val) := by
  unfold State.kickCipher
  split <;> simp

@[simp] theorem submitCipher_watch (r : Requester) (op : CipherOp) :
    (s.submitCipher r op).events.flags.getLsbD (12 + n.val) = s.events.flags.getLsbD (12 + n.val) := by
  simp [State.submitCipher]

/-! ### The session (sections 7.3 to 7.8 and 7.11) -/

@[simp] theorem prepareNext_watch (b : BayId) :
    (s.prepareNext b).events.flags.getLsbD (12 + n.val) = s.events.flags.getLsbD (12 + n.val) := by
  unfold State.prepareNext
  split <;> simp

@[simp] theorem enterPreparing_watch (b : BayId) :
    (s.enterPreparing b).events.flags.getLsbD (12 + n.val) = s.events.flags.getLsbD (12 + n.val) := by
  simp [State.enterPreparing]

@[simp] theorem claimNext_watch (b : BayId) :
    (s.claimNext b).events.flags.getLsbD (12 + n.val) = s.events.flags.getLsbD (12 + n.val) := by
  unfold State.claimNext
  split <;> simp

@[simp] theorem claimingOver_watch (b : BayId) (reason : VoidReason) :
    (s.claimingOver b reason).events.flags.getLsbD (12 + n.val) = s.events.flags.getLsbD (12 + n.val) := by
  unfold State.claimingOver
  dsimp only
  split_ifs <;> simp

@[simp] theorem claimGranted_watch (b : BayId) :
    (s.claimGranted b).events.flags.getLsbD (12 + n.val) = s.events.flags.getLsbD (12 + n.val) := by
  unfold State.claimGranted
  split <;> simp

@[simp] theorem claimRefused_watch (b : BayId) (code : Result) (i : SlotId) :
    (s.claimRefused b code i).events.flags.getLsbD (12 + n.val) = s.events.flags.getLsbD (12 + n.val) := by
  unfold State.claimRefused
  split
  · simp
  · dsimp only
    split_ifs <;> simp

@[simp] theorem sessionDrop_watch (b : BayId) :
    (s.sessionDrop b).events.flags.getLsbD (12 + n.val) = s.events.flags.getLsbD (12 + n.val) := by
  unfold State.sessionDrop
  dsimp only
  (repeat' split) <;> simp

@[simp] theorem dropHeld_watch (b : BayId) (result : Result) :
    (s.dropHeld b result).events.flags.getLsbD (12 + n.val) = s.events.flags.getLsbD (12 + n.val) := by
  unfold State.dropHeld
  split <;> simp

@[simp] theorem haltSession_watch (b : BayId) (reason : VoidReason) :
    (s.haltSession b reason).events.flags.getLsbD (12 + n.val) = s.events.flags.getLsbD (12 + n.val) := by
  unfold State.haltSession
  dsimp only
  (repeat' split) <;> simp

@[simp] theorem stopBay_watch (b : BayId) :
    (s.stopBay b).events.flags.getLsbD (12 + n.val) = s.events.flags.getLsbD (12 + n.val) := by
  unfold State.stopBay
  split
  · rfl
  · dsimp only
    split <;> simp

@[simp] theorem stopBays_watch : s.stopBays.events.flags.getLsbD (12 + n.val) = s.events.flags.getLsbD (12 + n.val) :=
  foldl_keeps (fun t => t.events.flags.getLsbD (12 + n.val)) _ (fun t b => stopBay_watch t n b) _ s

@[simp] theorem takeWithdrawal_watch (b : BayId) :
    (s.takeWithdrawal b).events.flags.getLsbD (12 + n.val) = s.events.flags.getLsbD (12 + n.val) := by
  unfold State.takeWithdrawal
  split <;> simp

/-! ### Ceremonies (chapter 4) -/

@[simp] theorem emptyRecord_watch :
    (s.emptyRecord).events.flags.getLsbD (12 + n.val) = s.events.flags.getLsbD (12 + n.val) := by
  unfold State.emptyRecord
  dsimp only
  split <;> simp

@[simp] theorem discardCheck_watch :
    (s.discardCheck).events.flags.getLsbD (12 + n.val) = s.events.flags.getLsbD (12 + n.val) := by
  unfold State.discardCheck
  split
  · dsimp only
    split <;> simp
  · rfl

end

/-! ## What fires over a chain of changes -/

/-- The source of a watch, over a change of one slot whose allowance has not changed before, nor has its state unless for good: it fires
as the change is reported. -/
theorem Watch.firesFrom_slot_iff {r s t : State} {recognised : Option (BayId × Edge)} {i : SlotId}
    (others : ∀ j, j ≠ i → t.slot j = s.slot j)
    (state : (s.slot i).state = (r.slot i).state ∨ ((s.slot i).state ≠ (r.slot i).state ∧ (t.slot i).state ≠ (r.slot i).state))
    (allowance : (s.slot i).allowance = (r.slot i).allowance) (room : t.events.room = s.events.room) (w : Watch) :
    w.firesFrom r t recognised ↔ w.firesFrom r s recognised ∨ w.firesOnSlot i (s.slot i) (t.slot i) = true := by
  cases w with
  | off => simp [Watch.firesFrom, Watch.firesOnSlot]
  | allowanceBelow j threshold =>
    by_cases own : j = i
    · subst own
      simp [Watch.firesFrom, Watch.firesOnSlot, allowance]
    · simp [Watch.firesFrom, Watch.firesOnSlot, own, others j own]
  | slotState j =>
    by_cases own : j = i
    · subst own
      simp only [Watch.firesFrom, Watch.firesOnSlot, decide_true, Bool.true_and, decide_eq_true_eq]
      obtain still | ⟨before, after⟩ := state
      · rw [still]
        simp only [ne_eq, not_true_eq_false, false_or]
        exact ne_comm
      · simp [before, after]
    · simp [Watch.firesFrom, Watch.firesOnSlot, own, others j own]
  | bayPresence b edge => simp [Watch.firesFrom, Watch.firesOnSlot]
  | rollRoomBelow threshold => simp [Watch.firesFrom, Watch.firesOnSlot, room]

namespace State.watchesFire

theorem refl (s : State) : s.watchesFire s none := by
  refine ⟨rfl, fun n => ?_⟩
  cases s.events.watches[n] <;> simp [Watch.firesFrom]

section
variable {r s : State} {recognised : Option (BayId × Edge)} (h : r.watchesFire s recognised)
include h

/-- An operation that touches neither the watches nor what they look at. -/
theorem same {t : State} (watches : t.events.watches = s.events.watches := by simp)
    (flags : ∀ n : Fin 4, t.events.flags.getLsbD (12 + n.val) = s.events.flags.getLsbD (12 + n.val) := by simp)
    (states : ∀ i, (t.slot i).state = (s.slot i).state := by simp)
    (allowances : ∀ i, (t.slot i).allowance = (s.slot i).allowance := by simp)
    (room : t.events.room = s.events.room := by simp) : r.watchesFire t recognised := by
  refine ⟨watches.trans h.1, fun n => ?_⟩
  rw [flags, h.2]
  cases r.events.watches[n] <;> simp [Watch.firesFrom, states, allowances, room]

/-- A slot changes, and fires what the change is reported to fire (R172, R173). -/
theorem changeSlot (i : SlotId) (f : Slot → Slot)
    (state : (s.slot i).state = (r.slot i).state ∨
      ((s.slot i).state ≠ (r.slot i).state ∧ (f (s.slot i)).state ≠ (r.slot i).state))
    (allowance : (s.slot i).allowance = (r.slot i).allowance) : r.watchesFire (s.updSlot i f) recognised := by
  refine ⟨by simpa using h.1, fun n => ?_⟩
  have reported := setSlot_watch s i (f (s.slot i)) n
  rw [h.1] at reported
  rw [Watch.firesFrom_slot_iff (t := s.updSlot i f) (fun j other => by simp [other]) (by rwa [updSlot_slot_self]) allowance (by simp),
    ← or_assoc, ← h.2, updSlot_slot_self]
  show (s.setSlot i (f (s.slot i))).events.flags.getLsbD (12 + n.val) = true ↔ _
  rw [reported, Bool.or_eq_true]

/-- A slot that changes for the first time in the chain. -/
theorem updSlot (i : SlotId) (f : Slot → Slot) (state : (s.slot i).state = (r.slot i).state)
    (allowance : (s.slot i).allowance = (r.slot i).allowance) : r.watchesFire (s.updSlot i f) recognised :=
  h.changeSlot i f (.inl state) allowance

/-- A roll that changes for the first time in the chain fires by the room reported before and after (R174). -/
theorem setRoll (roll : Option Roll) (room : s.events.room = r.events.room) : r.watchesFire (s.setRoll roll) recognised := by
  refine ⟨by simpa using h.1, fun n => ?_⟩
  rw [setRoll_watch, Bool.or_eq_true, h.2, h.1]
  cases r.events.watches[n] with
  | rollRoomBelow threshold =>
    have still : ¬(threshold ≤ r.events.room ∧ r.events.room < threshold) := by omega
    simp [Watch.firesFrom, Watch.firesOnRoom, setRoll_room, room, still]
  | _ => simp [Watch.firesFrom, Watch.firesOnRoom]

theorem hold (e : Entry) : r.watchesFire (s.hold e) recognised := h.same

theorem answerAtTake (cell : Nat) (result : Result) (data : List Byte) : r.watchesFire (s.answerAtTake cell result data) recognised :=
  h.same

theorem completeOrder (cell : Nat) (result : Result) (data : List Byte) : r.watchesFire (s.completeOrder cell result data) recognised :=
  h.same

theorem queueWrite (i : SlotId) : r.watchesFire (s.queueWrite i) recognised := h.same

theorem kickArray : r.watchesFire s.kickArray recognised := h.same

theorem raise (f : Flag) : r.watchesFire (s.raise f) recognised := h.same

theorem toConsoles (m : ConsoleMessage) : r.watchesFire (s.toConsoles m) recognised := h.same

theorem updCeu (f : ComponentUnit → ComponentUnit) : r.watchesFire (s.updCeu f) recognised := h.same

theorem updKs (f : KeyStore → KeyStore) (slots : (f s.ks).slots = s.ks.slots := by rfl) : r.watchesFire (s.updKs f) recognised :=
  h.same (states := fun i => by rw [slot_of_slots (s := s.updKs f) (t := s) slots])
    (allowances := fun i => by rw [slot_of_slots (s := s.updKs f) (t := s) slots])

/-- The end of STOPPING drops the roll (R7, R151); otherwise nothing changes. -/
theorem settleEngine (room : s.events.room = r.events.room) : r.watchesFire s.settleEngine recognised := by
  unfold State.settleEngine
  split
  · exact State.watchesFire.setRoll (h.same (t := ({ s with engine := .standby }.updIntake _).updWriter _) rfl (fun _ => rfl)
      (fun _ => rfl) (fun _ => rfl) rfl) none room
  · exact h

end

/-- A command fires what its own effect fires, and the roll that the end of STOPPING drops (R174). -/
theorem run {s : State} {f : State → State} {recognised : Option (BayId × Edge)} (on : s.engine ≠ .off)
    (effect : s.quiet.watchesFire (f s.quiet) recognised) (room : (f s.quiet).events.room = s.events.room) :
    s.watchesFire (s.run f) recognised := by
  rw [run_on s f on]
  exact (effect.same (t := (f s.quiet).closeSweep)).settleEngine (by simpa using room)

end State.watchesFire

end Sys2Proof.Machine
end

section

set_option Elab.async false

/-!
SUPPORT. SLOT_DEFINE, SLOT_QUERY and SLOT_ERASE (R29 to R35).
-/

namespace Sys2Proof.Machine

/-! ## Commands whose effect is known -/

/-- A command is what its effect on the state without port traffic makes of the state. -/
theorem next_run_eq {s u : State} {f : State → State} (effect : f s.quiet = u) :
    (.next (s.run f) : Host.Outcome State Fault Refusal) = .next (s.run fun _ => u) :=
  congrArg _ (run_eq s f _ effect)

theorem refused_at_take_next {s : State} {f : State → State} {e : Entry} {r : Result} (on : s.engine ≠ .off)
    (effect : f s.quiet = s.quiet.refuseAtTake e r) :
    ∃ t, (.next (s.run f) : Host.Outcome State Fault Refusal) = .next t ∧ s.answersAtTake t e r [] ∧
      s.sameOutsideIntake t :=
  ⟨_, rfl, refused_at_take s f e r on effect⟩

theorem answered_at_take_next {s : State} {f : State → State} {e : Entry} {r : Result} {data : List Byte} (on : s.engine ≠ .off)
    (effect : f s.quiet = s.quiet.answerAtTake e.cell r data) :
    ∃ t, (.next (s.run f) : Host.Outcome State Fault Refusal) = .next t ∧ s.answersAtTake t e r data ∧
      s.sameOutsideIntake t :=
  ⟨_, rfl, answered_unchanged s f e r data on effect⟩

/-! ## SLOT_DEFINE (R29, R30) -/

theorem ksiTaken_base {s : State} {i : SlotId} {d : Definition} {ksi : BitVec 40} {direct : Bool} {limit : Nat}
    (cls : d.cls = .base ksi direct limit) :
    s.ks.ksiTaken i d = true ↔ ∃ j, j ≠ i ∧ (s.slot j).isBase = true ∧ (s.slot j).ksi = ksi := by
  simp [KeyStore.ksiTaken, cls, State.slot, and_assoc]

theorem ksiTaken_transport {k : KeyStore} {i : SlotId} {d : Definition} (cls : d.cls = .transport) : k.ksiTaken i d = false := by
  simp [KeyStore.ksiTaken, cls]

/-- Settles O19. -/
theorem slotDefineByRule : Obligations.SlotDefineByRule := by
  intro s e on inHand
  refine ⟨fun refused => refused_at_take_next on (withStoreOrder_refused s.quiet _ e _ _ inHand refused), fun i d fields opened => ?_⟩
  have decided := withStoreOrder_inHand s.quiet .slotDefine e definition? (x := (i, d)) (h := inHand) (p := fields) (o := opened)
  refine ⟨?taken, fun unique => ?unique⟩
  case taken =>
    rintro ⟨ksi, direct, limit, cls, other⟩
    exact refused_at_take_next on ((decided _).trans (if_pos ((ksiTaken_base (s := s) cls).mpr other)))
  case unique =>
    have free : ¬s.ks.ksiTaken i d = true := by
      obtain transport | ⟨ksi, direct, limit, cls, others⟩ := unique
      · simp [ksiTaken_transport transport]
      · rw [ksiTaken_base cls]
        rintro ⟨j, other, base, same⟩
        exact others j other base same
    refine ⟨fun busy => refused_at_take_next on ((decided _).trans ((if_neg free).trans (if_pos busy))), fun empty => ?_⟩
    refine ⟨_, next_run_eq ((decided _).trans ((if_neg free).trans (if_neg (not_not_intro empty)))), answered_at_take s _ _ e _ _ on (by simp) rfl, ?_⟩
    obtain ⟨slots, _, _, _⟩ := run_parts s (fun _ => (s.quiet.updSlot i fun x => { x with definition := some d }).answerAtTake
      e.cell .ok (slotCountData i 0 (s.slot i).generation)) on
    refine ⟨(slots i).trans (by simp), fun j other => (slots j).trans (by simp [other]), ?_⟩
    simp [run_frame _ _ on]

/-! ## SLOT_QUERY (R31) -/

/-- The set of the bays of the claims of one sort. -/
theorem claimBays_getLsbD (orphan : Bool) (claims : List Claim) (b : BayId) :
    (claimBays orphan claims).getLsbD b.val = claims.any fun c => decide (c.bay = b) && (c.orphan == orphan) := by
  have bit : ∀ b c : BayId, (bayBit c).getLsbD b.val = decide (c = b) := by decide
  have fold (set : BitVec 8) :
      (claims.foldl (fun set c => if c.orphan = orphan then set ||| bayBit c.bay else set) set).getLsbD b.val =
        (set.getLsbD b.val || claims.any fun c => decide (c.bay = b) && (c.orphan == orphan)) := by
    induction claims generalizing set with
    | nil => simp
    | cons c rest ih =>
      rw [List.foldl_cons, ih, List.any_cons]
      by_cases sort : c.orphan = orphan
      · rw [if_pos sort, BitVec.getLsbD_or, bit, sort, beq_self_eq_true, Bool.and_true, Bool.or_assoc]
      · rw [if_neg sort, beq_eq_false_iff_ne.mpr sort, Bool.and_false, Bool.false_or]
  rw [claimBays, fold]
  simp

/-- Settles O20: the answer is read field by field. -/
theorem slotQueryReportsAndChangesNothing : Obligations.SlotQueryReportsAndChangesNothing := by
  refine ⟨fun s e on inHand => ⟨fun high => ?refused, fun i slot opened => ?answered⟩, fun x y same => ?keys, fun x => ?fields⟩
  case refused => exact refused_at_take_next on (withStoreOrder_refused s.quiet _ e _ _ inHand (slotAt_none _ _ high))
  case answered =>
    exact answered_at_take_next on (withStoreOrder_inHand s.quiet _ e _ _ i inHand (slotAt_some _ _ i slot) opened)
  case keys =>
    rw [← same]
    rfl
  case fields =>
    refine ⟨rfl, rfl, fun undefined => ?_, fun ksi direct limit mask n base => ?_, fun mask n transport => ?_, rfl, rfl, ?_, fun b => ?_,
      rfl, rfl, rfl⟩
    · simp only [Slot.queryData, undefined]
      exact ⟨rfl, rfl, rfl⟩
    · simp only [Slot.queryData, base]
      exact ⟨rfl, rfl, rfl⟩
    · simp only [Slot.queryData, transport]
      exact ⟨rfl, rfl, rfl⟩
    · rfl
    · refine ⟨(claimBays_getLsbD false x.claims b).trans ?_, (claimBays_getLsbD true x.claims b).trans ?_⟩ <;> simp

/-! ## Erases (R33 to R35) -/

/-- A slot stands in the write queue, or its write has started. -/
theorem queueWrite_waits (s : State) (i : SlotId) :
    i ∈ (s.queueWrite i).ks.writeQueue ∨ (s.queueWrite i).ks.arrayWrite = some i := by
  unfold State.queueWrite State.kickArray
  split
  · simp
  · split
    next none =>
      simp at none
    next j rest queue =>
      simp only [updKs_ks] at queue ⊢
      cases before : s.ks.writeQueue with
      | nil =>
        rw [before] at queue
        obtain ⟨rfl, rfl⟩ := List.cons.inj queue
        exact .inr rfl
      | cons k more =>
        rw [before] at queue
        obtain ⟨rfl, rfl⟩ := List.cons.inj queue
        simp

/-- The answer of an erase takes its order from the slot and nothing else. -/
theorem answerErase_slot (s : State) (i : SlotId) (r : Result) : (s.answerErase i r).slot i =
    { s.slot i with eraseOrder := none, discarded := if (s.slot i).eraseOrder = none then (s.slot i).discarded else 0 } := by
  unfold State.answerErase
  split
  next none => simp [← none]
  next cell some => simp [some]

theorem answerErase_completes {s : State} {i : SlotId} {cell : Nat} (order : (s.slot i).eraseOrder = some cell) (r : Result) :
    s.completes (s.answerErase i r) cell r (slotCountData i (s.slot i).discarded (s.slot i).generation) := by
  unfold State.answerErase
  rw [order]
  exact completed_listed s _ _ _ _ rfl

theorem beginErase_persistent {s : State} {i : SlotId} (low : i.val < 48) : s.beginErase i =
    (s.updSlot i fun x => { x.erased with state := .writing, target := some .empty }).queueWrite i := by
  simp [State.beginErase, isPersistent, low]

theorem beginErase_volatile {s : State} {i : SlotId} (high : 48 ≤ i.val) : s.beginErase i =
    (s.updSlot i fun x => { x.erased.undefine with stored := .zeros }).answerErase i .ok := by
  simp [State.beginErase, isPersistent, Nat.not_lt.mpr high]

/-- A volatile slot's erase is answered at once, with the orphans it discards (R34, R35). -/
theorem beginErase_completes {s : State} {i : SlotId} {cell : Nat} (high : 48 ≤ i.val) (order : (s.slot i).eraseOrder = some cell) :
    s.completes (s.beginErase i) cell .ok
      ([byteOf i.val, byteOf (s.slot i).claims.length] ++ toLE 2 ((s.slot i).generation + 1).toNat) := by
  have answered := answerErase_completes (s := s.updSlot i fun x => { x.erased.undefine with stored := .zeros }) (i := i) (cell := cell)
    (by rw [updSlot_slot_self]; exact order) .ok
  rw [updSlot_slot_self] at answered
  rw [beginErase_volatile high]
  exact fun inUse => answered (by simpa using inUse)

/-- What the beginning of an erase makes of the slot, persistent or volatile (R34). -/
structure Slot.erasing (i : SlotId) (x y : Slot) : Prop where
  generation : y.generation = x.generation + 1
  claims : y.claims = []
  nextSerial : y.nextSerial = 0
  receipted : y.receipted = 0
  allowance : y.allowance = 0
  keyholders : y.keyholders = []
  checkValue : y.checkValue = none
  holds : y.holds = x.holds
  settle : y.settle = x.settle
  persistent : i.val < 48 → y.state = .writing ∧ y.target = some .empty ∧ y.definition = x.definition ∧ y.eraseOrder = x.eraseOrder
  volatile : 48 ≤ i.val → y.state = .empty ∧ y.definition = none ∧ y.stored = .zeros

theorem beginErase_slot (s : State) (i : SlotId) : Slot.erasing i (s.slot i) ((s.beginErase i).slot i) := by
  obtain low | high := Nat.lt_or_ge i.val 48
  · rw [beginErase_persistent low]
    constructor <;> simp [Slot.erased]
    omega
  · rw [beginErase_volatile high]
    constructor <;> simp [answerErase_slot, Slot.erased, Slot.undefine]
    omega

theorem State.watchesFire.answerErase {r s : State} {recognised : Option (BayId × Edge)} (h : r.watchesFire s recognised) (i : SlotId)
    (result : Result) : r.watchesFire (s.answerErase i result) recognised := by
  refine h.same (states := fun j => ?_) (allowances := fun j => ?_)
  all_goals
    by_cases own : j = i
    · subst own
      rw [answerErase_slot]
    · simp [own]

/-- An erase fires the watches of the slot's state and of its allowance (R172, R173): a slot that it finds in another state than the
chain did has changed for good. -/
theorem State.watchesFire.beginErase {r s : State} {recognised : Option (BayId × Edge)} (h : r.watchesFire s recognised) (i : SlotId)
    (drained : (r.slot i).state = .ready ∨ (r.slot i).state = .draining)
    (state : (s.slot i).state = (r.slot i).state ∨ (s.slot i).state ≠ (r.slot i).state)
    (allowance : (s.slot i).allowance = (r.slot i).allowance) : r.watchesFire (s.beginErase i) recognised := by
  have elsewhere {x : SlotState} (ends : x = .writing ∨ x = .empty) : x ≠ (r.slot i).state := by
    obtain rfl | rfl := ends <;> obtain d | d := drained <;> simp [d]
  obtain low | high := Nat.lt_or_ge i.val 48
  · rw [beginErase_persistent low]
    exact .queueWrite (h.changeSlot i _ (state.imp_right fun moved => ⟨moved, elsewhere (.inl rfl)⟩) allowance) i
  · rw [beginErase_volatile high]
    exact .answerErase (h.changeSlot i _ (state.imp_right fun moved => ⟨moved, elsewhere (.inr rfl)⟩) allowance) i .ok

/-! ## SLOT_ERASE (R32) -/

theorem drained_iff (x : Slot) : x.drained = true ↔ x.holds = 0 ∧ ∀ c ∈ x.claims, c.orphan = true := by
  simp [Slot.drained]

/-- The slot as a SLOT_ERASE sends it into DRAINING (R32). -/
def Slot.draining (x : Slot) (e : Entry) : Slot := { x with state := .draining, force := e.flags.getLsbD 0, eraseOrder := some e.cell }

theorem testDrain_waits {s : State} {i : SlotId} (kept : (s.slot i).state ≠ .draining ∨ (s.slot i).drained = false) : s.testDrain i = s := by
  refine if_neg fun ⟨draining, drained⟩ => ?_
  obtain other | held := kept
  · exact other draining
  · rw [held] at drained
    cases drained

theorem testDrain_erases {s : State} {i : SlotId} (draining : (s.slot i).state = .draining) (drained : (s.slot i).drained = true) :
    s.testDrain i = s.beginErase i := if_pos ⟨draining, drained⟩

theorem beginDrain_waits {s : State} {e : Entry} {i : SlotId} (held : (s.slot i).drained = false) :
    s.beginDrain e i = (s.hold e).updSlot i (·.draining e) :=
  testDrain_waits (s := (s.hold e).updSlot i (·.draining e)) (.inr (by rw [updSlot_slot_self, hold_slot]; exact held))

theorem beginDrain_erases {s : State} {e : Entry} {i : SlotId} (free : (s.slot i).drained = true) :
    s.beginDrain e i = ((s.hold e).updSlot i (·.draining e)).beginErase i :=
  testDrain_erases (s := (s.hold e).updSlot i (·.draining e)) (by rw [updSlot_slot_self]; rfl)
    (by rw [updSlot_slot_self, hold_slot]; exact free)

section
variable {s : State} {e : Entry} {i : SlotId} (on : s.engine ≠ .off) (inHand : s.inHand .slotErase = some e)
  (slot : i.val = byteAt e.params 0) (opened : s.ks.overwrite = none)
include inHand slot opened

theorem exec_slotErase_defined (empty : (s.slot i).state = .empty) (defined : (s.slot i).definition ≠ none) :
    exec .slotErase s = .next (s.run fun _ =>
      (s.quiet.updSlot i fun x => { x with generation := x.generation + 1, definition := none }).answerAtTake e.cell .ok
        (slotCountData i 0 ((s.slot i).generation + 1))) := by
  obtain ⟨d, definition⟩ := Option.ne_none_iff_exists'.mp defined
  refine next_run_eq ((withStoreOrder_inHand s.quiet _ e _ _ i inHand (slotAt_some _ _ i slot) opened).trans ?_)
  simp only [quiet_slot, empty, definition]

theorem exec_slotErase_drains (ready : (s.slot i).state = .ready) (unsettled : (s.slot i).settle = none)
    (allowed : (s.slot i).hasOrphan = false ∨ e.flags.getLsbD 0 = true) :
    exec .slotErase s = .next (s.run fun _ => s.quiet.beginDrain e i) := by
  refine next_run_eq ((withStoreOrder_inHand s.quiet _ e _ _ i inHand (slotAt_some _ _ i slot) opened).trans ?_)
  simp only [quiet_slot, ready, unsettled]
  rw [if_neg]
  obtain none | forced := allowed <;> simp_all

include on in
theorem exec_slotErase_refused (refused : ((s.slot i).state = .empty ∧ (s.slot i).definition = none) ∨ (s.slot i).state = .assembling ∨
      (s.slot i).state = .writing ∨ (s.slot i).state = .draining ∨
      ((s.slot i).state = .ready ∧ ((s.slot i).settle ≠ none ∨ ((s.slot i).hasOrphan = true ∧ e.flags.getLsbD 0 = false)))) :
    ∃ t, exec .slotErase s = .next t ∧ s.answersAtTake t e .refusedState [] ∧ s.sameOutsideIntake t := by
  refine refused_at_take_next on ((withStoreOrder_inHand s.quiet _ e _ _ i inHand (slotAt_some _ _ i slot) opened).trans ?_)
  obtain ⟨state, undefined⟩ | state | state | state | ⟨state, kept⟩ := refused
  · simp only [quiet_slot, state, undefined]
  · simp only [quiet_slot, state]
  · simp only [quiet_slot, state]
  · simp only [quiet_slot, state]
  · simp only [quiet_slot, state]
    exact if_pos (kept.imp_left Option.ne_none_iff_isSome.mp)

end

/-- Settles O21. -/
theorem slotEraseByRule : Obligations.SlotEraseByRule := by
  refine ⟨fun s e on inHand => ⟨fun high => ?field, fun i slot opened refused => exec_slotErase_refused on inHand slot opened refused⟩,
    fun s e i on opened inHand slot => ⟨fun empty defined => ?empty, fun ready unsettled allowed => ⟨fun held => ?held,
      fun free orphans => ?erased⟩⟩⟩
  case field => exact refused_at_take_next on (withStoreOrder_refused s.quiet _ e _ _ inHand (slotAt_none _ _ high))
  case empty =>
    refine ⟨_, exec_slotErase_defined inHand slot opened empty defined, answered_at_take s _ _ e _ _ on (by simp) rfl, ?_⟩
    obtain ⟨slots, _, _, _⟩ := run_parts s (fun _ =>
      (s.quiet.updSlot i fun x => { x with generation := x.generation + 1, definition := none }).answerAtTake e.cell .ok
        (slotCountData i 0 ((s.slot i).generation + 1))) on
    refine ⟨(slots i).trans (by simp), fun j other => (slots j).trans (by simp [other]),
      .run on (.answerAtTake ((State.watchesFire.refl _).updSlot i _ rfl rfl) _ _ _) (by simp), ?_⟩
    simp [run_frame _ _ on]
  case held =>
    have kept : (s.quiet.slot i).drained = false := by
      rw [Bool.eq_false_iff, Ne, drained_iff]
      rintro ⟨free, orphans⟩
      obtain some | ⟨c, mem, live⟩ := held
      · exact some free
      · simp [orphans c mem] at live
    refine ⟨_, exec_slotErase_drains inHand slot opened ready unsettled allowed, ?_⟩
    rw [beginDrain_waits kept]
    obtain ⟨slots, _, _, _⟩ := run_parts s (fun _ => (s.quiet.hold e).updSlot i (·.draining e)) on
    refine ⟨(slots i).trans (by simp [Slot.draining]), fun j other => (slots j).trans (by simp [other]),
      .run on (((State.watchesFire.refl s.quiet).hold e).updSlot i _ (by simp) (by simp)) (by simp), ?_⟩
    simp [run_frame _ _ on, State.hold, State.setCondition]
  case erased =>
    have drained : (s.quiet.slot i).drained = true := (drained_iff _).mpr ⟨free, orphans⟩
    refine ⟨_, exec_slotErase_drains inHand slot opened ready unsettled allowed, ?_⟩
    rw [beginDrain_erases drained]
    have erase := beginErase_slot ((s.quiet.hold e).updSlot i (·.draining e)) i
    rw [updSlot_slot_self] at erase
    obtain ⟨slots, _, _, _⟩ := run_parts s (fun _ => ((s.quiet.hold e).updSlot i (·.draining e)).beginErase i) on
    rw [slots i]
    refine ⟨erase.generation, erase.claims, erase.nextSerial, erase.receipted, erase.allowance,
      erase.keyholders, erase.checkValue, fun j other => (slots j).trans (by simp [other]), .run on ?watches (by simp), ?_, ?_, ?_, ?_,
      fun low => ?persistent, fun high => ?volatile⟩
    case watches =>
      exact (((State.watchesFire.refl s.quiet).hold e).updSlot i _ (by simp) (by simp)).beginErase i
        (by simp [ready]) (by simp [ready, Slot.draining]) (by simp [Slot.draining])
    case persistent =>
      obtain ⟨state, target, definition, order⟩ := erase.persistent low
      refine ⟨state, target, definition, order, ?_⟩
      simp only [run_frame _ _ on]
      rw [beginErase_persistent low]
      exact queueWrite_waits _ _
    case volatile =>
      obtain ⟨state, definition, stored⟩ := erase.volatile high
      refine ⟨state, definition, stored, fun inUse => ?_⟩
      simp only [run_frame _ _ on]
      have answered := beginErase_completes (s := (s.quiet.hold e).updSlot i (·.draining e)) (cell := e.cell) high
        (by rw [updSlot_slot_self]; rfl)
      rw [updSlot_slot_self] at answered
      exact answered inUse
    all_goals simp [run_frame _ _ on]

end Sys2Proof.Machine
end

section

set_option Elab.async false

/-!
SUPPORT. Frames to the consoles (R62), ALLOWANCE_GRANT and CLAIMS_SETTLE (R55, R57, R58).
-/

namespace Sys2Proof.Machine

/-! ## Frames to the consoles (R62) -/

/-- A console once a frame has been produced for it. -/
def Console.given (x : Console) (m : ConsoleMessage) : Console :=
  if x.sending.isNone then { x with sending := some m, seq := x.seq + 1 }
  else if x.queue.length < 8 then { x with queue := x.queue ++ [m] }
  else x

theorem Console.given_sending {x : Console} (free : x.sending = none) (m : ConsoleMessage) : (x.given m).sending = some m := by
  simp [Console.given, free]

theorem Console.given_queue {x : Console} (busy : x.sending ≠ none) (room : x.queue.length < 8) (m : ConsoleMessage) :
    (x.given m).queue = x.queue ++ [m] := by
  simp [Console.given, busy, room]

theorem Console.given_rest (x : Console) (m : ConsoleMessage) :
    (x.given m).card = x.card ∧ (x.given m).pending = x.pending ∧ (x.given m).receiver = x.receiver := by
  unfold Console.given
  split_ifs <;> exact ⟨rfl, rfl, rfl⟩

theorem toConsole_console (s : State) (c d : ConsoleId) (m : ConsoleMessage) :
    (s.toConsole c m).console d = if d = c then (s.console c).given m else s.console d := by
  unfold State.toConsole State.beginConsole Console.given
  split_ifs with own <;> simp_all [updConsole_console]

/-- Every console is given the frame once. -/
theorem toConsoles_console (s : State) (c : ConsoleId) (m : ConsoleMessage) : (s.toConsoles m).console c = (s.console c).given m := by
  unfold State.toConsoles
  simp only [toConsole_console]
  match c with
  | 0 => rfl
  | 1 => rfl
  | 2 => rfl

theorem toConsoles_sends (s : State) (c : ConsoleId) (m : ConsoleMessage) : s.sends (s.toConsoles m) c m := by
  unfold State.sends
  rw [toConsoles_console]
  exact ⟨fun free => Console.given_sending free m, fun busy room => Console.given_queue busy room m⟩

/-! ## ALLOWANCE_GRANT (R57, R58) -/

theorem grant?_eq_none_iff (p : List Byte) : grant? p = none ↔ 63 < byteAt p 0 ∨ numberAt p 4 4 = 0 ∨ 65536 < numberAt p 4 4 := by
  have slot := slotAt_eq_none_iff p 0
  unfold grant?
  dsimp only
  split
  next absent => simp [slot.mp absent]
  next i found =>
    rw [found] at slot
    simp only [reduceCtorEq, false_iff] at slot
    split <;> simp only [reduceCtorEq, true_iff, false_iff] <;> omega

theorem grant?_eq_some {p : List Byte} {i : SlotId} (slot : i.val = byteAt p 0) (low : 1 ≤ numberAt p 4 4)
    (high : numberAt p 4 4 ≤ 65536) : grant? p = some (i, numberAt p 4 4) := by
  unfold grant?
  rw [slotAt_some p 0 i slot]
  exact if_neg (by omega)

section
variable {s : State} {e : Entry} {i : SlotId} (inHand : s.inHand .allowanceGrant = some e)
  (slot : i.val = byteAt e.params 0) (low : 1 ≤ numberAt e.params 4 4) (high : numberAt e.params 4 4 ≤ 65536)
  (opened : s.ks.overwrite = none)
include inHand slot low high opened

theorem exec_allowanceGrant : exec .allowanceGrant s = .next (s.run fun _ =>
    if (s.slot i).isTransport then s.quiet.refuseAtTake e .refusedClass
    else if (s.slot i).state ≠ .ready then s.quiet.refuseAtTake e .refusedState
    else if (s.slot i).freeLimit < numberAt e.params 4 4 then s.quiet.requestApproval e i (numberAt e.params 4 4)
    else (s.quiet.applyGrant i (numberAt e.params 4 4)).answerAtTake e.cell .ok
      ((s.slot i).grantAnswer i (numberAt e.params 4 4))) :=
  next_run_eq (withStoreOrder_inHand s.quiet _ e _ _ (i, numberAt e.params 4 4) inHand (grant?_eq_some slot low high) opened)

end

theorem requestApproval_busy {s : State} (occupied : s.ceu.record ≠ .empty) (e : Entry) (i : SlotId) (amount : Nat) :
    s.requestApproval e i amount = s.refuseAtTake e .ceremonyBusy := if_neg occupied

theorem requestApproval_opens {s : State} (free : s.ceu.record = .empty) (e : Entry) (i : SlotId) (amount : Nat) :
    s.requestApproval e i amount =
      (((s.hold e).updKs fun k => { k with grant := some { order := e.cell, slot := i, amount, generation := (s.slot i).generation } }).updCeu
        fun u => { u with record := .approval { slot := i, amount, keyholders := (s.slot i).keyholders,
                                                generation := (s.slot i).generation, window := s.timer 120000 } }).toConsoles
        (.approvalOpen i amount) := if_pos free

theorem State.watchesFire.requestApproval {r s : State} {recognised : Option (BayId × Edge)} (h : r.watchesFire s recognised) (e : Entry)
    (i : SlotId) (amount : Nat) : r.watchesFire (s.requestApproval e i amount) recognised := by
  unfold State.requestApproval
  split
  · exact .toConsoles (.updCeu (.updKs (h.hold e) _) _) _
  · exact h.answerAtTake _ _ _

/-- Settles O22. -/
theorem allowanceGrantByRule : Obligations.AllowanceGrantByRule := by
  refine ⟨fun s e on inHand => ⟨fun bad => ?field, fun i slot low high opened => ⟨fun transport => ?cls, fun base notReady => ?state,
    fun base ready free => ?within⟩⟩, fun s e i on opened inHand slot low high base ready above => ⟨fun occupied => ?busy,
    fun free => ?approval⟩⟩
  case field =>
    exact refused_at_take_next on (withStoreOrder_refused s.quiet _ e _ _ inHand ((grant?_eq_none_iff _).mpr bad))
  case cls =>
    rw [exec_allowanceGrant inHand slot low high opened]
    exact refused_at_take_next on (if_pos transport)
  case state =>
    rw [exec_allowanceGrant inHand slot low high opened]
    exact refused_at_take_next on ((if_neg (by simp [base])).trans (if_pos notReady))
  case within =>
    rw [exec_allowanceGrant inHand slot low high opened, base, if_neg Bool.false_ne_true, if_neg (not_not_intro ready),
      if_neg (Nat.not_lt.mpr free)]
    obtain ⟨slots, _, _, _⟩ := run_parts s (fun _ => (s.quiet.applyGrant i (numberAt e.params 4 4)).answerAtTake e.cell .ok
      ((s.slot i).grantAnswer i (numberAt e.params 4 4))) on
    have granted : (s.quiet.applyGrant i (numberAt e.params 4 4)).slot i = { s.slot i with
        allowance := (s.slot i).allowance + (s.slot i).granted (numberAt e.params 4 4) } := updSlot_slot_self _ _ _
    refine ⟨_, rfl, (slots i).trans (by simp [granted, Slot.granted]), fun j other => (slots j).trans (by simp [other]),
      .run on (.answerAtTake ((State.watchesFire.refl s.quiet).updSlot i _ rfl rfl) _ _ _) (by simp), ?_, ?_⟩
    · refine answered_at_take s (s.quiet.applyGrant i (numberAt e.params 4 4)) _ e _ _ on (by simp) ?_
      rw [slots i]
      simp [granted, Slot.grantAnswer, grantData, Slot.granted]
    · simp [run_frame _ _ on]
  case busy =>
    rw [exec_allowanceGrant inHand slot low high opened, base, if_neg Bool.false_ne_true, if_neg (not_not_intro ready), if_pos above]
    exact refused_at_take_next on (requestApproval_busy (s := s.quiet) occupied e i _)
  case approval =>
    rw [exec_allowanceGrant inHand slot low high opened, base, if_neg Bool.false_ne_true, if_neg (not_not_intro ready), if_pos above]
    have opens := requestApproval_opens (s := s.quiet) free e i (numberAt e.params 4 4)
    obtain ⟨_, _, _, consoles⟩ := run_parts s (fun _ => s.quiet.requestApproval e i (numberAt e.params 4 4)) on
    refine ⟨_, rfl, ?_, ?_, fun k free => ?_, fun k busy room => ?_,
      .run on ((State.watchesFire.refl s.quiet).requestApproval e i _) (by simp), ?_⟩
    · simp [run_frame _ _ on, opens, State.timer]
    · simp [run_frame _ _ on, opens]
    · rw [consoles, opens, toConsoles_console]
      exact Console.given_sending free _
    · rw [consoles, opens, toConsoles_console]
      exact Console.given_queue busy room _
    · simp [run_frame _ _ on]

/-! ## CLAIMS_SETTLE (R55) -/

/-- The settle in the slot once `entered` more orphans have been entered and `remaining` are left. -/
def Settle.after (t : Settle) (entered remaining : List Claim) : Settle :=
  { t with remaining, unclosed := t.unclosed ++ entered, entered := t.entered + entered.length }

theorem updSettle_slot {s : State} {i : SlotId} {t : Settle} (settle : (s.slot i).settle = some t) (f : Settle → Settle) :
    (s.updSettle i f).slot i = { s.slot i with settle := some (f t) } := by
  simp [State.updSettle, settle]

/-- Outside STOPPING a settle with an orphan entered and not closed goes on. -/
theorem testSettle_waits {s : State} {i : SlotId} {t : Settle} (settle : (s.slot i).settle = some t) (engine : s.engine ≠ .stopping)
    (unclosed : t.unclosed ≠ []) : s.testSettle i = s := by
  unfold State.testSettle
  rw [settle]
  simp [unclosed, engine]

theorem enterReceipt_queue (s : State) (r : Receipt) :
    (s.enterReceipt r).writer.queue = s.writer.queue ++ [{ r with time := s.clock }] := by
  unfold State.enterReceipt
  dsimp only
  split <;> rfl

/-- The receipts of some orphans of a slot, with the time of their entry. -/
def Slot.settleReceipts (x : Slot) (i : SlotId) (tag : BitVec 32) (time : BitVec 32) (l : List Claim) : List Receipt :=
  l.map fun c => { x.settleReceipt i tag c with time := time }

/-- With room for all, every orphan's receipt is entered in the one command. -/
theorem submitSettle_enters {i : SlotId} (l : List Claim) {s : State} {t : Settle} (settle : (s.slot i).settle = some t)
    (engine : s.engine ≠ .stopping) (room : s.writer.queue.length + l.length ≤ 16) (some : t.unclosed ++ l ≠ []) :
    (State.submitSettle i l s).slot i = { s.slot i with settle := .some (t.after l []) } ∧
    (State.submitSettle i l s).writer.queue = s.writer.queue ++ (s.slot i).settleReceipts i t.tag s.clock l ∧
    (State.submitSettle i l s).writer.line = s.writer.line := by
  induction l generalizing s t with
  | nil =>
    have slot := updSettle_slot settle fun t => { t with remaining := [] }
    have waits := testSettle_waits (s := s.updSettle i fun t => { t with remaining := [] }) (i := i) (by rw [slot]) (by simpa using engine)
      (by simpa using some)
    rw [State.submitSettle, waits, slot]
    simp [Settle.after, Slot.settleReceipts]
  | cons c rest ih =>
    have hasRoom : s.queueHasRoom = true := by
      simp only [List.length_cons] at room
      simp only [State.queueHasRoom, decide_eq_true_eq]
      omega
    rw [State.submitSettle]
    simp only [hasRoom, if_true, settle]
    have entered : (((s.settleEntered i c).enterReceipt ((s.slot i).settleReceipt i t.tag c)).slot i) =
        { s.slot i with settle := .some { t with unclosed := t.unclosed ++ [c], entered := t.entered + 1 } } := by
      simp [State.settleEntered, updSettle_slot settle]
    have queue : ((s.settleEntered i c).enterReceipt ((s.slot i).settleReceipt i t.tag c)).writer.queue =
        s.writer.queue ++ [{ (s.slot i).settleReceipt i t.tag c with time := s.clock }] := by
      rw [enterReceipt_queue]
      simp
    obtain ⟨slot, receipts, line⟩ := ih (s := (s.settleEntered i c).enterReceipt ((s.slot i).settleReceipt i t.tag c))
      (by rw [entered]) (by simpa using engine) (by rw [queue, List.length_append]; simp only [List.length_cons, List.length_nil] at room ⊢; omega) (by simp)
    rw [slot, receipts, line, entered, queue]
    refine ⟨?_, ?_, by simp⟩
    · simp only [Settle.after, List.append_assoc, List.cons_append, List.nil_append, List.length_cons, Nat.add_assoc,
        Nat.add_comm 1]
    · simp [Slot.settleReceipts, Slot.settleReceipt, Slot.ksi]

theorem submitSettle_waits {i : SlotId} {c : Claim} {rest : List Claim} {s : State} {t : Settle} (settle : (s.slot i).settle = some t)
    (full : s.writer.queue.length = 16) (inUse : s.intake.area.isSome = true) :
    State.submitSettle i (c :: rest) s = (s.updSettle i fun t => { t with remaining := rest }).waitInLine
      { submitter := .settle i, receipt := (s.slot i).settleReceipt i t.tag c } := by
  rw [State.submitSettle]
  simp [State.queueHasRoom, full, inUse, settle]

theorem waitInLine_line (s : State) (x : Submission) : (s.waitInLine x).writer.line = s.writer.line ++ [x] := by
  unfold State.waitInLine
  dsimp only
  split <;> simp

theorem exists_orphan {x : Slot} (orphan : x.hasOrphan = true) : x.claims.filter (·.orphan) ≠ [] := by
  simpa [Slot.hasOrphan, List.filter_eq_nil_iff] using orphan

/-- The slot as a CLAIMS_SETTLE finds its orphans and marks it (R55). -/
def Slot.settling (x : Slot) (e : Entry) : Slot :=
  { x with settle := some { order := some e.cell, tag := e.tag, remaining := x.claims.filter (·.orphan), unclosed := [], entered := 0 } }

theorem beginSettle_eq (s : State) (e : Entry) (i : SlotId) :
    s.beginSettle e i = State.submitSettle i ((s.slot i).claims.filter (·.orphan)) ((s.hold e).updSlot i (·.settling e)) := rfl

section
variable {s : State} {e : Entry} {i : SlotId} (inHand : s.inHand .claimsSettle = some e) (slot : i.val = byteAt e.params 0)
  (opened : s.ks.overwrite = none)
include inHand slot opened

theorem exec_claimsSettle : exec .claimsSettle s = .next (s.run fun _ =>
    if (s.slot i).settle.isSome = true ∨ (s.slot i).state ≠ .ready then s.quiet.refuseAtTake e .refusedState
    else if (s.slot i).hasOrphan then s.quiet.beginSettle e i
    else s.quiet.answerAtTake e.cell .ok (slotCountData i 0 (s.slot i).generation)) :=
  next_run_eq (withStoreOrder_inHand s.quiet _ e _ _ i inHand (slotAt_some _ _ i slot) opened)

theorem exec_claimsSettle_begins (unsettled : (s.slot i).settle = none) (ready : (s.slot i).state = .ready)
    (orphan : (s.slot i).hasOrphan = true) : exec .claimsSettle s = .next (s.run fun _ => s.quiet.beginSettle e i) := by
  rw [exec_claimsSettle inHand slot opened, if_neg (by simp [unsettled, ready]), if_pos orphan]

end

/-- Settles O23. -/
theorem claimsSettleByRule : Obligations.ClaimsSettleByRule := by
  intro s e engine inHand
  have on : s.engine ≠ .off := by simp [engine]
  refine ⟨fun high => ?field, fun i slot opened => ⟨fun refused => ?state, fun unsettled ready none => ?nothing,
    fun unsettled ready orphan => ⟨fun room => ?room, fun full inUse => ?full⟩⟩⟩
  case field => exact refused_at_take_next on (withStoreOrder_refused s.quiet _ e _ _ inHand (slotAt_none _ _ high))
  case state =>
    rw [exec_claimsSettle inHand slot opened, if_pos (refused.imp_left Option.ne_none_iff_isSome.mp)]
    exact refused_at_take_next on rfl
  case nothing =>
    rw [exec_claimsSettle inHand slot opened, if_neg (by simp [unsettled, ready]), none, if_neg Bool.false_ne_true]
    exact answered_at_take_next on rfl
  case room =>
    rw [exec_claimsSettle_begins inHand slot opened unsettled ready orphan]
    obtain ⟨slots, _, _, _⟩ := run_parts s (fun _ => s.quiet.beginSettle e i) on
    rw [beginSettle_eq, quiet_slot] at slots
    obtain ⟨slotAfter, queue, line⟩ := submitSettle_enters ((s.slot i).claims.filter (·.orphan))
      (s := (s.quiet.hold e).updSlot i (·.settling e)) (i := i) (by rw [updSlot_slot_self]; rfl) (by simp [engine])
      (by simpa using room) (by simpa [Slot.settling] using exists_orphan orphan)
    refine ⟨_, rfl, ?_, (slots i).trans (slotAfter.trans ?_), fun j other => (slots j).trans (by simp [other]), ?_⟩
    · simp only [run_frame _ _ on]
      refine queue.trans ?_
      rw [updSlot_slot_self]
      rfl
    · rw [updSlot_slot_self]
      simp [Settle.after, Slot.settling]
    · simp only [run_frame _ _ on]
      refine ⟨line.trans (by simp), ?_⟩
      simp
  case full =>
    rw [exec_claimsSettle_begins inHand slot opened unsettled ready orphan]
    obtain ⟨slots, _, _, _⟩ := run_parts s (fun _ => s.quiet.beginSettle e i) on
    obtain ⟨c, rest, orphans⟩ := List.exists_cons_of_ne_nil (exists_orphan orphan)
    have effect : s.quiet.beginSettle e i = (((s.quiet.hold e).updSlot i (·.settling e)).updSettle i
        fun t => { t with remaining := rest }).waitInLine
        { submitter := .settle i, receipt := ((s.slot i).settling e).settleReceipt i e.tag c } := by
      have waits := submitSettle_waits (s := (s.quiet.hold e).updSlot i (·.settling e)) (i := i) (c := c) (rest := rest)
        (by rw [updSlot_slot_self]; rfl) (by simpa using full) (by simpa [Option.isSome_iff_ne_none] using inUse)
      rw [beginSettle_eq, quiet_slot, orphans, waits, updSlot_slot_self]
      rfl
    refine ⟨_, c, rest, rfl, orphans, (slots i).trans ?_, ?_, ?_, ?_, fun j other => (slots j).trans (by simp [other]), ?_⟩
    · rw [effect]
      simp [State.updSettle, Slot.settling]
    all_goals simp only [run_frame _ _ on]
    · rw [effect]
      simp
    · rw [effect, waitInLine_line]
      simp
    · rw [effect, waitInLine_line]
      simp
    · simp

end Sys2Proof.Machine
end

section

set_option Elab.async false

/-!
SUPPORT. The resets, main power, and the end of the start-up load (R4, R8, R42, R44, R45, R106, R153, R158, R160).
-/

namespace Sys2Proof.Machine

/-! ## Entry to TAMPERED (R9) -/

theorem enterTampered_engine (s : State) : s.enterTampered.engine = .tampered := by simp [State.enterTampered]

/-- Flags that are set stay set as the open orders get their answers. -/
theorem tamperIntake_flags (s : State) {k : Nat} (set : s.events.flags.getLsbD k = true) :
    s.tamperIntake.events.flags.getLsbD k = true := by
  unfold State.tamperIntake
  split
  · dsimp only
    split <;> simpa using set
  · have grown : s.Grows (s.updIntake fun k => { k with atTake := none, answers := k.answers }) :=
      (State.Grows.refl s).updIntake _
    have lost (t : State) (l : List Nat) (kept : t.events.flags.getLsbD k = true) :
        (l.foldl State.answered t).events.flags.getLsbD k = true :=
      ((State.Grows.refl t).foldl (fun cell h => h.answered cell) l).flags k kept
    exact lost _ _ set

theorem enterTampered_flags (s : State) {k : Nat} (set : s.events.flags.getLsbD k = true) :
    s.enterTampered.events.flags.getLsbD k = true :=
  tamperIntake_flags _ (by simp [set])

theorem enterTampered_hasFlag (s : State) : s.enterTampered.hasFlag .tamper := by
  have raised := State.hasFlag_raise { s with engine := .tampered } .tamper
  rw [State.hasFlag_iff] at raised ⊢
  obtain ⟨k, set, own⟩ := raised
  exact ⟨k, tamperIntake_flags _ set, own⟩

/-! ## The end of the load (R4, R106, R160) -/

/-- The timer a presence recogniser arms at the end of the load. -/
def State.wakeTimer (s : State) : Timer := s.timer (s.profile 0).settleTime

theorem endLoad_bay (s : State) (b : BayId) : s.endLoad.bay b = { s.bay b with link := (s.bay b).link.wake s.wakeTimer } := by
  unfold State.endLoad
  dsimp only
  split
  · split <;> simp [State.bay, State.wakeTimer]
  · simp [State.bay, State.wakeTimer]

theorem endLoad_prof (s : State) : s.endLoad.prof = { s.prof with load := none } := by
  unfold State.endLoad
  dsimp only
  split
  · split <;> simp
  · rfl

theorem endLoad_standby {s : State} (clear : s.ks.latch = false) : s.endLoad.engine = .standby ∧ s.endLoad.events = s.events := by
  unfold State.endLoad
  simp [clear]

theorem endLoad_tampered {s : State} (set : s.ks.latch = true) : s.endLoad.engine = .tampered ∧ s.endLoad.hasFlag .tamper := by
  unfold State.endLoad
  simp only [set, if_true]
  exact ⟨enterTampered_engine _, enterTampered_hasFlag _⟩

theorem endLoad_flags (s : State) {k : Nat} (set : s.events.flags.getLsbD k = true) : s.endLoad.events.flags.getLsbD k = true := by
  unfold State.endLoad
  dsimp only
  split
  · refine enterTampered_flags _ ?_
    split <;> simpa using set
  · exact set

theorem endLoad_hasFlag {s : State} {f : Flag} (set : s.hasFlag f) : s.endLoad.hasFlag f := by
  rw [State.hasFlag_iff] at set ⊢
  obtain ⟨k, own, bit⟩ := set
  exact ⟨k, endLoad_flags s own, bit⟩

theorem Link.wake_eq (l : Link) (timer : Timer) : l.wake timer =
    { l with presence := if l.input then .settling else .absent, presenceTimer := if l.input then some timer else none } := by
  unfold Link.wake
  split <;> rfl

theorem endLoad_looksAtInput (s : State) (b : BayId) :
    (s.bay b).looksAtInput (s.endLoad.bay b) s.clock s.prof.profiles[(0 : Fin 16)].settleTime := by
  rw [Bay.looksAtInput, endLoad_bay, Link.wake_eq]
  rfl

/-- With no order open entry to TAMPERED leaves the writer alone. -/
theorem enterTampered_writer {s : State} (area : s.intake.area = none) (table : s.intake.table = []) :
    s.enterTampered.writer = s.writer := by
  simp [State.enterTampered, State.tamperIntake, area, table]

theorem endLoad_writer {s : State} (area : s.intake.area = none) (table : s.intake.table = []) : s.endLoad.writer = s.writer := by
  unfold State.endLoad
  dsimp only
  split
  · refine (enterTampered_writer ?_ ?_).trans ?_ <;> split <;> simp [area, table]
  · rfl

/-! ## What a reset finds and leaves (R8, R44, R158) -/

theorem resetBlocks_bay (s : State) (b : BayId) : s.resetBlocks.bay b = Bay.reset (s.bay b).link.input := by
  simp [State.resetBlocks, State.bay]

theorem resetBlocks_slot (s : State) (i : SlotId) : s.resetBlocks.slot i = (s.slot i).reset i s.ks.closure := by
  simp [State.resetBlocks, State.slot, KeyStore.afterReset]

/-- The state of a reset before its load reads the memory: every block at its reset values, the first erase write of the rebuilt queue
under way. -/
def State.blocksReset (s : State) : State := s.resetBlocks.kickArray

theorem resetWith_eq (s : State) (mem : MemoryStart) : s.resetWith mem =
    if mem.status = 0xFF then s.blocksReset.memoryUnreadable
    else if mem.status.getLsbD 0 then s.blocksReset
    else s.blocksReset.memoryReady mem.control := rfl

/-- What every reset leaves of the slots, whatever its load finds. -/
theorem resetWith_slot (s : State) (mem : MemoryStart) (i : SlotId) : (s.resetWith mem).slot i = (s.slot i).reset i s.ks.closure := by
  have blocks : s.blocksReset.slot i = (s.slot i).reset i s.ks.closure := by simp [State.blocksReset, resetBlocks_slot]
  rw [resetWith_eq]
  split_ifs <;> simp [blocks]

theorem resetWith_ks (s : State) (mem : MemoryStart) : (s.resetWith mem).ks = s.blocksReset.ks := by
  rw [resetWith_eq]
  split_ifs <;> simp

theorem exec_reset {s : State} (on : s.engine ≠ .off) (mem : MemoryStart) : exec (.reset mem) s = .next (s.resetWith mem) :=
  congrArg _ (if_neg on)

theorem exec_pcieLinkReset {s : State} (on : s.engine ≠ .off) (mem : MemoryStart) :
    exec (.pcieLinkReset mem) s = .next (s.resetWith mem) := congrArg _ (if_neg on)

theorem exec_resets {s : State} (on : s.engine ≠ .off) {mem : MemoryStart} {c : Instr} (resets : c = .reset mem ∨ c = .pcieLinkReset mem) :
    exec c s = .next (s.resetWith mem) := by
  obtain rfl | rfl := resets
  · exact exec_reset on mem
  · exact exec_pcieLinkReset on mem

/-- The start of a write of the key array touches the key store alone (R26). -/
theorem kickArray_eq (s : State) : s.kickArray = { s with ks := s.kickArray.ks } := by
  unfold State.kickArray
  split
  · rfl
  · split <;> rfl

theorem kickArray_inputs (s : State) : s.kickArray.ks.tmpCase = s.ks.tmpCase ∧ s.kickArray.ks.tmpBatlow = s.ks.tmpBatlow := by
  unfold State.kickArray
  split
  · exact ⟨rfl, rfl⟩
  · split <;> exact ⟨rfl, rfl⟩

theorem blocksReset_eq (s : State) : s.blocksReset = { s.resetBlocks with ks := s.blocksReset.ks } := by
  rw [State.blocksReset, ← kickArray_eq]

theorem blocksReset_ks (s : State) :
    s.blocksReset.ks.requests = [] ∧ s.blocksReset.ks.closure = none ∧ s.blocksReset.ks.grant = none ∧
    (∀ b : BayId, s.blocksReset.ks.deferred[b] = none) ∧ s.blocksReset.ks.latch = s.ks.latch ∧
    s.blocksReset.ks.tmpCase = s.ks.tmpCase ∧ s.blocksReset.ks.tmpBatlow = s.ks.tmpBatlow := by
  have inputs := kickArray_inputs s.resetBlocks
  have own : s.resetBlocks.ks = s.ks.afterReset := rfl
  simp [State.blocksReset, inputs, own, KeyStore.afterReset]

/-- The profile store of a reset whose memory answers: the load waits for it or goes on to the group areas (R158). -/
def State.presentStore (s : State) (mem : MemoryStart) : ProfileStore :=
  if mem.status.getLsbD 0 then s.resetBlocks.prof else { s.resetBlocks.prof with control := mem.control, load := some (.group 0) }

theorem resetWith_present (s : State) {mem : MemoryStart} (present : mem.status ≠ 0xFF) :
    s.resetWith mem = { s.resetBlocks with ks := s.blocksReset.ks, prof := s.presentStore mem } := by
  rw [resetWith_eq, if_neg present, blocksReset_eq]
  unfold State.presentStore
  split <;> rfl

theorem presentStore_values (s : State) (mem : MemoryStart) :
    (∀ p : Fin 16, (s.presentStore mem).profiles[p] = Profile.default) ∧
    (∀ n : Fin 64, (s.presentStore mem).map[n] = MapEntry.unused) ∧ (s.presentStore mem).persist = none ∧
    (mem.status.getLsbD 0 = false → (s.presentStore mem).load = some (.group 0) ∧ (s.presentStore mem).control = mem.control) ∧
    (mem.status.getLsbD 0 = true → (s.presentStore mem).load = some (.waiting { start := 0, interval := 100 })) := by
  cases busy : mem.status.getLsbD 0 <;> rw [State.presentStore, busy] <;> simp [State.resetBlocks, ProfileStore.beginLoad]

/-- What a reset whose memory is absent leaves as its load ends (R158, R160). -/
def State.absentStore (s : State) : State :=
  (s.blocksReset.updProf fun p =>
    { p with groups := Vector.replicate 4 { source := .faulted, changed := false }, control := 0, unreadable := true }).raise
      .profileFault

theorem resetWith_absent (s : State) {mem : MemoryStart} (absent : mem.status = 0xFF) :
    s.resetWith mem = s.absentStore.endLoad := by
  rw [resetWith_eq, if_pos absent]
  rfl

theorem blocksReset_parts (s : State) : s.blocksReset.prof = s.resetBlocks.prof ∧ s.blocksReset.bays = s.resetBlocks.bays ∧
    s.blocksReset.clock = s.resetBlocks.clock ∧ s.blocksReset.intake = s.resetBlocks.intake ∧
    s.blocksReset.writer = s.resetBlocks.writer := by
  rw [blocksReset_eq]
  exact ⟨rfl, rfl, rfl, rfl, rfl⟩

theorem absentStore_parts (s : State) :
    (∀ b : BayId, s.absentStore.bay b = Bay.reset (s.bay b).link.input) ∧ s.absentStore.clock = 0 ∧
    s.absentStore.ks.latch = s.ks.latch ∧ s.absentStore.intake = Intake.reset ∧ s.absentStore.writer = Writer.reset := by
  obtain ⟨-, bays, clock, intake, writer⟩ := blocksReset_parts s
  obtain ⟨-, -, -, -, latch, -⟩ := blocksReset_ks s
  refine ⟨fun b => ?_, ?_, ?_, ?_, ?_⟩
  · rw [← resetBlocks_bay]
    simp [State.absentStore, State.bay, bays]
  · simp [State.absentStore, clock, State.resetBlocks]
  · simpa [State.absentStore] using latch
  · simp [State.absentStore, intake, State.resetBlocks]
  · simp [State.absentStore, writer, State.resetBlocks]

theorem absentStore_prof (s : State) : s.absentStore.prof.unreadable = true ∧
    s.absentStore.prof.groups = Vector.replicate 4 { source := .faulted, changed := false } ∧
    s.absentStore.prof.profiles = Vector.replicate 16 Profile.default ∧
    s.absentStore.prof.map = Vector.replicate 64 MapEntry.unused := by
  obtain ⟨prof, -⟩ := blocksReset_parts s
  simp [State.absentStore, prof, State.resetBlocks, ProfileStore.beginLoad]

/-- Settles O8. -/
theorem resetGivesResetValues : Obligations.ResetGivesResetValues := by
  refine ⟨fun s mem c on present resets => ⟨_, exec_resets on resets, ?answers⟩,
    fun s control c on resets => ⟨_, exec_resets on resets, ?absent⟩⟩
  case answers =>
    rw [resetWith_present s present]
    obtain ⟨requests, closure, grant, deferred, latch, tmpCase, tmpBatlow⟩ := blocksReset_ks s
    refine ⟨rfl, rfl, rfl, rfl, rfl, rfl, rfl, fun n => by simp [State.resetBlocks, EventUnit.reset], rfl, rfl,
      by simp [State.resetBlocks, EventUnit.reset, EventUnit.intPin, EventUnit.request], requests, closure,
      grant, deferred, latch, tmpCase, tmpBatlow, rfl, rfl, rfl, rfl, rfl,
      fun k => by simp [State.console, State.resetBlocks, ComponentUnit.reset, Console.reset], rfl, rfl, fun b => ?_,
      rfl, rfl, rfl, rfl, rfl, rfl, presentStore_values s mem⟩
    have bay := resetBlocks_bay s b
    simp only [State.bay, State.session] at bay ⊢
    rw [bay]
    simp [Bay.reset, Session.reset, Link.reset, Counters.zero]
  case absent =>
    rw [resetWith_absent s rfl]
    obtain ⟨bays, clock, latch, intake, writer⟩ := absentStore_parts s
    obtain ⟨unreadable, groups, profiles, map⟩ := absentStore_prof s
    refine ⟨fun clear => (endLoad_standby (latch.trans clear)).1, fun set => endLoad_tampered (latch.trans set),
      endLoad_hasFlag (State.hasFlag_raise _ _), by rw [endLoad_prof], by rw [endLoad_prof]; exact unreadable,
      fun g => ?_, fun p => ?_, fun n => ?_, fun b => ?_, by simp [clock], by simp [latch], by simp [intake, Intake.reset], ?_⟩
    · rw [endLoad_prof]
      simp [groups]
    · rw [endLoad_prof]
      simp [profiles]
    · rw [endLoad_prof]
      simp [map]
    · simpa [bays, clock, profiles, Profile.default] using endLoad_looksAtInput s.absentStore b
    · rw [endLoad_writer (by rw [intake]; rfl) (by rw [intake]; rfl), writer]
      rfl

/-! ## The slots of a reset (R44, R45, R60, R153) -/

/-- A closure carried out at a reset changes the claims and their count alone (R153). -/
theorem Slot.closedBy_record (x : Slot) (i : SlotId) (c : Option Closure) :
    (x.closedBy i c).state = x.state ∧ (x.closedBy i c).target = x.target ∧ (x.closedBy i c).stored = x.stored ∧
    (x.closedBy i c).keyholders = x.keyholders ∧ (x.closedBy i c).checkValue = x.checkValue := by
  unfold Slot.closedBy
  split
  · split <;> exact ⟨rfl, rfl, rfl, rfl, rfl⟩
  · exact ⟨rfl, rfl, rfl, rfl, rfl⟩

theorem Slot.reset_persistent {i : SlotId} (h : i.val < 48) (x : Slot) (c : Option Closure) :
    x.reset i c = (x.closedBy i c).afterReset := by simp [Slot.reset, isPersistent, h]

theorem Slot.reset_volatile {i : SlotId} (h : 48 ≤ i.val) (x : Slot) (c : Option Closure) :
    x.reset i c = Slot.blank (x.generation + 1) .zeros := by simp [Slot.reset, isPersistent, h]

theorem Slot.keptByReset_afterReset (x : Slot) : x.keptByReset x.afterReset := by
  unfold Slot.keptByReset Slot.afterReset Slot.resetState
  split <;> exact ⟨rfl, rfl, rfl, rfl, rfl, rfl, rfl, rfl⟩

theorem Slot.zeroizedFrom_blank (x : Slot) (stored : StoredKey) : x.zeroizedFrom (Slot.blank (x.generation + 1) stored) :=
  ⟨rfl, rfl, rfl, rfl, rfl, rfl, rfl, rfl, rfl, rfl, rfl, rfl, rfl⟩

theorem Slot.afterReset_ready {x : Slot} (h : x.state = .ready ∨ x.state = .draining) :
    x.afterReset.state = .ready ∧ x.afterReset.stored = x.stored ∧ x.afterReset.checkValue = x.checkValue ∧
    x.afterReset.keyholders = x.keyholders := by
  unfold Slot.afterReset Slot.resetState
  obtain h | h := h <;> simp [h]

theorem Slot.afterReset_empty {x : Slot} (h : x.state = .empty ∨ x.state = .assembling) :
    x.afterReset.state = .empty ∧ x.afterReset.stored = x.stored := by
  unfold Slot.afterReset Slot.resetState
  obtain h | h := h <;> simp [h]

/-- A write of a key cut short leaves no key (R44). -/
theorem Slot.afterReset_store {x : Slot} (writing : x.state = .writing) (store : x.target ≠ some .empty) :
    x.afterReset.state = .empty ∧ x.afterReset.keyholders = [] ∧ x.afterReset.checkValue = none ∧ x.afterReset.stored = .noKey := by
  unfold Slot.afterReset Slot.resetState
  split <;> simp_all

/-- An erase write cut short is done again (R44). -/
theorem Slot.afterReset_erase {x : Slot} (writing : x.state = .writing) (erase : x.target = some .empty) :
    x.afterReset.state = .writing ∧ x.afterReset.target = some .empty := by
  unfold Slot.afterReset Slot.resetState
  simp [writing, erase]

theorem mem_eraseWrites {slots : Vector Slot 64} {i : SlotId} (h : i.val < 48) (writing : slots[i].state = .writing)
    (erase : slots[i].target = some .empty) : i ∈ eraseWrites slots := by
  simp only [Fin.getElem_fin] at writing erase
  simp [eraseWrites, isPersistent, h, writing, erase]

/-- A write in the queue stays there or is the write under way (R26). -/
theorem kickArray_writes {s : State} {i : SlotId} (queued : i ∈ s.ks.writeQueue) :
    i ∈ s.kickArray.ks.writeQueue ∨ s.kickArray.ks.arrayWrite = some i := by
  unfold State.kickArray
  split
  · exact .inl queued
  next =>
    split
    next empty => exact .inl queued
    next j rest line =>
      rw [line, List.mem_cons] at queued
      exact queued.symm.imp id fun own => congrArg some own.symm

theorem resetBlocks_writeQueue (s : State) : s.resetBlocks.ks.writeQueue = eraseWrites s.resetBlocks.ks.slots := by
  simp only [State.resetBlocks, KeyStore.afterReset]

/-- The erase writes a reset finds are queued again, or the first of them is under way (R44). -/
theorem resetWith_erases (s : State) (mem : MemoryStart) {i : SlotId} (h : i.val < 48) (writing : (s.slot i).state = .writing)
    (erase : (s.slot i).target = some .empty) :
    i ∈ (s.resetWith mem).ks.writeQueue ∨ (s.resetWith mem).ks.arrayWrite = some i := by
  have own : s.resetBlocks.ks.slots[i] = (s.slot i).reset i s.ks.closure := resetBlocks_slot s i
  rw [Slot.reset_persistent h] at own
  obtain ⟨state, target, -⟩ := (s.slot i).closedBy_record i s.ks.closure
  obtain ⟨kept, goal⟩ := Slot.afterReset_erase (state.trans writing) (target.trans erase)
  rw [resetWith_ks, State.blocksReset]
  refine kickArray_writes ?_
  rw [resetBlocks_writeQueue]
  exact mem_eraseWrites h (own ▸ kept) (own ▸ goal)

/-- Settles O9. -/
theorem resetOfSlots : Obligations.ResetOfSlots := by
  intro s mem on
  refine ⟨_, exec_reset on mem, exec_pcieLinkReset on mem, fun i h => ?kept, fun i h state => ?ready, fun i h state => ?empty,
    fun i h state target => ?store, fun i h state target => ?erase, fun i h => ?volatile⟩
  all_goals rw [resetWith_slot]
  case volatile =>
    rw [Slot.reset_volatile h]
    exact ⟨Slot.zeroizedFrom_blank _ _, rfl⟩
  all_goals
    rw [Slot.reset_persistent h]
    obtain ⟨sameState, sameTarget, sameStored, sameHolders, sameValue⟩ := (s.slot i).closedBy_record i s.ks.closure
  case kept => exact Slot.keptByReset_afterReset _
  case ready =>
    rw [← sameState] at state
    rw [← sameStored, ← sameValue, ← sameHolders]
    exact Slot.afterReset_ready state
  case empty =>
    rw [← sameState] at state
    rw [← sameStored]
    exact Slot.afterReset_empty state
  case store => exact Slot.afterReset_store (sameState.trans state) (by rwa [sameTarget])
  case erase =>
    obtain ⟨writing, erase⟩ := Slot.afterReset_erase (sameState.trans state) (sameTarget.trans target)
    exact ⟨writing, erase, resetWith_erases s mem h state target⟩

/-! ## Main power (R20, R42) -/

theorem losePower_slot (s : State) (i : SlotId) :
    s.losePower.slot i = (s.slot i).unpowered i (decide (s.ks.arrayWrite = some i)) := by
  simp [State.losePower, State.slot]

/-- The battery domain keeps the record of a persistent slot (R20). -/
theorem Slot.unpowered_persistent {i : SlotId} (h : i.val < 48) (x : Slot) (writing : Bool) : x.unpowered i writing =
    { x with holds := 0, settle := x.settle.map fun v => { v with order := none, remaining := [] }, committed := none,
             eraseOrder := none, discarded := 0, stored := if writing then .noKey else x.stored } := by
  simp [Slot.unpowered, isPersistent, h]

theorem Slot.unpowered_generation (x : Slot) (i : SlotId) (writing : Bool) : (x.unpowered i writing).generation = x.generation := by
  unfold Slot.unpowered
  split <;> rfl

/-- A persistent slot whose main power was lost keeps what a reset keeps (R20, R44). -/
theorem Slot.reset_unpowered {i : SlotId} (h : i.val < 48) (x : Slot) (writing : Bool) :
    x.keptByReset ((x.unpowered i writing).reset i none) := by
  rw [Slot.reset_persistent h]
  obtain ⟨definition, generation, serial, receipted, allowance, claims, holds, settle⟩ :=
    Slot.keptByReset_afterReset ((x.unpowered i writing).closedBy i none)
  rw [Slot.closedBy, Slot.unpowered_persistent h] at *
  exact ⟨definition, generation, serial, receipted, allowance, claims, holds, settle⟩

/-- The state POWER_ON_RESET resets: the power was gone, and the latch is clear with both inputs inactive (R42). -/
def State.poweredOn (s : State) (tmpCase tmpBatlow : Bool) : State :=
  s.losePower.updKs fun k => { k with latch := k.latch && (tmpCase || tmpBatlow), tmpCase, tmpBatlow }

theorem exec_powerOnReset (s : State) (a b : Bool) (mem : MemoryStart) :
    exec (.powerOnReset a b mem) s = .next ((s.poweredOn a b).resetWith mem) := rfl

theorem poweredOn_slot (s : State) (a b : Bool) (i : SlotId) :
    (s.poweredOn a b).slot i = (s.slot i).unpowered i (decide (s.ks.arrayWrite = some i)) := by
  simpa [State.poweredOn, State.slot] using losePower_slot s i

theorem poweredOn_kept (s : State) (a b : Bool) :
    (s.poweredOn a b).pending = s.pending ∧ (s.poweredOn a b).ks.closure = s.ks.closure ∧
    (s.poweredOn a b).ks.latch = (s.ks.latch && (a || b)) ∧ (s.poweredOn a b).ks.tmpCase = a ∧
    (s.poweredOn a b).ks.tmpBatlow = b := by
  simp [State.poweredOn, State.losePower]

theorem exec_mainPowerLoss {s : State} (on : s.engine ≠ .off) : exec .mainPowerLoss s = .next s.losePower := congrArg _ (if_neg on)

/-- Settles O10. -/
theorem powerLossAndPowerOn : Obligations.PowerLossAndPowerOn := by
  refine ⟨fun s on => ⟨_, exec_mainPowerLoss on, by simp only [State.losePower], by simp only [State.losePower],
      by simp only [State.losePower], fun i h => ?_⟩,
    fun s a b mem present => ⟨_, exec_powerOnReset s a b mem, ?_⟩⟩
  · rw [losePower_slot, Slot.unpowered_persistent h]
    simp
  · have slots (i : SlotId) := resetWith_slot (s.poweredOn a b) mem i
    obtain ⟨-, -, -, -, latch, tmpCase, tmpBatlow⟩ := blocksReset_ks (s.poweredOn a b)
    obtain ⟨pending, closed, ownLatch, ownCase, ownBattery⟩ := poweredOn_kept s a b
    refine ⟨?_, ?_, ?_, ?case, ?battery, ?latch, ?_, ?_, ?_, ?_, ?_, ?_, ?_, ?_, fun i h closure => ?kept, fun i h => ?volatile⟩
    case kept =>
      rw [slots, poweredOn_slot, closed, closure]
      exact Slot.reset_unpowered h _ _
    case volatile =>
      rw [slots, poweredOn_slot, Slot.reset_volatile h, Slot.unpowered_generation]
      exact Slot.zeroizedFrom_blank _ _
    all_goals rw [resetWith_present _ present]
    case case => exact tmpCase.trans ownCase
    case battery => exact tmpBatlow.trans ownBattery
    case latch => exact latch.trans ownLatch
    all_goals simp [State.resetBlocks, EventUnit.reset, Intake.reset, Writer.reset, CipherUnit.reset, ComponentUnit.reset, pending]

end Sys2Proof.Machine
end

section

set_option Elab.async false

/-!
SUPPORT. The tamper latch, zeroize and the overwrite (R4, R9, R42, R43, R79, R88, R113, R139, R154).
-/

namespace Sys2Proof.Machine

/-! ## A writer out of action stays so -/

theorem pokeWriter_inactive {s : State} (state : s.writer.state = .inactive) : s.pokeWriter.writer = s.writer := by
  rw [pokeWriter_other (.inl state)]

theorem triggerSweep_inactive {s : State} (state : s.writer.state = .inactive) : s.triggerSweep.writer = s.writer := by
  unfold State.triggerSweep
  split
  · exact (pokeWriter_inactive (by simpa using state)).trans (by simp)
  · simp

theorem answered_inactive {s : State} (state : s.writer.state = .inactive) (cell : Nat) : (s.answered cell).writer = s.writer := by
  unfold State.answered State.freeEntry
  dsimp only
  split
  · exact (triggerSweep_inactive (by simpa using state)).trans (by simp)
  · simp

theorem foldl_answered_inactive {s : State} (state : s.writer.state = .inactive) (l : List Nat) :
    (l.foldl State.answered s).writer = s.writer := by
  induction l generalizing s with
  | nil => rfl
  | cons cell l ih =>
    have first := answered_inactive state cell
    exact (ih (by rw [first, state])).trans first

theorem closeSweep_inactive {s : State} (state : s.writer.state = .inactive) : s.closeSweep.writer = s.writer := by
  unfold State.closeSweep
  split
  · split
    · dsimp only
      split
      · exact triggerSweep_inactive state
      · rfl
    · rfl
  · rfl

theorem enterTampered_inactive {s : State} (state : s.writer.state = .inactive) : s.enterTampered.writer = s.writer := by
  unfold State.enterTampered State.tamperIntake
  split
  · dsimp only
    split <;> simp
  · exact (foldl_answered_inactive (by simpa using state) _).trans (by simp)

/-! ## Zeroize (R43) -/

theorem zeroizeSlot_slot (s : State) (i j : SlotId) :
    (s.zeroizeSlot i).slot j = if j = i then (s.slot j).zeroized j else s.slot j := by
  unfold State.zeroizeSlot
  split
  next same => rw [same, updSlot_slot_self]
  next other => simp [other]

theorem foldl_zeroizeSlot_slot {l : List SlotId} (once : l.Nodup) (s : State) (j : SlotId) :
    (l.foldl State.zeroizeSlot s).slot j = if j ∈ l then (s.slot j).zeroized j else s.slot j := by
  induction l generalizing s with
  | nil => simp
  | cons i l ih =>
    obtain ⟨fresh, once⟩ := List.nodup_cons.1 once
    rw [List.foldl_cons, ih once, zeroizeSlot_slot]
    by_cases same : j = i
    · subst same
      simp [fresh]
    · simp [same]

theorem tamperStore_slot (s : State) (i : SlotId) : s.tamperStore.slot i = (s.slot i).zeroized i := by
  have all := foldl_zeroizeSlot_slot (List.nodup_finRange 64) s i
  rw [if_pos (List.mem_finRange i)] at all
  exact all

theorem Slot.zeroizedFrom_zeroized (x : Slot) (i : SlotId) :
    x.zeroizedFrom (x.zeroized i) ∧ (48 ≤ i.val → (x.zeroized i).stored = .zeros) := by
  refine ⟨x.zeroizedFrom_blank _, fun h => ?_⟩
  simp [Slot.zeroized, Slot.blank, isPersistent, h]

/-- The zeroize of slots that have not changed yet fires what their changes are reported to fire (R172, R173). -/
theorem State.watchesFire.foldl_zeroizeSlot {r : State} {recognised : Option (BayId × Edge)} {l : List SlotId} (once : l.Nodup)
    {s : State} (h : r.watchesFire s recognised) (fresh : ∀ i ∈ l, s.slot i = r.slot i) :
    r.watchesFire (l.foldl State.zeroizeSlot s) recognised := by
  induction l generalizing s with
  | nil => exact h
  | cons i l ih =>
    obtain ⟨new, once⟩ := List.nodup_cons.1 once
    have same := fresh i (List.mem_cons_self ..)
    refine ih once (h.updSlot i _ (by rw [same]) (by rw [same])) fun j later => ?_
    have other : j ≠ i := fun e => new (e ▸ later)
    rw [zeroizeSlot_slot, if_neg other]
    exact fresh j (List.mem_cons_of_mem _ later)

theorem State.watchesFire.tamperStore {r s : State} {recognised : Option (BayId × Edge)} (h : r.watchesFire s recognised)
    (fresh : ∀ i, s.slot i = r.slot i) : r.watchesFire s.tamperStore recognised :=
  (h.foldl_zeroizeSlot (List.nodup_finRange 64) fun i _ => fresh i).updKs _

/-! ## The other blocks at tamper -/

theorem toConsole_check (s : State) (c : ConsoleId) (m : ConsoleMessage) :
    (s.toConsole c m).ceu.inCheck = s.ceu.inCheck ∧ (s.toConsole c m).ceu.busy = s.ceu.busy ∧
    (s.toConsole c m).ceu.discard = s.ceu.discard := by
  unfold State.toConsole State.beginConsole
  split
  · exact ⟨rfl, rfl, rfl⟩
  · split <;> exact ⟨rfl, rfl, rfl⟩

/-- A frame for the consoles leaves the share in check alone. -/
theorem toConsoles_check (s : State) (m : ConsoleMessage) :
    (s.toConsoles m).ceu.inCheck = s.ceu.inCheck ∧ (s.toConsoles m).ceu.busy = s.ceu.busy ∧
    (s.toConsoles m).ceu.discard = s.ceu.discard := by
  simp only [State.toConsoles, toConsole_check, and_self]

theorem tamperCeu_unit (s : State) : s.tamperCeu.ceu.record = .empty ∧ s.tamperCeu.ceu.arrivals = [] ∧
    s.tamperCeu.ceu.inCheck = none ∧ s.tamperCeu.ceu.busy = false ∧ s.tamperCeu.ceu.discard = false := by
  obtain ⟨inCheck, busy, discard⟩ := toConsoles_check (s.updCeu fun u =>
    { u with consoles := Vector.ofFn fun c => (u.consoles[c]).tampered, record := .empty, arrivals := [], inCheck := none,
             busy := false, discard := false }) .stationTampered
  exact ⟨by simp [State.tamperCeu], by simp [State.tamperCeu], inCheck, busy, discard⟩

theorem tamperCeu_console (s : State) (c : ConsoleId) : s.tamperCeu.console c = (s.console c).tampered.given .stationTampered := by
  rw [State.tamperCeu, toConsoles_console]
  simp [State.console]

/-- Every block's own part at tamper, before the engine enters TAMPERED (R9). -/
def State.tamperBlocks (s : State) : State :=
  let t := ((s.tamperStore.updCipher fun _ => CipherUnit.reset).tamperCeu).tamperWriter
  { t with bays := Vector.ofFn fun b => (t.bays[b]).tampered,
           prof := { t.prof with persist := t.prof.persist.map fun p => { p with order := none } } }

theorem tamper_loading {s : State} (loading : s.engine = .loading) : s.tamper = s.tamperBlocks := if_pos loading

theorem tamper_entered {s : State} (loaded : s.engine ≠ .loading) : s.tamper = s.tamperBlocks.enterTampered := if_neg loaded

theorem tamperBlocks_engine (s : State) : s.tamperBlocks.engine = s.engine := by simp [State.tamperBlocks]

theorem tamperBlocks_intake (s : State) : s.tamperBlocks.intake = s.intake := by simp [State.tamperBlocks]

theorem tamperBlocks_clock (s : State) : s.tamperBlocks.clock = s.clock := by simp [State.tamperBlocks]

theorem tamperBlocks_writer (s : State) : s.tamperBlocks.writer.state = .inactive ∧ s.tamperBlocks.writer.queue = [] ∧
    s.tamperBlocks.writer.line = [] ∧ s.tamperBlocks.writer.roll = none ∧
    s.tamperBlocks.writer.rollCount = s.writer.rollCount := by
  simp [State.tamperBlocks, State.tamperWriter, State.setRoll]

theorem tamperBlocks_bay (s : State) (b : BayId) : s.tamperBlocks.bay b = (s.bay b).tampered := by
  simp [State.tamperBlocks, State.bay]

theorem tamperBlocks_ceu (s : State) :
    s.tamperBlocks.ceu = ((s.tamperStore.updCipher fun _ => CipherUnit.reset).tamperCeu).ceu := by simp [State.tamperBlocks]

theorem tamperBlocks_ks (s : State) : s.tamperBlocks.ks = s.tamperStore.ks := by simp [State.tamperBlocks]

theorem tamperStore_ks (s : State) :
    s.tamperStore.ks.overwrite = some 0 ∧ s.tamperStore.ks.requests = [] ∧ s.tamperStore.ks.closure = none ∧
    s.tamperStore.ks.writeQueue = [] ∧ s.tamperStore.ks.arrayWrite = none ∧ s.tamperStore.ks.grant = none ∧
    ∀ b : BayId, s.tamperStore.ks.deferred[b] = none := by
  simp [State.tamperStore]

theorem tamperStore_inputs (s : State) : s.tamperStore.ks.tmpCase = s.ks.tmpCase ∧ s.tamperStore.ks.tmpBatlow = s.ks.tmpBatlow := by
  simp [State.tamperStore, foldl_keeps (fun t : State => t.ks.tmpCase) State.zeroizeSlot fun _ _ => rfl,
    foldl_keeps (fun t : State => t.ks.tmpBatlow) State.zeroizeSlot fun _ _ => rfl]

theorem tamperBlocks_slot (s : State) (i : SlotId) : s.tamperBlocks.slot i = (s.slot i).zeroized i := by
  rw [← tamperStore_slot]
  exact slot_of_slots (by rw [tamperBlocks_ks]) i

theorem State.watchesFire.tamperBlocks {r s : State} (h : r.watchesFire s none) (fresh : ∀ i, s.slot i = r.slot i)
    (room : s.events.room = r.events.room) : r.watchesFire s.tamperBlocks none := by
  have ceu : r.watchesFire (s.tamperStore.updCipher fun _ => CipherUnit.reset).tamperCeu none :=
    (h.tamperStore fresh).same
  have writer : r.watchesFire (s.tamperStore.updCipher fun _ => CipherUnit.reset).tamperCeu.tamperWriter none := (ceu.same (t := (s.tamperStore.updCipher fun _ => CipherUnit.reset).tamperCeu.updWriter fun w =>
    { w with state := .inactive, queue := [], line := [], fromAwait := false })).setRoll none (by simpa using room)
  refine writer.same ?_ (fun n => ?_) (fun i => ?_) (fun i => ?_) ?_ <;> simp [State.tamperBlocks, State.slot]

/-! ## Entry to TAMPERED (R9) -/

theorem enterTampered_answers {s : State} (area : s.intake.area.isSome) : s.enterTampered.intake.answers =
    s.intake.table.map fun e => { cell := e.cell, result := .tampered, data := [] } := by
  unfold State.enterTampered State.tamperIntake
  rw [if_pos (by simpa using area)]
  dsimp only
  split <;> simp

theorem enterTampered_sweepTimer {s : State} {a : Area} (area : s.intake.area = some a) : s.enterTampered.intake.sweepTimer =
    if s.intake.sweepTimer.isNone then (if a.sweepMs = 0 then none else some (s.timer a.sweepMs)) else s.intake.sweepTimer := by
  unfold State.enterTampered State.tamperIntake
  rw [if_pos (by simp [area])]
  cases timer : s.intake.sweepTimer <;> simp [timer, State.armSweepTimer, area, State.timer]

theorem State.watchesFire.enterTampered {r s : State} {recognised : Option (BayId × Edge)} (h : r.watchesFire s recognised) :
    r.watchesFire s.enterTampered recognised := by
  refine h.same (flags := fun n => ?_) (room := ?_)
  · unfold State.enterTampered State.tamperIntake
    split
    · dsimp only
      split <;> simp
    · refine (foldl_keeps (fun t => t.events.flags.getLsbD (12 + n.val)) _ (fun t cell => answered_watch t n cell) _ _).trans ?_
      simp
  · simp [State.enterTampered]

/-! ## TMP_CASE becoming active (R42) -/

/-- The latch is set with main power present. -/
def State.caseOpened (s : State) : State :=
  ({ s with out := [] }.updKs fun k => { k with tmpCase := true }).updKs fun k => { k with latch := true }

theorem exec_tmpCaseActive {s : State} (on : s.engine ≠ .off) (clear : s.ks.latch = false) :
    exec .tmpCaseActive s = .next s.caseOpened.tamper.closeSweep.settleEngine := by
  refine congrArg _ ((if_neg (by simp [clear])).trans (if_neg ?_))
  exact on

@[simp] theorem caseOpened_frame (s : State) : s.caseOpened.engine = s.engine ∧ s.caseOpened.clock = s.clock ∧
    s.caseOpened.intake = s.intake ∧ s.caseOpened.events = s.events ∧ s.caseOpened.ceu = s.ceu ∧ s.caseOpened.prof = s.prof ∧
    s.caseOpened.writer = s.writer ∧ s.caseOpened.ks.latch = true ∧ s.caseOpened.ks.tmpCase = true :=
  ⟨rfl, rfl, rfl, rfl, rfl, rfl, rfl, rfl, rfl⟩

theorem caseOpened_slot (s : State) (i : SlotId) : s.caseOpened.slot i = s.slot i := rfl

theorem caseOpened_bay (s : State) (b : BayId) : s.caseOpened.bay b = s.bay b := rfl

/-- The end of the tamper command: the engine is LOADING or TAMPERED, where STOPPING cannot end. -/
theorem tamper_settled (s : State) : s.tamper.closeSweep.settleEngine = s.tamper.closeSweep := by
  refine settleEngine_of_engine ?_
  rw [(closeSweep_frame _).2.1]
  by_cases loading : s.engine = .loading
  · rw [tamper_loading loading, tamperBlocks_engine, loading]
    decide
  · rw [tamper_entered loading, enterTampered_engine]
    decide

/-- What the tamper command leaves of the blocks, whatever the engine state. -/
theorem tamper_parts (s : State) : s.tamper.ks = s.tamperBlocks.ks ∧ s.tamper.ceu = s.tamperBlocks.ceu ∧
    s.tamper.cipher = s.tamperBlocks.cipher ∧ s.tamper.bays = s.tamperBlocks.bays ∧ s.tamper.prof = s.tamperBlocks.prof ∧
    s.tamper.writer = s.tamperBlocks.writer := by
  by_cases loading : s.engine = .loading
  · rw [tamper_loading loading]
    exact ⟨rfl, rfl, rfl, rfl, rfl, rfl⟩
  · rw [tamper_entered loading]
    exact ⟨by simp, by simp, by simp, by simp, by simp, enterTampered_inactive (tamperBlocks_writer s).1⟩

theorem State.watchesFire.tamper {r s : State} (h : r.watchesFire s none) (fresh : ∀ i, s.slot i = r.slot i)
    (room : s.events.room = r.events.room) : r.watchesFire s.tamper none := by
  by_cases loading : s.engine = .loading
  · rw [tamper_loading loading]
    exact h.tamperBlocks fresh room
  · rw [tamper_entered loading]
    exact (h.tamperBlocks fresh room).enterTampered

/-- The engine and the answers at tamper outside LOADING (R9). -/
theorem tamper_intake {s : State} (loaded : s.engine ≠ .loading) : s.tamper.engine = .tampered ∧ s.tamper.hasFlag .tamper ∧
    (s.intake.area.isSome → s.tamper.intake.answers = s.intake.table.map fun e => { cell := e.cell, result := .tampered, data := [] }) ∧
    (∀ a, s.intake.area = some a → s.tamper.intake.sweepTimer =
      if s.intake.sweepTimer.isNone then (if a.sweepMs = 0 then none else some (s.timer a.sweepMs)) else s.intake.sweepTimer) := by
  rw [tamper_entered loaded]
  refine ⟨enterTampered_engine _, enterTampered_hasFlag _, fun area => ?_, fun a area => ?_⟩
  · rw [enterTampered_answers (by rwa [tamperBlocks_intake]), tamperBlocks_intake]
  · rw [enterTampered_sweepTimer (by rwa [tamperBlocks_intake]), tamperBlocks_intake, State.timer, tamperBlocks_clock]
    rfl

theorem closeSweep_timer (s : State) : s.closeSweep.intake.sweepTimer = s.intake.sweepTimer := by simp

/-- Settles O11. -/
theorem tamperZeroizesAndEndsEverything : Obligations.TamperZeroizesAndEndsEverything := by
  intro s on clear
  refine ⟨_, exec_tmpCaseActive on clear, ?_⟩
  rw [tamper_settled]
  obtain ⟨ks, ceu, cipher, bays, prof, writer⟩ := tamper_parts s.caseOpened
  obtain ⟨overwrite, requests, closure, writeQueue, arrayWrite, grant, deferred⟩ := tamperStore_ks s.caseOpened
  obtain ⟨inactive, queue, line, roll, rollCount⟩ := tamperBlocks_writer s.caseOpened
  obtain ⟨record, arrivals, inCheck, busy, discard⟩ := tamperCeu_unit (s.caseOpened.tamperStore.updCipher fun _ => CipherUnit.reset)
  have store : s.caseOpened.tamper.closeSweep.ks = s.caseOpened.tamperStore.ks := by simp [ks, tamperBlocks_ks]
  have unit : s.caseOpened.tamper.closeSweep.ceu = (s.caseOpened.tamperStore.updCipher fun _ => CipherUnit.reset).tamperCeu.ceu := by
    simp [ceu, tamperBlocks_ceu]
  have line' : s.caseOpened.tamper.closeSweep.writer = s.caseOpened.tamperBlocks.writer := by
    rw [closeSweep_inactive (by rw [writer, inactive]), writer]
  have slot (i : SlotId) : s.caseOpened.tamper.closeSweep.slot i = (s.slot i).zeroized i :=
    (slot_of_slots (t := s.caseOpened.tamperStore) (by rw [store]) i).trans (tamperStore_slot _ i)
  have bay (b : BayId) : s.caseOpened.tamper.closeSweep.bay b = (s.bay b).tampered :=
    (bay_of_bays (t := s.caseOpened.tamperBlocks) (by simp [bays]) b).trans (tamperBlocks_bay _ b)
  have console (c : ConsoleId) : s.caseOpened.tamper.closeSweep.console c = (s.console c).tampered.given .stationTampered := by
    rw [console_of_ceu unit, tamperCeu_console]
    simp [State.console, State.caseOpened]
  refine ⟨?latch, ?case, fun loading => ?loading, fun loaded => ?loaded, fun i => ?slots, by rw [store, overwrite],
    by rw [store, requests], by rw [store, closure], by rw [store, writeQueue], by rw [store, arrayWrite], by rw [store, grant],
    fun b => by rw [store, deferred], ?running, ?waiting, by rw [unit, record], by rw [unit, arrivals], by rw [unit, inCheck],
    by rw [unit, busy], by rw [unit, discard], fun k => ?consoles, fun b => ?bays, by rw [line', inactive], by rw [line', queue],
    by rw [line', line], by rw [line', roll], by rw [line', rollCount]; rfl, fun loaded area => ?answers, ?area,
    fun a w loaded area timer => ?timer, fun a loaded area timer sweepMs => ?stopped, ?watches, by simp, by simp, by simp, by simp⟩
  case latch => simp
  case running => simp [cipher, State.tamperBlocks, CipherUnit.reset]
  case waiting => simp [cipher, State.tamperBlocks, CipherUnit.reset]
  case case => rw [store, (tamperStore_inputs _).1]; rfl
  case loading => simpa [tamper_loading (s := s.caseOpened) loading, tamperBlocks_engine] using loading
  case loaded =>
    obtain ⟨engine, flag, -⟩ := tamper_intake (s := s.caseOpened) loaded
    exact ⟨by simp [engine], by simpa [State.hasFlag] using flag⟩
  case slots =>
    rw [slot]
    exact Slot.zeroizedFrom_zeroized _ i
  case consoles =>
    obtain ⟨card, pending, -⟩ := Console.given_rest (s.console k).tampered .stationTampered
    rw [console, card, pending]
    exact ⟨rfl, rfl⟩
  case bays =>
    rw [State.session, bay]
    exact ⟨rfl, rfl, rfl, rfl, rfl, rfl, rfl, rfl, rfl, rfl, rfl⟩
  case answers =>
    obtain ⟨-, -, answers, -⟩ := tamper_intake (s := s.caseOpened) loaded
    simpa using answers area
  case area => simp
  case timer =>
    obtain ⟨-, -, -, sweepTimer⟩ := tamper_intake (s := s.caseOpened) loaded
    rw [closeSweep_timer, sweepTimer a area]
    obtain ⟨stopped, interval, rfl⟩ | runs := timer
    · simp [stopped, interval, State.timer]
    · simp [runs]
  case stopped =>
    obtain ⟨-, -, -, sweepTimer⟩ := tamper_intake (s := s.caseOpened) loaded
    rw [closeSweep_timer, sweepTimer a area]
    simp [timer, sweepMs]
  case watches =>
    have opened : s.watchesFire s.caseOpened none := (State.watchesFire.refl s).same rfl (fun _ => rfl) (fun _ => rfl) (fun _ => rfl) rfl
    exact (opened.tamper (fun _ => rfl) rfl).same

/-! ## The latch without main power, and the overwrite (R42, R43) -/

theorem setLatch_off {s : State} (off : s.engine = .off) : s.setLatch = (s.updKs fun k => { k with latch := true }).tamperStore :=
  if_pos off

theorem exec_tmpCaseActive_clear {s : State} (clear : s.ks.latch = false) :
    exec .tmpCaseActive s = .next ({ s with out := [] }.updKs fun k => { k with tmpCase := true }).setLatch :=
  congrArg _ (if_neg (by simp [clear]))

theorem exec_tmpBatlowActive_clear {s : State} (off : s.engine = .off) (clear : s.ks.latch = false) :
    exec .tmpBatlowActive s = .next ({ s with out := [] }.updKs fun k => { k with tmpBatlow := true }).setLatch :=
  congrArg _ (if_neg (by simp [clear, off]))

theorem exec_tamper_off {s : State} {c : Instr} (off : s.engine = .off) (clear : s.ks.latch = false)
    (input : c = .tmpCaseActive ∨ c = .tmpBatlowActive) :
    ∃ u : State, exec c s = .next u.tamperStore ∧ u.engine = .off ∧ u.ks.latch = true ∧ u.ks.slots = s.ks.slots ∧
      u.prof = s.prof ∧ u.clock = s.clock := by
  obtain rfl | rfl := input
  · rw [exec_tmpCaseActive_clear clear, setLatch_off (by simpa using off)]
    exact ⟨_, rfl, off, rfl, rfl, rfl, rfl⟩
  · rw [exec_tmpBatlowActive_clear off clear, setLatch_off (by simpa using off)]
    exact ⟨_, rfl, off, rfl, rfl, rfl, rfl⟩

theorem nextPosition_eq_some_iff (p q : Fin 48) : nextPosition p = some q ↔ q.val = p.val + 1 := by
  unfold nextPosition
  split
  next next => rw [Option.some_inj, Fin.ext_iff, eq_comm]
  next last => simp only [reduceCtorEq, false_iff]; omega

/-- The overwrite of one position ends (R43). -/
def State.overwritten (s : State) (p : Fin 48) (ok : Bool) : State :=
  (s.updSlot ⟨p.val, by omega⟩ fun x => { x with stored := if ok then .zeros else .noKey }).updKs fun k =>
    { k with overwrite := nextPosition p }

theorem overwritten_slot (s : State) (p : Fin 48) (ok : Bool) (i : SlotId) : (s.overwritten p ok).slot i =
    if i.val = p.val then { s.slot i with stored := if ok then .zeros else .noKey } else s.slot i := by
  have own : i = ⟨p.val, by omega⟩ ↔ i.val = p.val := Fin.ext_iff
  refine (slot_of_slots (t := s.updSlot ⟨p.val, by omega⟩ fun x => { x with stored := if ok then .zeros else .noKey }) rfl i).trans ?_
  rw [updSlot_slot]
  simp only [own]
  by_cases same : i.val = p.val
  · rw [if_pos same, if_pos same, own.2 same]
  · rw [if_neg same, if_neg same]

theorem hasFlag_run {s : State} {f : State → State} {flag : Flag} (on : s.engine ≠ .off) (set : (f s.quiet).hasFlag flag) :
    (s.run f).hasFlag flag := by
  rw [run_on s f on]
  exact (State.Grows.refl _).closeSweep.settleEngine.hasFlag set

/-- ZEROIZE_OVERWRITE_DONE, as a change of the key store and the flags. -/
def State.overwriteDone (s : State) (p : Fin 48) (ok : Bool) : State :=
  (if ok then s.overwritten p ok else (s.overwritten p ok).raise .storeFault).kickArray

theorem exec_zeroizeOverwriteDone {s : State} {p : Fin 48} (under : s.ks.overwrite = some p) (ok : Bool) :
    exec (.zeroizeOverwriteDone ok) s = .next (s.run fun _ => s.quiet.overwriteDone p ok) := by
  refine next_run_eq ?_
  have under : s.quiet.ks.overwrite = some p := under
  simp only [under]
  rfl

@[simp] theorem overwriteDone_frame (s : State) (p : Fin 48) (ok : Bool) :
    (s.overwriteDone p ok).ks.overwrite = nextPosition p ∧ (s.overwriteDone p ok).ks.requests = s.ks.requests ∧
    (s.overwriteDone p ok).ks.latch = s.ks.latch ∧ (s.overwriteDone p ok).ks.closure = s.ks.closure ∧
    (s.overwriteDone p ok).ceu = s.ceu ∧ (s.overwriteDone p ok).cipher = s.cipher ∧ (s.overwriteDone p ok).bays = s.bays ∧
    (s.overwriteDone p ok).prof = s.prof ∧ (s.overwriteDone p ok).clock = s.clock ∧
    (s.overwriteDone p ok).intake = s.intake ∧ (s.overwriteDone p ok).writer = s.writer := by
  cases ok <;> simp [State.overwriteDone, State.overwritten]

theorem overwriteDone_slot (s : State) (p : Fin 48) (ok : Bool) (i : SlotId) : (s.overwriteDone p ok).slot i =
    if i.val = p.val then { s.slot i with stored := if ok then .zeros else .noKey } else s.slot i := by
  rw [← overwritten_slot]
  cases ok <;> simp [State.overwriteDone]

theorem overwriteDone_fault (s : State) (p : Fin 48) : (s.overwriteDone p false).hasFlag .storeFault := by
  have raised := State.hasFlag_raise (s.overwritten p false) .storeFault
  rw [State.hasFlag_iff] at raised ⊢
  simpa [State.overwriteDone] using raised

/-- Settles O12. -/
theorem tamperByPowerAndOverwrite : Obligations.TamperByPowerAndOverwrite := by
  refine ⟨⟨fun s c off clear input => ?off, fun s on => ?battery, fun s set => ?again⟩, fun s p ok on under => ?overwrite⟩
  case off =>
    obtain ⟨u, steps, engine, latch, slots, prof, clock⟩ := exec_tamper_off off clear input
    obtain ⟨overwrite, -⟩ := tamperStore_ks u
    refine ⟨_, steps, by simp [engine], by simp [latch], fun i => ?_, overwrite, by simp [prof], by simp [clock]⟩
    rw [tamperStore_slot, slot_of_slots slots]
    exact Slot.zeroizedFrom_zeroized _ i
  case battery => exact congrArg _ (if_pos (.inr on))
  case again => exact ⟨congrArg _ (if_pos set), congrArg _ (if_pos (.inl set))⟩
  case overwrite =>
    obtain ⟨slots, -⟩ := run_parts s (fun _ => s.quiet.overwriteDone p ok) on
    refine ⟨_, exec_zeroizeOverwriteDone under ok, fun i => (slots i).trans (overwriteDone_slot _ p ok i), fun q => ?_,
      fun failed => ?_, ?_⟩
    · simp [run_frame _ _ on, nextPosition_eq_some_iff]
    · subst failed
      exact hasFlag_run on (overwriteDone_fault _ p)
    · simp [run_frame _ _ on]

end Sys2Proof.Machine
end

section

set_option Elab.async false

/-!
SUPPORT. The start-up load: the judgement of a group area, and the end of the load (R158 to R160).
-/

namespace Sys2Proof.Machine

/-- A command that leaves the engine outside STOPPING ends with its sweep. -/
theorem run_of_engine {s : State} {f : State → State} (on : s.engine ≠ .off) (going : (f s.quiet).engine ≠ .stopping) :
    s.run f = (f s.quiet).closeSweep := by
  rw [run_on s f on]
  exact settleEngine_of_engine (by simpa using going)

/-! ## The judgement of a group area (R159) -/

theorem writeGroup_profiles (p : ProfileStore) (g : Fin 4) (l : List Profile) (i : Fin 16) :
    (p.writeGroup g (.profiles l)).profiles[i] = if i.val / 8 = g.val then l.getD (i.val % 8) Profile.default else p.profiles[i] := by
  simp [ProfileStore.writeGroup]

theorem writeGroup_map (p : ProfileStore) (g : Fin 4) (l : List MapEntry) (i : Fin 64) :
    (p.writeGroup g (.entries l)).map[i] = if i.val / 32 + 2 = g.val then l.getD (i.val % 32) MapEntry.unused else p.map[i] := by
  simp [ProfileStore.writeGroup]

theorem writeGroup_profiles_entries (p : ProfileStore) (g : Fin 4) (l : List MapEntry) :
    (p.writeGroup g (.entries l)).profiles = p.profiles := by simp only [ProfileStore.writeGroup]

theorem writeGroup_map_profiles (p : ProfileStore) (g : Fin 4) (l : List Profile) : (p.writeGroup g (.profiles l)).map = p.map := by
  simp only [ProfileStore.writeGroup]

/-- The records are of the group's own kind: groups 0 and 1 hold profiles, 2 and 3 map entries (R159). -/
def GroupRecords.fit (r : GroupRecords) (g : Fin 4) : Prop :=
  match r with
  | .profiles _ => g.val < 2
  | .entries _ => 2 ≤ g.val

theorem defaultRecords_fit (g : Fin 4) : (defaultRecords g).fit g := by
  unfold defaultRecords
  split
  next low => exact low
  next high => exact Nat.le_of_not_lt high

theorem groupRecords?_low {g : Fin 4} (low : g.val < 2) (area : List Byte) :
    groupRecords? g area = (allSome ((recordsOf area 16 8).map profile?)).map .profiles := if_pos low

theorem groupRecords?_high {g : Fin 4} (high : 2 ≤ g.val) (area : List Byte) :
    groupRecords? g area = (allSome ((recordsOf area 4 32).map mapEntry?)).map .entries := if_neg (by omega)

theorem groupRecords?_fit {g : Fin 4} {area : List Byte} {r : GroupRecords} (read : groupRecords? g area = some r) : r.fit g := by
  obtain low | high := Nat.lt_or_ge g.val 2
  · rw [groupRecords?_low low, Option.map_eq_some_iff] at read
    obtain ⟨l, -, rfl⟩ := read
    exact low
  · rw [groupRecords?_high high, Option.map_eq_some_iff] at read
    obtain ⟨l, -, rfl⟩ := read
    exact high

/-- Every record that is read stands at its place. -/
theorem allSome_recordsOf {α : Type} {f : List Byte → Option α} {area : List Byte} {size count : Nat} {l : List α}
    (read : allSome ((recordsOf area size count).map f) = some l) {k : Nat} (inside : k < count) (default : α) :
    f (field area (k * size) size) = some (l.getD k default) := by
  have own := allSome_getElem? read k
  rw [List.getElem?_map, recordsOf_getElem?, if_pos inside, Option.map_some] at own
  cases value : l[k]? with
  | none => rw [value] at own; cases own
  | some x =>
    rw [value, Option.map_some, Option.some_inj] at own
    rw [own, List.getD_eq_getElem?_getD, value, Option.getD_some]

/-- Only the records of the group judged change. -/
theorem writeGroup_others {p : ProfileStore} {g : Fin 4} {r : GroupRecords} (fit : r.fit g) :
    (∀ i : Fin 16, i.val / 8 ≠ g.val → (p.writeGroup g r).profiles[i] = p.profiles[i]) ∧
    (∀ n : Fin 64, n.val / 32 + 2 ≠ g.val → (p.writeGroup g r).map[n] = p.map[n]) := by
  cases r with
  | profiles l =>
    refine ⟨fun i other => ?_, fun n other => by rw [writeGroup_map_profiles]⟩
    rw [writeGroup_profiles, if_neg other]
  | entries l =>
    refine ⟨fun i other => by rw [writeGroup_profiles_entries], fun n other => ?_⟩
    rw [writeGroup_map, if_neg other]

theorem writeGroup_default {p : ProfileStore} {g : Fin 4} :
    (g.val < 2 → ∀ i : Fin 16, i.val / 8 = g.val → (p.writeGroup g (defaultRecords g)).profiles[i] = Profile.default) ∧
    (2 ≤ g.val → ∀ n : Fin 64, n.val / 32 + 2 = g.val → (p.writeGroup g (defaultRecords g)).map[n] = MapEntry.unused) := by
  refine ⟨fun low i own => ?_, fun high n own => ?_⟩
  · rw [defaultRecords, if_pos low, writeGroup_profiles, if_pos own]
    rfl
  · rw [defaultRecords, if_neg (by omega), writeGroup_map, if_pos own]
    rfl

theorem writeGroup_read {p : ProfileStore} {g : Fin 4} {area : List Byte} {r : GroupRecords} (read : groupRecords? g area = some r) :
    (g.val < 2 → ∀ i : Fin 16, i.val / 8 = g.val →
      profile? (field area (i.val % 8 * 16) 16) = some (p.writeGroup g r).profiles[i]) ∧
    (2 ≤ g.val → ∀ n : Fin 64, n.val / 32 + 2 = g.val →
      mapEntry? (field area (n.val % 32 * 4) 4) = some (p.writeGroup g r).map[n]) := by
  refine ⟨fun low i own => ?_, fun high n own => ?_⟩
  · rw [groupRecords?_low low, Option.map_eq_some_iff] at read
    obtain ⟨l, read, rfl⟩ := read
    rw [writeGroup_profiles, if_pos own]
    exact allSome_recordsOf read (Nat.mod_lt _ (by decide)) _
  · rw [groupRecords?_high high, Option.map_eq_some_iff] at read
    obtain ⟨l, read, rfl⟩ := read
    rw [writeGroup_map, if_pos own]
    exact allSome_recordsOf read (Nat.mod_lt _ (by decide)) _

theorem judgeGroup_blank {control : BitVec 16} {g : Fin 4} (code : groupCode control g ≠ 1) (area : List Byte) :
    judgeGroup control g area = (.blank, defaultRecords g) := if_pos code

theorem judgeGroup_faulted {control : BitVec 16} {g : Fin 4} (code : groupCode control g = 1) {area : List Byte}
    (bad : groupCheckGood area = false ∨ groupRecords? g area = none) : judgeGroup control g area = (.faulted, defaultRecords g) := by
  unfold judgeGroup
  rw [if_neg (by simp [code])]
  split
  · rfl
  next good =>
    obtain check | read := bad
    · exact absurd check good
    · rw [read]

theorem judgeGroup_memory {control : BitVec 16} {g : Fin 4} (code : groupCode control g = 1) {area : List Byte}
    (good : groupCheckGood area = true) {r : GroupRecords} (read : groupRecords? g area = some r) :
    judgeGroup control g area = (.memory, r) := by
  unfold judgeGroup
  rw [if_neg (by simp [code]), if_neg (by simp [good]), read]

theorem judgeGroup_cases (control : BitVec 16) (g : Fin 4) (area : List Byte) :
    ((judgeGroup control g area).1 ≠ .memory ∧ (judgeGroup control g area).2 = defaultRecords g) ∨
    ((judgeGroup control g area).1 = .memory ∧ groupRecords? g area = some (judgeGroup control g area).2) := by
  unfold judgeGroup
  split
  · exact .inl ⟨nofun, rfl⟩
  · split
    · exact .inl ⟨nofun, rfl⟩
    · split
      next r read => exact .inr ⟨rfl, read⟩
      · exact .inl ⟨nofun, rfl⟩

theorem judgeGroup_fit (control : BitVec 16) (g : Fin 4) (area : List Byte) : (judgeGroup control g area).2.fit g := by
  obtain ⟨-, records⟩ | ⟨-, read⟩ := judgeGroup_cases control g area
  · rw [records]
    exact defaultRecords_fit g
  · exact groupRecords?_fit read

theorem groupCheckGood_iff (area : List Byte) : groupCheckGood area = true ↔ numberAt area 128 2 = (crc (field area 0 128)).toNat := by
  simp [groupCheckGood]

theorem judge_prof (s : State) (g : Fin 4) (area : List Byte) : (s.judge g area).prof =
    (s.prof.writeGroup g (judgeGroup s.prof.control g area).2).setGroup g
      { source := (judgeGroup s.prof.control g area).1, changed := false } := by
  unfold State.judge
  dsimp only
  split <;> rfl

/-- Only a FAULTED group sets the flag. -/
theorem judge_flags {s : State} {g : Fin 4} {area : List Byte} :
    ((judgeGroup s.prof.control g area).1 = .faulted → (s.judge g area).hasFlag .profileFault) ∧
    ((judgeGroup s.prof.control g area).1 ≠ .faulted → (s.judge g area).events = s.events) := by
  refine ⟨fun faulted => ?_, fun good => ?_⟩
  · have raised := State.hasFlag_raise
      (s.updProf fun p => (p.writeGroup g (judgeGroup s.prof.control g area).2).setGroup g
        { source := (judgeGroup s.prof.control g area).1, changed := false }) .profileFault
    simpa only [State.judge, if_pos faulted] using raised
  · simp only [State.judge, if_neg good, updProf_events]

/-- The rest of a read group area: the next group is read, or the load ends. -/
def State.judged (s : State) (g : Fin 4) (area : List Byte) : State :=
  match nextGroup g with
  | some h => (s.judge g area).updProf fun p => { p with load := some (.group h) }
  | none => (s.judge g area).endLoad

theorem exec_groupAreaRead {s : State} {g : Fin 4} (load : s.prof.load = some (.group g)) (area : Vector Byte 130) :
    exec (.groupAreaRead area) s = .next (s.run fun _ => s.quiet.judged g area.toList) := by
  refine next_run_eq ?_
  have load : s.quiet.prof.load = some (.group g) := load
  simp only [load]
  rfl

theorem nextGroup_eq_some_iff (g h : Fin 4) : nextGroup g = some h ↔ h.val = g.val + 1 := by
  unfold nextGroup
  split
  next more => rw [Option.some_inj, Fin.ext_iff, eq_comm]
  next last => simp only [reduceCtorEq, false_iff]; omega

theorem nextGroup_eq_none_iff (g : Fin 4) : nextGroup g = none ↔ g = 3 := by revert g; decide

theorem judged_more {s : State} {g h : Fin 4} (next : h.val = g.val + 1) (area : List Byte) :
    s.judged g area = (s.judge g area).updProf fun p => { p with load := some (.group h) } := by
  rw [State.judged, (nextGroup_eq_some_iff g h).2 next]

theorem judged_last {s : State} (area : List Byte) : s.judged 3 area = (s.judge 3 area).endLoad := by
  rw [State.judged, (nextGroup_eq_none_iff 3).2 rfl]

/-! ## The end of the load -/

/-- What a command that ends the load leaves, from the state in which the load ended (R4, R106, R160). -/
theorem run_endLoad {s u : State} (on : s.engine ≠ .off) :
    (s.run fun _ => u.endLoad).engine = u.endLoad.engine ∧ (s.run fun _ => u.endLoad).events = u.endLoad.events ∧
    (∀ b : BayId, (u.bay b).looksAtInput ((s.run fun _ => u.endLoad).bay b) u.clock u.prof.profiles[(0 : Fin 16)].settleTime) := by
  have going : u.endLoad.engine ≠ .stopping := by
    cases latch : u.ks.latch
    · rw [(endLoad_standby latch).1]
      decide
    · rw [(endLoad_tampered latch).1]
      decide
  rw [run_of_engine on going]
  exact ⟨by simp, by simp, fun b => by simpa using endLoad_looksAtInput u b⟩

/-- STANDBY or TAMPERED, by the latch (R4). -/
theorem run_endLoad_engine {s u : State} (on : s.engine ≠ .off) :
    (u.ks.latch = false → (s.run fun _ => u.endLoad).engine = .standby) ∧
    (u.ks.latch = true → (s.run fun _ => u.endLoad).engine = .tampered ∧ (s.run fun _ => u.endLoad).hasFlag .tamper) := by
  obtain ⟨engine, events, -⟩ := run_endLoad (u := u) on
  refine ⟨fun clear => engine.trans (endLoad_standby clear).1, fun set => ?_⟩
  obtain ⟨tampered, flag⟩ := endLoad_tampered set
  exact ⟨engine.trans tampered, by rwa [State.hasFlag, events]⟩

/-! ## The memory's answer (R158) -/

theorem exec_serialMemoryReady {s : State} {w : Timer} (on : s.engine ≠ .off) (settled : s.settled)
    (waiting : s.prof.load = some (.waiting w)) (control : BitVec 16) :
    exec (.serialMemoryReady control) s = .next (s.quiet.memoryReady control) := by
  have waiting : s.quiet.prof.load = some (.waiting w) := waiting
  refine (next_run_eq (u := s.quiet.memoryReady control) (by simp only [waiting])).trans (congrArg _ (run_settled _ _ on ?_))
  exact (settled_quiet s settled).of_parts rfl rfl rfl rfl rfl rfl fun _ => rfl

theorem exec_memoryBusyTimeout_early {s : State} {w : Timer} (settled : s.settled)
    (waiting : s.prof.load = some (.waiting w)) (early : w.due s.clock = false) : exec .memoryBusyTimeout s = .next s.quiet :=
  congrArg Host.Outcome.next (run_id _ _ settled (by simp [waiting, early]))

/-- The memory is given up: every group is FAULTED (R158). -/
def State.unreadable (s : State) : State :=
  (s.updProf fun p =>
    { p with groups := Vector.replicate 4 { source := .faulted, changed := false }, control := 0, unreadable := true }).raise
      .profileFault

theorem exec_memoryBusyTimeout_due {s : State} {w : Timer} (waiting : s.prof.load = some (.waiting w)) (due : w.due s.clock = true) :
    exec .memoryBusyTimeout s = .next (s.run fun _ => s.quiet.unreadable.endLoad) := by
  refine next_run_eq ?_
  have waiting : s.quiet.prof.load = some (.waiting w) := waiting
  have due : w.due s.quiet.clock = true := due
  simp only [waiting, due, if_true]
  rfl

theorem unreadable_frame (s : State) : s.unreadable.ks = s.ks ∧ s.unreadable.cipher = s.cipher ∧ s.unreadable.clock = s.clock ∧
    s.unreadable.bays = s.bays ∧ s.unreadable.prof.profiles = s.prof.profiles ∧ s.unreadable.prof.map = s.prof.map ∧
    s.unreadable.prof.unreadable = true ∧
    ∀ g : Fin 4, s.unreadable.prof.groups[g] = { source := .faulted, changed := false } := by
  simp [State.unreadable]

/-- What follows the judgement leaves the records and the sources as judged. -/
theorem judged_prof (s : State) (g : Fin 4) (area : List Byte) :
    (s.judged g area).prof.profiles = (s.judge g area).prof.profiles ∧ (s.judged g area).prof.map = (s.judge g area).prof.map ∧
    (s.judged g area).prof.groups = (s.judge g area).prof.groups ∧ (s.judged g area).ks = s.ks ∧
    (s.judged g area).cipher = s.cipher ∧ (s.judged g area).clock = s.clock := by
  unfold State.judged
  split <;> simp

theorem judged_hasFlag {s : State} {g : Fin 4} {area : List Byte} {f : Flag} (set : (s.judge g area).hasFlag f) :
    (s.judged g area).hasFlag f := by
  unfold State.judged
  split
  · exact set
  · exact endLoad_hasFlag set

theorem judged_events {s : State} (g : Fin 4) (area : List Byte) (clear : s.ks.latch = false) :
    (s.judged g area).events = (s.judge g area).events := by
  unfold State.judged
  split
  · rfl
  · exact (endLoad_standby (by simpa using clear)).2

theorem judged_going {s : State} (loading : s.engine = .loading) (g : Fin 4) (area : List Byte) :
    (s.judged g area).engine ≠ .stopping := by
  unfold State.judged
  split
  · simp [loading]
  · cases latch : (s.judge g area).ks.latch
    · rw [(endLoad_standby latch).1]
      decide
    · rw [(endLoad_tampered latch).1]
      decide

theorem setGroup_groups (p : ProfileStore) (g k : Fin 4) (x : GroupStatus) :
    (p.setGroup g x).groups[k] = if k = g then x else p.groups[k] := by
  unfold ProfileStore.setGroup
  split
  next same => simp [same]
  next other =>
    have differ : g.val ≠ k.val := fun e => other (Fin.ext e.symm)
    simp [Vector.getElem_set_ne _ _ differ]

theorem judge_records (s : State) (g : Fin 4) (area : List Byte) :
    (s.judge g area).prof.profiles = (s.prof.writeGroup g (judgeGroup s.prof.control g area).2).profiles ∧
    (s.judge g area).prof.map = (s.prof.writeGroup g (judgeGroup s.prof.control g area).2).map ∧
    ∀ k : Fin 4, (s.judge g area).prof.groups[k] =
      if k = g then { source := (judgeGroup s.prof.control g area).1, changed := false } else s.prof.groups[k] := by
  rw [judge_prof]
  refine ⟨rfl, rfl, fun k => ?_⟩
  rw [setGroup_groups]
  split
  · rfl
  · unfold ProfileStore.writeGroup
    split <;> rfl

theorem closeSweep_events (s : State) : s.closeSweep.events = s.events := by simp

/-- Settles O13. -/
theorem startUpLoadByRule : Obligations.StartUpLoadByRule := by
  refine ⟨fun s w loading waiting settled => ?waits, fun s g area loading load => ?reads⟩
  all_goals have on : s.engine ≠ .off := by simp [loading]
  case waits =>
    refine ⟨fun control => exec_serialMemoryReady on settled waiting control, exec_memoryBusyTimeout_early settled waiting,
      fun due => ⟨_, exec_memoryBusyTimeout_due waiting due, ?_⟩⟩
    obtain ⟨ks, cipher, clock, bays, profiles, map, unreadable, groups⟩ := unreadable_frame s.quiet
    obtain ⟨-, events, looks⟩ := run_endLoad (s := s) (u := s.quiet.unreadable) on
    obtain ⟨standby, tampered⟩ := run_endLoad_engine (s := s) (u := s.quiet.unreadable) on
    have prof : (s.run fun _ => s.quiet.unreadable.endLoad).prof = { s.quiet.unreadable.prof with load := none } := by
      rw [← endLoad_prof]
      simp [run_frame _ _ on]
    rw [ks] at standby tampered
    refine ⟨fun g => ?_, by rw [prof], by rw [prof]; exact unreadable, ?_, standby, tampered, by rw [prof]; exact profiles,
      by rw [prof]; exact map, fun b => ?_, ?_⟩
    · rw [prof]
      exact groups g
    · rw [State.hasFlag, events]
      exact endLoad_hasFlag (State.hasFlag_raise _ _)
    · have own := looks b
      rw [bay_of_bays bays, clock, profiles] at own
      exact own
    · simp [run_frame _ _ on, ks, cipher, clock]
  case reads =>
    refine ⟨_, exec_groupAreaRead load area, ?_⟩
    obtain ⟨profiles, map, groups⟩ := judge_records s.quiet g area.toList
    obtain ⟨ofProfiles, ofMap, ofGroups, ks, cipher, clock⟩ := judged_prof s.quiet g area.toList
    obtain ⟨faulty, good⟩ := judge_flags (s := s.quiet) (g := g) (area := area.toList)
    have prof : (s.run fun _ => s.quiet.judged g area.toList).prof = (s.quiet.judged g area.toList).prof := by simp [run_frame _ _ on]
    have own := (groups g).trans (if_pos rfl)
    rw [prof, ofProfiles, ofMap, ofGroups, own, profiles, map]
    obtain ⟨otherProfiles, otherEntries⟩ := writeGroup_others (p := s.quiet.prof) (judgeGroup_fit s.quiet.prof.control g area.toList)
    refine ⟨fun code => ⟨?blank, fun clear => ?flags⟩, fun code => ⟨fun bad => ?faulted, fun check read => ?memory⟩, ?_, ?_, ?_, ?_,
      fun k other => (groups k).trans (if_neg other), otherProfiles, otherEntries, fun h next => ?more, fun last => ?last,
      by simp [run_frame _ _ on, ks], by simp [run_frame _ _ on, cipher], by simp [run_frame _ _ on, clock]⟩
    case blank => rw [judgeGroup_blank (control := s.quiet.prof.control) code]
    case flags =>
      have kept : (judgeGroup s.quiet.prof.control g area.toList).1 ≠ .faulted := by rw [judgeGroup_blank (control := s.quiet.prof.control) code]; nofun
      have ended := run_of_engine (f := fun _ => s.quiet.judged g area.toList) on (judged_going (s := s.quiet) loading g _)
      rw [ended, closeSweep_events, judged_events (s := s.quiet) g _ clear, good kept]
      rfl
    case faulted =>
      have judged := judgeGroup_faulted (control := s.quiet.prof.control) code (bad.imp (fun bad => by simpa [groupCheckGood] using bad) id)
      rw [judged]
      exact ⟨rfl, hasFlag_run on (judged_hasFlag (faulty (by rw [judged])))⟩
    case memory =>
      obtain ⟨r, read⟩ := Option.ne_none_iff_exists'.1 read
      rw [judgeGroup_memory (control := s.quiet.prof.control) code ((groupCheckGood_iff _).2 check) read]
    · intro source low
      obtain ⟨-, records⟩ | ⟨memory, -⟩ := judgeGroup_cases s.quiet.prof.control g area.toList
      · rw [records]
        exact writeGroup_default.1 low
      · exact absurd memory source
    · intro source high
      obtain ⟨-, records⟩ | ⟨memory, -⟩ := judgeGroup_cases s.quiet.prof.control g area.toList
      · rw [records]
        exact writeGroup_default.2 high
      · exact absurd memory source
    · intro source low
      obtain ⟨other, -⟩ | ⟨-, read⟩ := judgeGroup_cases s.quiet.prof.control g area.toList
      · exact absurd source other
      · exact (writeGroup_read read).1 low
    · intro source high
      obtain ⟨other, -⟩ | ⟨-, read⟩ := judgeGroup_cases s.quiet.prof.control g area.toList
      · exact absurd source other
      · exact (writeGroup_read read).2 high
    case more =>
      rw [judged_more next]
      exact ⟨rfl, by simp [run_frame _ _ on, judged_more next]⟩
    case last =>
      subst last
      rw [judged_last] at *
      obtain ⟨-, -, looks⟩ := run_endLoad (s := s) (u := s.quiet.judge 3 area.toList) on
      obtain ⟨standby, tampered⟩ := run_endLoad_engine (s := s) (u := s.quiet.judge 3 area.toList) on
      have latch : (s.quiet.judge 3 area.toList).ks.latch = s.ks.latch := by simp
      rw [latch] at standby tampered
      refine ⟨?_, standby, tampered, fun b => ?_⟩
      · rw [endLoad_prof]
      · have own := looks b
        rw [profiles] at own
        simpa using own

end Sys2Proof.Machine
end

section

set_option Elab.async false

/-!
SUPPORT. The ends of ceremonies: what an assembly and an approval leave (R71, R77).
-/

namespace Sys2Proof.Machine

/-! ## Completions and the end of a command -/

namespace State.completes
variable {s t : State} {cell : Nat} {r : Result} {data : List Byte}

/-- An answer that stands in the list stands there as the list grows. -/
theorem grows {u : State} (h : s.completes t cell r data) (grows : t.Grows u) : s.completes u cell r data :=
  fun inUse => grows.mem_answers (h inUse)

theorem of_area {u : State} (h : u.completes t cell r data) (area : u.intake.area = s.intake.area := by simp) :
    s.completes t cell r data :=
  fun inUse => h (by rwa [area])

theorem run {f : State → State} (on : s.engine ≠ .off) (h : s.quiet.completes (f s.quiet) cell r data) :
    s.completes (s.run f) cell r data := by
  intro inUse
  have listed := h inUse
  rwa [(show (s.run f).intake.answers = (f s.quiet).intake.answers by simp [run_frame _ _ on])]

end State.completes

/-! ## Consoles at the end of a ceremony (R64, R66) -/

theorem rejectArrival_console (s : State) (reason : RejectReason) (a : Arrival) (c : ConsoleId) :
    (State.rejectArrival reason s a).console c =
      if c = a.console then Console.given { s.console c with pending := false } (.rejected a.seq reason) else s.console c := by
  rw [State.rejectArrival, toConsole_console, updConsole_console, updConsole_console, if_pos rfl]
  by_cases own : c = a.console
  · rw [if_pos own, if_pos own, own]
  · rw [if_neg own, if_neg own, if_neg own]

theorem rejectArrival_check (s : State) (reason : RejectReason) (a : Arrival) :
    (State.rejectArrival reason s a).ceu.inCheck = s.ceu.inCheck ∧ (State.rejectArrival reason s a).ceu.busy = s.ceu.busy ∧
    (State.rejectArrival reason s a).ceu.discard = s.ceu.discard := toConsole_check _ _ _

theorem rejectArrival_pending {s : State} {reason : RejectReason} {a : Arrival} {c : ConsoleId}
    (clear : (s.console c).pending = false ∨ c = a.console) : ((State.rejectArrival reason s a).console c).pending = false := by
  rw [rejectArrival_console]
  split
  next own => exact (Console.given_rest _ _).2.1
  next other => exact clear.resolve_right other

theorem foldl_rejectArrival_pending {reason : RejectReason} {c : ConsoleId} (l : List Arrival) {s : State}
    (clear : (s.console c).pending = false ∨ ∃ a ∈ l, c = a.console) :
    ((l.foldl (State.rejectArrival reason) s).console c).pending = false := by
  induction l generalizing s with
  | nil => simpa using clear
  | cons a l ih =>
    refine ih ?_
    obtain clear | ⟨x, listed, own⟩ := clear
    · exact .inl (rejectArrival_pending (.inl clear))
    · obtain rfl | later := List.mem_cons.1 listed
      · exact .inl (rejectArrival_pending (.inr own))
      · exact .inr ⟨x, later, own⟩

theorem foldl_rejectArrival_check (reason : RejectReason) (l : List Arrival) (s : State) :
    (l.foldl (State.rejectArrival reason) s).ceu.inCheck = s.ceu.inCheck ∧
    (l.foldl (State.rejectArrival reason) s).ceu.busy = s.ceu.busy ∧
    (l.foldl (State.rejectArrival reason) s).ceu.discard = s.ceu.discard := by
  induction l generalizing s with
  | nil => exact ⟨rfl, rfl, rfl⟩
  | cons a l ih =>
    obtain ⟨inCheck, busy, discard⟩ := rejectArrival_check s reason a
    obtain ⟨inCheck', busy', discard'⟩ := ih (State.rejectArrival reason s a)
    exact ⟨inCheck'.trans inCheck, busy'.trans busy, discard'.trans discard⟩

/-- The arrival list is emptied and every console in it told, whatever the check in progress (R71). -/
theorem rejectArrivals_unit (s : State) (reason : RejectReason) :
    (s.rejectArrivals reason).ceu.arrivals = [] ∧ (s.rejectArrivals reason).ceu.inCheck = s.ceu.inCheck ∧
    (s.rejectArrivals reason).ceu.busy = s.ceu.busy ∧ (s.rejectArrivals reason).ceu.discard = s.ceu.discard ∧
    ∀ x ∈ s.ceu.arrivals, ((s.rejectArrivals reason).console x.console).pending = false := by
  obtain ⟨inCheck, busy, discard⟩ := foldl_rejectArrival_check reason s.ceu.arrivals s
  refine ⟨rfl, inCheck, busy, discard, fun x listed => ?_⟩
  exact foldl_rejectArrival_pending s.ceu.arrivals (.inr ⟨x, listed, rfl⟩)

theorem discardCheck_pending {s : State} {c : ConsoleId} (clear : (s.console c).pending = false) :
    (s.discardCheck.console c).pending = false := by
  unfold State.discardCheck
  split
  · dsimp only
    split
    · exact rejectArrival_pending (.inl clear)
    · exact clear
  · exact clear

theorem discardCheck_busy {s : State} (busy : s.ceu.busy = true) :
    s.discardCheck.ceu.discard = true ∧ s.discardCheck.ceu.inCheck = none := by
  unfold State.discardCheck
  rw [if_pos busy]
  exact ⟨rfl, rfl⟩

theorem emptyRecord_record (s : State) : s.emptyRecord.ceu.record = .empty := by
  unfold State.emptyRecord
  dsimp only
  split <;> simp

theorem emptyRecord_check (s : State) : s.emptyRecord.ceu.inCheck = s.ceu.inCheck ∧ s.emptyRecord.ceu.busy = s.ceu.busy ∧
    s.emptyRecord.ceu.discard = s.ceu.discard := by
  unfold State.emptyRecord
  dsimp only
  split <;> simp

theorem emptyRecord_flag {s : State} (engine : s.engine = .running ∨ s.engine = .stopping) :
    s.emptyRecord.hasFlag .ceremonyEnded := by
  unfold State.emptyRecord
  rw [if_pos engine]
  exact State.hasFlag_raise _ _

theorem toConsoles_pending (s : State) (m : ConsoleMessage) (c : ConsoleId) :
    ((s.toConsoles m).console c).pending = (s.console c).pending := by
  rw [toConsoles_console]
  exact (Console.given_rest _ _).2.1

/-! ## The end of an assembly (R71) -/

theorem endAssemblySlot_slot (s : State) (i j : SlotId) : (s.endAssemblySlot i).slot j =
    if j = i ∧ (s.slot i).state = .assembling then { s.slot i with state := .empty } else s.slot j := by
  unfold State.endAssemblySlot
  split
  next assembling => simp [updSlot_slot, assembling]
  next other => simp [other]

theorem endAssembly_slot (s : State) (a : Assembly) (code : Result) (j : SlotId) : (s.endAssembly a code).slot j =
    if j = a.slot ∧ (s.slot a.slot).state = .assembling then { s.slot a.slot with state := .empty } else s.slot j := by
  simp [State.endAssembly, endAssemblySlot_slot]

/-- The part of the end in the component entry unit: the accumulator cleared, the arrivals rejected, the check to be discarded. -/
def State.assemblyCleared (s : State) (a : Assembly) : State :=
  ((s.setAssembly { a with accumulator := 0 }).rejectArrivals .ceremonyEnded).discardCheck

theorem endAssembly_eq (s : State) (a : Assembly) (code : Result) : s.endAssembly a code =
    ((((s.assemblyCleared a).endAssemblySlot a.slot).completeOrder a.order code (a.answerData 0)).toConsoles
      (.assemblyClosed a.slot code 0)).emptyRecord := rfl

theorem assemblyCleared_pending (s : State) (a : Assembly) {x : Arrival} (listed : x ∈ s.ceu.arrivals) :
    ((s.assemblyCleared a).console x.console).pending = false := by
  obtain ⟨-, -, -, -, pending⟩ := rejectArrivals_unit (s.setAssembly { a with accumulator := 0 }) .ceremonyEnded
  exact discardCheck_pending (pending x listed)

theorem assemblyCleared_arrivals (s : State) (a : Assembly) : (s.assemblyCleared a).ceu.arrivals = [] := by
  simp [State.assemblyCleared, State.rejectArrivals]

theorem assemblyCleared_busy {s : State} (a : Assembly) (busy : s.ceu.busy = true) :
    (s.assemblyCleared a).ceu.discard = true ∧ (s.assemblyCleared a).ceu.inCheck = none := by
  obtain ⟨-, -, same, -⟩ := rejectArrivals_unit (s.setAssembly { a with accumulator := 0 }) .ceremonyEnded
  exact discardCheck_busy (same.trans busy)

theorem endAssembly_check {s : State} (a : Assembly) (code : Result) (busy : s.ceu.busy = true) :
    (s.endAssembly a code).ceu.discard = true ∧ (s.endAssembly a code).ceu.inCheck = none := by
  obtain ⟨discard, inCheck⟩ := assemblyCleared_busy a busy
  rw [endAssembly_eq, (emptyRecord_check _).1, (emptyRecord_check _).2.2, (toConsoles_check _ _).1, (toConsoles_check _ _).2.2]
  simp [discard, inCheck]

theorem endAssembly_grows (s : State) (a : Assembly) (code : Result) :
    (((s.assemblyCleared a).endAssemblySlot a.slot).completeOrder a.order code (a.answerData 0)).Grows (s.endAssembly a code) := by
  rw [endAssembly_eq]
  exact ((State.Grows.refl _).toConsoles _).emptyRecord

theorem emptyRecord_console (s : State) (c : ConsoleId) : s.emptyRecord.console c = s.console c := by simp

/-- What the end of an assembly does. -/
theorem endAssembly_ended (s : State) (a : Assembly) (code : Result) : s.assemblyEnded (s.endAssembly a code) a code := by
  refine ⟨?completes, ?record, ?arrivals, fun assembling => ?slot, fun j other => ?others, fun x listed => ?pending,
    fun engine => ?flag, by simp, by simp, by simp, by simp⟩
  case completes =>
    have own := completed_listed s ((s.assemblyCleared a).endAssemblySlot a.slot) a.order code (a.answerData 0)
      (by simp [State.assemblyCleared])
    exact own.grows (endAssembly_grows s a code)
  case record => rw [endAssembly_eq, emptyRecord_record]
  case arrivals => simp [endAssembly_eq, assemblyCleared_arrivals]
  case slot => rw [endAssembly_slot, if_pos ⟨rfl, assembling⟩]
  case others => rw [endAssembly_slot, if_neg fun own => other own.1]
  case pending =>
    rw [endAssembly_eq, emptyRecord_console, toConsoles_pending]
    simpa using assemblyCleared_pending s a listed
  case flag =>
    rw [endAssembly_eq]
    exact emptyRecord_flag (by simpa [State.assemblyCleared] using engine)

namespace State.assemblyEnded
variable {s t : State} {a : Assembly} {code : Result}

/-- A command whose effect ends the assembly ends it. -/
theorem run {f : State → State} (on : s.engine ≠ .off) (h : s.quiet.assemblyEnded (f s.quiet) a code) :
    s.assemblyEnded (s.run f) a code := by
  obtain ⟨completes, record, arrivals, slot, others, pending, flag, bays, prof, queue, clock⟩ := h
  obtain ⟨slots, -, -, consoles⟩ := run_parts s f on
  refine ⟨completes.run on, ?_, ?_, fun assembling => ?_, fun j other => ?_, fun x listed => ?_, fun engine => ?_, ?_, ?_, ?_, ?_⟩
  · simpa [run_frame _ _ on] using record
  · simpa [run_frame _ _ on] using arrivals
  · exact (slots _).trans (slot assembling)
  · exact (slots j).trans (others j other)
  · rw [consoles]
    exact pending x listed
  · exact hasFlag_run on (flag engine)
  · simpa [run_frame _ _ on] using bays
  · simpa [run_frame _ _ on] using prof
  · simpa [run_frame _ _ on] using queue
  · simpa [run_frame _ _ on] using clock

/-- What happens before the end and touches none of its parts. -/
theorem after {u : State} (h : u.assemblyEnded t a code) (area : u.intake.area = s.intake.area := by simp)
    (slots : ∀ i, u.slot i = s.slot i := by simp) (arrivals : u.ceu.arrivals = s.ceu.arrivals := by simp)
    (engine : u.engine = s.engine := by simp) (bays : u.bays = s.bays := by simp) (prof : u.prof = s.prof := by simp)
    (queue : u.writer.queue = s.writer.queue := by simp) (clock : u.clock = s.clock := by simp) : s.assemblyEnded t a code := by
  obtain ⟨completes, record, listed, slot, others, pending, flag, bays', prof', queue', clock'⟩ := h
  rw [slots] at slot
  rw [arrivals] at pending
  rw [engine] at flag
  exact ⟨completes.of_area area, record, listed, slot, fun j other => (others j other).trans (slots j), pending, flag,
    bays'.trans bays, prof'.trans prof, queue'.trans queue, clock'.trans clock⟩

end State.assemblyEnded

/-! ## The end of an approval (R59, R77) -/

/-- What the outcome makes of the grant's slot. -/
theorem grantOutcome_slot {s : State} {g : PendingGrant} (grant : s.ks.grant = some g) (o : ApprovalOutcome) :
    s.otherSlotsSame (s.grantOutcome o) g.slot ∧ (s.grantOutcome o).ks.grant = none ∧
    ((s.slot g.slot).state ≠ .ready ∨ (s.slot g.slot).generation ≠ g.generation →
      (s.grantOutcome o).slot g.slot = s.slot g.slot ∧ s.completes (s.grantOutcome o) g.order .refusedState []) ∧
    ((s.slot g.slot).state = .ready → (s.slot g.slot).generation = g.generation →
      (o ≠ .granted → (s.grantOutcome o).slot g.slot = s.slot g.slot ∧ s.completes (s.grantOutcome o) g.order o.result []) ∧
      (o = .granted →
        (s.grantOutcome o).slot g.slot =
          { s.slot g.slot with allowance := (s.slot g.slot).allowance + (s.slot g.slot).granted g.amount } ∧
        s.completes (s.grantOutcome o) g.order .ok ((s.slot g.slot).grantAnswer g.slot g.amount))) := by
  have kept (i : SlotId) : (s.updKs fun k => { k with grant := none }).slot i = s.slot i := rfl
  unfold State.grantOutcome
  rw [grant]
  dsimp only
  split
  next gone =>
    refine ⟨fun j _ => by simp [kept], by simp, fun _ => ⟨by simp [kept], completed_listed s _ _ _ _ (by simp)⟩, fun ready same => ?_⟩
    exact absurd gone (by simp [ready, same])
  next here =>
    cases o with
    | granted =>
      refine ⟨fun j other => by simp [State.applyGrant, other, kept], by simp [State.applyGrant], fun gone => absurd gone here,
        fun _ _ => ⟨fun other => absurd rfl other, fun _ => ⟨?_, completed_listed s _ _ _ _ (by simp [State.applyGrant])⟩⟩⟩
      simp [State.applyGrant, kept]
    | notApproved =>
      exact ⟨fun j _ => by simp [kept], by simp, fun gone => absurd gone here,
        fun _ _ => ⟨fun _ => ⟨by simp [kept], completed_listed s _ _ _ _ (by simp)⟩, nofun⟩⟩
    | stopped =>
      exact ⟨fun j _ => by simp [kept], by simp, fun gone => absurd gone here,
        fun _ _ => ⟨fun _ => ⟨by simp [kept], completed_listed s _ _ _ _ (by simp)⟩, nofun⟩⟩

theorem endApproval_grows (s : State) (p : Approval) (o : ApprovalOutcome) : (s.grantOutcome o).Grows (s.endApproval p o) :=
  ((State.Grows.refl _).toConsoles _).emptyRecord

theorem endApproval_slot (s : State) (p : Approval) (o : ApprovalOutcome) (j : SlotId) :
    (s.endApproval p o).slot j = (s.grantOutcome o).slot j := by simp [State.endApproval]

/-- What the end of an approval does. -/
theorem endApproval_ended {s : State} {g : PendingGrant} (grant : s.ks.grant = some g) (p : Approval) (o : ApprovalOutcome) :
    s.approvalEnded (s.endApproval p o) g o.result := by
  obtain ⟨others, taken, gone, here⟩ := grantOutcome_slot grant o
  refine ⟨emptyRecord_record _, ?_, fun j other => (endApproval_slot ..).trans (others j other),
    fun engine => emptyRecord_flag (by simpa using engine), fun not => ?_, fun ready same => ⟨fun code => ?_, fun code => ?_⟩,
    by simp, by simp, by simp, by simp⟩
  · simpa [State.endApproval] using taken
  · obtain ⟨slot, completes⟩ := gone not
    exact ⟨(endApproval_slot ..).trans slot, completes.grows (endApproval_grows s p o)⟩
  · obtain ⟨refused, -⟩ := here ready same
    obtain ⟨slot, completes⟩ := refused fun granted => code (by rw [granted]; rfl)
    exact ⟨(endApproval_slot ..).trans slot, completes.grows (endApproval_grows s p o)⟩
  · obtain ⟨-, granted⟩ := here ready same
    obtain ⟨slot, completes⟩ := granted (by
      cases o with
      | granted => rfl
      | notApproved => exact absurd code nofun
      | stopped => exact absurd code nofun)
    refine ⟨(endApproval_slot ..).trans slot, ?_⟩
    rw [endApproval_slot, slot]
    rw [Slot.grantAnswer, grantData, same] at completes
    exact completes.grows (endApproval_grows s p o)

namespace State.approvalEnded
variable {s t : State} {g : PendingGrant} {code : Result}

theorem run {f : State → State} (on : s.engine ≠ .off) (h : s.quiet.approvalEnded (f s.quiet) g code) :
    s.approvalEnded (s.run f) g code := by
  obtain ⟨record, grant, others, flag, gone, here, bays, cipher, prof, clock⟩ := h
  obtain ⟨slots, -⟩ := run_parts s f on
  refine ⟨?_, ?_, fun j other => ?_, fun engine => hasFlag_run on (flag engine), fun not => ?_, fun ready same => ?_, ?_, ?_, ?_, ?_⟩
  · simpa [run_frame _ _ on] using record
  · simpa [run_frame _ _ on] using grant
  · exact (slots j).trans (others j other)
  · obtain ⟨slot, completes⟩ := gone not
    exact ⟨(slots _).trans slot, completes.run on⟩
  · obtain ⟨refused, granted⟩ := here ready same
    refine ⟨fun other => ?_, fun ok => ?_⟩
    · obtain ⟨slot, completes⟩ := refused other
      exact ⟨(slots _).trans slot, completes.run on⟩
    · obtain ⟨slot, completes⟩ := granted ok
      rw [slots]
      exact ⟨slot, completes.run on⟩
  · simpa [run_frame _ _ on] using bays
  · simpa [run_frame _ _ on] using cipher
  · simpa [run_frame _ _ on] using prof
  · simpa [run_frame _ _ on] using clock

/-- What happens before the end and touches none of its parts. -/
theorem after {u : State} (h : u.approvalEnded t g code) (area : u.intake.area = s.intake.area := by simp)
    (slots : ∀ i, u.slot i = s.slot i := by simp) (engine : u.engine = s.engine := by simp) (bays : u.bays = s.bays := by simp)
    (cipher : u.cipher = s.cipher := by simp) (prof : u.prof = s.prof := by simp) (clock : u.clock = s.clock := by simp) :
    s.approvalEnded t g code := by
  obtain ⟨record, grant, others, flag, gone, here, bays', cipher', prof', clock'⟩ := h
  rw [engine] at flag
  rw [slots] at gone here
  refine ⟨record, grant, fun j other => (others j other).trans (slots j), flag, fun not => ?_, fun ready same => ?_,
    bays'.trans bays, cipher'.trans cipher, prof'.trans prof, clock'.trans clock⟩
  · obtain ⟨slot, completes⟩ := gone not
    exact ⟨slot, completes.of_area area⟩
  · obtain ⟨refused, granted⟩ := here ready same
    exact ⟨fun other => (refused other).imp_right (·.of_area area), fun ok => (granted ok).imp_right (·.of_area area)⟩

end State.approvalEnded

end Sys2Proof.Machine
end

section

set_option Elab.async false

/-!
SUPPORT. CEREMONY_OPEN, CEREMONY_CANCEL, the ceremony timers and the votes (R65, R73, R74, R77).
-/

namespace Sys2Proof.Machine

/-! ## CEREMONY_OPEN (R65) -/

theorem openParams?_fields {l : List Byte} {p : OpenParams} (h : openParams? l = some p) :
    p.slot.val = byteAt l 0 ∧ p.permitted = idsAt l 8 (byteAt l 1) ∧ p.deadline = numberAt l 2 2 := by
  unfold openParams? at h
  dsimp only at h
  split at h
  · cases h
  next i found =>
    split at h
    · obtain rfl := Option.some_inj.1 h
      exact ⟨slotAt_val found, rfl, rfl⟩
    · cases h

theorem exec_ceremonyOpen_busy {s : State} {e : Entry} {p : OpenParams} (inHand : s.inHand .ceremonyOpen = some e)
    (fields : openParams? e.params = some p) (occupied : s.ceu.record ≠ .empty) :
    exec .ceremonyOpen s = .next (s.run fun _ => s.quiet.refuseAtTake e .ceremonyBusy) := by
  refine next_run_eq ((withOrder_inHand s.quiet _ e _ inHand).trans ?_)
  simp only [fields]
  exact if_pos occupied

theorem exec_ceremonyOpen {s : State} {e : Entry} {p : OpenParams} (inHand : s.inHand .ceremonyOpen = some e)
    (fields : openParams? e.params = some p) (free : s.ceu.record = .empty) (opened : s.ks.overwrite = none) :
    exec .ceremonyOpen s = .next (s.run fun _ => s.quiet.openCeremony e p) := by
  refine next_run_eq ((withOrder_inHand s.quiet _ e _ inHand).trans ?_)
  simp only [fields]
  exact (if_neg (not_not_intro free)).trans (if_pos (by simp [State.storeOpen, opened]))

theorem assemblyTarget_eq_none {s : State} {i : SlotId} (closed : (s.slot i).state ≠ .empty ∨ (s.slot i).definition = none) :
    s.assemblyTarget i = none := by
  unfold State.assemblyTarget
  split
  next d empty defined => exact absurd closed (by simp [empty, defined])
  · rfl

theorem assemblyTarget_eq_some {s : State} {i : SlotId} {d : Definition} (empty : (s.slot i).state = .empty)
    (defined : (s.slot i).definition = some d) : s.assemblyTarget i = some d.components := by
  simp [State.assemblyTarget, empty, defined]

theorem openCeremony_state {s : State} {e : Entry} {p : OpenParams}
    (closed : (s.slot p.slot).state ≠ .empty ∨ (s.slot p.slot).definition = none) :
    s.openCeremony e p = s.refuseAtTake e .refusedState := by
  rw [State.openCeremony, assemblyTarget_eq_none closed]

theorem openCeremony_few {s : State} {e : Entry} {p : OpenParams} {d : Definition} (empty : (s.slot p.slot).state = .empty)
    (defined : (s.slot p.slot).definition = some d) (few : p.permitted.length < d.components) :
    s.openCeremony e p = ((s.startAssembly p.slot).endAssemblySlot p.slot).refuseAtTake e .refusedField := by
  rw [State.openCeremony, assemblyTarget_eq_some empty defined]
  exact if_pos few

theorem openCeremony_opens {s : State} {e : Entry} {p : OpenParams} {d : Definition} (empty : (s.slot p.slot).state = .empty)
    (defined : (s.slot p.slot).definition = some d) (enough : d.components ≤ p.permitted.length) :
    s.openCeremony e p = (((s.startAssembly p.slot).hold e).setAssembly
      (p.assembly e.cell (s.slot p.slot).generation d.components (s.timer (p.deadline * 1000)))).toConsoles
        (.assemblyOpen p.slot p.expected 0 d.components) := by
  rw [State.openCeremony, assemblyTarget_eq_some empty defined]
  exact if_neg (Nat.not_lt.2 enough)

theorem startAssembly_slot (s : State) (i j : SlotId) : (s.startAssembly i).slot j =
    if j = i then { s.slot i with state := .assembling } else s.slot j := updSlot_slot ..

/-- An assembly that is started and ended at once leaves the key store as it was. -/
theorem endAssemblySlot_startAssembly_ks {s : State} {i : SlotId} (empty : (s.slot i).state = .empty) :
    ((s.startAssembly i).endAssemblySlot i).ks = s.ks := by
  have assembling : ((s.startAssembly i).slot i).state = .assembling := by rw [startAssembly_slot, if_pos rfl]
  have back : { s.slot i with state := .empty } = s.slot i := by rw [← empty]
  have slots : (s.ks.slots.set i { s.slot i with state := .assembling }).set i
      { (s.ks.slots.set i { s.slot i with state := .assembling })[i] with state := .empty } = s.ks.slots := by
    simp only [Fin.getElem_fin, Vector.getElem_set_self, Vector.set_set]
    rw [back]
    exact Vector.set_getElem_self _
  rw [State.endAssemblySlot, if_pos assembling]
  exact congrArg (fun slots => { s.ks with slots := slots }) slots

/-- Settles O32. -/
theorem ceremonyOpenByRule : Obligations.CeremonyOpenByRule := by
  refine ⟨fun s e on inHand => ⟨fun bad => ?field, fun p fields => ⟨fun occupied => ?busy, fun free opened => ⟨fun closed => ?state,
    fun d empty defined few => ?few⟩⟩⟩, fun s e p d on inHand fields free opened empty defined enough => ?opens⟩
  case field =>
    refine refused_at_take_next on ((withOrder_inHand s.quiet _ e _ inHand).trans ?_)
    simp only [bad]
  case busy =>
    rw [exec_ceremonyOpen_busy inHand fields occupied]
    exact refused_at_take_next on rfl
  case state =>
    rw [exec_ceremonyOpen inHand fields free opened]
    exact refused_at_take_next on (openCeremony_state (s := s.quiet) closed)
  case few =>
    rw [exec_ceremonyOpen inHand fields free opened, openCeremony_few (s := s.quiet) empty defined few]
    have ks := endAssemblySlot_startAssembly_ks (s := s.quiet) empty
    refine ⟨_, rfl, answered_at_take s ((s.quiet.startAssembly p.slot).endAssemblySlot p.slot) _ e .refusedField [] on (by simp) rfl, ?_⟩
    simp [State.sameOutsideIntake, run_frame _ _ on, ks]
  case opens =>
    rw [exec_ceremonyOpen inHand fields free opened]
    obtain ⟨slot, permitted, deadline⟩ := openParams?_fields fields
    have opens := openCeremony_opens (s := s.quiet) (e := e) empty defined enough
    obtain ⟨slots, -, -, consoles⟩ := run_parts s (fun _ => s.quiet.openCeremony e p) on
    have given (c : ConsoleId) : (s.run fun _ => s.quiet.openCeremony e p).console c =
        (s.console c).given (.assemblyOpen p.slot p.expected 0 d.components) := by
      rw [consoles, opens, toConsoles_console]
      simp
    refine ⟨_, rfl, slot, permitted, deadline, ?_, ?_, fun j other => ?_, fun c => ⟨⟨fun idle => ?_, fun busy room => ?_⟩, ?_, ?_⟩, ?_⟩
    · simp [run_frame _ _ on, opens, State.setAssembly, OpenParams.assembly, State.timer]
    · rw [slots, opens]
      simp [startAssembly_slot]
    · rw [slots, opens]
      simp [startAssembly_slot, other]
    · rw [given]
      exact Console.given_sending idle _
    · rw [given]
      exact Console.given_queue busy room _
    · rw [given]
      exact (Console.given_rest _ _).1
    · rw [given]
      exact (Console.given_rest _ _).2.1
    · simp [run_frame _ _ on, opens]

/-! ## CEREMONY_CANCEL and DEADLINE_EXPIRY (R73, R74) -/

/-- A cancel of a ceremony on the slot. -/
def State.cancelCeremony (s : State) (e : Entry) (i : SlotId) : State :=
  match s.ceu.record with
  | .assembly a =>
    if a.slot = i ∧ a.phase ≠ .committing then (s.answerAtTake e.cell .ok [byteOf i.val]).endAssembly a .cancelled
    else s.refuseAtTake e .refusedState
  | .approval p =>
    if p.slot = i then (s.answerAtTake e.cell .ok [byteOf i.val]).endApproval p .notApproved
    else s.refuseAtTake e .refusedState
  | .empty => s.refuseAtTake e .refusedState

theorem exec_ceremonyCancel {s : State} {e : Entry} {i : SlotId} (inHand : s.inHand .ceremonyCancel = some e)
    (slot : i.val = byteAt e.params 0) : exec .ceremonyCancel s = .next (s.run fun _ => s.quiet.cancelCeremony e i) := by
  refine next_run_eq ((withOrder_inHand s.quiet _ e _ inHand).trans ?_)
  simp only [slotAt_some _ _ _ slot]
  rfl

theorem cancelCeremony_refused {s : State} {i : SlotId} (e : Entry)
    (none : s.ceu.record = .empty ∨ (∃ a, s.ceu.record = .assembly a ∧ (a.slot ≠ i ∨ a.phase = .committing)) ∨
      (∃ p, s.ceu.record = .approval p ∧ p.slot ≠ i)) : s.cancelCeremony e i = s.refuseAtTake e .refusedState := by
  obtain empty | ⟨a, assembly, other⟩ | ⟨p, approval, other⟩ := none
  · simp only [State.cancelCeremony, empty]
  · simp only [State.cancelCeremony, assembly]
    refine if_neg fun ⟨own, before⟩ => ?_
    exact other.elim (fun n => n own) fun committing => before committing
  · simp only [State.cancelCeremony, approval]
    exact if_neg other

theorem cancelCeremony_assembly {s : State} {a : Assembly} (e : Entry) (record : s.ceu.record = .assembly a)
    (before : a.phase ≠ .committing) :
    s.cancelCeremony e a.slot = (s.answerAtTake e.cell .ok [byteOf a.slot.val]).endAssembly a .cancelled := by
  simp only [State.cancelCeremony, record]
  exact if_pos ⟨trivial, before⟩

theorem cancelCeremony_approval {s : State} {p : Approval} (e : Entry) (record : s.ceu.record = .approval p) :
    s.cancelCeremony e p.slot = (s.answerAtTake e.cell .ok [byteOf p.slot.val]).endApproval p .notApproved := by
  simp only [State.cancelCeremony, record, if_true]

/-- The answer of the cancel stands although the ceremony's own answer follows. -/
theorem cancel_answered {s t : State} {e : Entry} {data : List Byte} (on : s.engine ≠ .off)
    (atTake : t.intake.atTake = (s.quiet.answerAtTake e.cell .ok data).intake.atTake) :
    s.answersAtTake (s.run fun _ => t) e .ok data := by
  intro inUse
  obtain ⟨a, area⟩ := Option.isSome_iff_exists.1 inUse
  rw [show (s.run fun _ => t).intake.atTake = t.intake.atTake by simp [run_frame _ _ on], atTake]
  simp [area]

theorem State.assembly_of_record {s : State} {a : Assembly} (record : s.ceu.record = .assembly a) : s.assembly = some a := by
  simp [State.assembly, record]

/-- A command whose effect ends an assembly discards the check in progress. -/
theorem run_endAssembly_check {s u : State} (on : s.engine ≠ .off) (a : Assembly) (code : Result) (busy : u.ceu.busy = true) :
    (s.run fun _ => u.endAssembly a code).ceu.discard = true ∧ (s.run fun _ => u.endAssembly a code).ceu.inCheck = none := by
  rw [show (s.run fun _ => u.endAssembly a code).ceu = (u.endAssembly a code).ceu by simp [run_frame _ _ on]]
  exact endAssembly_check a code busy

theorem exec_deadlineExpiry_due {s : State} {a : Assembly} {w : Timer} (record : s.ceu.record = .assembly a)
    (armed : a.deadline = some w) (gathering : a.phase = .gathering) (due : w.due s.clock = true) :
    exec .deadlineExpiry s = .next (s.run fun _ => s.quiet.endAssembly a .deadline) := by
  refine next_run_eq ?_
  have assembly : s.quiet.assembly = some a := State.assembly_of_record record
  simp only [assembly]
  exact if_pos ⟨gathering, by simpa [State.expired, armed] using due⟩

theorem exec_deadlineExpiry_idle {s : State} {a : Assembly} {w : Timer} (settled : s.settled) (record : s.ceu.record = .assembly a)
    (armed : a.deadline = some w) (other : a.phase ≠ .gathering ∨ w.due s.clock = false) : exec .deadlineExpiry s = .next s.quiet := by
  refine congrArg Host.Outcome.next (run_id _ _ settled ?_)
  have assembly : s.quiet.assembly = some a := State.assembly_of_record record
  simp only [assembly]
  refine if_neg fun ⟨gathering, due⟩ => ?_
  obtain later | early := other
  · exact later gathering
  · simp [State.expired, armed, early] at due

/-- Settles O33. -/
theorem ceremonyCancelOrDeadline : Obligations.CeremonyCancelOrDeadline := by
  refine ⟨fun s e on inHand => ⟨fun bad => ?field, fun i slot => ⟨fun none => ?refused, fun a record own before => ?assembly,
    fun p g record own grant => ?approval⟩⟩, fun s a w on settled record armed => ⟨fun gathering due => ?due,
    fun other => exec_deadlineExpiry_idle settled record armed other⟩⟩
  case field =>
    refine refused_at_take_next on ((withOrder_inHand s.quiet _ e _ inHand).trans ?_)
    simp only [slotAt_none _ _ bad]
  case refused =>
    rw [exec_ceremonyCancel inHand slot]
    exact refused_at_take_next on (cancelCeremony_refused (s := s.quiet) e none)
  case assembly =>
    subst own
    rw [exec_ceremonyCancel inHand slot, cancelCeremony_assembly (s := s.quiet) e record before]
    refine ⟨_, rfl, cancel_answered on (by simp), .run on (.after (endAssembly_ended _ a .cancelled)), by simp [run_frame _ _ on],
      fun busy => run_endAssembly_check on a _ (by simpa using busy)⟩
  case approval =>
    subst own
    rw [exec_ceremonyCancel inHand slot, cancelCeremony_approval (s := s.quiet) e record]
    exact ⟨_, rfl, cancel_answered on (by simp), .run on (.after (endApproval_ended (by simpa using grant) p .notApproved))⟩
  case due =>
    rw [exec_deadlineExpiry_due record armed gathering due]
    exact ⟨_, rfl, .run on (endAssembly_ended _ a .deadline), by simp [run_frame _ _ on],
      fun busy => run_endAssembly_check on a _ busy⟩

/-! ## Frames from a console (R62, R63) -/

/-- A whole frame has been heard at a console: the receiver is back in HUNT (log 36). -/
def State.heard (s : State) (c : ConsoleId) : State := s.updConsole c fun x => { x with receiver := .hunt }

theorem heard_console (s : State) (c d : ConsoleId) :
    (s.heard c).console d = if d = c then { s.console c with receiver := .hunt } else s.console d := updConsole_console ..

@[simp] theorem heard_frame (s : State) (c : ConsoleId) :
    (s.heard c).engine = s.engine ∧ (s.heard c).clock = s.clock ∧ (s.heard c).intake = s.intake ∧ (s.heard c).ks = s.ks ∧
    (s.heard c).ceu.record = s.ceu.record ∧ (s.heard c).ceu.arrivals = s.ceu.arrivals ∧ (s.heard c).ceu.inCheck = s.ceu.inCheck ∧
    (s.heard c).ceu.busy = s.ceu.busy ∧ (s.heard c).ceu.discard = s.ceu.discard ∧ (s.heard c).cipher = s.cipher ∧
    (s.heard c).bays = s.bays ∧ (s.heard c).prof = s.prof ∧ (s.heard c).writer = s.writer ∧ (∀ i, (s.heard c).slot i = s.slot i) :=
  ⟨rfl, rfl, rfl, rfl, rfl, rfl, rfl, rfl, rfl, rfl, rfl, rfl, rfl, fun _ => rfl⟩

theorem receiveConsole_eq {s : State} (engine : s.engine ≠ .tampered) (c : ConsoleId) (f : ConsoleFrame) : s.receiveConsole c f =
    match f with
    | .cardIn _ id => (s.heard c).updConsole c fun x => { x with card := some id }
    | .cardOut _ => (s.heard c).updConsole c fun x => { x with card := none }
    | .component seq value entered => (s.heard c).takeComponent c seq value entered
    | .approve seq => (s.heard c).takeVote c seq .granted
    | .decline seq => (s.heard c).takeVote c seq .notApproved := if_neg engine

theorem receiveConsole_tampered {s : State} (engine : s.engine = .tampered) (c : ConsoleId) (f : ConsoleFrame) :
    s.receiveConsole c f = s.heard c := if_pos engine

/-- What an answer to a console leaves of the rest. -/
theorem toConsole_rest (s : State) (c : ConsoleId) (m : ConsoleMessage) :
    ((s.toConsole c m).console c).card = (s.console c).card ∧ ((s.toConsole c m).console c).pending = (s.console c).pending ∧
    s.otherConsolesSame (s.toConsole c m) c := by
  refine ⟨?_, ?_, fun d other => by rw [toConsole_console, if_neg other]⟩
  · rw [toConsole_console, if_pos rfl]
    exact (Console.given_rest _ _).1
  · rw [toConsole_console, if_pos rfl]
    exact (Console.given_rest _ _).2.1

theorem Console.given_sending_busy {x : Console} {m : ConsoleMessage} (busy : x.sending = some m) (n : ConsoleMessage) :
    (x.given n).sending = some m := by
  unfold Console.given
  rw [if_neg (by simp [busy])]
  split <;> exact busy

/-- A console that is heard and answered, seen from the state before the frame. -/
theorem heard_answered (s : State) (c : ConsoleId) (m : ConsoleMessage) :
    s.sends ((s.heard c).toConsole c m) c m ∧ s.otherConsolesSame ((s.heard c).toConsole c m) c ∧
    (((s.heard c).toConsole c m).console c).pending = (s.console c).pending := by
  have own : ((s.heard c).toConsole c m).console c = Console.given { s.console c with receiver := .hunt } m := by
    rw [toConsole_console, if_pos rfl, heard_console, if_pos rfl]
  refine ⟨⟨fun idle => ?_, fun busy room => ?_⟩, fun d other => ?_, ?_⟩
  · rw [own]
    exact Console.given_sending (x := { s.console c with receiver := .hunt }) idle m
  · rw [own]
    exact Console.given_queue (x := { s.console c with receiver := .hunt }) busy room m
  · rw [toConsole_console, if_neg other, heard_console, if_neg other]
  · rw [own]
    exact (Console.given_rest _ _).2.1

/-- A frame that is answered and changes nothing else. -/
theorem run_heard_answered {s : State} (on : s.engine ≠ .off) (c : ConsoleId) (m : ConsoleMessage) :
    s.sends (s.run fun _ => (s.quiet.heard c).toConsole c m) c m ∧
    (s.run fun _ => (s.quiet.heard c).toConsole c m).ceu.record = s.ceu.record ∧
    (s.run fun _ => (s.quiet.heard c).toConsole c m).ks = s.ks ∧
    s.otherConsolesSame (s.run fun _ => (s.quiet.heard c).toConsole c m) c := by
  obtain ⟨sends, others, -⟩ := heard_answered s.quiet c m
  obtain ⟨-, -, -, consoles⟩ := run_parts s (fun _ => (s.quiet.heard c).toConsole c m) on
  refine ⟨⟨fun idle => ?_, fun busy room => ?_⟩, by simp [run_frame _ _ on], by simp [run_frame _ _ on],
    fun d other => (consoles d).trans (others d other)⟩
  · rw [consoles]
    exact sends.1 idle
  · rw [consoles]
    exact sends.2 busy room

/-! ## APPROVE, DECLINE and WINDOW_EXPIRY (R77) -/

/-- The vote an APPROVE or DECLINE casts. -/
theorem exec_vote {s : State} (engine : s.engine ≠ .tampered) (c : ConsoleId) (seq : Byte) :
    exec (.approve c seq) s = .next (s.run fun _ => (s.quiet.heard c).takeVote c seq .granted) ∧
    exec (.decline c seq) s = .next (s.run fun _ => (s.quiet.heard c).takeVote c seq .notApproved) :=
  ⟨next_run_eq (receiveConsole_eq (s := s.quiet) engine c _), next_run_eq (receiveConsole_eq (s := s.quiet) engine c _)⟩

theorem takeVote_nothing {s : State} (none : ∀ p, s.ceu.record ≠ .approval p) (c : ConsoleId) (seq : Byte) (o : ApprovalOutcome) :
    s.takeVote c seq o = s.toConsole c (.rejected seq .nothingOpen) := by
  unfold State.takeVote
  split
  · rfl
  · rfl
  next p record => exact absurd record (none p)

theorem takeVote_noCard {s : State} {p : Approval} (record : s.ceu.record = .approval p) {c : ConsoleId}
    (card : (s.console c).card = none) (seq : Byte) (o : ApprovalOutcome) :
    s.takeVote c seq o = s.toConsole c (.rejected seq .noCard) := by
  simp only [State.takeVote, record, card]

theorem takeVote_other {s : State} {p : Approval} (record : s.ceu.record = .approval p) {c : ConsoleId} {id : CardId}
    (card : (s.console c).card = some id) (other : id ∉ p.keyholders) (seq : Byte) (o : ApprovalOutcome) :
    s.takeVote c seq o = s.toConsole c (.rejected seq .notKeyholder) := by
  simp only [State.takeVote, record, card]
  exact if_neg (by simpa using other)

theorem takeVote_counts {s : State} {p : Approval} (record : s.ceu.record = .approval p) {c : ConsoleId} {id : CardId}
    (card : (s.console c).card = some id) (keyholder : id ∈ p.keyholders) (seq : Byte) (o : ApprovalOutcome) :
    s.takeVote c seq o = (s.toConsole c (.accepted seq)).endApproval p o := by
  simp only [State.takeVote, record, card]
  exact if_pos (by simpa using keyholder)

theorem endApproval_console (s : State) (p : Approval) (o : ApprovalOutcome) (c : ConsoleId) :
    (s.endApproval p o).console c = (s.console c).given (.approvalClosed p.slot p.amount o.result) := by
  rw [State.endApproval, emptyRecord_console, toConsoles_console]
  simp

/-- A keyholder's vote ends the approval and is accepted. -/
theorem vote_ends {s : State} {c : ConsoleId} {p : Approval} {g : PendingGrant} {id : CardId} (on : s.engine ≠ .off)
    (record : s.ceu.record = .approval p) (grant : s.ks.grant = some g) (card : (s.console c).card = some id)
    (keyholder : id ∈ p.keyholders) (seq : Byte) (o : ApprovalOutcome) :
    s.approvalEnded (s.run fun _ => (s.quiet.heard c).takeVote c seq o) g o.result ∧
    ((s.console c).sending = none →
      ((s.run fun _ => (s.quiet.heard c).takeVote c seq o).console c).sending = some (.accepted seq)) ∧
    ((s.run fun _ => (s.quiet.heard c).takeVote c seq o).console c).card = some id := by
  have own : (s.quiet.heard c).console c = { s.console c with receiver := .hunt } := by
    rw [heard_console, if_pos rfl]
    rfl
  rw [takeVote_counts (s := s.quiet.heard c) record (by rw [own]; exact card) keyholder]
  obtain ⟨-, -, -, consoles⟩ :=
    run_parts s (fun _ => ((s.quiet.heard c).toConsole c (.accepted seq)).endApproval p o) on
  rw [consoles, endApproval_console, toConsole_console, if_pos rfl, own]
  refine ⟨.run on (.after (endApproval_ended (by simpa using grant) p o)), fun idle => ?_, ?_⟩
  · exact Console.given_sending_busy (Console.given_sending (x := { s.console c with receiver := .hunt }) idle _) _
  · rw [(Console.given_rest _ _).1, (Console.given_rest _ _).1]
    exact card

theorem exec_windowExpiry_due {s : State} {p : Approval} (record : s.ceu.record = .approval p) (due : p.window.due s.clock = true) :
    exec .windowExpiry s = .next (s.run fun _ => s.quiet.endApproval p .notApproved) := by
  refine next_run_eq ?_
  have record : s.quiet.ceu.record = .approval p := record
  simp only [record]
  exact if_pos due

theorem exec_windowExpiry_early {s : State} {p : Approval} (settled : s.settled) (record : s.ceu.record = .approval p)
    (early : p.window.due s.clock = false) : exec .windowExpiry s = .next s.quiet :=
  congrArg Host.Outcome.next (run_id _ _ settled (by simp [record, early]))

/-- The vote of an APPROVE or a DECLINE, whichever it is. -/
theorem exec_vote_either {s : State} (engine : s.engine ≠ .tampered) {c : ConsoleId} {seq : Byte} {i : Instr}
    (vote : i = .approve c seq ∨ i = .decline c seq) :
    ∃ o, exec i s = .next (s.run fun _ => (s.quiet.heard c).takeVote c seq o) := by
  obtain rfl | rfl := vote
  · exact ⟨_, (exec_vote engine c seq).1⟩
  · exact ⟨_, (exec_vote engine c seq).2⟩

/-- Settles O34. -/
theorem approvalEndings : Obligations.ApprovalEndings := by
  refine ⟨fun s c seq p g id on engine record grant card keyholder => ⟨⟨_, (exec_vote engine c seq).1, ?granted⟩,
    ⟨_, (exec_vote engine c seq).2, ?declined⟩⟩, fun s c seq i on engine vote => ?rejected, fun s p g on settled record grant =>
    ⟨fun due => ?due, exec_windowExpiry_early settled record⟩⟩
  case granted => exact vote_ends on record grant card keyholder seq .granted
  case declined => exact vote_ends on record grant card keyholder seq .notApproved
  case rejected =>
    obtain ⟨o, steps⟩ := exec_vote_either engine vote
    have own : (s.quiet.heard c).console c = { s.console c with receiver := .hunt } := by
      rw [heard_console, if_pos rfl]
      rfl
    refine ⟨fun none => ⟨_, steps, ?_⟩, fun p record => ⟨fun absent => ⟨_, steps, ?_⟩, fun id card other => ⟨_, steps, ?_⟩⟩⟩
    · rw [takeVote_nothing (s := s.quiet.heard c) none]
      exact run_heard_answered on c _
    · rw [takeVote_noCard (s := s.quiet.heard c) record (by rw [own]; exact absent)]
      exact run_heard_answered on c _
    · rw [takeVote_other (s := s.quiet.heard c) record (by rw [own]; exact card) other]
      exact run_heard_answered on c _
  case due =>
    rw [exec_windowExpiry_due record due]
    exact ⟨_, rfl, .run on (endApproval_ended (s := s.quiet) grant p .notApproved)⟩

end Sys2Proof.Machine
end

section

set_option Elab.async false

/-!
SUPPORT. Card state, components and their checks (R63, R66 to R70, R72), with the cipher unit's submissions (R80, R81).
-/

namespace Sys2Proof.Machine

/-! ## Submissions to the cipher unit (R80, R81) -/

theorem submitCipher_behind {s : State} (running : s.cipher.running ≠ none) (requester : Requester) (op : CipherOp) :
    s.submitCipher requester op = s.updCipher fun u => { u with waiting := u.waiting ++ [{ requester, op }] } := by
  rw [State.submitCipher, State.kickCipher, if_pos]
  simpa [Option.isSome_iff_ne_none] using running

theorem submitCipher_starts {s : State} (idle : s.cipher.running = none) (empty : s.cipher.waiting = []) (requester : Requester)
    {op : CipherOp} {working : Option Key} (copy : s.workingCopy op = some working) :
    (s.submitCipher requester op).cipher = { running := some { request := { requester, op }, working }, waiting := [] } ∧
    (s.submitCipher requester op).bays = s.bays ∧ (s.submitCipher requester op).ks = s.ks ∧
    (s.submitCipher requester op).writer = s.writer := by
  have same : (s.updCipher fun u => { u with waiting := u.waiting ++ [{ requester, op }] }).workingCopy op = some working := by
    rw [← copy]
    cases op <;> rfl
  rw [State.submitCipher, State.kickCipher, if_neg (by simp [idle])]
  simp only [updCipher_cipher, empty, List.nil_append, State.startCipher, same]
  simp

/-- With nothing waiting nothing starts. -/
theorem kickCipher_empty {s : State} (empty : s.cipher.waiting = []) : s.kickCipher = s := by
  unfold State.kickCipher
  split
  · rfl
  · rw [empty]
    unfold State.startCipher State.updCipher
    rw [← empty]

/-! ## CARD_IN and CARD_OUT (R63) -/

/-- A change of one console leaves nothing for the engine to do at once. -/
theorem settled_updConsole {s : State} (settled : s.settled) (c : ConsoleId) (f : Console → Console) :
    (s.updConsole c f).settled := settled.of_parts

/-- A console changes and nothing else does. -/
theorem updConsole_only (s : State) (c : ConsoleId) (f : Console → Console) :
    s.updConsole c f = { s with ceu := { s.ceu with consoles := (s.updConsole c f).ceu.consoles } } := rfl

/-- What a frame at a console that changes the console alone leaves. -/
theorem run_updConsole {s : State} (on : s.engine ≠ .off) (settled : s.settled) (c : ConsoleId) (f : Console → Console) :
    (s.run fun _ => s.quiet.updConsole c f).console c = f (s.console c) ∧
    s.otherConsolesSame (s.run fun _ => s.quiet.updConsole c f) c ∧
    (s.run fun _ => s.quiet.updConsole c f) =
      { s.quiet with ceu := { s.ceu with consoles := (s.run fun _ => s.quiet.updConsole c f).ceu.consoles } } := by
  rw [run_settled s _ on (settled_updConsole (settled_quiet s settled) c f)]
  refine ⟨?_, fun d other => ?_, updConsole_only _ _ _⟩
  · rw [updConsole_console, if_pos rfl]
    rfl
  · rw [updConsole_console, if_neg other]
    rfl

theorem heard_updConsole (s : State) (c : ConsoleId) (f : Console → Console) :
    (s.heard c).updConsole c f = s.updConsole c fun x => f { x with receiver := .hunt } := by
  simp [State.heard, State.updConsole, State.console, State.updCeu]

theorem exec_card {s : State} (engine : s.engine ≠ .tampered) (c : ConsoleId) (seq : Byte) (id : CardId) :
    exec (.cardIn c seq id) s = .next (s.run fun _ => s.quiet.updConsole c fun x => { x with receiver := .hunt, card := some id }) ∧
    exec (.cardOut c seq) s = .next (s.run fun _ => s.quiet.updConsole c fun x => { x with receiver := .hunt, card := none }) :=
  ⟨next_run_eq ((receiveConsole_eq (s := s.quiet) engine c _).trans (heard_updConsole _ _ _)),
    next_run_eq ((receiveConsole_eq (s := s.quiet) engine c _).trans (heard_updConsole _ _ _))⟩

theorem exec_card_tampered {s : State} (engine : s.engine = .tampered) (c : ConsoleId) (seq : Byte) (id : CardId) :
    exec (.cardIn c seq id) s = .next (s.run fun _ => s.quiet.heard c) ∧
    exec (.cardOut c seq) s = .next (s.run fun _ => s.quiet.heard c) :=
  ⟨next_run_eq (receiveConsole_tampered (s := s.quiet) engine c _), next_run_eq (receiveConsole_tampered (s := s.quiet) engine c _)⟩

/-- Settles O35. -/
theorem cardStateFollowsConsole : Obligations.CardStateFollowsConsole := by
  intro s c seq id on settled
  refine ⟨fun engine => ?_, fun tampered => ?_⟩
  · obtain ⟨cardIn, cardOut⟩ := exec_card engine c seq id
    exact ⟨⟨_, cardIn, run_updConsole on settled c _⟩, ⟨_, cardOut, run_updConsole on settled c _⟩⟩
  · obtain ⟨cardIn, cardOut⟩ := exec_card_tampered tampered c seq id
    obtain ⟨own, others, -⟩ := run_updConsole on settled c fun x => { x with receiver := .hunt }
    have rest : (s.run fun _ => s.quiet.heard c).ks = s.ks ∧ (s.run fun _ => s.quiet.heard c).ceu.record = s.ceu.record := by
      simp [run_frame _ _ on]
    exact ⟨⟨_, cardIn, own, others, rest⟩, ⟨_, cardOut, own, others, rest⟩⟩

/-! ## COMPONENT (R66, R67) -/

theorem exec_component {s : State} (engine : s.engine ≠ .tampered) (c : ConsoleId) (seq : Byte) (value : Key) (entered : CheckValue) :
    exec (.component c seq value entered) s = .next (s.run fun _ => (s.quiet.heard c).takeComponent c seq value entered) :=
  next_run_eq (receiveConsole_eq (s := s.quiet) engine c _)

theorem takeComponent_refused {s : State} {c : ConsoleId} {reason : RejectReason} (refusal : s.componentRefusal c = some reason)
    (seq : Byte) (value : Key) (entered : CheckValue) : s.takeComponent c seq value entered = s.toConsole c (.rejected seq reason) := by
  rw [State.takeComponent, refusal]

theorem not_contributed {l : List (CardId × ConsoleId)} {id : CardId} (fresh : ∀ x ∈ l, x.1 ≠ id) :
    l.any (fun x => decide (x.1 = id)) = false :=
  List.any_eq_false.2 fun x member => by simpa using fresh x member

/-- The first failing test of R66. -/
theorem componentRefusal_eq_some {s : State} {c : ConsoleId} {reason : RejectReason}
    (h : ((∀ a, s.ceu.record ≠ .assembly a) ∧ reason = .nothingOpen) ∨
      (∃ a, s.ceu.record = .assembly a ∧
        ((a.phase ≠ .gathering ∧ reason = .assemblyComplete) ∨
         (a.phase = .gathering ∧ (s.console c).pending = true ∧ reason = .pending) ∨
         (a.phase = .gathering ∧ (s.console c).pending = false ∧ (s.console c).card = none ∧ reason = .noCard) ∨
         (a.phase = .gathering ∧ (s.console c).pending = false ∧
           ∃ id, (s.console c).card = some id ∧
             ((id ∉ a.permitted ∧ reason = .notPermitted) ∨
              (id ∈ a.permitted ∧ (∃ x ∈ a.contributors, x.1 = id) ∧ reason = .alreadyContributed)))))) :
    s.componentRefusal c = some reason := by
  obtain ⟨nothing, rfl⟩ | ⟨a, record, tests⟩ := h
  · have assembly : s.assembly = none := by
      unfold State.assembly
      split
      next a record => exact absurd record (nothing a)
      · rfl
      · rfl
    rw [State.componentRefusal, assembly]
  · rw [State.componentRefusal, State.assembly_of_record record]
    obtain ⟨phase, rfl⟩ | ⟨phase, pending, rfl⟩ | ⟨phase, pending, card, rfl⟩ | ⟨phase, pending, id, card, test⟩ := tests
    · simp [phase]
    · simp [phase, pending]
    · simp [phase, pending, card]
    · obtain ⟨other, rfl⟩ | ⟨permitted, again, rfl⟩ := test
      · simp [phase, pending, card, other]
      · simpa [phase, pending, card, permitted] using again

theorem componentRefusal_eq_none {s : State} {c : ConsoleId} {a : Assembly} {id : CardId} (record : s.ceu.record = .assembly a)
    (phase : a.phase = .gathering) (pending : (s.console c).pending = false) (card : (s.console c).card = some id)
    (permitted : id ∈ a.permitted) (fresh : ∀ x ∈ a.contributors, x.1 ≠ id) : s.componentRefusal c = none := by
  rw [State.componentRefusal, State.assembly_of_record record]
  simp [phase, pending, card, permitted, not_contributed fresh]

/-- The component as it joins the arrival list. -/
def State.arrived (s : State) (c : ConsoleId) (a : Arrival) : State :=
  (s.updConsole c fun x => { x with pending := true }).updCeu fun u => { u with arrivals := u.arrivals ++ [a] }

theorem arrived_console (s : State) (c d : ConsoleId) (a : Arrival) :
    (s.arrived c a).console d = if d = c then { s.console c with pending := true } else s.console d :=
  updConsole_console s c d fun x => { x with pending := true }

theorem takeComponent_taken {s : State} {c : ConsoleId} (passes : s.componentRefusal c = none) {id : CardId}
    (card : (s.console c).card = some id) (seq : Byte) (value : Key) (entered : CheckValue) :
    s.takeComponent c seq value entered = (s.arrived c { console := c, seq, id, value, entered }).takeArrivals := by
  rw [State.takeComponent, passes]
  simp only [card, Option.getD_some]
  rfl

/-- While a check is under way the arrivals wait (R67). -/
theorem takeArrivals_busy {s : State} {y : Assembly} (record : s.ceu.record = .assembly y) (busy : s.ceu.busy = true)
    (some_wait : s.ceu.arrivals ≠ []) : s.takeArrivals = s := by
  obtain ⟨a, rest, arrivals⟩ := List.exists_cons_of_ne_nil some_wait
  simp only [State.takeArrivals, arrivals, State.takeComponents, State.assembly_of_record record, busy]
  simp

/-- With nothing waiting nothing is submitted. -/
theorem takeArrivals_none {s : State} (none_wait : s.ceu.arrivals = []) : s.takeArrivals = s := by
  simp only [State.takeArrivals, none_wait, State.takeComponents]
  unfold State.updCeu
  rw [← none_wait]

/-- No assembly in GATHERING takes an arrival (R67). -/
theorem takeArrivals_closed {s : State} (closed : ∀ y, s.ceu.record = .assembly y → y.phase ≠ .gathering) : s.takeArrivals = s := by
  cases arrivals : s.ceu.arrivals with
  | nil => exact takeArrivals_none arrivals
  | cons a rest =>
    simp only [State.takeArrivals, arrivals, State.takeComponents]
    split
    next y assembly =>
      refine if_neg fun gathering => closed y ?_ gathering.1
      unfold State.assembly at assembly
      split at assembly
      next z record => rw [record, Option.some_inj.1 assembly]
      · cases assembly
      · cases assembly
    · rfl

/-- The oldest arrival is submitted for its check (R67). -/
theorem takeArrivals_submits {s : State} {y : Assembly} {a : Arrival} {rest : List Arrival} (record : s.ceu.record = .assembly y)
    (phase : y.phase = .gathering) (idle : s.ceu.busy = false) (arrivals : s.ceu.arrivals = a :: rest)
    (fresh : ∀ x ∈ y.contributors, x.1 ≠ a.id) :
    s.takeArrivals = (s.updCeu fun u => { u with arrivals := rest, inCheck := some a, busy := true }).submitCipher .component
      (.checkval a.value) := by
  simp only [State.takeArrivals, arrivals, State.takeComponents, State.assembly_of_record record, phase, idle]
  rw [if_pos (by simp), if_neg (by simp [not_contributed fresh])]

/-- A rejected component leaves all but the consoles alone. -/
theorem run_component_rejected {s : State} (on : s.engine ≠ .off) (c : ConsoleId) (m : ConsoleMessage) :
    (s.run fun _ => (s.quiet.heard c).toConsole c m).ceu.arrivals = s.ceu.arrivals ∧
    (s.run fun _ => (s.quiet.heard c).toConsole c m).ceu.inCheck = s.ceu.inCheck ∧
    ((s.run fun _ => (s.quiet.heard c).toConsole c m).console c).pending = (s.console c).pending := by
  obtain ⟨-, -, pending⟩ := heard_answered s.quiet c m
  obtain ⟨-, -, -, consoles⟩ := run_parts s (fun _ => (s.quiet.heard c).toConsole c m) on
  refine ⟨by simp [run_frame _ _ on], ?_, by rw [consoles]; exact pending⟩
  rw [show (s.run fun _ => (s.quiet.heard c).toConsole c m).ceu = ((s.quiet.heard c).toConsole c m).ceu by simp [run_frame _ _ on]]
  exact (toConsole_check _ _ _).1

/-- Settles O36. -/
theorem componentByRule : Obligations.ComponentByRule := by
  refine ⟨fun s c seq value entered reason on engine fails => ?rejected,
    fun s c seq value entered a id on engine record phase clear card permitted fresh => ⟨fun busy => ?waits, fun idle empty => ?submits⟩⟩
  case rejected =>
    have own : (s.quiet.heard c).console c = { s.console c with receiver := .hunt } := by
      rw [heard_console, if_pos rfl]
      rfl
    have refusal : (s.quiet.heard c).componentRefusal c = some reason := by
      refine componentRefusal_eq_some ?_
      rw [own]
      exact fails
    rw [exec_component engine, takeComponent_refused refusal]
    obtain ⟨sends, record, ks, others⟩ := run_heard_answered on c (.rejected seq reason)
    obtain ⟨arrivals, inCheck, pending⟩ := run_component_rejected on c (.rejected seq reason)
    exact ⟨_, rfl, sends, record, arrivals, inCheck, pending, others, ks, by simp [run_frame _ _ on]⟩
  all_goals
    have own : (s.quiet.heard c).console c = { s.console c with receiver := .hunt } := by
      rw [heard_console, if_pos rfl]
      rfl
    have passes : (s.quiet.heard c).componentRefusal c = none :=
      componentRefusal_eq_none (s := s.quiet.heard c) record phase (by rw [own]; exact clear) (by rw [own]; exact card) permitted fresh
    rw [exec_component engine, takeComponent_taken passes (by rw [own]; exact card)]
  all_goals
    obtain ⟨new, newEq⟩ : ∃ new : Arrival, new = { console := c, seq, id, value, entered } := ⟨_, rfl⟩
    rw [← newEq]
    have console (d : ConsoleId) : ((s.quiet.heard c).arrived c new).console d =
        if d = c then { s.console c with receiver := .hunt, pending := true } else s.console d := by
      rw [arrived_console, own, heard_console]
      split
      · rfl
      · rfl
  case waits =>
    rw [takeArrivals_busy (s := (s.quiet.heard c).arrived c new) record busy (by simp [State.arrived])]
    obtain ⟨-, -, -, consoles⟩ := run_parts s (fun _ => (s.quiet.heard c).arrived c new) on
    refine ⟨_, rfl, ?_, ?_, ?_, ?_, fun d other => ?_, ?_⟩
    · rw [consoles, console, if_pos rfl]
    · simp [run_frame _ _ on, State.arrived]
    · simp [run_frame _ _ on, State.arrived]
    · simp [run_frame _ _ on, State.arrived]
    · rw [consoles, console, if_neg other]
    · simp [run_frame _ _ on, State.arrived]
  case submits =>
    rw [takeArrivals_submits (s := (s.quiet.heard c).arrived c new) (rest := []) (a := new) record phase idle
      (by simp [State.arrived, empty]) (by rw [newEq]; exact fresh)]
    obtain ⟨u, uEq⟩ : ∃ u, u = ((s.quiet.heard c).arrived c new).updCeu fun k =>
        { k with arrivals := [], inCheck := some new, busy := true } := ⟨_, rfl⟩
    have cipher : u.cipher = s.cipher := by rw [uEq]; rfl
    have ceu : u.ceu.arrivals = [] ∧ u.ceu.busy = true ∧ u.ceu.inCheck = some new ∧ u.ceu.record = s.ceu.record := by
      rw [uEq]
      exact ⟨rfl, rfl, rfl, rfl⟩
    have others (d : ConsoleId) : u.console d = ((s.quiet.heard c).arrived c new).console d := by rw [uEq]; rfl
    have rest : u.ks = s.ks ∧ u.prof = s.prof ∧ u.clock = s.clock := by rw [uEq]; exact ⟨rfl, rfl, rfl⟩
    have checks : new.value = value := by rw [newEq]
    rw [← uEq, checks]
    obtain ⟨-, -, -, consoles⟩ := run_parts s (fun _ => u.submitCipher .component (.checkval value)) on
    refine ⟨_, rfl, ?_, ?_, ?_, ?_, ?_, fun d other => ?_, ?_, ?_, ?_, fun running => ?_, fun free nothing => ?_⟩
    · rw [consoles]
      simp [others, console]
    · simp [run_frame _ _ on, ceu]
    · simp [run_frame _ _ on, ceu]
    · simp [run_frame _ _ on, ceu, newEq]
    · simp [run_frame _ _ on, ceu]
    · rw [consoles]
      simp [others, console, other]
    · simp [run_frame _ _ on, rest]
    · simp [run_frame _ _ on, rest]
    · simp [run_frame _ _ on, rest]
    · rw [submitCipher_behind (by rw [cipher]; exact running)]
      simp [run_frame _ _ on, cipher]
    · obtain ⟨started, -⟩ := submitCipher_starts (s := u) (by rw [cipher]; exact free) (by rw [cipher]; exact nothing) .component
        (op := .checkval value) rfl
      simpa [run_frame _ _ on] using started

/-! ## The check of a component completes (R68, R72) -/

theorem exec_checkvalDone_component {s : State} {v : Key} {w : Option Key}
    (running : s.cipher.running = some { request := { requester := .component, op := .checkval v }, working := w }) :
    exec .checkvalDone s = .next (s.run fun _ => (s.quiet.releaseCipher.componentChecked (Config.checkValue v)).kickCipher) := by
  refine next_run_eq ?_
  have running : s.quiet.cipher.running = some { request := { requester := .component, op := .checkval v }, working := w } := running
  simp only [running]

theorem exec_checkvalDone_accumulator {s : State} {v : Key} {w : Option Key}
    (running : s.cipher.running = some { request := { requester := .accumulator, op := .checkval v }, working := w }) :
    exec .checkvalDone s = .next (s.run fun _ => (s.quiet.releaseCipher.accumulatorChecked (Config.checkValue v)).kickCipher) := by
  refine next_run_eq ?_
  have running : s.quiet.cipher.running = some { request := { requester := .accumulator, op := .checkval v }, working := w } := running
  simp only [running]

/-- The place in the cipher unit is free and the unit's marks are cleared. -/
def State.checkReleased (s : State) : State := s.releaseCipher.checkEnded

@[simp] theorem checkReleased_frame (s : State) : s.checkReleased.engine = s.engine ∧ s.checkReleased.clock = s.clock ∧
    s.checkReleased.intake = s.intake ∧ s.checkReleased.ks = s.ks ∧ s.checkReleased.bays = s.bays ∧ s.checkReleased.prof = s.prof ∧
    s.checkReleased.writer = s.writer ∧ s.checkReleased.ceu = { s.ceu with busy := false, discard := false, inCheck := none } ∧
    s.checkReleased.cipher.waiting = s.cipher.waiting ∧ s.checkReleased.cipher.running = none ∧
    (∀ i, s.checkReleased.slot i = s.slot i) ∧ (∀ c, s.checkReleased.console c = s.console c) :=
  ⟨rfl, rfl, rfl, rfl, rfl, rfl, rfl, rfl, rfl, rfl, fun _ => rfl, fun _ => rfl⟩

theorem componentChecked_discarded {s : State} (discard : s.ceu.discard = true) (value : CheckValue) :
    s.releaseCipher.componentChecked value = s.checkReleased.takeArrivals := if_pos discard

theorem componentChecked_judged {s : State} (kept : s.ceu.discard = false) {y : Assembly} {a : Arrival}
    (record : s.ceu.record = .assembly y) (inCheck : s.ceu.inCheck = some a) (value : CheckValue) :
    s.releaseCipher.componentChecked value =
      if value = a.entered then s.checkReleased.componentAccepted y a else s.checkReleased.componentFailed y a := by
  have assembly : s.releaseCipher.assembly = some y := State.assembly_of_record record
  have inCheck : s.releaseCipher.ceu.inCheck = some a := inCheck
  rw [State.componentChecked, if_neg (by simpa [State.releaseCipher] using kept), assembly, inCheck]
  rfl

theorem takeComponents_discard (l : List Arrival) (s : State) : (State.takeComponents l s).ceu.discard = s.ceu.discard := by
  induction l generalizing s with
  | nil => rfl
  | cons a rest ih =>
    unfold State.takeComponents
    split
    · split
      · split
        · rw [ih]
          exact (rejectArrival_check _ _ _).2.2
        · simp
      · rfl
    · rfl

theorem kickCipher_console (s : State) (c : ConsoleId) : s.kickCipher.console c = s.console c := by simp

/-- A component whose check differs is rejected, and the rejection counted (R68). -/
def State.checkFailed (s : State) (z : Assembly) (a : Arrival) : State := (State.rejectArrival .checkFailed s a).setAssembly z

@[simp] theorem checkFailed_frame (s : State) (z : Assembly) (a : Arrival) : (s.checkFailed z a).engine = s.engine ∧
    (s.checkFailed z a).clock = s.clock ∧ (s.checkFailed z a).intake = s.intake ∧ (s.checkFailed z a).ks = s.ks ∧
    (s.checkFailed z a).bays = s.bays ∧ (s.checkFailed z a).prof = s.prof ∧ (s.checkFailed z a).writer = s.writer ∧
    (s.checkFailed z a).cipher = s.cipher ∧ (s.checkFailed z a).ceu.arrivals = s.ceu.arrivals ∧
    (s.checkFailed z a).ceu.record = .assembly z ∧ (∀ i, (s.checkFailed z a).slot i = s.slot i) := by
  simp [State.checkFailed, State.setAssembly]

theorem checkFailed_unit (s : State) (z : Assembly) (a : Arrival) : (s.checkFailed z a).ceu.inCheck = s.ceu.inCheck ∧
    (s.checkFailed z a).ceu.busy = s.ceu.busy ∧
    ∀ c, (s.checkFailed z a).console c = (State.rejectArrival .checkFailed s a).console c := by
  obtain ⟨inCheck, busy, -⟩ := rejectArrival_check s .checkFailed a
  exact ⟨inCheck, busy, fun _ => rfl⟩

theorem componentFailed_counts {s : State} {y : Assembly} (few : y.rejects + 1 ≠ 3) (a : Arrival) (none_wait : s.ceu.arrivals = []) :
    s.componentFailed y a = s.checkFailed { y with rejects := y.rejects + 1 } a := by
  refine (if_neg few).trans (takeArrivals_none ?_)
  simpa using none_wait

theorem componentFailed_third {s : State} {y : Assembly} (third : y.rejects + 1 = 3) (a : Arrival) :
    s.componentFailed y a = (s.checkFailed { y with rejects := 3 } a).endAssembly { y with rejects := 3 } .componentRejects := by
  rw [← third]
  exact if_pos third

/-- A component whose check matches is combined and accepted (R68). -/
def State.checkPassed (s : State) (z : Assembly) (a : Arrival) : State :=
  ((((s.setAssembly z).updConsole a.console fun x => { x with pending := false }).toConsole a.console
    (.accepted a.seq)).toConsoles (.assemblyProgress z.slot z.contributors.length z.target)).raise .ceremonyStep

@[simp] theorem checkPassed_frame (s : State) (z : Assembly) (a : Arrival) : (s.checkPassed z a).engine = s.engine ∧
    (s.checkPassed z a).clock = s.clock ∧ (s.checkPassed z a).intake = s.intake ∧ (s.checkPassed z a).ks = s.ks ∧
    (s.checkPassed z a).bays = s.bays ∧ (s.checkPassed z a).prof = s.prof ∧ (s.checkPassed z a).writer = s.writer ∧
    (s.checkPassed z a).cipher = s.cipher ∧ (s.checkPassed z a).ceu.arrivals = s.ceu.arrivals ∧
    (s.checkPassed z a).ceu.record = .assembly z ∧ (∀ i, (s.checkPassed z a).slot i = s.slot i) := by
  simp [State.checkPassed, State.setAssembly]

theorem checkPassed_unit (s : State) (z : Assembly) (a : Arrival) : (s.checkPassed z a).ceu.inCheck = s.ceu.inCheck ∧
    (s.checkPassed z a).ceu.busy = s.ceu.busy ∧ (s.checkPassed z a).hasFlag .ceremonyStep := by
  refine ⟨?_, ?_, State.hasFlag_raise _ _⟩
  · simp [State.checkPassed, toConsoles_check, toConsole_check, State.setAssembly]
  · simp [State.checkPassed, toConsoles_check, toConsole_check, State.setAssembly]

theorem setAssembly_console (s : State) (z : Assembly) (c : ConsoleId) : (s.setAssembly z).console c = s.console c := rfl

theorem checkPassed_console (s : State) (z : Assembly) (a : Arrival) : (s.checkPassed z a).console a.console =
    Console.given (Console.given { s.console a.console with pending := false } (.accepted a.seq))
      (.assemblyProgress z.slot z.contributors.length z.target) := by
  simp [State.checkPassed, toConsoles_console, toConsole_console, updConsole_console, setAssembly_console]

/-- The contributor and the component taken into an assembly (R68). -/
def Assembly.takes (y : Assembly) (a : Arrival) : Assembly :=
  { y with accumulator := y.accumulator ^^^ a.value, contributors := y.contributors ++ [(a.id, a.console)] }

theorem componentAccepted_more {s : State} {y : Assembly} {a : Arrival} (more : y.contributors.length + 1 ≠ y.target)
    (none_wait : s.ceu.arrivals = []) : s.componentAccepted y a = s.checkPassed (y.takes a) a := by
  refine (if_neg ?_).trans (takeArrivals_none ?_)
  · simpa using more
  · simpa using none_wait

theorem componentAccepted_last {s : State} {y : Assembly} {a : Arrival} (last : y.contributors.length + 1 = y.target) :
    s.componentAccepted y a = (s.checkPassed (y.takes a) a).beginFinalCheck (y.takes a) := by
  refine if_pos ?_
  simpa using last

/-- Settles O37. -/
theorem componentCheckCompletes : Obligations.ComponentCheckCompletes := by
  refine ⟨fun s v w on running discard => ?discarded, fun s v w y a on running record inCheck empty =>
    ⟨fun kept differs => ⟨fun few => ?failed, fun third idle => ?third⟩, fun kept same => ⟨fun more => ?accepted, fun last => ?last⟩⟩⟩
  case discarded =>
    rw [exec_checkvalDone_component running, componentChecked_discarded (s := s.quiet) discard]
    have unit : (s.run fun _ => s.quiet.checkReleased.takeArrivals.kickCipher).ceu = s.quiet.checkReleased.takeArrivals.ceu := by
      simp [run_frame _ _ on]
    refine ⟨_, rfl, by simp [unit], by rw [unit]; exact takeComponents_discard _ _, by simp [run_frame _ _ on],
      by simp [run_frame _ _ on], by simp [run_frame _ _ on], fun idle => ?_, fun y x rest record phase arrivals fresh => ?_⟩
    · rw [unit]
      obtain nothing | closed := idle
      · rw [takeArrivals_none (s := s.quiet.checkReleased) nothing]
        rfl
      · rw [takeArrivals_closed (s := s.quiet.checkReleased) closed]
        rfl
    · rw [unit, takeArrivals_submits (s := s.quiet.checkReleased) record phase rfl arrivals fresh]
      simp
  all_goals rw [exec_checkvalDone_component running, componentChecked_judged (s := s.quiet) kept record inCheck]
  case failed =>
    rw [if_neg differs, componentFailed_counts (s := s.quiet.checkReleased) few a empty]
    obtain ⟨-, -, -, consoles⟩ := run_parts s
      (fun _ => (s.quiet.checkReleased.checkFailed { y with rejects := y.rejects + 1 } a).kickCipher) on
    obtain ⟨unchecked, busy, console⟩ := checkFailed_unit s.quiet.checkReleased { y with rejects := y.rejects + 1 } a
    have own : (s.run fun _ => (s.quiet.checkReleased.checkFailed { y with rejects := y.rejects + 1 } a).kickCipher).console a.console =
        Console.given { s.console a.console with pending := false } (.rejected a.seq .checkFailed) := by
      rw [consoles, kickCipher_console, console, rejectArrival_console, if_pos rfl]
      rfl
    refine ⟨_, rfl, by simp [run_frame _ _ on], by simp [run_frame _ _ on, busy], by simp [run_frame _ _ on, unchecked], ?_,
      ⟨fun free => ?_, fun waits room => ?_⟩, by simp [run_frame _ _ on], by simp [run_frame _ _ on]⟩
    · rw [own]
      exact (Console.given_rest _ _).2.1
    · rw [own]
      exact Console.given_sending (x := { s.console a.console with pending := false }) free _
    · rw [own]
      exact Console.given_queue (x := { s.console a.console with pending := false }) waits room _
  case third =>
    rw [if_neg differs, componentFailed_third (s := s.quiet.checkReleased) third, kickCipher_empty (by simpa using idle)]
    exact ⟨_, rfl, .run on (.after (endAssembly_ended _ _ _))⟩
  case accepted =>
    rw [if_pos same, componentAccepted_more (s := s.quiet.checkReleased) more empty]
    obtain ⟨unchecked, busy, flag⟩ := checkPassed_unit s.quiet.checkReleased (y.takes a) a
    obtain ⟨-, -, -, consoles⟩ := run_parts s (fun _ => (s.quiet.checkReleased.checkPassed (y.takes a) a).kickCipher) on
    have own : (s.run fun _ => (s.quiet.checkReleased.checkPassed (y.takes a) a).kickCipher).console a.console =
        Console.given (Console.given { s.console a.console with pending := false } (.accepted a.seq))
          (.assemblyProgress (y.takes a).slot (y.takes a).contributors.length (y.takes a).target) := by
      rw [consoles, kickCipher_console, checkPassed_console]
      rfl
    refine ⟨_, rfl, ?_, by simp [run_frame _ _ on, busy], by simp [run_frame _ _ on, unchecked], ?_,
      hasFlag_run on ((State.Grows.refl _).kickCipher.hasFlag flag), fun free => ?_, by simp [run_frame _ _ on], by simp [run_frame _ _ on]⟩
    · simp [run_frame _ _ on, Assembly.takes]
    · rw [own, (Console.given_rest _ _).2.1, (Console.given_rest _ _).2.1]
    · rw [own]
      exact Console.given_sending_busy (Console.given_sending (x := { s.console a.console with pending := false }) free _) _
  case last =>
    rw [if_pos same, componentAccepted_last (s := s.quiet.checkReleased) last]
    obtain ⟨-, -, flag⟩ := checkPassed_unit s.quiet.checkReleased (y.takes a) a
    refine ⟨_, rfl, ?_, ?_, hasFlag_run on (((State.Grows.refl _).beginFinalCheck _).kickCipher.hasFlag flag),
      by simp [run_frame _ _ on], by simp [run_frame _ _ on]⟩
    · simp [run_frame _ _ on, State.beginFinalCheck, State.setAssembly, Assembly.takes]
    · simp [run_frame _ _ on, State.beginFinalCheck]

/-! ## The check of the accumulator completes (R24, R69, R70) -/

theorem accumulatorChecked_judged {s : State} (kept : s.ceu.discard = false) {y : Assembly} (record : s.ceu.record = .assembly y)
    (value : CheckValue) : s.releaseCipher.accumulatorChecked value =
      if value = y.expected then s.checkReleased.commitAssembly y value else s.checkReleased.endAssembly y .checkMismatch := by
  have assembly : s.releaseCipher.assembly = some y := State.assembly_of_record record
  rw [State.accumulatorChecked, if_neg (by simpa [State.releaseCipher] using kept), assembly]
  rfl

/-- The slot as a commit records the key (R24). -/
def Slot.committing (x : Slot) (ids : List CardId) (value : CheckValue) : Slot :=
  { x with keyholders := ids, checkValue := some value, nextSerial := 0, receipted := 0, allowance := 0, claims := [] }

theorem commitKey_persistent {s : State} {i : SlotId} (low : i.val < 48) (key : Key) (ids : List CardId) (value : CheckValue) :
    s.commitKey i key ids value =
      (s.updSlot i fun x => { x.committing ids value with state := .writing, target := some .ready, committed := some key }).queueWrite
        i := if_pos (by simp [isPersistent, low])

theorem commitKey_volatile {s : State} {i : SlotId} (high : 48 ≤ i.val) (key : Key) (ids : List CardId) (value : CheckValue) :
    s.commitKey i key ids value = s.updSlot i fun x => { x.committing ids value with state := .ready, stored := .key key } :=
  if_neg (by simp [isPersistent, Nat.not_lt.mpr high])

/-- The record while the key array is written (R69). -/
def Assembly.commits (y : Assembly) : Assembly := { y with accumulator := 0, phase := .committing }

theorem commitAssembly_persistent {s : State} {y : Assembly} (low : y.slot.val < 48) (value : CheckValue) :
    s.commitAssembly y value = (s.setAssembly y.commits).commitKey y.slot y.accumulator (y.contributors.map (·.1)) value :=
  if_pos (by simp [isPersistent, low])

theorem commitAssembly_volatile {s : State} {y : Assembly} (high : 48 ≤ y.slot.val) (value : CheckValue) :
    s.commitAssembly y value =
      ((s.setAssembly y.commits).commitKey y.slot y.accumulator (y.contributors.map (·.1)) value).commitResult y.slot true :=
  if_neg (by simp [isPersistent, Nat.not_lt.mpr high])

/-- The answer of a commit (R70). -/
theorem commitResult_eq {s : State} {y : Assembly} (record : s.ceu.record = .assembly y) (phase : y.phase = .committing) (ok : Bool) :
    s.commitResult y.slot ok =
      ((s.completeOrder y.order (if ok then .ok else .storeFault)
          (y.answerData (if ok then (s.slot y.slot).checkValue.getD 0 else 0))).toConsoles
        (.assemblyClosed y.slot (if ok then .ok else .storeFault)
          (if ok then (s.slot y.slot).checkValue.getD 0 else 0))).emptyRecord := by
  rw [State.commitResult, State.assembly_of_record record]
  exact if_pos ⟨rfl, phase⟩

theorem commitResult_none {s : State} {i : SlotId} (other : ∀ y, s.ceu.record = .assembly y → y.slot ≠ i ∨ y.phase ≠ .committing)
    (ok : Bool) : s.commitResult i ok = s := by
  unfold State.commitResult
  split
  next y assembly =>
    refine if_neg fun ⟨own, phase⟩ => ?_
    have record : s.ceu.record = .assembly y := by
      unfold State.assembly at assembly
      split at assembly
      next z record => rw [record, Option.some_inj.1 assembly]
      · cases assembly
      · cases assembly
    exact (other y record).elim (· own) (· phase)
  · rfl

/-- What a commit leaves of the slots, persistent or volatile. -/
theorem commitAssembly_slot (s : State) (y : Assembly) (value : CheckValue) (j : SlotId) : (s.commitAssembly y value).slot j =
    if j = y.slot then
      if y.slot.val < 48 then { (s.slot y.slot).committing (y.contributors.map (·.1)) value with
        state := .writing, target := some .ready, committed := some y.accumulator }
      else { (s.slot y.slot).committing (y.contributors.map (·.1)) value with state := .ready, stored := .key y.accumulator }
    else s.slot j := by
  obtain low | high := Nat.lt_or_ge y.slot.val 48
  · rw [commitAssembly_persistent low, commitKey_persistent low, if_pos low]
    simp [updSlot_slot]
  · rw [commitAssembly_volatile high, commitKey_volatile high, if_neg (Nat.not_lt.2 high)]
    simp [updSlot_slot]

/-- A volatile slot's commit is answered at once (R70). -/
theorem commitAssembly_answered (s : State) {y : Assembly} (high : 48 ≤ y.slot.val) (value : CheckValue) :
    s.completes (s.commitAssembly y value) y.order .ok (y.answerData value) ∧ (s.commitAssembly y value).ceu.record = .empty := by
  obtain ⟨u, uEq⟩ : ∃ u, u = (s.setAssembly y.commits).commitKey y.slot y.accumulator (y.contributors.map (·.1)) value := ⟨_, rfl⟩
  have record : u.ceu.record = .assembly y.commits := by rw [uEq]; simp [State.setAssembly]
  have stored : (u.slot y.slot).checkValue = some value := by
    rw [uEq, commitKey_volatile high, updSlot_slot_self]
    rfl
  have area : u.intake.area = s.intake.area := by rw [uEq]; simp
  have result := commitResult_eq record rfl true
  rw [commitAssembly_volatile high, ← uEq, show y.slot = y.commits.slot from rfl, result, emptyRecord_record]
  refine ⟨?_, rfl⟩
  have listed := completed_listed s u y.order .ok (y.answerData value) area
  have data : y.commits.answerData (if true = true then (u.slot y.commits.slot).checkValue.getD 0 else 0) = y.answerData value := by
    rw [if_pos rfl, show y.commits.slot = y.slot from rfl, stored]
    rfl
  rw [data]
  exact listed.grows (((State.Grows.refl _).toConsoles _).emptyRecord)

/-- Settles O38. -/
theorem accumulatorCheckCompletes : Obligations.AccumulatorCheckCompletes := by
  intro s v w y on idle running record kept
  rw [exec_checkvalDone_accumulator running, accumulatorChecked_judged (s := s.quiet) kept record]
  refine ⟨fun differs => ?_, fun same => ?_⟩
  · rw [if_neg differs, kickCipher_empty (by simpa using idle)]
    exact ⟨_, rfl, .run on (.after (endAssembly_ended _ _ _))⟩
  · rw [if_pos same, kickCipher_empty (by simpa using idle), same]
    obtain ⟨slots, -⟩ := run_parts s (fun _ => s.quiet.checkReleased.commitAssembly y y.expected) on
    have own := (slots y.slot).trans ((commitAssembly_slot _ _ _ _).trans (if_pos rfl))
    have fields : (s.run fun _ => s.quiet.checkReleased.commitAssembly y y.expected).slot y.slot =
        { (s.slot y.slot).committing (y.contributors.map (·.1)) y.expected with
          state := ((s.run fun _ => s.quiet.checkReleased.commitAssembly y y.expected).slot y.slot).state
          target := ((s.run fun _ => s.quiet.checkReleased.commitAssembly y y.expected).slot y.slot).target
          stored := ((s.run fun _ => s.quiet.checkReleased.commitAssembly y y.expected).slot y.slot).stored
          committed := ((s.run fun _ => s.quiet.checkReleased.commitAssembly y y.expected).slot y.slot).committed } := by
      rw [own]
      split <;> rfl
    refine ⟨_, rfl, by simp [run_frame _ _ on], fun j other => ?_, by rw [fields]; rfl, by rw [fields]; rfl, by rw [fields]; rfl,
      by rw [fields]; rfl, by rw [fields]; rfl, by rw [fields]; rfl, by rw [fields]; rfl, by rw [fields]; rfl, by simp [run_frame _ _ on],
      by simp [run_frame _ _ on], fun low => ?_, fun high => ?_⟩
    · exact (slots j).trans ((commitAssembly_slot _ _ _ _).trans (if_neg other))
    · rw [if_pos low] at own
      rw [own]
      refine ⟨rfl, rfl, rfl, ?_, fun free => ?_⟩
      · simp [run_frame _ _ on, commitAssembly_persistent low, State.setAssembly, Assembly.commits]
      · rw [show (s.run fun _ => s.quiet.checkReleased.commitAssembly y y.expected).ks =
          (s.quiet.checkReleased.commitAssembly y y.expected).ks by simp [run_frame _ _ on],
          commitAssembly_persistent low, commitKey_persistent low]
        exact queueWrite_waits _ _
    · rw [if_neg (Nat.not_lt.2 high)] at own
      rw [own]
      obtain ⟨answered, empty⟩ := commitAssembly_answered s.quiet.checkReleased high y.expected
      exact ⟨rfl, rfl, by simpa [run_frame _ _ on] using empty, State.completes.run on (.of_area answered)⟩

end Sys2Proof.Machine
end

section

set_option Elab.async false

/-!
SUPPORT. The end of a write of the key array (R26 to R28).
-/

namespace Sys2Proof.Machine

theorem exec_keyArrayWrite {s : State} {i : SlotId} (under : s.ks.arrayWrite = some i) (ok : Bool) :
    exec (if ok then .keyArrayWriteComplete else .keyArrayWriteFail) s = .next (s.run fun _ => s.quiet.writeEnded i ok) := by
  have under : s.quiet.ks.arrayWrite = some i := under
  cases ok
  · refine next_run_eq ?_
    simp only [under]
  · refine next_run_eq ?_
    simp only [under]

/-- No write of the key array is under way. -/
def State.arrayFree (s : State) : State := s.updKs fun k => { k with arrayWrite := none }

@[simp] theorem arrayFree_slot (s : State) (i : SlotId) : s.arrayFree.slot i = s.slot i := rfl

@[simp] theorem arrayFree_frame (s : State) : s.arrayFree.engine = s.engine ∧ s.arrayFree.clock = s.clock ∧
    s.arrayFree.intake = s.intake ∧ s.arrayFree.bays = s.bays ∧ s.arrayFree.prof = s.prof ∧ s.arrayFree.writer = s.writer ∧
    s.arrayFree.cipher = s.cipher ∧ s.arrayFree.ceu = s.ceu ∧ s.arrayFree.events = s.events ∧
    s.arrayFree.ks.requests = s.ks.requests ∧ s.arrayFree.ks.writeQueue = s.ks.writeQueue ∧
    s.arrayFree.ks.overwrite = s.ks.overwrite ∧ s.arrayFree.ks.arrayWrite = none ∧ ∀ c, s.arrayFree.console c = s.console c :=
  ⟨rfl, rfl, rfl, rfl, rfl, rfl, rfl, rfl, rfl, rfl, rfl, rfl, rfl, fun _ => rfl⟩

/-- The slot and the array as the write ends, a failure reported (R27, R28). -/
def State.writeLeft (s : State) (i : SlotId) (ok : Bool) : State :=
  if ok then s.arrayFree.updSlot i fun x => x.written ok
  else (s.arrayFree.updSlot i fun x => x.written ok).raise .storeFault

theorem writeEnded_commit {s : State} {i : SlotId} (target : (s.slot i).target = some .ready) (ok : Bool) :
    s.writeEnded i ok = ((s.writeLeft i ok).commitResult i ok).kickArray := by
  simp only [State.writeEnded, target]
  rfl

theorem writeEnded_erase {s : State} {i : SlotId} (target : (s.slot i).target ≠ some .ready) (ok : Bool) :
    s.writeEnded i ok = ((s.writeLeft i ok).answerErase i (if ok then .ok else .storeFault)).kickArray := by
  unfold State.writeEnded
  dsimp only
  split
  next ready => exact absurd ready target
  next => rfl
  next => rfl

@[simp] theorem writeLeft_frame (s : State) (i : SlotId) (ok : Bool) : (s.writeLeft i ok).engine = s.engine ∧
    (s.writeLeft i ok).clock = s.clock ∧ (s.writeLeft i ok).intake = s.intake ∧ (s.writeLeft i ok).bays = s.bays ∧
    (s.writeLeft i ok).prof = s.prof ∧ (s.writeLeft i ok).writer = s.writer ∧ (s.writeLeft i ok).cipher = s.cipher ∧
    (s.writeLeft i ok).ceu = s.ceu ∧ (s.writeLeft i ok).ks.requests = s.ks.requests ∧
    (s.writeLeft i ok).ks.writeQueue = s.ks.writeQueue ∧ (s.writeLeft i ok).ks.overwrite = s.ks.overwrite ∧
    (s.writeLeft i ok).ks.arrayWrite = none ∧ (s.writeLeft i ok).events.room = s.events.room ∧
    (∀ c, (s.writeLeft i ok).console c = s.console c) := by
  cases ok <;> simp [State.writeLeft]

theorem writeLeft_slot (s : State) (i j : SlotId) (ok : Bool) :
    (s.writeLeft i ok).slot j = if j = i then (s.slot i).written ok else s.slot j := by
  cases ok <;> simp [State.writeLeft, updSlot_slot]

theorem writeLeft_fault (s : State) (i : SlotId) : (s.writeLeft i false).hasFlag .storeFault := State.hasFlag_raise _ _

theorem commitResult_watch (s : State) (n : Fin 4) (i : SlotId) (ok : Bool) :
    (s.commitResult i ok).events.flags.getLsbD (12 + n.val) = s.events.flags.getLsbD (12 + n.val) := by
  unfold State.commitResult
  split
  · split <;> simp
  · rfl

theorem commitResult_grows (s : State) (i : SlotId) (ok : Bool) : s.Grows (s.commitResult i ok) := (State.Grows.refl s).commitResult i ok

theorem State.watchesFire.writeEnded {s : State} (i : SlotId) (ok : Bool) : s.watchesFire (s.writeEnded i ok) none := by
  have left : s.watchesFire (s.writeLeft i ok) none := by
    have free : s.watchesFire s.arrayFree none := (State.watchesFire.refl s).updKs _
    have written := free.updSlot i (fun x => x.written ok) rfl rfl
    cases ok
    · exact written.raise _
    · exact written
  by_cases target : (s.slot i).target = some .ready
  · rw [writeEnded_commit target]
    exact (left.same (t := (s.writeLeft i ok).commitResult i ok) (by simp) (fun n => commitResult_watch _ n _ _)).kickArray
  · rw [writeEnded_erase target]
    exact (left.answerErase i _).kickArray

/-! ## The slot as its write ends (R27, R28) -/

theorem Slot.written_kept (x : Slot) (ok : Bool) : (x.written ok).target = none ∧ (x.written ok).generation = x.generation ∧
    (x.written ok).nextSerial = x.nextSerial ∧ (x.written ok).allowance = x.allowance ∧ (x.written ok).claims = x.claims ∧
    (x.written ok).eraseOrder = x.eraseOrder ∧ (x.written ok).discarded = x.discarded := by
  unfold Slot.written
  split
  · split <;> exact ⟨rfl, rfl, rfl, rfl, rfl, rfl, rfl⟩
  · exact ⟨rfl, rfl, rfl, rfl, rfl, rfl, rfl⟩
  · exact ⟨rfl, rfl, rfl, rfl, rfl, rfl, rfl⟩

theorem Slot.written_ready {x : Slot} (target : x.target = some .ready) : (x.written true).definition = x.definition ∧
    (x.written true).state = .ready ∧ (x.written true).keyholders = x.keyholders ∧ (x.written true).checkValue = x.checkValue ∧
    ∀ k, x.committed = some k → (x.written true).stored = .key k := by
  unfold Slot.written
  rw [target]
  exact ⟨rfl, rfl, rfl, rfl, fun k committed => by simp [committed]⟩

theorem Slot.written_failed {x : Slot} (target : x.target = some .ready) : (x.written false).definition = x.definition ∧
    (x.written false).state = .empty ∧ (x.written false).keyholders = [] ∧ (x.written false).checkValue = none ∧
    (x.written false).stored = .noKey := by
  unfold Slot.written
  rw [target]
  exact ⟨rfl, rfl, rfl, rfl, rfl⟩

theorem Slot.written_erased {x : Slot} (target : x.target = some .empty) (ok : Bool) : (x.written ok).state = .empty ∧
    (x.written ok).definition = none ∧ (x.written ok).stored = if ok then .zeros else .noKey := by
  unfold Slot.written
  rw [target]
  exact ⟨rfl, rfl, rfl⟩

/-- What the end of a write makes of the slots: an answered erase takes its order from the slot. -/
theorem writeEnded_slot (s : State) (i j : SlotId) (ok : Bool) : (s.writeEnded i ok).slot j =
    if j = i then
      if (s.slot i).target = some .ready then (s.slot i).written ok
      else { (s.slot i).written ok with
        eraseOrder := none, discarded := if (s.slot i).eraseOrder = none then (s.slot i).discarded else 0 }
    else s.slot j := by
  by_cases target : (s.slot i).target = some .ready
  · rw [writeEnded_commit target, if_pos target]
    simp [writeLeft_slot]
  · rw [writeEnded_erase target, if_neg target]
    by_cases own : j = i
    · subst own
      obtain ⟨-, -, -, -, -, order, discarded⟩ := (s.slot j).written_kept ok
      rw [if_pos rfl, ← order, ← discarded]
      have answered := answerErase_slot (s.writeLeft j ok) j (if ok then .ok else .storeFault)
      rw [writeLeft_slot, if_pos rfl] at answered
      simpa using answered
    · rw [if_neg own]
      simp [writeLeft_slot, own]

/-! ## The next write (R26) -/

theorem kickArray_starts {s : State} (free : s.ks.arrayWrite = none) (opened : s.ks.overwrite = none) {j : SlotId} {rest : List SlotId}
    (queue : s.ks.writeQueue = j :: rest) : s.kickArray.ks.arrayWrite = some j ∧ s.kickArray.ks.writeQueue = rest := by
  unfold State.kickArray
  rw [if_neg (by simp [free, opened]), queue]
  exact ⟨rfl, rfl⟩

theorem kickArray_empty {s : State} (free : s.ks.arrayWrite = none) (queue : s.ks.writeQueue = []) :
    s.kickArray.ks.arrayWrite = none ∧ s.kickArray.ks.writeQueue = [] := by
  unfold State.kickArray
  split
  · exact ⟨free, queue⟩
  · rw [queue]
    exact ⟨free, queue⟩

theorem answerErase_array (s : State) (i : SlotId) (r : Result) : (s.answerErase i r).ks.arrayWrite = s.ks.arrayWrite ∧
    (s.answerErase i r).ks.writeQueue = s.ks.writeQueue := by
  unfold State.answerErase
  split <;> simp

/-- The state in which the next write of the key array starts. -/
theorem writeEnded_eq (s : State) (i : SlotId) (ok : Bool) : ∃ u : State, s.writeEnded i ok = u.kickArray ∧ u.ks.arrayWrite = none ∧
    u.ks.writeQueue = s.ks.writeQueue ∧ u.ks.overwrite = s.ks.overwrite := by
  by_cases target : (s.slot i).target = some .ready
  · exact ⟨_, writeEnded_commit target ok, by simp, by simp, by simp⟩
  · obtain ⟨array, queue⟩ := answerErase_array (s.writeLeft i ok) i (if ok then .ok else .storeFault)
    exact ⟨_, writeEnded_erase target ok, by simp [array], by simp [queue], by simp⟩

theorem kickArray_console (s : State) (c : ConsoleId) : s.kickArray.console c = s.console c := by simp

theorem kickArray_ceu (s : State) : s.kickArray.ceu = s.ceu := by simp

/-- The slot after the command: as the write leaves it, but for the order of an answered erase. -/
theorem run_writeEnded_slot {s : State} (on : s.engine ≠ .off) (i : SlotId) (ok : Bool) :
    ∃ order discarded, (s.run fun _ => s.quiet.writeEnded i ok).slot i =
      { (s.slot i).written ok with eraseOrder := order, discarded := discarded } := by
  obtain ⟨slots, -⟩ := run_parts s (fun _ => s.quiet.writeEnded i ok) on
  rw [slots, writeEnded_slot, if_pos rfl]
  split
  · exact ⟨_, _, rfl⟩
  · exact ⟨_, _, rfl⟩

/-- The array after the command (R26). -/
theorem run_writeEnded_array {s : State} (on : s.engine ≠ .off) (i : SlotId) (ok : Bool) :
    (s.ks.overwrite = none → ∀ j rest, s.ks.writeQueue = j :: rest →
      (s.run fun _ => s.quiet.writeEnded i ok).ks.arrayWrite = some j ∧
      (s.run fun _ => s.quiet.writeEnded i ok).ks.writeQueue = rest) ∧
    (s.ks.writeQueue = [] → (s.run fun _ => s.quiet.writeEnded i ok).ks.arrayWrite = none ∧
      (s.run fun _ => s.quiet.writeEnded i ok).ks.writeQueue = []) := by
  obtain ⟨u, ended, array, queue, overwrite⟩ := writeEnded_eq s.quiet i ok
  rw [show (s.run fun _ => s.quiet.writeEnded i ok).ks = u.kickArray.ks by rw [← ended]; simp [run_frame _ _ on]]
  exact ⟨fun opened j rest line => kickArray_starts array (overwrite.trans opened) (queue.trans line),
    fun line => kickArray_empty array (queue.trans line)⟩

/-- The commit of an assembly that waits for this write is answered (R70). -/
theorem run_writeEnded_answered {s : State} (on : s.engine ≠ .off) {i : SlotId} {ok : Bool} (target : (s.slot i).target = some .ready)
    {a : Assembly} {value : CheckValue} (record : s.ceu.record = .assembly a) (slot : a.slot = i) (phase : a.phase = .committing)
    (data : value = if ok then (s.slot i).checkValue.getD 0 else 0) :
    (s.run fun _ => s.quiet.writeEnded i ok).ceu.record = .empty ∧
    s.completes (s.run fun _ => s.quiet.writeEnded i ok) a.order (if ok then .ok else .storeFault) (a.answerData value) ∧
    (∀ k : ConsoleId, s.sends (s.run fun _ => s.quiet.writeEnded i ok) k (.assemblyClosed i (if ok then .ok else .storeFault) value)) ∧
    (s.engine = .running ∨ s.engine = .stopping → (s.run fun _ => s.quiet.writeEnded i ok).hasFlag .ceremonyEnded) := by
  subst slot
  have result := commitResult_eq (s := s.quiet.writeLeft a.slot ok) (by simpa using record) phase ok
  have stored : (if ok then ((s.quiet.writeLeft a.slot ok).slot a.slot).checkValue.getD 0 else 0) = value := by
    rw [data, writeLeft_slot, if_pos rfl]
    cases ok
    · rfl
    · obtain ⟨-, -, -, checkValue, -⟩ := Slot.written_ready target
      simp only [if_true]
      exact congrArg (Option.getD · 0) checkValue
  rw [stored] at result
  obtain ⟨-, -, -, consoles⟩ := run_parts s (fun _ => s.quiet.writeEnded a.slot ok) on
  have ended := writeEnded_commit (s := s.quiet) target ok
  rw [result] at ended
  refine ⟨?_, State.completes.run on ?_, fun k => ?_, fun engine => hasFlag_run on ?_⟩
  · rw [show (s.run fun _ => s.quiet.writeEnded a.slot ok).ceu = (s.quiet.writeEnded a.slot ok).ceu by simp [run_frame _ _ on], ended,
      kickArray_ceu, emptyRecord_record]
  · rw [ended]
    exact (completed_listed s.quiet _ a.order _ (a.answerData value) (by simp)).grows
      (((State.Grows.refl _).toConsoles _).emptyRecord.kickArray)
  · have given : (s.run fun _ => s.quiet.writeEnded a.slot ok).console k =
        (s.console k).given (.assemblyClosed a.slot (if ok then .ok else .storeFault) value) := by
      rw [consoles, ended, kickArray_console, emptyRecord_console, toConsoles_console]
      simp
    refine ⟨fun free => ?_, fun busy room => ?_⟩
    · rw [given]
      exact Console.given_sending free _
    · rw [given]
      exact Console.given_queue busy room _
  · rw [ended]
    exact (State.Grows.refl _).kickArray.hasFlag (emptyRecord_flag (by simpa using engine))

/-- The erase that waited for this write is answered (R35). -/
theorem run_writeEnded_erased {s : State} (on : s.engine ≠ .off) {i : SlotId} {ok : Bool} (target : (s.slot i).target = some .empty)
    {cell : Nat} (order : (s.slot i).eraseOrder = some cell) :
    s.completes (s.run fun _ => s.quiet.writeEnded i ok) cell (if ok then .ok else .storeFault)
      ([byteOf i.val, byteOf (s.slot i).discarded] ++ toLE 2 (s.slot i).generation.toNat) := by
  obtain ⟨-, generation, -, -, -, kept, discarded⟩ := (s.slot i).written_kept ok
  have slot : (s.quiet.writeLeft i ok).slot i = (s.slot i).written ok := (writeLeft_slot ..).trans (if_pos rfl)
  have answered := answerErase_completes (s := s.quiet.writeLeft i ok) (i := i) (cell := cell) (by rw [slot, kept, order])
    (if ok then .ok else .storeFault)
  rw [slot, generation, discarded] at answered
  refine State.completes.run on ?_
  rw [writeEnded_erase (s := s.quiet) (by rw [show (s.quiet.slot i).target = _ from target]; decide)]
  exact (State.completes.of_area answered).grows (State.Grows.refl _).kickArray

theorem run_writeEnded_fault {s : State} (on : s.engine ≠ .off) (i : SlotId) :
    (s.run fun _ => s.quiet.writeEnded i false).hasFlag .storeFault := by
  refine hasFlag_run on ?_
  by_cases target : (s.slot i).target = some .ready
  · rw [writeEnded_commit (s := s.quiet) target]
    exact (commitResult_grows _ _ _).kickArray.hasFlag (writeLeft_fault _ _)
  · rw [writeEnded_erase (s := s.quiet) target]
    exact ((State.Grows.refl _).answerErase _ _).kickArray.hasFlag (writeLeft_fault _ _)

/-- A write that no ceremony waits for leaves the component entry unit alone. -/
theorem run_writeEnded_ceu {s : State} (on : s.engine ≠ .off) (i : SlotId) (ok : Bool)
    (other : (s.slot i).target ≠ some .ready ∨ ∀ a, s.ceu.record = .assembly a → a.slot ≠ i ∨ a.phase ≠ .committing) :
    (s.run fun _ => s.quiet.writeEnded i ok).ceu = s.ceu := by
  rw [show (s.run fun _ => s.quiet.writeEnded i ok).ceu = (s.quiet.writeEnded i ok).ceu by simp [run_frame _ _ on]]
  by_cases target : (s.slot i).target = some .ready
  · rw [writeEnded_commit (s := s.quiet) target, commitResult_none]
    · simp
    · simpa using other.resolve_left (not_not_intro target)
  · rw [writeEnded_erase (s := s.quiet) target]
    simp

/-- Settles O31. -/
theorem keyArrayWriteEnds : Obligations.KeyArrayWriteEnds := by
  intro s i ok on under
  refine ⟨_, exec_keyArrayWrite under ok, ?_⟩
  obtain ⟨slots, -, -, -⟩ := run_parts s (fun _ => s.quiet.writeEnded i ok) on
  obtain ⟨target, generation, serial, allowance, claims, -, -⟩ := (s.slot i).written_kept ok
  obtain ⟨order, discarded, own⟩ := run_writeEnded_slot on i ok
  obtain ⟨starts, empty⟩ := run_writeEnded_array on i ok
  rw [own]
  refine ⟨target, generation, serial, allowance, claims, fun j other => ?_, fun failed => ?_, fun commit => ⟨?_, ?_, ?_, ?_, ?_⟩,
    fun erase => ?_, starts, empty, .run on (.writeEnded i ok) (by simp), by simp [run_frame _ _ on]⟩
  · rw [slots, writeEnded_slot, if_neg other]
    rfl
  · subst failed
    exact run_writeEnded_fault on i
  · cases ok
    · exact (Slot.written_failed commit).1
    · exact (Slot.written_ready commit).1
  · rintro rfl
    obtain ⟨-, ready⟩ := Slot.written_ready commit
    exact ready
  · rintro rfl
    obtain ⟨-, failed⟩ := Slot.written_failed commit
    exact failed
  · exact fun a value record slot phase data => run_writeEnded_answered on commit record slot phase data
  · exact fun other => run_writeEnded_ceu on i ok (.inr other)
  · obtain ⟨state, definition, stored⟩ := Slot.written_erased erase ok
    exact ⟨run_writeEnded_ceu on i ok (.inl (by rw [erase]; decide)), state, definition, stored,
      fun cell order => run_writeEnded_erased on erase order⟩

end Sys2Proof.Machine
end

section

set_option Elab.async false

/-!
SUPPORT. The receivers byte by byte: a frame's bytes spell its command (R62, R93, R94).
-/

namespace Sys2Proof.Machine

/-! ## Numbers as bytes -/

theorem byteOf_toNat (v : Nat) : (byteOf v).toNat = v % 256 := by simp [byteOf]

theorem ofLE_toLE (k v : Nat) : ofLE (toLE k v) = v % 256 ^ k := by
  induction k generalizing v with
  | zero => simp [toLE, ofLE, Nat.mod_one]
  | succ k ih =>
    rw [toLE, ofLE, ih, byteOf_toNat, Nat.pow_succ, Nat.mul_comm (256 ^ k), Nat.mod_mul]

theorem ofBE_toBE (k v : Nat) : ofBE (toBE k v) = v % 256 ^ k := by rw [ofBE, toBE, List.reverse_reverse, ofLE_toLE]

/-- A word of whole bytes comes back from its bytes. -/
theorem ofNat_ofBE_toBE {w k : Nat} (bytes : 256 ^ k = 2 ^ w) (x : BitVec w) : BitVec.ofNat w (ofBE (toBE k x.toNat)) = x := by
  rw [ofBE_toBE, bytes, Nat.mod_eq_of_lt x.isLt]
  exact BitVec.eq_of_toNat_eq (by simp)

theorem field_append_left {x : List Byte} {n : Nat} (length : x.length = n) (y : List Byte) : field (x ++ y) 0 n = x := by
  simp [field, ← length]

theorem field_append_right {x : List Byte} {n : Nat} (length : x.length = n) (y : List Byte) {k : Nat} (len : y.length = k) :
    field (x ++ y) n k = y := by
  simp [field, ← length, ← len]

theorem toBE_two (v : Nat) : ∃ high low, toBE 2 v = [high, low] := ⟨_, _, rfl⟩

/-! ## The bytes of a frame at a receiver (R93) -/

theorem receiveBytes_cons (gap : Timer) (r : Receiver) (b : Byte) (l : List Byte) : receiveBytes gap r (b :: l) =
    ((receiveBytes gap (receiveByte gap r b).1 l).1, (receiveByte gap r b).2.toList ++ (receiveBytes gap (receiveByte gap r b).1 l).2) := rfl

theorem receiveByte_lead (gap : Timer) : receiveByte gap .hunt 0xA5 = (.length gap, none) := by simp [receiveByte]

theorem receiveByte_length {gap g : Timer} {n : Byte} (low : 2 ≤ n.toNat) (high : n.toNat ≤ 42) :
    receiveByte gap (.length g) n = (.body gap n.toNat [], none) := if_pos ⟨low, high⟩

theorem receiveByte_badLength {gap g : Timer} {n : Byte} (bad : n.toNat < 2 ∨ 42 < n.toNat) :
    receiveByte gap (.length g) n = (.hunt, some .lineError) := if_neg (by omega)

/-- Counted bytes that stop within the frame stand in the receiver. -/
theorem receiveBytes_body (gap : Timer) {n : Nat} (got part : List Byte) (short : got.length + part.length < n) :
    receiveBytes gap (.body gap n got) part = (.body gap n (got ++ part), []) := by
  induction part generalizing got with
  | nil => simp [receiveBytes]
  | cons b part ih =>
    rw [List.length_cons] at short
    have one : receiveByte gap (.body gap n got) b = (.body gap n (got ++ [b]), none) := if_pos (by omega)
    rw [receiveBytes_cons, one]
    simp only
    rw [ih (got ++ [b]) (by simp; omega)]
    simp

/-- The last counted byte is followed by the check. -/
theorem receiveBytes_counted (gap : Timer) {n : Nat} (got part : List Byte) (full : got.length + part.length = n) (some_left : part ≠ []) :
    receiveBytes gap (.body gap n got) part = (.check gap (got ++ part) none, []) := by
  obtain ⟨front, b, rfl⟩ := List.eq_nil_or_concat part |>.resolve_left some_left
  rw [List.concat_eq_append, List.length_append, List.length_singleton] at full
  rw [List.concat_eq_append, receiveBytes_append, receiveBytes_body gap got front (by omega)]
  have last : receiveByte gap (.body gap n (got ++ front)) b = (.check gap (got ++ front ++ [b]) none, none) :=
    if_neg (by rw [List.length_append]; omega)
  simp [receiveBytes, last]

theorem receiveByte_high (gap g : Timer) (got : List Byte) (high : Byte) :
    receiveByte gap (.check g got none) high = (.check gap got (some high), none) := rfl

theorem receiveByte_good {gap g : Timer} {got : List Byte} {high low : Byte}
    (check : toBE 2 (crc (byteOf got.length :: got)).toNat = [high, low]) :
    receiveByte gap (.check g got (some high)) low = (.hunt, some (.frame got)) := if_pos check

theorem receiveByte_bad {gap g : Timer} {got : List Byte} {high low : Byte}
    (check : toBE 2 (crc (byteOf got.length :: got)).toNat ≠ [high, low]) :
    receiveByte gap (.check g got (some high)) low = (.hunt, some .lineError) := if_neg check

/-- A frame short of bytes. -/
theorem receiveBytes_part (gap : Timer) {n : Byte} {part : List Byte} (low : 2 ≤ n.toNat) (high : n.toNat ≤ 42)
    (short : part.length < n.toNat) : receiveBytes gap .hunt (0xA5 :: n :: part) = (.body gap n.toNat part, []) := by
  rw [receiveBytes_cons, receiveByte_lead, receiveBytes_cons, receiveByte_length low high,
    receiveBytes_body gap [] part (by simpa using short)]
  rfl

/-- A frame up to the last byte of its check. -/
theorem receiveBytes_untilCheck (gap : Timer) {counted : List Byte} (low : 2 ≤ counted.length) (high : counted.length ≤ 42)
    (one : Byte) : receiveBytes gap .hunt (0xA5 :: byteOf counted.length :: counted ++ [one]) = (.check gap counted (some one), []) := by
  have n : (byteOf counted.length).toNat = counted.length := by rw [byteOf_toNat]; omega
  have body := receiveBytes_counted gap (n := (byteOf counted.length).toNat) [] counted (by simp [n])
    (by rintro rfl; simp at low)
  rw [List.cons_append, List.cons_append, receiveBytes_cons, receiveByte_lead, receiveBytes_cons,
    receiveByte_length (by omega) (by omega), receiveBytes_append, body]
  rfl

theorem buildFrame_eq {kind seq : Byte} {payload counted : List Byte} (spells : counted = kind :: seq :: payload) {high low : Byte}
    (check : toBE 2 (crc (byteOf counted.length :: counted)).toNat = [high, low]) :
    buildFrame kind seq payload = (0xA5 :: byteOf counted.length :: counted ++ [high]) ++ [low] := by
  subst spells
  unfold buildFrame
  dsimp only
  rw [check]
  simp

/-- The receiver hears exactly the frame that was sent. -/
theorem receiveBytes_buildFrame (gap : Timer) (kind seq : Byte) {payload : List Byte} (short : payload.length ≤ 40) :
    receiveBytes gap .hunt (buildFrame kind seq payload) = (.hunt, [.frame (kind :: seq :: payload)]) := by
  obtain ⟨counted, spells⟩ : ∃ counted, counted = kind :: seq :: payload := ⟨_, rfl⟩
  have length : counted.length = payload.length + 2 := by rw [spells]; rfl
  obtain ⟨high, low, check⟩ := toBE_two (crc (byteOf counted.length :: counted)).toNat
  rw [buildFrame_eq spells check, receiveBytes_append, receiveBytes_untilCheck gap (by omega) (by omega), receiveBytes_cons,
    receiveByte_good check, ← spells]
  rfl

/-- Whatever a byte leaves of a receiver has its gap ahead of it. -/
theorem receiveByte_not_late (s : State) (r : Receiver) (b : Byte) : (receiveByte s.gapTimer r b).1.late s.clock = false := by
  have fresh (x : Receiver) (gap : x.gap? = none ∨ x.gap? = some s.gapTimer) : x.late s.clock = false := by
    obtain gap | gap := gap <;> simp [Receiver.late, gap]
  refine fresh _ ?_
  unfold receiveByte
  split <;> (try split) <;> simp [Receiver.gap?]

/-! ## A console's receiver (R62) -/

/-- A console's receiver alone changes. -/
def State.consoleReceiver (s : State) (c : ConsoleId) (r : Receiver) : State := s.updConsole c fun x => { x with receiver := r }

theorem consoleReceiver_console (s : State) (c : ConsoleId) (r : Receiver) (d : ConsoleId) :
    (s.consoleReceiver c r).console d = if d = c then { s.console c with receiver := r } else s.console d := updConsole_console ..

theorem consoleReceiver_self {s : State} {c : ConsoleId} {r : Receiver} (receiver : (s.console c).receiver = r) :
    s.consoleReceiver c r = s := by
  subst receiver
  have same : s.ceu.consoles.set c (s.console c) = s.ceu.consoles := by
    rw [State.console]
    exact Vector.set_getElem_self _
  exact congrArg (fun consoles => { s with ceu := { s.ceu with consoles := consoles } }) same

theorem consoleReceiver_consoleReceiver (s : State) (c : ConsoleId) (q r : Receiver) :
    (s.consoleReceiver c q).consoleReceiver c r = s.consoleReceiver c r := by
  simp [State.consoleReceiver, State.updConsole, State.updCeu]

theorem consoleByte_silent {s : State} {c : ConsoleId} (fresh : (s.console c).receiver.late s.clock = false) {b : Byte}
    (silent : (receiveByte s.gapTimer (s.console c).receiver b).2 = none) :
    State.consoleByte c s b = s.consoleReceiver c (receiveByte s.gapTimer (s.console c).receiver b).1 := by
  unfold State.consoleByte
  rw [afterGap_of_not_late _ _ fresh]
  simp only [silent]
  rfl

/-- Bytes that complete nothing leave the receiver within its frame. -/
theorem foldl_consoleByte_silent {s : State} {c : ConsoleId} (fresh : (s.console c).receiver.late s.clock = false) {l : List Byte}
    (silent : (receiveBytes s.gapTimer (s.console c).receiver l).2 = []) :
    l.foldl (State.consoleByte c) s = s.consoleReceiver c (receiveBytes s.gapTimer (s.console c).receiver l).1 := by
  induction l generalizing s with
  | nil => exact (consoleReceiver_self rfl).symm
  | cons b l ih =>
    rw [receiveBytes_cons, List.append_eq_nil_iff, Option.toList_eq_nil_iff] at silent
    obtain ⟨first, rest⟩ := silent
    obtain ⟨r, rEq⟩ : ∃ r, r = (receiveByte s.gapTimer (s.console c).receiver b).1 := ⟨_, rfl⟩
    have own : ((s.consoleReceiver c r).console c).receiver = r := by rw [consoleReceiver_console, if_pos rfl]
    have later := ih (s := s.consoleReceiver c r) (by rw [own, rEq]; exact receiveByte_not_late s _ b)
      (by rw [own, rEq]; exact rest)
    rw [List.foldl_cons, consoleByte_silent fresh first, ← rEq, later, own, consoleReceiver_consoleReceiver, receiveBytes_cons, ← rEq]
    rfl

/-- What a console makes of what its receiver has heard (R62). -/
def State.consoleHears (s : State) (c : ConsoleId) (event : ReceiverEvent) : State :=
  match event with
  | .frame counted => match consoleFrame? counted with | some f => s.takeConsoleFrame c f | none => s
  | .lineError => s

theorem consoleByte_event {s : State} {c : ConsoleId} (fresh : (s.console c).receiver.late s.clock = false) {b : Byte}
    {event : ReceiverEvent} (heard : receiveByte s.gapTimer (s.console c).receiver b = (.hunt, some event)) :
    State.consoleByte c s b = (s.consoleReceiver c .hunt).consoleHears c event := by
  unfold State.consoleByte
  rw [afterGap_of_not_late _ _ fresh, heard]
  cases event <;> rfl

/-- A receiver that bytes have left has its gap ahead of it. -/
theorem receiveBytes_not_late (s : State) {l : List Byte} {r : Receiver} {events : List ReceiverEvent}
    (before : receiveBytes s.gapTimer .hunt l = (r, events)) : r.late s.clock = false := by
  obtain rfl | ⟨front, y, rfl⟩ := List.eq_nil_or_concat l
  · obtain rfl : Receiver.hunt = r := congrArg Prod.fst before
    rfl
  · rw [List.concat_eq_append, receiveBytes_append] at before
    obtain rfl := congrArg Prod.fst before
    exact receiveByte_not_late s _ y

/-- The byte that ends a frame, a receiver in HUNT having taken the ones before it. -/
theorem foldl_consoleByte_last {s : State} {c : ConsoleId} (hunt : (s.console c).receiver = .hunt) {l : List Byte} {r : Receiver} {b : Byte}
    {event : ReceiverEvent} (before : receiveBytes s.gapTimer .hunt l = (r, []))
    (last : receiveByte s.gapTimer r b = (.hunt, some event)) :
    (l ++ [b]).foldl (State.consoleByte c) s = s.consoleHears c event := by
  have taken := foldl_consoleByte_silent (s := s) (c := c) (l := l) (by rw [hunt]; rfl) (by rw [hunt, before])
  rw [hunt, before] at taken
  have own : ((s.consoleReceiver c r).console c).receiver = r := by rw [consoleReceiver_console, if_pos rfl]
  have ended : (s.consoleReceiver c r).consoleReceiver c .hunt = s := by
    rw [consoleReceiver_consoleReceiver, consoleReceiver_self hunt]
  rw [List.foldl_append, taken, List.foldl_cons, List.foldl_nil,
    consoleByte_event (s := s.consoleReceiver c r) (by rw [own]; exact receiveBytes_not_late s before) (by rw [own]; exact last), ended]

/-- A whole frame at a console in HUNT. -/
theorem foldl_consoleByte_frame {s : State} {c : ConsoleId} (hunt : (s.console c).receiver = .hunt) (kind seq : Byte)
    {payload : List Byte} (short : payload.length ≤ 40) :
    (buildFrame kind seq payload).foldl (State.consoleByte c) s = s.consoleHears c (.frame (kind :: seq :: payload)) := by
  obtain ⟨counted, spells⟩ : ∃ counted, counted = kind :: seq :: payload := ⟨_, rfl⟩
  have length : counted.length = payload.length + 2 := by rw [spells]; rfl
  obtain ⟨high, low, check⟩ := toBE_two (crc (byteOf counted.length :: counted)).toNat
  rw [buildFrame_eq spells check, ← spells]
  exact foldl_consoleByte_last hunt (receiveBytes_untilCheck _ (by omega) (by omega) high) (receiveByte_good check)

/-! ## A bay's receiver (R93, R94) -/

/-- A bay's receiver alone changes. -/
def State.bayReceiver (s : State) (b : BayId) (r : Receiver) : State := s.updLink b fun l => { l with receiver := r }

@[simp] theorem bayReceiver_bay (s : State) (b : BayId) (r : Receiver) :
    (s.bayReceiver b r).bay b = { s.bay b with link := { (s.bay b).link with receiver := r } } := updLink_bay_self ..

theorem bayReceiver_self {s : State} {b : BayId} {r : Receiver} (receiver : (s.bay b).link.receiver = r) : s.bayReceiver b r = s := by
  subst receiver
  have same : s.bays.set b (s.bay b) = s.bays := by
    rw [State.bay]
    exact Vector.set_getElem_self _
  exact congrArg (fun bays => { s with bays := bays }) same

theorem bayReceiver_bayReceiver (s : State) (b : BayId) (q r : Receiver) :
    (s.bayReceiver b q).bayReceiver b r = s.bayReceiver b r := by
  simp [State.bayReceiver, State.updLink, State.updBay, State.bay]

/-- With no partial frame past its gap the next byte finds the link as it is. -/
theorem closeGap_fresh {s : State} {b : BayId} (fresh : (s.bay b).link.receiver.late s.clock = false) : s.closeGap b = s := by
  have same : s.bays.set b (s.bay b) = s.bays := by
    rw [State.bay]
    exact Vector.set_getElem_self _
  have link : { s.bay b with link := (s.bay b).link.gapClosed s.clock } = s.bay b := by rw [gapClosed_of_not_late _ _ fresh]
  refine (congrArg (fun x => { s with bays := s.bays.set b x }) link).trans ?_
  exact congrArg (fun bays => { s with bays := bays }) same

/-- What a bay makes of what its receiver has heard (R93, R94). -/
def State.bayHears (s : State) (b : BayId) (event : ReceiverEvent) : State :=
  match event with
  | .frame counted => match terminalFrame? counted with | some f => s.takeFrame b f | none => s.countLineError b
  | .lineError => s.countLineError b

theorem bayByte_silent {s : State} {b : BayId} (fresh : (s.bay b).link.receiver.late s.clock = false) {y : Byte}
    (silent : (receiveByte s.gapTimer (s.bay b).link.receiver y).2 = none) :
    State.bayByte b s y = s.bayReceiver b (receiveByte s.gapTimer (s.bay b).link.receiver y).1 := by
  unfold State.bayByte
  rw [closeGap_fresh fresh]
  simp only [silent]
  rfl

theorem bayByte_event {s : State} {b : BayId} (fresh : (s.bay b).link.receiver.late s.clock = false) {y : Byte}
    {event : ReceiverEvent} (heard : receiveByte s.gapTimer (s.bay b).link.receiver y = (.hunt, some event)) :
    State.bayByte b s y = (s.bayReceiver b .hunt).bayHears b event := by
  unfold State.bayByte
  rw [closeGap_fresh fresh]
  simp only [heard]
  cases event <;> rfl

/-- Bytes that complete nothing leave the receiver within its frame. -/
theorem foldl_bayByte_silent {s : State} {b : BayId} (fresh : (s.bay b).link.receiver.late s.clock = false) {l : List Byte}
    (silent : (receiveBytes s.gapTimer (s.bay b).link.receiver l).2 = []) :
    l.foldl (State.bayByte b) s = s.bayReceiver b (receiveBytes s.gapTimer (s.bay b).link.receiver l).1 := by
  induction l generalizing s with
  | nil => exact (bayReceiver_self rfl).symm
  | cons y l ih =>
    rw [receiveBytes_cons, List.append_eq_nil_iff, Option.toList_eq_nil_iff] at silent
    obtain ⟨first, rest⟩ := silent
    obtain ⟨r, rEq⟩ : ∃ r, r = (receiveByte s.gapTimer (s.bay b).link.receiver y).1 := ⟨_, rfl⟩
    have own : ((s.bayReceiver b r).bay b).link.receiver = r := by rw [bayReceiver_bay]
    have later := ih (s := s.bayReceiver b r) (by rw [own, rEq]; exact receiveByte_not_late s _ y)
      (by rw [own, rEq]; exact rest)
    rw [List.foldl_cons, bayByte_silent fresh first, ← rEq, later, own, bayReceiver_bayReceiver, receiveBytes_cons, ← rEq]
    rfl

/-- The byte that ends a frame, a receiver in HUNT having taken the ones before it. -/
theorem foldl_bayByte_last {s : State} {b : BayId} (hunt : (s.bay b).link.receiver = .hunt) {l : List Byte} {r : Receiver} {y : Byte}
    {event : ReceiverEvent} (before : receiveBytes s.gapTimer .hunt l = (r, []))
    (last : receiveByte s.gapTimer r y = (.hunt, some event)) :
    (l ++ [y]).foldl (State.bayByte b) s = s.bayHears b event := by
  have taken := foldl_bayByte_silent (s := s) (b := b) (l := l) (by rw [hunt]; rfl) (by rw [hunt, before])
  rw [hunt, before] at taken
  have own : ((s.bayReceiver b r).bay b).link.receiver = r := by rw [bayReceiver_bay]
  have ended : (s.bayReceiver b r).bayReceiver b .hunt = s := by rw [bayReceiver_bayReceiver, bayReceiver_self hunt]
  rw [List.foldl_append, taken, List.foldl_cons, List.foldl_nil,
    bayByte_event (s := s.bayReceiver b r) (by rw [own]; exact receiveBytes_not_late s before) (by rw [own]; exact last), ended]

/-- A whole frame at a bay in HUNT. -/
theorem foldl_bayByte_frame {s : State} {b : BayId} (hunt : (s.bay b).link.receiver = .hunt) (kind seq : Byte)
    {payload : List Byte} (short : payload.length ≤ 40) :
    (buildFrame kind seq payload).foldl (State.bayByte b) s = s.bayHears b (.frame (kind :: seq :: payload)) := by
  obtain ⟨counted, spells⟩ : ∃ counted, counted = kind :: seq :: payload := ⟨_, rfl⟩
  have length : counted.length = payload.length + 2 := by rw [spells]; rfl
  obtain ⟨high, low, check⟩ := toBE_two (crc (byteOf counted.length :: counted)).toNat
  rw [buildFrame_eq spells check, ← spells]
  exact foldl_bayByte_last hunt (receiveBytes_untilCheck _ (by omega) (by omega) high) (receiveByte_good check)

/-! ## The bytes of a frame spell its command -/

theorem terminalFrame?_ident (seq : Byte) (terminal : BitVec 128) (model : BitVec 16) (caps occupancy : Byte) :
    terminalFrame? (0x20 :: seq :: (toBE 16 terminal.toNat ++ toBE 2 model.toNat ++ [caps, occupancy])) =
      some (.ident seq terminal model caps occupancy) := by
  have first : (toBE 16 terminal.toNat).length = 16 := toBE_length 16 _
  have second : (toBE 2 model.toNat).length = 2 := toBE_length 2 _
  have length : (toBE 16 terminal.toNat ++ toBE 2 model.toNat ++ [caps, occupancy]).length = 20 := by simp [first, second]
  have terminals : field (toBE 16 terminal.toNat ++ toBE 2 model.toNat ++ [caps, occupancy]) 0 16 = toBE 16 terminal.toNat := by
    rw [List.append_assoc, field_append_left first]
  have models : field (toBE 16 terminal.toNat ++ toBE 2 model.toNat ++ [caps, occupancy]) 16 2 = toBE 2 model.toNat := by
    simp [field, List.drop_append, List.take_append, first, second]
  have tail (k : Nat) (d : Byte) : (toBE 16 terminal.toNat ++ toBE 2 model.toNat ++ [caps, occupancy]).getD (18 + k) d =
      [caps, occupancy].getD k d := by
    rw [List.getD_append_right _ _ _ _ (by simp [first, second])]
    simp [first, second]
  have capsAt := tail 0 0
  have occupancyAt := tail 1 0
  simp only [Nat.reduceAdd] at capsAt occupancyAt
  rw [terminalFrame?, if_pos ⟨rfl, length⟩, terminals, models, capsAt, occupancyAt, ofNat_ofBE_toBE (by norm_num),
    ofNat_ofBE_toBE (by norm_num)]
  rfl

theorem terminalFrame?_ack (seq : Byte) : terminalFrame? [0x21, seq] = some (.ack seq) := by simp [terminalFrame?]

theorem terminalFrame?_check (seq register : Byte) (value : BitVec 24) :
    terminalFrame? (0x22 :: seq :: register :: toBE 3 value.toNat) = some (.check seq register value) := by
  have length : (register :: toBE 3 value.toNat).length = 4 := by simp [toBE_length]
  have values : field (register :: toBE 3 value.toNat) 1 3 = toBE 3 value.toNat :=
    List.take_of_length_le (toBE_length 3 value.toNat).le
  rw [terminalFrame?, if_neg (by simp), if_neg (by simp), if_pos ⟨rfl, length⟩, values, ofNat_ofBE_toBE (by norm_num)]
  rfl

theorem terminalFrame?_nak (seq reason : Byte) : terminalFrame? [0x23, seq, reason] = some (.nak seq reason) := by
  simp [terminalFrame?]

theorem consoleFrame?_cardIn (seq : Byte) (id : BitVec 16) :
    consoleFrame? (0x40 :: seq :: toBE 2 id.toNat) = some (.cardIn seq id) := by
  rw [consoleFrame?, if_pos ⟨rfl, toBE_length 2 _⟩, ofNat_ofBE_toBE (by norm_num)]

theorem consoleFrame?_component (seq : Byte) (value : BitVec 128) (entered : BitVec 24) :
    consoleFrame? (0x42 :: seq :: (toBE 16 value.toNat ++ toBE 3 entered.toNat)) = some (.component seq value entered) := by
  have first : (toBE 16 value.toNat).length = 16 := toBE_length 16 _
  have second : (toBE 3 entered.toNat).length = 3 := toBE_length 3 _
  rw [consoleFrame?, if_neg (by simp), if_neg (by simp), if_pos ⟨rfl, by simp [first, second]⟩, field_append_left first,
    field_append_right first _ second, ofNat_ofBE_toBE (by norm_num), ofNat_ofBE_toBE (by norm_num)]

/-- A whole frame of bytes is the frame's own command at a bay in HUNT. -/
theorem foldl_bayByte_terminal {s : State} {b : BayId} (hunt : (s.bay b).link.receiver = .hunt) {kind seq : Byte}
    {payload : List Byte} (short : payload.length ≤ 40) {f : TerminalFrame} (spells : terminalFrame? (kind :: seq :: payload) = some f) :
    (buildFrame kind seq payload).foldl (State.bayByte b) s = s.receiveTerminal b f := by
  have heard : s.receiveTerminal b f = s.takeFrame b f := by
    have fresh : (s.bay b).link.receiver.late s.clock = false := by rw [hunt]; rfl
    have hunting := bayReceiver_self hunt
    rw [State.receiveTerminal, closeGap_fresh fresh]
    exact congrArg (fun t : State => t.takeFrame b f) hunting
  rw [foldl_bayByte_frame hunt kind seq short, State.bayHears, spells, heard]

/-- A whole frame of bytes is the frame's own command at a console in HUNT. -/
theorem foldl_consoleByte_console {s : State} {c : ConsoleId} (hunt : (s.console c).receiver = .hunt) {kind seq : Byte}
    {payload : List Byte} (short : payload.length ≤ 40) {f : ConsoleFrame} (spells : consoleFrame? (kind :: seq :: payload) = some f) :
    (buildFrame kind seq payload).foldl (State.consoleByte c) s = s.receiveConsole c f := by
  have heard : s.receiveConsole c f = s.takeConsoleFrame c f :=
    congrArg (fun t : State => t.takeConsoleFrame c f) (consoleReceiver_self hunt)
  rw [foldl_consoleByte_frame hunt kind seq short, State.consoleHears, spells, heard]

/-- Commands whose effects agree on the state without port traffic are one command. -/
theorem next_run_congr {s : State} {f g : State → State} (effect : f s.quiet = g s.quiet) :
    (.next (s.run f) : Host.Outcome State Fault Refusal) = .next (s.run g) := congrArg _ (run_eq s f g effect)

theorem next_runBays_congr {s : State} {f g : State → State} (effect : f s.quiet = g s.quiet) :
    (.next (s.runBays f) : Host.Outcome State Fault Refusal) = .next (s.runBays g) := next_run_congr (by rw [effect])

/-- Settles O60. -/
theorem frameBytesSpellCommands : Obligations.FrameBytesSpellCommands := by
  refine ⟨fun gap kind seq payload short => receiveBytes_buildFrame gap kind seq short, fun s b hunt => ⟨?ident, ?ack, ?check, ?nak⟩,
    fun s c hunt => ⟨?cardIn, ?cardOut, ?component, ?approve, ?decline⟩⟩
  case ident =>
    intro seq terminal model caps occupancy
    exact next_runBays_congr (foldl_bayByte_terminal (s := s.quiet) hunt (by simp [toBE_length]) (terminalFrame?_ident ..))
  case ack => exact fun seq => next_runBays_congr (foldl_bayByte_terminal (s := s.quiet) hunt (by simp) (terminalFrame?_ack seq))
  case check =>
    intro seq register value
    exact next_runBays_congr (foldl_bayByte_terminal (s := s.quiet) hunt (by simp [toBE_length]) (terminalFrame?_check ..))
  case nak =>
    intro seq reason
    exact next_runBays_congr (foldl_bayByte_terminal (s := s.quiet) hunt (by simp) (terminalFrame?_nak ..))
  case cardIn =>
    intro seq id
    exact next_run_congr (foldl_consoleByte_console (s := s.quiet) hunt (by simp [toBE_length]) (consoleFrame?_cardIn ..))
  case cardOut => exact fun seq => next_run_congr (foldl_consoleByte_console (s := s.quiet) hunt (by simp) (by simp [consoleFrame?]))
  case component =>
    intro seq value entered
    exact next_run_congr (foldl_consoleByte_console (s := s.quiet) hunt (by simp [toBE_length]) (consoleFrame?_component ..))
  case approve => exact fun seq => next_run_congr (foldl_consoleByte_console (s := s.quiet) hunt (by simp) (by simp [consoleFrame?]))
  case decline => exact fun seq => next_run_congr (foldl_consoleByte_console (s := s.quiet) hunt (by simp) (by simp [consoleFrame?]))

end Sys2Proof.Machine
end

section

set_option Elab.async false

/-!
SUPPORT. Bytes, gaps and transmissions at the console and bay links (R10, R62, R90 to R94, R99).
-/

namespace Sys2Proof.Machine

/-! ## A console link (R62) -/

theorem consoleBadFrame_id {s : State} {c : ConsoleId} {bytes : List Byte} (settled : s.settled)
    (nothing : bytes.foldl (State.consoleByte c) s.quiet = s.quiet) : exec (.consoleBadFrame c bytes) s = .next s.quiet :=
  congrArg Host.Outcome.next (run_id _ _ settled nothing)

/-- A change of one console, as the rest of a command sees it. -/
theorem next_run_updConsole {s : State} {c : ConsoleId} {f : Console → Console} {g : State → State} (on : s.engine ≠ .off)
    (settled : s.settled) (effect : g s.quiet = s.quiet.updConsole c f) {x : Console} (becomes : f (s.console c) = x) :
    ∃ t, (.next (s.run g) : Host.Outcome State Fault Refusal) = .next t ∧ t.console c = x ∧ s.otherConsolesSame t c ∧
      t = { s.quiet with ceu := { s.ceu with consoles := t.ceu.consoles } } := by
  subst becomes
  exact ⟨_, next_run_eq effect, run_updConsole on settled c f⟩

theorem consoleFrame?_eq_none {kind seq : Byte} {payload : List Byte} (bad : kind.toNat < 0x40 ∨ 0x44 < kind.toNat ∨
    payload.length ≠ (if kind = 0x40 then 2 else if kind = 0x42 then 19 else 0)) : consoleFrame? (kind :: seq :: payload) = none := by
  have other (k : Byte) (n : Nat) (inside : 0x40 ≤ k.toNat ∧ k.toNat ≤ 0x44)
      (length : (if k = 0x40 then 2 else if k = 0x42 then 19 else 0) = n) : ¬(kind = k ∧ payload.length = n) := by
    rintro ⟨rfl, rfl⟩
    obtain low | high | long := bad
    · omega
    · omega
    · exact long length.symm
  rw [consoleFrame?, if_neg (other _ _ (by decide) (by decide)), if_neg (other _ _ (by decide) (by decide)),
    if_neg (other _ _ (by decide) (by decide)), if_neg (other _ _ (by decide) (by decide)), if_neg (other _ _ (by decide) (by decide))]

theorem consoleGap_quiet (s : State) (c : ConsoleId) : (s.consoleGap c).quiet = s.quiet.consoleGap c ∧
    (s.consoleGap c).engine = s.engine := by
  unfold State.consoleGap
  split
  next due => exact ⟨(if_pos due).symm, rfl⟩
  next early => exact ⟨(if_neg early).symm, rfl⟩

/-- A gap that runs out before the bytes is as its expiry told first (R62). -/
theorem exec_consoleGapExpiry (s : State) (on : s.engine ≠ .off) (c : ConsoleId) (bytes : List Byte) :
    exec (.consoleGapExpiry c bytes) s = exec (.consoleBadFrame c bytes) (s.consoleGap c) := by
  obtain ⟨quiet, engine⟩ := consoleGap_quiet s c
  refine congrArg Host.Outcome.next ?_
  rw [run_on s _ on, run_on (s.consoleGap c) _ (by rwa [engine]), quiet]

/-- What the first byte past the gap finds: HUNT (R62). -/
theorem consoleByte_late {s : State} {c : ConsoleId} (late : (s.console c).receiver.late s.clock = true) (y : Byte) :
    State.consoleByte c s y = s.consoleReceiver c (if y = 0xA5 then .length s.gapTimer else .hunt) := by
  unfold State.consoleByte
  rw [afterGap_of_late _ _ late]
  by_cases lead : y = 0xA5
  · simp only [receiveByte, lead, if_true]
    rfl
  · simp only [receiveByte, lead, if_false]
    rfl

theorem late_of_gap {r : Receiver} {w : Timer} (gap : r.gap? = some w) {clock : BitVec 32}
    (past : w.interval < (clock - w.start).toNat) : r.late clock = true := by
  simp only [Receiver.late, gap, past, decide_true]

theorem receiveBytes_lead (gap : Timer) : receiveBytes gap .hunt [0xA5] = (.length gap, []) := by
  rw [receiveBytes_cons, receiveByte_lead]
  rfl

/-- Bytes that complete no frame of the console's are not taken; a part of one stays in the receiver. -/
theorem consoleBadFrame_cases {s : State} {c : ConsoleId} (on : s.engine ≠ .off) (settled : s.settled)
    (hunt : (s.console c).receiver = .hunt) :
    (∀ n : Byte, n.toNat < 2 ∨ 42 < n.toNat → exec (.consoleBadFrame c [0xA5, n]) s = .next s.quiet) ∧
    (∀ (counted : List Byte) (high low : Byte), 2 ≤ counted.length → counted.length ≤ 42 →
      toBE 2 (crc (byteOf counted.length :: counted)).toNat ≠ [high, low] →
      exec (.consoleBadFrame c (0xA5 :: byteOf counted.length :: counted ++ [high, low])) s = .next s.quiet) ∧
    (∀ (kind seq : Byte) (payload : List Byte), payload.length ≤ 40 →
      kind.toNat < 0x40 ∨ 0x44 < kind.toNat ∨ payload.length ≠ (if kind = 0x40 then 2 else if kind = 0x42 then 19 else 0) →
      exec (.consoleBadFrame c (buildFrame kind seq payload)) s = .next s.quiet) ∧
    (∀ (n : Byte) (part : List Byte), 2 ≤ n.toNat → n.toNat ≤ 42 → part.length < n.toNat →
      ∃ t, exec (.consoleBadFrame c (0xA5 :: n :: part)) s = .next t ∧
        t.console c = { s.console c with receiver := .body { start := s.clock, interval := 20 } n.toNat part } ∧
        s.otherConsolesSame t c ∧ t = { s.quiet with ceu := { s.ceu with consoles := t.ceu.consoles } }) := by
  refine ⟨fun n bad => consoleBadFrame_id settled ?_, fun counted high low two most bad => consoleBadFrame_id settled ?_,
    fun kind seq payload short bad => consoleBadFrame_id settled ?_, fun n part two most short => ?_⟩
  · exact foldl_consoleByte_last (s := s.quiet) (l := [0xA5]) hunt (receiveBytes_lead _) (receiveByte_badLength bad)
  · have bytes : 0xA5 :: byteOf counted.length :: counted ++ [high, low] =
        (0xA5 :: byteOf counted.length :: counted ++ [high]) ++ [low] := by simp
    rw [bytes]
    exact foldl_consoleByte_last (s := s.quiet) hunt (receiveBytes_untilCheck _ two most high) (receiveByte_bad bad)
  · rw [foldl_consoleByte_frame (s := s.quiet) hunt kind seq short, State.consoleHears, consoleFrame?_eq_none bad]
  · have part := receiveBytes_part s.quiet.gapTimer two most short
    have hunt : (s.quiet.console c).receiver = .hunt := hunt
    refine next_run_updConsole (f := fun x => { x with receiver := _ }) on settled ?_ rfl
    refine (foldl_consoleByte_silent (by rw [hunt]; rfl) (by rw [hunt, part])).trans ?_
    rw [hunt, part]
    rfl

theorem expired_gap {s : State} {r : Receiver} {w : Timer} (gap : r.gap? = some w) : s.expired r.gap? = w.due s.clock := by
  rw [gap]
  rfl

theorem exec_consoleTransmitEnd_last {s : State} {c : ConsoleId} {m : ConsoleMessage} (on : s.engine ≠ .off) (settled : s.settled)
    (sending : (s.console c).sending = some m) (queue : (s.console c).queue = []) :
    ∃ t, exec (.consoleTransmitEnd c) s = .next t ∧ t.console c = { s.console c with sending := none } ∧
      s.otherConsolesSame t c ∧ t = { s.quiet with ceu := { s.ceu with consoles := t.ceu.consoles } } := by
  refine next_run_updConsole (f := fun x => { x with sending := none }) on settled ?_ rfl
  have sending : (s.quiet.console c).sending = some m := sending
  have queue : (s.quiet.console c).queue = [] := queue
  simp only [sending, queue]

/-- The next frame of a console's queue begins (R62). -/
def State.consoleNext (s : State) (c : ConsoleId) (n : ConsoleMessage) (rest : List ConsoleMessage) : State :=
  (s.updConsole c fun x => { x with queue := rest }).beginConsole c n

theorem consoleNext_console (s : State) (c : ConsoleId) (n : ConsoleMessage) (rest : List ConsoleMessage) (d : ConsoleId) :
    (s.consoleNext c n rest).console d =
      if d = c then { s.console c with sending := some n, queue := rest, seq := (s.console c).seq + 1 } else s.console d := by
  refine (updConsole_console (s.updConsole c fun x => { x with queue := rest }) c d fun x =>
    { x with sending := some n, seq := x.seq + 1 }).trans ?_
  rw [updConsole_console, updConsole_console, if_pos rfl]
  split
  · rfl
  · rfl

theorem consoleNext_eq (s : State) (c : ConsoleId) (n : ConsoleMessage) (rest : List ConsoleMessage) : s.consoleNext c n rest =
    { s with ceu := { s.ceu with consoles := (s.consoleNext c n rest).ceu.consoles },
             out := s.out ++ [.consoleFrame c (n.bytes (s.console c).seq)] } := by
  have seq : ((s.updConsole c fun x => { x with queue := rest }).console c).seq = (s.console c).seq := by
    rw [updConsole_console, if_pos rfl]
  rw [State.consoleNext, State.beginConsole, seq]
  rfl

theorem exec_consoleTransmitEnd_more {s : State} {c : ConsoleId} {m n : ConsoleMessage} {rest : List ConsoleMessage}
    (sending : (s.console c).sending = some m) (queue : (s.console c).queue = n :: rest) :
    exec (.consoleTransmitEnd c) s = .next (s.run fun _ => s.quiet.consoleNext c n rest) := by
  refine next_run_eq ?_
  have sending : (s.quiet.console c).sending = some m := sending
  have queue : (s.quiet.console c).queue = n :: rest := queue
  simp only [sending, queue]
  rfl

/-- Settles O39. -/
theorem consoleLinkBytesAndFrames : Obligations.ConsoleLinkBytesAndFrames := by
  refine ⟨fun s c on settled => ⟨fun hunt => ?hunt, exec_consoleGapExpiry s on c, fun w gap => ⟨fun early => ?early, fun due => ?due,
    fun past y => ?late⟩⟩, fun s c m on settled sending => ⟨exec_consoleTransmitEnd_last on settled sending,
    fun n rest queue => ⟨_, exec_consoleTransmitEnd_more sending queue, ?more⟩⟩⟩
  case hunt =>
    obtain ⟨badLength, badCheck, badKind, part⟩ := consoleBadFrame_cases on settled hunt
    refine ⟨badLength, badCheck, badKind, part, congrArg Host.Outcome.next (run_id _ _ settled ?_)⟩
    exact consoleGap_not_due s.quiet c (by rw [show (s.quiet.console c).receiver = .hunt from hunt]; rfl)
  case early =>
    refine congrArg Host.Outcome.next (run_id _ _ settled (consoleGap_not_due s.quiet c ?_))
    exact (expired_gap (s := s.quiet) gap).trans early
  case due =>
    refine next_run_updConsole (f := fun x => { x with receiver := .hunt }) on settled ?_ rfl
    exact if_pos ((expired_gap (s := s.quiet) gap).trans due)
  case late =>
    refine next_run_updConsole (f := fun x => { x with
      receiver := if y = 0xA5 then .length { start := s.clock, interval := 20 } else .hunt }) on settled ?_ rfl
    exact consoleByte_late (s := s.quiet) (late_of_gap gap past) y
  case more =>
    have settles : (s.quiet.consoleNext c n rest).settled := by
      rw [consoleNext_eq]
      exact settled
    rw [run_settled s _ on settles]
    refine ⟨?_, fun d other => ?_, consoleNext_eq s.quiet c n rest⟩
    · refine (consoleNext_console s.quiet c n rest c).trans (if_pos rfl)
    · exact (consoleNext_console s.quiet c n rest d).trans (if_neg other)

/-! ## A bay link (R93, R94) -/

/-- The bays' commands act in every state with power but LOADING. -/
theorem next_runBays_eq {s u : State} {f : State → State} (on : s.engine ≠ .off) (loaded : s.engine ≠ .loading)
    (effect : f s.quiet = u) : (.next (s.runBays f) : Host.Outcome State Fault Refusal) = .next (s.run fun _ => u) := by
  refine next_run_eq (Eq.trans (if_pos ?_) effect)
  simp [State.baysAwake, on, loaded]

theorem runBays_id {s : State} {f : State → State} (settled : s.settled) (nothing : f s.quiet = s.quiet) :
    (.next (s.runBays f) : Host.Outcome State Fault Refusal) = .next s.quiet := by
  refine congrArg Host.Outcome.next (run_id _ _ settled ?_)
  split
  · exact nothing
  · rfl

/-- A change of one bay that leaves its order alone, as the rest of a command sees it. -/
theorem run_updLink {s : State} (on : s.engine ≠ .off) (settled : s.settled) (b : BayId) (f : Link → Link) :
    (s.run fun _ => s.quiet.updLink b f).bay b = { s.bay b with link := f (s.bay b).link } ∧
    s.otherBaysSame (s.run fun _ => s.quiet.updLink b f) b ∧
    (s.run fun _ => s.quiet.updLink b f) = { s.quiet with bays := (s.run fun _ => s.quiet.updLink b f).bays } := by
  have settles : (s.quiet.updLink b f).settled := by
    refine (settled_quiet s settled).of_parts rfl rfl rfl rfl rfl rfl fun c => ?_
    by_cases own : c = b
    · rw [own, updLink_bay_self]
    · rw [updLink_other _ _ _ _ own]
  rw [run_settled s _ on settles]
  refine ⟨updLink_bay_self .., fun c other => updLink_other _ _ _ _ other, rfl⟩

theorem next_runBays_updLink {s : State} {b : BayId} {f : Link → Link} {g : State → State} (on : s.engine ≠ .off)
    (loaded : s.engine ≠ .loading) (settled : s.settled) (effect : g s.quiet = s.quiet.updLink b f) {x : Bay}
    (becomes : { s.bay b with link := f (s.bay b).link } = x) :
    ∃ t, (.next (s.runBays g) : Host.Outcome State Fault Refusal) = .next t ∧ t.bay b = x ∧ s.otherBaysSame t b ∧
      t = { s.quiet with bays := t.bays } := by
  subst becomes
  exact ⟨_, next_runBays_eq on loaded effect, run_updLink on settled b f⟩

theorem terminalFrame?_eq_none {kind seq : Byte} {payload : List Byte} (bad : kind.toNat < 0x20 ∨ 0x23 < kind.toNat ∨
    payload.length ≠ (if kind = 0x20 then 20 else if kind = 0x22 then 4 else if kind = 0x23 then 1 else 0)) :
    terminalFrame? (kind :: seq :: payload) = none := by
  have other (k : Byte) (n : Nat) (inside : 0x20 ≤ k.toNat ∧ k.toNat ≤ 0x23)
      (length : (if k = 0x20 then 20 else if k = 0x22 then 4 else if k = 0x23 then 1 else 0) = n) : ¬(kind = k ∧ payload.length = n) := by
    rintro ⟨rfl, rfl⟩
    obtain low | high | long := bad
    · omega
    · omega
    · exact long length.symm
  rw [terminalFrame?, if_neg (other _ _ (by decide) (by decide)), if_neg (other _ _ (by decide) (by decide)),
    if_neg (other _ _ (by decide) (by decide)), if_neg (other _ _ (by decide) (by decide))]

theorem bayGap_quiet (s : State) (b : BayId) : (s.bayGap b).quiet = s.quiet.bayGap b ∧ (s.bayGap b).engine = s.engine := by
  unfold State.bayGap
  split
  next due => exact ⟨(if_pos due).symm, rfl⟩
  next early => exact ⟨(if_neg early).symm, rfl⟩

/-- A gap that runs out before the bytes is as its expiry told first (R93). -/
theorem exec_bayGapExpiry {s : State} (on : s.engine ≠ .off) (loaded : s.engine ≠ .loading) (b : BayId) (bytes : List Byte) :
    exec (.bayGapExpiry b bytes) s = exec (.bayLineError b bytes) (s.bayGap b) := by
  obtain ⟨quiet, engine⟩ := bayGap_quiet s b
  refine (next_runBays_eq (u := bytes.foldl (State.bayByte b) (s.quiet.bayGap b)) on loaded rfl).trans
    ((next_runBays_eq (by rwa [engine]) (by rwa [engine]) (by rw [quiet])).trans ?_).symm
  rw [run_on s _ on, run_on (s.bayGap b) _ (by rwa [engine])]

/-- What the first byte past the gap finds: a line error counted, and HUNT (R93). -/
theorem bayByte_late {s : State} {b : BayId} (late : (s.bay b).link.receiver.late s.clock = true) (y : Byte) :
    State.bayByte b s y = s.updLink b fun l => { l with
      receiver := if y = 0xA5 then .length s.gapTimer else .hunt, lineErrors := countUp (s.bay b).link.lineErrors } := by
  have closed : ((s.closeGap b).bay b).link = { (s.bay b).link with
      receiver := .hunt, lineErrors := countUp (s.bay b).link.lineErrors } := by
    rw [closeGap_bay]
    exact gapClosed_of_late _ _ late
  have link (r : Receiver) : (s.closeGap b).bayReceiver b r = s.updLink b fun l => { l with
      receiver := r, lineErrors := countUp (s.bay b).link.lineErrors } := by
    have own : s.closeGap b = s.updLink b fun _ => { (s.bay b).link with
        receiver := .hunt, lineErrors := countUp (s.bay b).link.lineErrors } :=
      congrArg (fun l => s.updBay b fun _ => { s.bay b with link := l }) (gapClosed_of_late _ _ late)
    rw [own]
    simp [State.bayReceiver, State.updLink, State.updBay, State.bay]
  unfold State.bayByte
  dsimp only
  rw [closed]
  by_cases lead : y = 0xA5
  · simp only [receiveByte, lead, if_true]
    exact link _
  · simp only [receiveByte, lead, if_false]
    exact link _

/-- Bytes at a bay in HUNT that are no terminal frame are a line error; a part of a frame stays in the receiver (R93). -/
theorem bayLineError_cases {s : State} {b : BayId} (on : s.engine ≠ .off) (loaded : s.engine ≠ .loading) (settled : s.settled)
    (hunt : (s.bay b).link.receiver = .hunt) {bytes : List Byte}
    (bad : (∃ n : Byte, (n.toNat < 2 ∨ 42 < n.toNat) ∧ bytes = [0xA5, n]) ∨
      (∃ (counted : List Byte) (high low : Byte), 2 ≤ counted.length ∧ counted.length ≤ 42 ∧
        toBE 2 (crc (byteOf counted.length :: counted)).toNat ≠ [high, low] ∧
        bytes = 0xA5 :: byteOf counted.length :: counted ++ [high, low]) ∨
      ∃ (kind seq : Byte) (payload : List Byte), payload.length ≤ 40 ∧
        (kind.toNat < 0x20 ∨ 0x23 < kind.toNat ∨
          payload.length ≠ (if kind = 0x20 then 20 else if kind = 0x22 then 4 else if kind = 0x23 then 1 else 0)) ∧
        bytes = buildFrame kind seq payload) :
    ∃ t, exec (.bayLineError b bytes) s = .next t ∧
      t.bay b = { s.bay b with link := { (s.bay b).link with lineErrors := min ((s.bay b).link.lineErrors + 1) 65535 } } ∧
      s.otherBaysSame t b ∧ t = { s.quiet with bays := t.bays } := by
  refine next_runBays_updLink (f := fun l => { l with lineErrors := countUp l.lineErrors }) on loaded settled ?_ rfl
  obtain ⟨n, bad, rfl⟩ | ⟨counted, high, low, two, most, bad, rfl⟩ | ⟨kind, seq, payload, short, bad, rfl⟩ := bad
  · exact foldl_bayByte_last (s := s.quiet) (l := [0xA5]) hunt (receiveBytes_lead _) (receiveByte_badLength bad)
  · have bytes : 0xA5 :: byteOf counted.length :: counted ++ [high, low] =
        (0xA5 :: byteOf counted.length :: counted ++ [high]) ++ [low] := by simp
    rw [bytes]
    exact foldl_bayByte_last (s := s.quiet) hunt (receiveBytes_untilCheck _ two most high) (receiveByte_bad bad)
  · rw [foldl_bayByte_frame (s := s.quiet) hunt kind seq short, State.bayHears, terminalFrame?_eq_none bad]
    rfl

/-- Bytes that complete nothing stay in the receiver. -/
theorem bayLineError_silent {s : State} {b : BayId} (hunt : (s.bay b).link.receiver = .hunt) {bytes : List Byte} {r : Receiver}
    (silent : receiveBytes s.gapTimer .hunt bytes = (r, [])) : bytes.foldl (State.bayByte b) s = s.bayReceiver b r := by
  refine (foldl_bayByte_silent (by rw [hunt]; rfl) (by rw [hunt, silent])).trans ?_
  rw [hunt, silent]

/-! ## The end of a transmission (R90, R91, R99) -/

theorem updLink_id {s : State} {b : BayId} {f : Link → Link} (same : f (s.bay b).link = (s.bay b).link) :
    s.bay b = { s.bay b with link := f (s.bay b).link } := by
  rw [same]

theorem armReply_bay (s : State) (b : BayId) (seq : Byte) : (s.armReply b seq).bay b =
    { s.bay b with link := { (s.bay b).link with
        exchange := (s.bay b).link.exchange.map fun e => if e.seq = seq then { e with timer := some (s.timer e.timeout) } else e } } := by
  unfold State.armReply
  split
  next e opened =>
    rw [opened, Option.map_some]
    split
    next own => exact updLink_bay_self ..
    next other =>
      refine updLink_id (f := fun l => { l with exchange := some e }) ?_
      rw [← opened]
  next closed =>
    refine updLink_id (f := fun l => { l with exchange := Option.map _ _ }) ?_
    rw [closed, Option.map_none, ← closed]

theorem armReply_out (s : State) (b : BayId) (seq : Byte) : (s.armReply b seq).out = s.out := by
  unfold State.armReply
  (repeat' split) <;> rfl

theorem transmitNext_bay (s : State) (b : BayId) : (s.transmitNext b).bay b =
    { s.bay b with link := { (s.bay b).link with
        sending := (s.bay b).link.following.head?.map fun t => (t, (s.bay b).link.rate)
        following := (s.bay b).link.following.tail } } := by
  unfold State.transmitNext
  dsimp only
  split
  next nothing =>
    refine (updLink_bay_self ..).trans ?_
    dsimp only
    rw [nothing]
    rfl
  next t rest more =>
    refine (updLink_bay_self s b fun l => { l with sending := some (t, l.rate), following := rest }).trans ?_
    dsimp only
    rw [more]
    rfl

theorem transmitNext_out (s : State) (b : BayId) : (s.transmitNext b).out = s.out ++
    (s.bay b).link.following.head?.toList.map fun t => .bayFrame b (s.bay b).link.rate t.bytes := by
  unfold State.transmitNext
  dsimp only
  split
  next nothing =>
    rw [nothing]
    exact (List.append_nil _).symm
  next t rest more =>
    rw [more]
    rfl

/-- The end of a transmission: the reply timer of its exchange, then the next frame (R91, R99). -/
def State.transmitted (s : State) (b : BayId) (seq : Byte) : State := (s.armReply b seq).transmitNext b

theorem transmitted_bay (s : State) (b : BayId) (seq : Byte) : (s.transmitted b seq).bay b =
    { s.bay b with link := { (s.bay b).link with
        exchange := (s.bay b).link.exchange.map fun e => if e.seq = seq then { e with timer := some (s.timer e.timeout) } else e
        sending := (s.bay b).link.following.head?.map fun t => (t, (s.bay b).link.rate)
        following := (s.bay b).link.following.tail } } := by
  rw [State.transmitted, transmitNext_bay, armReply_bay]

theorem transmitted_out (s : State) (b : BayId) (seq : Byte) : (s.transmitted b seq).out = s.out ++
    (s.bay b).link.following.head?.toList.map fun t => .bayFrame b (s.bay b).link.rate t.bytes := by
  rw [State.transmitted, transmitNext_out, armReply_bay, armReply_out]

theorem transmitted_settled {s : State} (settled : s.settled) (b : BayId) (seq : Byte) : (s.transmitted b seq).settled := by
  have running (c : BayId) : ((s.transmitted b seq).bay c).running = (s.bay c).running := by
    by_cases own : c = b
    · rw [own, transmitted_bay]
    · simp [State.transmitted, own]
  exact settled.of_parts (by simp [State.transmitted]) (by simp [State.transmitted]) (by simp [State.transmitted])
    (by simp [State.transmitted]) (by simp [State.transmitted]) (by simp [State.transmitted]) running

theorem exec_bayTransmitEnd {s : State} {b : BayId} {m : Transmission} {rate : LineRate} (on : s.engine ≠ .off)
    (loaded : s.engine ≠ .loading) (sending : (s.bay b).link.sending = some (m, rate)) :
    exec (.bayTransmitEnd b) s = .next (s.run fun _ => s.quiet.transmitted b m.seq) := by
  refine next_runBays_eq on loaded ?_
  have sending : (s.quiet.bay b).link.sending = some (m, rate) := sending
  simp only [sending]
  rfl

/-- Settles O51. -/
theorem bayLinkBytesAndFrames : Obligations.BayLinkBytesAndFrames := by
  refine ⟨fun s b on loaded settled => ⟨fun hunt => ⟨fun n bad => ?_, fun counted high low two most bad => ?_,
    fun kind seq payload short bad => ?_, fun n part two most short => ?part, fun bytes noLead => ?noLead, ?gap⟩,
    exec_bayGapExpiry on loaded b, fun w gap => ⟨fun early => ?early, fun due => ?due, fun past y => ?late⟩⟩,
    fun s b m rate on loaded settled sending => ⟨_, exec_bayTransmitEnd on loaded sending, ?sent⟩⟩
  · exact bayLineError_cases on loaded settled hunt (.inl ⟨n, bad, rfl⟩)
  · exact bayLineError_cases on loaded settled hunt (.inr (.inl ⟨counted, high, low, two, most, bad, rfl⟩))
  · exact bayLineError_cases on loaded settled hunt (.inr (.inr ⟨kind, seq, payload, short, bad, rfl⟩))
  case part =>
    refine next_runBays_updLink (f := fun l => { l with receiver := _ }) on loaded settled ?_ rfl
    exact bayLineError_silent (s := s.quiet) hunt (receiveBytes_part s.quiet.gapTimer two most short)
  case noLead =>
    refine runBays_id settled ?_
    refine (bayLineError_silent (s := s.quiet) hunt (receiveBytes_noLead _ _ noLead)).trans (bayReceiver_self hunt)
  case gap =>
    refine runBays_id settled ?_
    exact bayGap_not_due s.quiet b (by rw [show (s.quiet.bay b).link.receiver = .hunt from hunt]; rfl)
  case early =>
    refine runBays_id settled ?_
    exact bayGap_not_due s.quiet b ((expired_gap (s := s.quiet) gap).trans early)
  case due =>
    refine next_runBays_updLink (f := fun l => { l with receiver := .hunt, lineErrors := countUp l.lineErrors }) on loaded settled ?_ rfl
    refine (if_pos ((expired_gap (s := s.quiet) gap).trans due)).trans ?_
    simp [State.countLineError, State.updLink, State.updBay, State.bay]
  case late =>
    refine next_runBays_updLink (f := fun l => { l with
      receiver := if y = 0xA5 then .length { start := s.clock, interval := 20 } else .hunt,
      lineErrors := countUp (s.bay b).link.lineErrors }) on loaded settled ?_ rfl
    exact bayByte_late (s := s.quiet) (late_of_gap gap past) y
  case sent =>
    have link := congrArg Bay.link (transmitted_bay s.quiet b m.seq)
    have session := congrArg Bay.session (transmitted_bay s.quiet b m.seq)
    have out := transmitted_out s.quiet b m.seq
    have exchange := congrArg Link.exchange link
    have next := congrArg Link.sending link
    have following := congrArg Link.following link
    dsimp only at exchange next following
    rw [show (s.quiet.bay b).link = (s.bay b).link from rfl] at exchange next following out
    rw [run_settled s _ on (transmitted_settled (settled_quiet s settled) b m.seq)]
    refine ⟨fun c other => by simp [State.transmitted, other], session, fun x opened => ⟨fun own => ?_, fun other => ?_⟩,
      fun closed => ?_, fun nothing => ⟨?_, ?_⟩, fun n rest more => ⟨?_, ?_, ?_⟩, ?_⟩
    · rw [exchange, opened, Option.map_some, if_pos own]
      rfl
    · rw [exchange, opened, Option.map_some, if_neg other]
    · rw [exchange, closed, Option.map_none]
    · rw [next, nothing]
      rfl
    · rw [out, nothing]
      rfl
    · rw [next, more]
      rfl
    · rw [following, more]
      rfl
    · rw [out, more]
      rfl
    · simp [State.transmitted]

end Sys2Proof.Machine
end

section

set_option Elab.async false

/-!
SUPPORT. WATCH_SET (R170, R171).
-/

namespace Sys2Proof.Machine

/-- While the order table holds an entry, what follows a command leaves the event unit alone. -/
theorem run_events_of_table {s : State} {f : State → State} (on : s.engine ≠ .off) (table : (f s.quiet).intake.table ≠ []) :
    (s.run f).events = (f s.quiet).events := by
  have going : (f s.quiet).closeSweep.stopComplete = false := by
    simp [State.stopComplete, table]
  rw [run_on s f on, settleEngine_settled _ going, closeSweep_events]

theorem table_of_inHand {s : State} {kind : OrderKind} {e : Entry} (inHand : s.inHand kind = some e) : s.intake.table ≠ [] :=
  List.ne_nil_of_mem (List.mem_of_find?_eq_some inHand)

theorem watchBit_getLsbD (n : Fin 4) (k : Nat) : (watchBit n).getLsbD k = decide (k = 12 + n.val) := by
  by_cases small : k < 16
  · have bits : ∀ (n : Fin 4) (k : Fin 16), (watchBit n).getLsbD k.val = decide (k.val = 12 + n.val) := by decide
    exact bits n ⟨k, small⟩
  · rw [BitVec.getLsbD_of_ge _ _ (by omega)]
    exact (decide_eq_false (by omega)).symm

/-- The set-time test of a watch on a state (R171). -/
def State.setTime (s : State) (w : Watch) : Bool := w.setTimeTest (fun i => (s.slot i).allowance) s.events.room

theorem setWatch_events (s : State) (n : Fin 4) (w : Watch) : (s.setWatch n w).events = { s.events with
    watches := s.events.watches.set n w
    flags := (s.events.flags &&& ~~~(watchBit n)) ||| (if s.setTime w then watchBit n else 0) } := by
  unfold State.setWatch
  dsimp only
  split
  next fired =>
    rw [show s.setTime w = true from fired]
    rfl
  next quiet =>
    rw [if_neg (show ¬s.setTime w = true from quiet)]
    exact congrArg (fun flags => { s.events with watches := s.events.watches.set n w, flags := flags }) BitVec.or_zero.symm

theorem setWatch_flags (s : State) (n : Fin 4) (w : Watch) (k : Nat) :
    (s.setWatch n w).events.flags.getLsbD k = if k = 12 + n.val then s.setTime w else s.events.flags.getLsbD k := by
  have fired : (if s.setTime w then watchBit n else 0).getLsbD k = (s.setTime w && decide (k = 12 + n.val)) := by
    cases s.setTime w
    · simp
    · simp [watchBit_getLsbD]
  rw [setWatch_events]
  dsimp only
  rw [BitVec.getLsbD_or, BitVec.getLsbD_and, BitVec.getLsbD_not, watchBit_getLsbD, fired]
  by_cases own : k = 12 + n.val
  · simp [own]
  · by_cases small : k < 16
    · simp [own, small]
    · simp [own, BitVec.getLsbD_of_ge _ k (Nat.le_of_not_lt small)]

theorem answerAtTake_events {s : State} (area : s.intake.area.isSome = true) (cell : Nat) (r : Result) (data : List Byte) :
    (s.answerAtTake cell r data).events = s.events := by
  rw [State.answerAtTake, if_pos area]
  rfl

theorem watchNumber?_eq {p : List Byte} {n : Fin 4} (number : n.val = byteAt p 0) : watchNumber? p = some n := by
  have low : byteAt p 0 < 4 := number ▸ n.isLt
  rw [watchNumber?, dif_pos low]
  exact congrArg _ (Fin.ext number.symm)

theorem watchNumber?_eq_none {p : List Byte} (high : 3 < byteAt p 0) : watchNumber? p = none := dif_neg (by omega)

section
variable {s : State} {e : Entry} (inHand : s.inHand .watchSet = some e)
include inHand

theorem exec_watchSet_refused (on : s.engine ≠ .off) (bad : 3 < byteAt e.params 0 ∨ watch? e.params = none) :
    ∃ t, exec .watchSet s = .next t ∧ s.answersAtTake t e .refusedField [] ∧ s.sameOutsideIntake t := by
  refine refused_at_take_next on ?_
  refine (withOrder_inHand s.quiet .watchSet e _ inHand).trans ?_
  obtain high | unread := bad
  · simp only [watchNumber?_eq_none high]
  · simp only [unread]
    split
    · contradiction
    · rfl

theorem exec_watchSet {n : Fin 4} {w : Watch} (number : n.val = byteAt e.params 0) (read : watch? e.params = some w) :
    exec .watchSet s = .next (s.run fun _ => (s.quiet.setWatch n w).answerAtTake e.cell .ok (w.answerData n (s.setTime w))) := by
  refine next_run_eq ((withOrder_inHand s.quiet .watchSet e _ inHand).trans ?_)
  simp only [watchNumber?_eq number, read]
  rfl

end

theorem answerAtTake_table {s : State} (area : s.intake.area.isSome = true) (cell : Nat) (r : Result) (data : List Byte)
    (table : s.intake.table ≠ []) : (s.answerAtTake cell r data).intake.table ≠ [] := by
  rw [State.answerAtTake, if_pos area]
  exact fun empty => table (List.map_eq_nil_iff.mp empty)

/-- Settles O45. -/
theorem watchSetByRule : Obligations.WatchSetByRule := by
  intro s e on inHand
  refine ⟨exec_watchSet_refused inHand on, fun n w number read => ⟨_, s.setTime w, exec_watchSet inHand number read, ?test, ?own,
    fun m other => ?others, ?mask, ?answer, fun area k => ?flags, ?rest⟩⟩
  case test => cases w <;> rfl
  case own => simp [run_frame _ _ on, setWatch_events]
  case others =>
    have apart : m.val ≠ n.val := fun same => other (Fin.ext same)
    simp [run_frame _ _ on, setWatch_events, apart.symm]
  case mask => simp [run_frame _ _ on, setWatch_events]
  case answer => exact answered_at_take s (s.quiet.setWatch n w) _ e _ _ on (by simp) rfl
  case flags =>
    have area : (s.quiet.setWatch n w).intake.area.isSome = true := by simpa using area
    have table : (s.quiet.setWatch n w).intake.table ≠ [] := by simpa using table_of_inHand inHand
    rw [run_events_of_table on (answerAtTake_table area _ _ _ table), answerAtTake_events area, setWatch_flags]
    rfl
  case rest => simp [run_frame _ _ on]

end Sys2Proof.Machine
end

section

set_option Elab.async false

/-!
SUPPORT. PROFILE_WRITE, MODEL_MAP_WRITE and the steps of a persist (R161 to R164, R178).
-/

namespace Sys2Proof.Machine

/-! ## What a write changes in the store (R161, R162) -/

theorem touch_changed (p : ProfileStore) (g : Fin 4) : (p.touch g).groups[g] = { p.groups[g] with changed := true } := by
  simp [ProfileStore.touch]

theorem touch_other (p : ProfileStore) {g k : Fin 4} (other : k ≠ g) : (p.touch g).groups[k] = p.groups[k] := by
  have apart : g.val ≠ k.val := fun same => other (Fin.ext same.symm)
  simp [ProfileStore.touch, apart]

/-- A write to its group touches a persist in progress. -/
theorem touch_persist {p : ProfileStore} {y : Persist} (persist : p.persist = some y) (g : Fin 4) :
    (p.touch g).persist = some { y with touched := y.touched || decide (y.group = g) } := by
  rw [ProfileStore.touch, persist, Option.map_some]
  by_cases own : y.group = g
  · rw [if_pos own, decide_eq_true own, Bool.or_true]
  · rw [if_neg own, decide_eq_false own, Bool.or_false]

theorem writeMap_inside {p : ProfileStore} {first : Nat} {l : List MapEntry} {n : Fin 64} {k : Nat} (place : n.val = first + k)
    (inside : k < l.length) : (p.writeMap first l).map[n] = l[k] := by
  have last : first + k < first + l.length := by omega
  simp [ProfileStore.writeMap, place, inside]

theorem writeMap_outside {p : ProfileStore} {first : Nat} {l : List MapEntry} {n : Fin 64}
    (outside : n.val < first ∨ first + l.length ≤ n.val) : (p.writeMap first l).map[n] = p.map[n] := by
  have not_in : ¬(first ≤ n.val ∧ n.val < first + l.length) := by omega
  simp only [ProfileStore.writeMap, Fin.getElem_fin, Vector.getElem_ofFn, if_neg not_in]

/-- The written entries read back from the map. -/
theorem writeMap_entries (p : ProfileStore) {first : Nat} {l : List MapEntry} (fits : first + l.length ≤ 64) :
    ((p.writeMap first l).map.toList.drop first).take l.length = l := by
  refine List.ext_getElem (by simp; omega) fun k low high => ?_
  have inside : first + k < 64 := by omega
  have entry := writeMap_inside (p := p) (n := ⟨first + k, inside⟩) rfl high
  simpa using entry

theorem profileIndex?_eq {p : List Byte} {i : Fin 16} (index : i.val = byteAt p 0) : profileIndex? p = some i := by
  have low : byteAt p 0 < 16 := index ▸ i.isLt
  rw [profileIndex?, dif_pos low]
  exact congrArg _ (Fin.ext index.symm)

theorem profileIndex?_eq_none {p : List Byte} (high : 15 < byteAt p 0) : profileIndex? p = none := dif_neg (by omega)

/-- The store with a profile written (R161). -/
def ProfileStore.putProfile (p : ProfileStore) (i : Fin 16) (x : Profile) : ProfileStore :=
  ({ p with profiles := p.profiles.set i x }).touch (profileGroup i)

/-- The store with map entries written (R162). -/
def ProfileStore.putMap (p : ProfileStore) (first : Nat) (l : List MapEntry) : ProfileStore :=
  (p.writeMap first l).touch (mapGroup first)

theorem putProfile_self (p : ProfileStore) (i : Fin 16) (x : Profile) : (p.putProfile i x).profiles[i] = x := by
  simp [ProfileStore.putProfile, ProfileStore.touch]

theorem putProfile_other (p : ProfileStore) {i j : Fin 16} (x : Profile) (other : j ≠ i) :
    (p.putProfile i x).profiles[j] = p.profiles[j] := by
  have apart : i.val ≠ j.val := fun same => other (Fin.ext same.symm)
  simp [ProfileStore.putProfile, ProfileStore.touch, apart]

/-- The answer reads the groups as any store with the same groups shows them. -/
theorem putProfile_answerData (p : ProfileStore) (i : Fin 16) (x : Profile) {q : ProfileStore} (groups : q.groups = (p.putProfile i x).groups) :
    (p.putProfile i x).answerData (.profile i) = [byteOf i.val, 0, 0, 0] ++ q.groupSummary ++ x.bytes := by
  rw [ProfileStore.answerData, putProfile_self, ProfileStore.groupSummary, ProfileStore.groupSummary, groups]

theorem putMap_answerData (p : ProfileStore) {first : Nat} {l : List MapEntry} (fits : first + l.length ≤ 64) {q : ProfileStore}
    (groups : q.groups = (p.putMap first l).groups) : (p.putMap first l).answerData (.map first l.length) =
      [byteOf first, byteOf l.length, 0, 0] ++ q.groupSummary ++ l.flatMap (·.bytes) := by
  have entries : ((p.putMap first l).map.toList.drop first).take l.length = l := writeMap_entries p fits
  rw [ProfileStore.answerData, entries, ProfileStore.groupSummary, ProfileStore.groupSummary, groups]

theorem putMap_rest (p : ProfileStore) (first : Nat) (l : List MapEntry) :
    (p.putMap first l).profiles = p.profiles ∧ (p.putMap first l).control = p.control ∧
    (p.putMap first l).map = (p.writeMap first l).map := by
  simp [ProfileStore.putMap, ProfileStore.touch, ProfileStore.writeMap]

/-- What a MODEL_MAP_WRITE that is read carries. -/
theorem mapWrite?_records {p : List Byte} {first : Nat} {l : List MapEntry} (read : mapWrite? p = some (first, l)) :
    (first ≤ 63 ∧ 1 ≤ l.length ∧ l.length ≤ 8 ∧ (first + l.length - 1) / 32 = first / 32) ∧
    ∀ k (inside : k < l.length), mapEntry? (field p (8 + k * 4) 4) = some l[k] := by
  obtain ⟨firstEq, length, -⟩ := mapWrite?_fields read
  unfold mapWrite? at read
  dsimp only at read
  split at read
  next inRange =>
    obtain ⟨values, entries, same⟩ := Option.map_eq_some_iff.mp read
    obtain ⟨-, rfl⟩ := Prod.mk.inj same
    refine ⟨by rw [firstEq, length]; exact inRange, fun k inside => ?_⟩
    have record := allSome_getElem? entries k
    rw [List.getElem?_map, recordsOf_getElem?, if_pos (length ▸ inside), List.getElem?_eq_getElem inside, field_drop] at record
    exact Option.some.inj record
  next => cases read

theorem mapWrite?_refused {p : List Byte} (bad : 63 < byteAt p 0 ∨ byteAt p 1 = 0 ∨ 8 < byteAt p 1 ∨
    (byteAt p 0 < 32 ∧ 32 < byteAt p 0 + byteAt p 1) ∨ (32 ≤ byteAt p 0 ∧ 64 < byteAt p 0 + byteAt p 1) ∨
    ∃ k, k < byteAt p 1 ∧ mapEntry? (field p (8 + k * 4) 4) = none) : mapWrite? p = none := by
  cases read : mapWrite? p with
  | none => rfl
  | some w =>
    obtain ⟨first, l⟩ := w
    obtain ⟨firstEq, length, -⟩ := mapWrite?_fields read
    obtain ⟨range, records⟩ := mapWrite?_records read
    rw [firstEq, length, mapRange_iff] at range
    obtain many | count | most | low | high | ⟨k, inside, unread⟩ := bad
    · exact absurd (.inl many) range
    · exact absurd (.inr (.inl count)) range
    · exact absurd (.inr (.inr (.inl most))) range
    · exact absurd (.inr (.inr (.inr (.inl low)))) range
    · exact absurd (.inr (.inr (.inr (.inr high)))) range
    · rw [records k (length ▸ inside)] at unread
      cases unread

/-! ## The two ends of a write order (R161 to R163) -/

theorem answerAtTake_prof (s : State) (cell : Nat) (r : Result) (data : List Byte) : (s.answerAtTake cell r data).prof = s.prof := by
  simp

/-- Persist that a write order starts (R163). -/
def ProfileStore.captured (p : ProfileStore) (e : Entry) (g : Fin 4) (subject : PersistSubject) : Persist :=
  { group := g, capture := withGroupCheck (p.groupBytes g), step := .area, order := some e.cell, subject, touched := false }

theorem beginPersist_eq (s : State) (e : Entry) (g : Fin 4) (subject : PersistSubject) : s.beginPersist e g subject =
    ((s.hold e).updProf fun p => { p with persist := some (s.prof.captured e g subject) }).emit
      [.serialWrite (groupAddress g) (s.prof.captured e g subject).capture] := rfl

/-- A write order that passed its checks, once its records `u` stand in the store. -/
def State.wrote (s : State) (e : Entry) (p : ProfileStore) (g : Fin 4) (subject : PersistSubject) : State :=
  ({ s with prof := p }).finishWrite e g subject

theorem wrote_answered {s : State} {e : Entry} (p : ProfileStore) (g : Fin 4) (subject : PersistSubject)
    (stays : e.flags.getLsbD 1 = false) :
    s.wrote e p g subject = ({ s with prof := p }).answerAtTake e.cell .ok (p.answerData subject) :=
  if_neg (by rw [Entry.persists, stays]; exact Bool.false_ne_true)

theorem wrote_persists {s : State} {e : Entry} (p : ProfileStore) (g : Fin 4) (subject : PersistSubject)
    (persists : e.flags.getLsbD 1 = true) : s.wrote e p g subject = ({ s with prof := p }).beginPersist e g subject :=
  if_pos persists

/-- The store after a write order: the records, and the persist where one begins. -/
theorem wrote_prof (s : State) (e : Entry) (p : ProfileStore) (g : Fin 4) (subject : PersistSubject) :
    (s.wrote e p g subject).prof =
      if e.flags.getLsbD 1 then { p with persist := some (p.captured e g subject) } else p := by
  cases persists : e.flags.getLsbD 1 with
  | true =>
    rw [wrote_persists _ _ _ persists, if_pos rfl]
    rfl
  | false =>
    rw [wrote_answered _ _ _ persists, if_neg Bool.false_ne_true, answerAtTake_prof]

theorem wrote_frame (s : State) (e : Entry) (p : ProfileStore) (g : Fin 4) (subject : PersistSubject) :
    (s.wrote e p g subject).ks = s.ks ∧ (s.wrote e p g subject).ceu = s.ceu ∧ (s.wrote e p g subject).cipher = s.cipher ∧
    (s.wrote e p g subject).bays = s.bays ∧ (s.wrote e p g subject).clock = s.clock := by
  cases persists : e.flags.getLsbD 1 with
  | true =>
    rw [wrote_persists _ _ _ persists]
    exact ⟨rfl, rfl, rfl, rfl, rfl⟩
  | false =>
    rw [wrote_answered _ _ _ persists]
    simp

/-- The port traffic of a command after which an order is open. -/
theorem run_out_of_table {s : State} {f : State → State} (on : s.engine ≠ .off) (table : (f s.quiet).intake.table ≠ []) :
    (s.run f).out = (f s.quiet).out := by
  have going : (f s.quiet).closeSweep.stopComplete = false := by simp [State.stopComplete, table]
  rw [run_on s f on, settleEngine_settled _ going, closeSweep_out]

section
variable {s : State} {e : Entry} (on : s.engine ≠ .off) {p : ProfileStore} {g : Fin 4} {subject : PersistSubject}
include on

theorem run_wrote_prof : (s.run fun _ => s.quiet.wrote e p g subject).prof =
    if e.flags.getLsbD 1 then { p with persist := some (p.captured e g subject) } else p := by
  simp [run_frame _ _ on, wrote_prof]

theorem run_wrote_frame : (s.run fun _ => s.quiet.wrote e p g subject).ks = s.ks ∧
    (s.run fun _ => s.quiet.wrote e p g subject).ceu = s.ceu ∧ (s.run fun _ => s.quiet.wrote e p g subject).cipher = s.cipher ∧
    (s.run fun _ => s.quiet.wrote e p g subject).bays = s.bays ∧
    (s.run fun _ => s.quiet.wrote e p g subject).clock = s.clock := by
  simp [run_frame _ _ on, wrote_frame]

theorem run_wrote_answers (stays : e.flags.getLsbD 1 = false) :
    s.answersAtTake (s.run fun _ => s.quiet.wrote e p g subject) e .ok (p.answerData subject) :=
  answered_at_take s { s.quiet with prof := p } _ e _ _ on rfl (wrote_answered _ _ _ stays)

/-- An order with PERSIST stays open, and the area of its group goes to the memory, the control word not yet. -/
theorem run_wrote_persists (persists : e.flags.getLsbD 1 = true) (table : s.intake.table ≠ []) :
    (s.run fun _ => s.quiet.wrote e p g subject).out = [.serialWrite (groupAddress g) (p.captured e g subject).capture] ∧
    (s.run fun _ => s.quiet.wrote e p g subject).intake.answers = s.intake.answers := by
  have effect : s.quiet.wrote e p g subject = ({ s.quiet with prof := p }).beginPersist e g subject := wrote_persists _ _ _ persists
  have held : (s.quiet.wrote e p g subject).intake.table ≠ [] := by
    rw [effect]
    exact fun empty => table (List.map_eq_nil_iff.mp empty)
  refine ⟨?_, ?_⟩
  · rw [run_out_of_table on held, effect]
    rfl
  · simp [run_frame _ _ on, effect]

end

theorem serialWrite_control {g : Fin 4} {bytes capture : List Byte} :
    Output.serialWrite 0 bytes ∉ [Output.serialWrite (groupAddress g) capture] := by
  intro mem
  obtain ⟨control, -⟩ := Output.serialWrite.inj (List.mem_singleton.mp mem)
  simp [groupAddress] at control

/-! ## PROFILE_WRITE (R161) -/

section
variable {s : State} {e : Entry} (inHand : s.inHand .profileWrite = some e)
include inHand

theorem exec_profileWrite_refused (on : s.engine ≠ .off) (bad : 15 < byteAt e.params 0 ∨ profile? (field e.params 8 16) = none) :
    ∃ t, exec .profileWrite s = .next t ∧ s.answersAtTake t e .refusedField [] ∧ s.sameOutsideIntake t := by
  refine refused_at_take_next on ((withOrder_inHand s.quiet .profileWrite e _ inHand).trans ?_)
  obtain high | unread := bad
  · simp only [profileIndex?_eq_none high]
  · simp only [unread]
    split
    · contradiction
    · rfl

variable {i : Fin 16} {x : Profile} (index : i.val = byteAt e.params 0) (read : profile? (field e.params 8 16) = some x)
include index read

theorem exec_profileWrite_busy (on : s.engine ≠ .off) (persists : e.flags.getLsbD 1 = true) (busy : s.prof.persist ≠ none) :
    ∃ t, exec .profileWrite s = .next t ∧ s.answersAtTake t e .storeBusy [] ∧ s.sameOutsideIntake t := by
  refine refused_at_take_next on ((withOrder_inHand s.quiet .profileWrite e _ inHand).trans ?_)
  simp only [profileIndex?_eq index, read]
  exact if_pos ⟨persists, Option.isSome_iff_ne_none.mpr busy⟩

theorem exec_profileWrite (free : e.flags.getLsbD 1 = false ∨ s.prof.persist = none) :
    exec .profileWrite s = .next (s.run fun _ => s.quiet.wrote e
      (s.prof.putProfile i x) (profileGroup i) (.profile i)) := by
  refine next_run_eq ((withOrder_inHand s.quiet .profileWrite e _ inHand).trans ?_)
  simp only [profileIndex?_eq index, read]
  refine if_neg ?_
  rintro ⟨persists, busy⟩
  obtain stays | idle := free
  · exact absurd persists (by rw [Entry.persists, stays]; exact Bool.false_ne_true)
  · exact absurd busy (by simp [idle])

end

/-! ## MODEL_MAP_WRITE (R162) -/

section
variable {s : State} {e : Entry} (inHand : s.inHand .modelMapWrite = some e)
include inHand

theorem exec_modelMapWrite_refused (on : s.engine ≠ .off) (bad : mapWrite? e.params = none) :
    ∃ t, exec .modelMapWrite s = .next t ∧ s.answersAtTake t e .refusedField [] ∧ s.sameOutsideIntake t := by
  refine refused_at_take_next on ((withOrder_inHand s.quiet .modelMapWrite e _ inHand).trans ?_)
  simp only [bad]

variable {first : Nat} {l : List MapEntry} (read : mapWrite? e.params = some (first, l))
include read

theorem exec_modelMapWrite_busy (on : s.engine ≠ .off) (persists : e.flags.getLsbD 1 = true) (busy : s.prof.persist ≠ none) :
    ∃ t, exec .modelMapWrite s = .next t ∧ s.answersAtTake t e .storeBusy [] ∧ s.sameOutsideIntake t := by
  refine refused_at_take_next on ((withOrder_inHand s.quiet .modelMapWrite e _ inHand).trans ?_)
  simp only [read]
  exact if_pos ⟨persists, Option.isSome_iff_ne_none.mpr busy⟩

theorem exec_modelMapWrite (free : e.flags.getLsbD 1 = false ∨ s.prof.persist = none) :
    exec .modelMapWrite s = .next (s.run fun _ => s.quiet.wrote e
      (s.prof.putMap first l) (mapGroup first) (.map first l.length)) := by
  refine next_run_eq ((withOrder_inHand s.quiet .modelMapWrite e _ inHand).trans ?_)
  simp only [read]
  refine if_neg ?_
  rintro ⟨persists, busy⟩
  obtain stays | idle := free
  · exact absurd persists (by rw [Entry.persists, stays]; exact Bool.false_ne_true)
  · exact absurd busy (by simp [idle])

end

/-- What a write order that persists leaves in its store. -/
theorem run_wrote_persist {s : State} (on : s.engine ≠ .off) {e : Entry} {p : ProfileStore} {g : Fin 4} {subject : PersistSubject}
    (persists : e.flags.getLsbD 1 = true) (table : s.intake.table ≠ []) :
    ∃ y, (s.run fun _ => s.quiet.wrote e p g subject).prof.persist = some y ∧ y.group = g ∧ y.order = some e.cell ∧
      y.touched = false ∧ y.subject = subject ∧ y.step = .area ∧
      y.capture = withGroupCheck ((s.run fun _ => s.quiet.wrote e p g subject).prof.groupBytes g) ∧
      Output.serialWrite (0x100 * (g.val + 1)) y.capture ∈ (s.run fun _ => s.quiet.wrote e p g subject).out ∧
      ∀ bytes, Output.serialWrite 0 bytes ∉ (s.run fun _ => s.quiet.wrote e p g subject).out := by
  obtain ⟨out, -⟩ := run_wrote_persists (p := p) (g := g) (subject := subject) on persists table
  rw [out, run_wrote_prof on, if_pos persists]
  exact ⟨_, rfl, rfl, rfl, rfl, rfl, rfl, rfl, List.mem_singleton_self _, fun bytes => serialWrite_control⟩

/-- The records and marks after a write order, persisted or not. -/
theorem run_wrote_store {s : State} (on : s.engine ≠ .off) (e : Entry) (p : ProfileStore) (g : Fin 4) (subject : PersistSubject) :
    (s.run fun _ => s.quiet.wrote e p g subject).prof.profiles = p.profiles ∧
    (s.run fun _ => s.quiet.wrote e p g subject).prof.map = p.map ∧
    (s.run fun _ => s.quiet.wrote e p g subject).prof.control = p.control ∧
    (s.run fun _ => s.quiet.wrote e p g subject).prof.groups = p.groups := by
  rw [run_wrote_prof on]
  split
  · exact ⟨rfl, rfl, rfl, rfl⟩
  · exact ⟨rfl, rfl, rfl, rfl⟩

/-- Settles O43. -/
theorem profileStoreWrites : Obligations.ProfileStoreWrites := by
  refine ⟨fun s e on inHand => ⟨exec_profileWrite_refused inHand on, fun i x index read =>
    ⟨exec_profileWrite_busy inHand index read on, fun free => ⟨_, exec_profileWrite inHand index read free, ?profile⟩⟩⟩,
    fun s e on inHand => ⟨fun bad => exec_modelMapWrite_refused inHand on (mapWrite?_refused bad), fun first l read =>
    ⟨exec_modelMapWrite_busy inHand read on, fun free => ⟨_, exec_modelMapWrite inHand read free, ?map⟩⟩⟩⟩
  case profile =>
    obtain ⟨profiles, map, control, groups⟩ := run_wrote_store on e (s.prof.putProfile i x) (profileGroup i) (.profile i)
    refine ⟨?_, fun j other => ?_, map, control, ?_, ?_, fun g other => ?_, fun stays => ⟨?_, fun y persist => ?_⟩,
      fun persists => ⟨run_wrote_persist on persists (table_of_inHand inHand), ?_⟩, run_wrote_frame on⟩
    · rw [profiles, putProfile_self]
    · rw [profiles, putProfile_other _ _ other]
    · rw [groups, ProfileStore.putProfile, touch_changed]
    · rw [groups, ProfileStore.putProfile, touch_changed]
    · rw [groups, ProfileStore.putProfile, touch_other _ other]
    · rw [← putProfile_answerData s.prof i x groups]
      exact run_wrote_answers on stays
    · rw [run_wrote_prof on, if_neg (by rw [stays]; exact Bool.false_ne_true)]
      exact touch_persist (p := { s.prof with profiles := s.prof.profiles.set i x }) persist _
    · exact (run_wrote_persists on persists (table_of_inHand inHand)).2
  case map =>
    obtain ⟨firstEq, length, -⟩ := mapWrite?_fields read
    obtain ⟨⟨low, one, eight, half⟩, records⟩ := mapWrite?_records read
    have fits : first + l.length ≤ 64 := by omega
    obtain ⟨profiles, map, control, groups⟩ := run_wrote_store on e (s.prof.putMap first l) (mapGroup first) (.map first l.length)
    obtain ⟨sameProfiles, sameControl, sameMap⟩ := putMap_rest s.prof first l
    refine ⟨firstEq, length, fun n k place inside => ?_, fun n outside => ?_, profiles.trans sameProfiles, control.trans sameControl, ?_, fun g other => ?_,
      fun stays => ?_, fun persists => ?_, run_wrote_frame on⟩
    · rw [map, sameMap, records k inside]
      exact congrArg some (writeMap_inside (p := s.prof) place inside).symm
    · rw [map, sameMap]
      exact writeMap_outside (p := s.prof) outside
    · rw [groups, ProfileStore.putMap, touch_changed]
    · rw [groups, ProfileStore.putMap, touch_other _ other]
      simp [ProfileStore.writeMap]
    · rw [← putMap_answerData s.prof fits groups]
      exact run_wrote_answers on stays
    · exact run_wrote_persist on persists (table_of_inHand inHand)

/-! ## The group codes of the control word (R163, R164) -/

theorem groupCode_eq (control : BitVec 16) (g : Fin 4) : groupCode control g = (control.extractLsb' (2 * g.val) 2).toNat := by
  rw [groupCode, BitVec.extractLsb'_toNat, Nat.shiftRight_eq_div_pow, Nat.pow_mul]

/-- Which bits of the control word hold the code of a group. -/
theorem groupMask_getLsbD (g : Fin 4) (j : Fin 16) : (3#16 <<< (2 * g.val)).getLsbD j.val = decide (j.val / 2 = g.val) ∧
    (1#16 <<< (2 * g.val)).getLsbD j.val = decide (j.val = 2 * g.val) := by
  revert g j
  decide

theorem withGroupCode_getLsbD (control : BitVec 16) (g : Fin 4) (j : Fin 16) : (withGroupCode control g).getLsbD j.val =
    if j.val / 2 = g.val then decide (j.val = 2 * g.val) else control.getLsbD j.val := by
  obtain ⟨mask, code⟩ := groupMask_getLsbD g j
  rw [withGroupCode, BitVec.getLsbD_or, BitVec.getLsbD_and, BitVec.getLsbD_not, mask, code]
  by_cases own : j.val / 2 = g.val
  · simp [own]
  · have apart : j.val ≠ 2 * g.val := by omega
    simp [own, apart, j.isLt]

theorem groupCode_withGroupCode_self (control : BitVec 16) (g : Fin 4) : groupCode (withGroupCode control g) g = 1 := by
  rw [groupCode_eq]
  have code : (withGroupCode control g).extractLsb' (2 * g.val) 2 = 1#2 := by
    refine BitVec.eq_of_getLsbD_eq fun j low => ?_
    have bit := withGroupCode_getLsbD control g ⟨2 * g.val + j, by omega⟩
    dsimp only at bit
    have half : (2 * g.val + j) / 2 = g.val := by omega
    rw [BitVec.getLsbD_extractLsb', bit, if_pos half]
    interval_cases j <;> simp
  rw [code]
  rfl

theorem groupCode_withGroupCode_other (control : BitVec 16) {g k : Fin 4} (other : k ≠ g) :
    groupCode (withGroupCode control g) k = groupCode control k := by
  have apart : k.val ≠ g.val := fun same => other (Fin.ext same)
  rw [groupCode_eq, groupCode_eq]
  refine congrArg BitVec.toNat (BitVec.eq_of_getLsbD_eq fun j low => ?_)
  have bit := withGroupCode_getLsbD control g ⟨2 * k.val + j, by omega⟩
  dsimp only at bit
  have half : (2 * k.val + j) / 2 ≠ g.val := by omega
  rw [BitVec.getLsbD_extractLsb', BitVec.getLsbD_extractLsb', bit, if_neg half]

/-! ## The steps of a persist (R163, R164, R178) -/

section
variable {s : State} {x : Persist} {control : BitVec 16} (on : s.engine ≠ .off) (settled : s.settled) (loaded : s.prof.load = none)
  (persist : s.prof.persist = some x)
include loaded persist

theorem exec_serialMemoryReady_persist : exec (.serialMemoryReady control) s = .next (s.run fun _ => s.quiet.advancePersist x) := by
  refine next_run_eq ?_
  have loaded : s.quiet.prof.load = none := loaded
  have persist : s.quiet.prof.persist = some x := persist
  simp only [loaded, persist]

include on settled

omit loaded persist in
theorem run_advancePersist : (s.run fun _ => s.quiet.advancePersist x) = s.quiet.advancePersist x := by
  refine run_settled s _ on ?_
  exact (settled_quiet s settled).of_parts (by simp) (by simp) (by simp) (by simp) (by simp) (by simp) (by simp)

theorem exec_serialMemoryReady_area (step : x.step = .area) : exec (.serialMemoryReady control) s =
    .next { s with prof := { s.prof with persist := some { x with step := .control } },
                   out := [.serialWrite 0 (toLE 2 (withGroupCode s.prof.control x.group &&& 0x00FF#16).toNat)] } := by
  rw [exec_serialMemoryReady_persist loaded persist, run_advancePersist on settled, State.advancePersist, step]
  rfl

theorem exec_serialMemoryReady_control (step : x.step = .control) : exec (.serialMemoryReady control) s =
    .next { s with prof := { s.prof with persist := some { x with step := .readBack } }, out := [] } := by
  rw [exec_serialMemoryReady_persist loaded persist, run_advancePersist on settled, State.advancePersist, step]
  rfl

theorem exec_serialMemoryReady_readBack (step : x.step = .readBack) : exec (.serialMemoryReady control) s = .next s.quiet := by
  rw [exec_serialMemoryReady_persist loaded persist, run_advancePersist on settled, State.advancePersist, step]

end

/-- Whether the report ends the persist well: the area read back as it was captured, from a readable memory (R164). -/
def Persist.goodWith (x : Persist) (r : Option (Vector Byte 130)) (unreadable : Bool) : Bool :=
  match r with
  | some bytes => decide (bytes.toList = x.capture) && !unreadable
  | none => false

theorem outcome_of_fits {x : Persist} {r : Option (Vector Byte 130)} (fits : x.step = .readBack ↔ r ≠ none) (unreadable : Bool) :
    x.outcome (r.map (·.toList)) unreadable = some (x.goodWith r unreadable) := by
  cases r with
  | none =>
    have writing : x.step ≠ .readBack := fun back => fits.mp back rfl
    unfold Persist.outcome
    cases step : x.step with
    | area => rfl
    | control => rfl
    | readBack => exact absurd step writing
  | some bytes =>
    unfold Persist.outcome
    rw [fits.mpr nofun]
    rfl

theorem outcome_of_not_fits {x : Persist} {r : Option (Vector Byte 130)} (misfit : ¬(x.step = .readBack ↔ r ≠ none))
    (unreadable : Bool) : x.outcome (r.map (·.toList)) unreadable = none := by
  unfold Persist.outcome
  cases r with
  | none =>
    cases step : x.step with
    | area => exact (misfit ⟨fun back => absurd (step.symm.trans back) nofun, fun given => absurd rfl given⟩).elim
    | control => exact (misfit ⟨fun back => absurd (step.symm.trans back) nofun, fun given => absurd rfl given⟩).elim
    | readBack => rfl
  | some bytes =>
    cases step : x.step with
    | area => rfl
    | control => rfl
    | readBack => exact (misfit ⟨fun _ => nofun, fun _ => step⟩).elim

section
variable {s : State} {x : Persist} {r : Option (Vector Byte 130)} (persist : s.prof.persist = some x)
include persist

theorem exec_persistEnd (fits : x.step = .readBack ↔ r ≠ none) :
    exec (.persistEnd r) s = .next (s.run fun _ => s.quiet.persistEnded x (x.goodWith r s.prof.unreadable)) := by
  refine next_run_eq ?_
  have persist : s.quiet.prof.persist = some x := persist
  simp only [persist, outcome_of_fits fits]
  rfl

theorem exec_persistEnd_misfit (settled : s.settled) (misfit : ¬(x.step = .readBack ↔ r ≠ none)) :
    exec (.persistEnd r) s = .next s.quiet := by
  refine congrArg Host.Outcome.next (run_id _ _ settled ?_)
  have persist : s.quiet.prof.persist = some x := persist
  simp only [persist, outcome_of_not_fits misfit]

end

/-- The store and STORE_FAULT at the end of a persist, before its answer. -/
def State.persistStored (s : State) (x : Persist) (good : Bool) : State :=
  if good then s.updProf fun p => p.endPersist x good else (s.updProf fun p => p.endPersist x good).raise .storeFault

theorem persistEnded_eq (s : State) (x : Persist) (good : Bool) : s.persistEnded x good =
    match x.order with
    | some cell => (s.persistStored x good).completeOrder cell (if good then .ok else .storeFault)
        ((s.prof.endPersist x good).answerData x.subject)
    | none => s.persistStored x good := rfl

theorem persistStored_frame (s : State) (x : Persist) (good : Bool) : (s.persistStored x good).ks = s.ks ∧
    (s.persistStored x good).ceu = s.ceu ∧ (s.persistStored x good).cipher = s.cipher ∧ (s.persistStored x good).bays = s.bays ∧
    (s.persistStored x good).writer = s.writer ∧ (s.persistStored x good).clock = s.clock ∧
    (s.persistStored x good).intake = s.intake := by
  cases good
  · exact ⟨rfl, rfl, rfl, rfl, rfl, rfl, rfl⟩
  · exact ⟨rfl, rfl, rfl, rfl, rfl, rfl, rfl⟩

theorem persistEnded_frame (s : State) (x : Persist) (good : Bool) : (s.persistEnded x good).ks = s.ks ∧
    (s.persistEnded x good).ceu = s.ceu ∧ (s.persistEnded x good).cipher = s.cipher ∧ (s.persistEnded x good).bays = s.bays ∧
    (s.persistEnded x good).writer.queue = s.writer.queue ∧ (s.persistEnded x good).clock = s.clock := by
  rw [persistEnded_eq]
  split
  · simp [persistStored_frame]
  · simp [persistStored_frame]

theorem persistEnded_hasFlag (s : State) (x : Persist) : (s.persistEnded x false).hasFlag .storeFault := by
  have raised : (s.persistStored x false).hasFlag .storeFault := State.hasFlag_raise _ .storeFault
  rw [persistEnded_eq]
  split
  · exact ((State.Grows.refl _).completeOrder _ _ _).hasFlag raised
  · exact raised

theorem persistEnded_completes {s : State} {x : Persist} {cell : Nat} (order : x.order = some cell) (good : Bool) :
    s.completes (s.persistEnded x good) cell (if good then .ok else .storeFault) ((s.prof.endPersist x good).answerData x.subject) := by
  rw [persistEnded_eq, order]
  exact completed_listed s _ _ _ _ (by rw [(persistStored_frame s x good).2.2.2.2.2.2])

theorem endPersist_other (p : ProfileStore) (x : Persist) (good : Bool) {g : Fin 4} (other : g ≠ x.group) :
    (p.endPersist x good).groups[g] = p.groups[g] := by
  have apart : x.group.val ≠ g.val := fun same => other (Fin.ext same.symm)
  simp [ProfileStore.endPersist, apart]

theorem endPersist_self (p : ProfileStore) (x : Persist) (good : Bool) :
    (p.endPersist x good).groups[x.group] = (p.groups[x.group]).persisted good x.touched := by
  simp [ProfileStore.endPersist]

/-- Settles O44. -/
theorem persistStepsAndEnds : Obligations.PersistStepsAndEnds := by
  refine ⟨fun s x control on settled loaded persist => ⟨exec_serialMemoryReady_area on settled loaded persist,
    exec_serialMemoryReady_control on settled loaded persist, exec_serialMemoryReady_readBack on settled loaded persist⟩,
    fun s x r on persist => ⟨fun fits => ⟨_, exec_persistEnd persist fits, ?_⟩, fun misfit settled =>
    exec_persistEnd_misfit persist settled misfit⟩⟩
  have prof : (s.run fun _ => s.quiet.persistEnded x (x.goodWith r s.prof.unreadable)).prof =
      s.prof.endPersist x (x.goodWith r s.prof.unreadable) := by
    simp [run_frame _ _ on, persistEnded_prof]
  have completes {cell : Nat} (order : x.order = some cell) := State.completes.run on
    (f := fun _ => s.quiet.persistEnded x (x.goodWith r s.prof.unreadable))
    (persistEnded_completes (s := s.quiet) order (x.goodWith r s.prof.unreadable))
  rw [prof]
  refine ⟨rfl, rfl, rfl, fun g other => endPersist_other _ _ _ other, fun bytes given same readable => ?good, fun bad => ?bad, ?rest⟩
  case good =>
    have good : x.goodWith r s.prof.unreadable = true := by simp [Persist.goodWith, given, same, readable]
    rw [good] at completes ⊢
    exact ⟨endPersist_self _ _ _, groupCode_withGroupCode_self _ _, fun g other => groupCode_withGroupCode_other _ other,
      fun cell order => completes order⟩
  case bad =>
    have bad : x.goodWith r s.prof.unreadable = false := by
      obtain rfl | ⟨bytes, rfl, differs⟩ | unreadable := bad
      · rfl
      · simp [Persist.goodWith, differs]
      · cases r with
        | none => rfl
        | some bytes => simp [Persist.goodWith, unreadable]
    rw [bad] at completes ⊢
    exact ⟨endPersist_self _ _ _, rfl, hasFlag_run on (persistEnded_hasFlag _ _), fun cell order => completes order⟩
  case rest => simp [run_frame _ _ on, persistEnded_frame]

end Sys2Proof.Machine
end

section

set_option Elab.async false

/-!
SUPPORT. Exchanges that open and close, and the start and end of a plan and of a terminal, as one bay shows them (R91, R96, R104,
R116 to R119, R130 to R133).
-/

namespace Sys2Proof.Machine

/-! ## Frames given to the transmitter, and exchanges (R91, R96, R104) -/

theorem Link.given_frame (l : Link) (t : Transmission) : (l.given t).exchange = l.exchange ∧ (l.given t).seq = l.seq ∧
    (l.given t).rate = l.rate ∧ (l.given t).presence = l.presence ∧ (l.given t).dropped = l.dropped ∧
    (l.given t).lastNak = l.lastNak := by
  unfold Link.given
  split
  · exact ⟨rfl, rfl, rfl, rfl, rfl, rfl⟩
  · exact ⟨rfl, rfl, rfl, rfl, rfl, rfl⟩

/-- A link on which an exchange opens (R96). -/
def Link.opened (l : Link) (frame : EngineFrame) (retryLimit timeout : Nat) : Link :=
  Link.given { l with
      seq := l.seq + 1
      exchange := some { frame, seq := l.seq + 1, bytes := frame.bytes (l.seq + 1), expected := frame.expects, retryLimit, timeout,
                         retriesUsed := 0, resendPending := false, timer := none } }
    { seq := l.seq + 1, bytes := frame.bytes (l.seq + 1) }

theorem Link.opened_exchange (l : Link) (frame : EngineFrame) (retryLimit timeout : Nat) :
    (l.opened frame retryLimit timeout).exchange = some
      { frame, seq := l.seq + 1, bytes := frame.bytes (l.seq + 1), expected := frame.expects, retryLimit, timeout,
        retriesUsed := 0, resendPending := false, timer := none } :=
  (Link.given_frame _ _).1

theorem Link.opened_seq (l : Link) (frame : EngineFrame) (retryLimit timeout : Nat) :
    (l.opened frame retryLimit timeout).seq = l.seq + 1 :=
  (Link.given_frame _ _).2.1

theorem Link.opened_frame (l : Link) (frame : EngineFrame) (retryLimit timeout : Nat) :
    (l.opened frame retryLimit timeout).rate = l.rate ∧ (l.opened frame retryLimit timeout).presence = l.presence ∧
    (l.opened frame retryLimit timeout).dropped = l.dropped ∧ (l.opened frame retryLimit timeout).lastNak = l.lastNak :=
  (Link.given_frame _ _).2.2

theorem openExchange_bay (s : State) (b : BayId) (frame : EngineFrame) (retryLimit timeout : Nat) :
    (s.openExchange b frame retryLimit timeout).bay b =
      { s.bay b with link := (s.bay b).link.opened frame retryLimit timeout } := by
  unfold State.openExchange
  dsimp only
  rw [transmit_bay_self, updLink_bay_self]
  rfl

theorem closeExchange_bay (s : State) (b : BayId) (e : Exchange) : (s.closeExchange b e).bay b =
    { s.bay b with link := { (s.bay b).link with exchange := none, lastRetries := e.retriesUsed } } :=
  updLink_bay_self ..

/-- A link whose exchange is abandoned (R104). -/
def Link.abandoned (l : Link) : Link :=
  match l.exchange with
  | none => l
  | some e => { l with exchange := none, following := l.following.filter fun t => t.seq != e.seq }

theorem Link.abandoned_frame (l : Link) : l.abandoned.exchange = none ∧ l.abandoned.seq = l.seq ∧ l.abandoned.rate = l.rate ∧
    l.abandoned.presence = l.presence ∧ l.abandoned.dropped = l.dropped ∧ l.abandoned.lastNak = l.lastNak := by
  unfold Link.abandoned
  split
  next closed => exact ⟨closed, rfl, rfl, rfl, rfl, rfl⟩
  · exact ⟨rfl, rfl, rfl, rfl, rfl, rfl⟩

theorem abandonExchange_bay (s : State) (b : BayId) :
    (s.abandonExchange b).bay b = { s.bay b with link := (s.bay b).link.abandoned } := by
  cases exchange : (s.bay b).link.exchange with
  | none =>
    have kept : (s.bay b).link.abandoned = (s.bay b).link := by simp only [Link.abandoned, exchange]
    rw [kept]
    simp only [State.abandonExchange, exchange]
  | some e =>
    simp only [State.abandonExchange, Link.abandoned, exchange]
    exact updLink_bay_self ..

/-! ## A plan starts (R116, R117) -/

/-- The bay on which a plan starts (R117). -/
def Bay.planStarted (x : Bay) (order : Nat) (tag : BitVec 32) (isRepeat : Bool) (plan : Plan) : Bay :=
  { x with
    running := some { order, tag, isRepeat, plan }
    cache := if isRepeat then x.cache else some plan
    counters := Counters.zero
    link := { x.link with strays := 0, lineErrors := 0, lastNak := none, rate := plan.rate, receiver := .hunt }
    session := { x.session with state := .awaitTerminal, attempted := 0, ending := .none } }

theorem startPlan_bay (s : State) (b : BayId) (order : Nat) (tag : BitVec 32) (isRepeat : Bool) (plan : Plan) :
    (s.startPlan b order tag isRepeat plan).bay b = (s.bay b).planStarted order tag isRepeat plan :=
  updBay_bay_self ..

/-- The plan of an order as it starts: its own, or the cached one with its own K (R115, R117). -/
def PlanSource.planFor (source : PlanSource) (cache : Option Plan) : Option Plan :=
  match source, cache with
  | .run plan, _ => some plan
  | .again k, some plan => some { plan with repeats := k }
  | .again _, none => none

/-- The order runs a plan of its own, not the cached one. -/
def PlanSource.isRepeat : PlanSource → Bool
  | .run _ => false
  | .again _ => true

/-- The bay on which an order starts; a repeat without a cached plan does not. -/
def Bay.orderStarted (x : Bay) (h : HeldOrder) : Bay :=
  match h.source.planFor x.cache with
  | some plan => x.planStarted h.order h.tag h.source.isRepeat plan
  | none => x

theorem startOrder_bay (s : State) (b : BayId) (h : HeldOrder) : (s.startOrder b h).bay b = (s.bay b).orderStarted h := by
  obtain ⟨order, tag, source⟩ := h
  unfold State.startOrder Bay.orderStarted
  cases source with
  | run plan => exact startPlan_bay ..
  | again k =>
    cases cache : (s.bay b).cache with
    | none => rfl
    | some plan => exact startPlan_bay ..

/-! ## A plan ends (R118) -/

/-- The bay with its running place emptied (R118). -/
def Bay.planFinished (x : Bay) : Bay :=
  { x with running := none, halt := none, session := { x.session with state := .idle, ending := .none, removal := none } }

theorem finishPlan_bay (s : State) (b : BayId) (r : RunningOrder) (result : Result) (refusing : Byte) :
    (s.finishPlan b r result refusing).bay b = (s.bay b).planFinished := by
  unfold State.finishPlan
  dsimp only
  refine (updBay_bay_self ..).trans (congrArg Bay.planFinished ?_)
  split
  · exact bay_of_bays (completeOrder_frame ..).2.2.2.2.1 b
  · simp

/-- The bay after the end of its plan: IDLE, or running the order that was held (R118). -/
def Bay.planEnded (x : Bay) : Bay :=
  match x.held with
  | none => x.planFinished
  | some h => Bay.orderStarted { x.planFinished with held := none } h

theorem planEnd_bay {s : State} {b : BayId} {r : RunningOrder} (running : (s.bay b).running = some r) (result : Result)
    (refusing : Byte) : (s.planEnd b result refusing).bay b = (s.bay b).planEnded := by
  have holder : (s.bay b).planFinished.held = (s.bay b).held := rfl
  unfold State.planEnd Bay.planEnded
  simp only [running, finishPlan_bay, holder]
  cases held : (s.bay b).held with
  | none => exact finishPlan_bay s b r result refusing
  | some h => rw [startOrder_bay, updBay_bay_self, finishPlan_bay]

theorem planEnd_idle {s : State} {b : BayId} (idle : (s.bay b).running = none) (result : Result) (refusing : Byte) :
    s.planEnd b result refusing = s := by
  simp only [State.planEnd, idle]

theorem planEnded_halt (x : Bay) : x.planEnded.halt = none := by
  unfold Bay.planEnded Bay.orderStarted
  (repeat' split) <;> rfl

theorem planEnded_of_none {x : Bay} (held : x.held = none) : x.planEnded = x.planFinished := by
  simp only [Bay.planEnded, held]

theorem planEnded_of_held {x : Bay} {h : HeldOrder} {plan : Plan} (held : x.held = some h) (starts : h.source.planFor x.cache = some plan) :
    x.planEnded = Bay.planStarted { x.planFinished with held := none } h.order h.tag h.source.isRepeat plan := by
  simp only [Bay.planEnded, held, Bay.orderStarted]
  rw [show x.planFinished.cache = x.cache from rfl, starts]

/-- The end of a plan completes its order, and a BAY_HALT that waits on it. -/
theorem planEnd_completes {s : State} {b : BayId} {r : RunningOrder} (running : (s.bay b).running = some r) (result : Result)
    (refusing : Byte) : s.completes (s.planEnd b result refusing) r.order result (planData b refusing (s.bay b).counters) ∧
      ∀ h, (s.bay b).halt = some h → s.completes (s.planEnd b result refusing) h.order .ok [byteOf b.val, h.state.code] := by
  have order := completed_listed s s r.order result (planData b refusing (s.bay b).counters) rfl
  have ended : (s.finishPlan b r result refusing).Grows (s.planEnd b result refusing) := by
    simp only [State.planEnd, running]
    split
    · exact .refl _
    · exact ((State.Grows.refl _).updBay _ _).startOrder _ _
  refine ⟨State.completes.grows ?_ ended, fun h halt => State.completes.grows ?_ ended⟩
  · unfold State.finishPlan
    dsimp only
    split
    · exact order
    next h _ => exact State.completes.grows order (((State.Grows.refl _).completeOrder h.order _ _).updBay b _)
  · unfold State.finishPlan
    simp only [halt]
    exact completed_listed s _ _ _ _ (completeOrder_frame ..).2.2.2.2.2.2.2.2.2.1

/-- What a state kept of the plan that runs on a bay of another: all that its end looks at (R118, R132). -/
structure State.keepsPlan (s u : State) (b : BayId) (r : RunningOrder) : Prop where
  area : u.intake.area = s.intake.area
  prof : u.prof = s.prof
  running : (u.bay b).running = some r
  halt : (u.bay b).halt = (s.bay b).halt
  held : (u.bay b).held = (s.bay b).held
  cache : (u.bay b).cache = (s.bay b).cache
  attempted : (u.bay b).session.attempted = (s.bay b).session.attempted
  ending : (u.bay b).session.ending = (s.bay b).session.ending
  gone : (u.bay b).session.gone = (s.bay b).session.gone
  presence : (u.bay b).link.presence = (s.bay b).link.presence

theorem decide_isRepeat {source : PlanSource} {cache : Option Plan} {plan : Plan}
    (starts : source = .run plan ∨ ∃ k p, source = .again k ∧ cache = some p ∧ plan = { p with repeats := k }) :
    decide (source ≠ .run plan) = source.isRepeat ∧ source.planFor cache = some plan := by
  obtain rfl | ⟨k, p, rfl, rfl, rfl⟩ := starts
  · exact ⟨decide_eq_false (by simp), rfl⟩
  · exact ⟨decide_eq_true nofun, rfl⟩

/-- The end of the plan of a bay is as the statements describe it (R118, R133). -/
theorem State.keepsPlan.planEnd {s u : State} {b : BayId} {r : RunningOrder} (kept : s.keepsPlan u b r) (code : Result)
    (refusing : Byte) : s.planEnded (u.planEnd b code refusing) b r code refusing (u.bay b).counters := by
  obtain ⟨order, halts⟩ := planEnd_completes kept.running code refusing
  have bay := planEnd_bay kept.running code refusing
  refine ⟨order.of_area kept.area, fun h halt => (halts h (kept.halt.trans halt)).of_area kept.area, ?_, fun held => ?_,
    fun h plan held starts => ?_⟩
  · rw [bay, planEnded_halt]
  · rw [State.session, bay, planEnded_of_none (kept.held.trans held)]
    exact ⟨rfl, rfl, rfl, rfl, kept.cache⟩
  · obtain ⟨again, plan⟩ := decide_isRepeat starts
    rw [State.session, bay, planEnded_of_held (kept.held.trans held) (by rw [kept.cache]; exact plan), again]
    exact ⟨rfl, rfl, rfl, rfl, rfl, rfl⟩

/-- The end of a plan looks at the bay and the answers only. -/
theorem State.planEnded.congr {s t u : State} {b : BayId} {r : RunningOrder} {code : Result} {refusing : Byte} {counters : Counters}
    (h : s.planEnded t b r code refusing counters) (bay : u.bay b = t.bay b) (answers : u.intake.answers = t.intake.answers) :
    s.planEnded u b r code refusing counters := by
  simpa only [State.planEnded, State.completes, State.session, bay, answers] using h

/-! ## A terminal is taken, and removed (R119, R132) -/

/-- The bay that takes a rise (R119). -/
def Bay.risen (x : Bay) (r : RunningOrder) (retryLimit : Nat) : Bay :=
  { x with
    session := { Session.reset with state := .probing, attempted := countUp x.session.attempted, ending := x.session.ending }
    counters := { x.counters with attempted := countUp x.counters.attempted }
    link := x.link.opened .probe retryLimit r.plan.probeTimeout }

theorem takeRise_bay {s : State} {b : BayId} {r : RunningOrder} (running : (s.bay b).running = some r) :
    (s.takeRise b).bay b = (s.bay b).risen r (s.profile 0).retryLimit := by
  simp only [State.takeRise, running]
  rw [openExchange_bay, updBay_bay_self]
  rfl

/-- The terminals of a plan have all been attempted (R132). -/
def RunningOrder.spent (r : RunningOrder) (attempted : Nat) : Prop := r.plan.repeats ≠ 0 ∧ r.plan.repeats ≤ attempted

section
variable {s : State} {b : BayId} {r : RunningOrder} (running : (s.bay b).running = some r)
include running

theorem takeRemoval_stopped (stops : r.plan.stopOnVoid = true ∧ (s.session b).outcome.isVoid = true) :
    s.takeRemoval b = s.planEnd b .stoppedOnVoid 0xFF := by
  simp only [State.takeRemoval, running]
  exact if_pos stops

variable (goes : ¬(r.plan.stopOnVoid = true ∧ (s.session b).outcome.isVoid = true))
include goes

theorem takeRemoval_spent (spent : r.spent (s.session b).attempted) :
    s.takeRemoval b = s.planEnd b (if 0 < (s.bay b).counters.voided then .partialOk else .ok) 0xFF := by
  simp only [State.takeRemoval, running]
  exact (if_neg goes).trans (if_pos spent)

/-- The bay that awaits its next terminal. -/
theorem takeRemoval_awaits (more : ¬r.spent (s.session b).attempted) (absent : (s.bay b).link.presence.isPresent = false) :
    s.takeRemoval b = s.updSession b fun x => { x with state := .awaitTerminal, removal := none } := by
  simp only [State.takeRemoval, running]
  refine (if_neg goes).trans ((if_neg more).trans (if_neg ?_))
  rw [updSession_bay_self]
  simp [absent]

theorem takeRemoval_risen (more : ¬r.spent (s.session b).attempted) (present : (s.bay b).link.presence.isPresent = true) :
    s.takeRemoval b = (s.updSession b fun x => { x with state := .awaitTerminal, removal := none }).takeRise b := by
  simp only [State.takeRemoval, running]
  refine (if_neg goes).trans ((if_neg more).trans (if_pos ?_))
  rw [updSession_bay_self]
  exact present

end

theorem isVoid_iff (outcome : TerminalOutcome) : outcome.isVoid = true ↔ ∃ reason, outcome = .void reason := by
  cases outcome <;> simp [TerminalOutcome.isVoid]

/-- The removal of a terminal is as the statements describe it (R132, R119). -/
theorem State.keepsPlan.takeRemoval {s u : State} {b : BayId} {r : RunningOrder} (kept : s.keepsPlan u b r) :
    s.removalTaken (u.takeRemoval b) b r (u.bay b).session.outcome (u.bay b).counters (s.bay b).link.presence.isPresent := by
  refine ⟨fun stops void => ?stops, fun goes => ?goes⟩
  case stops =>
    rw [takeRemoval_stopped kept.running ⟨stops, (isVoid_iff _).mpr void⟩]
    exact kept.planEnd _ _
  case goes =>
    have goes : ¬(r.plan.stopOnVoid = true ∧ (u.session b).outcome.isVoid = true) := by
      rintro ⟨stops, void⟩
      obtain ⟨reason, void⟩ := (isVoid_iff _).mp void
      obtain stays | loaded := goes
      · exact absurd (stays.symm.trans stops) nofun
      · exact loaded reason void
    have attempted : (u.session b).attempted = (s.session b).attempted := kept.attempted
    refine ⟨fun limited last => ?spent, fun more => ?more⟩
    case spent =>
      rw [takeRemoval_spent kept.running goes ⟨limited, attempted ▸ last⟩]
      exact kept.planEnd _ _
    case more =>
      have more : ¬r.spent (u.session b).attempted := by
        rw [attempted]
        rintro ⟨limited, last⟩
        obtain unlimited | more := more
        · exact limited unlimited
        · omega
      cases present : (s.bay b).link.presence.isPresent with
      | false =>
        rw [takeRemoval_awaits kept.running goes more (kept.presence ▸ present), State.session, updSession_bay_self]
        exact ⟨kept.running, kept.held, rfl, fun _ => ⟨rfl, kept.attempted, rfl⟩, nofun⟩
      | true =>
        rw [takeRemoval_risen kept.running goes more (kept.presence ▸ present), State.session,
          takeRise_bay (r := r) (by rw [updSession_bay_self]; exact kept.running), updSession_bay_self]
        refine ⟨kept.running, kept.held, rfl, nofun, fun _ => ⟨rfl, congrArg countUp kept.attempted, rfl, ?_⟩⟩
        rw [Bay.risen, Link.opened_exchange]
        simp only [Option.map_some, State.profile, updSession_prof, kept.prof]

theorem State.removalTaken.congr {s t u : State} {b : BayId} {r : RunningOrder} {outcome : TerminalOutcome} {counters : Counters}
    {present : Bool} (h : s.removalTaken t b r outcome counters present) (bay : u.bay b = t.bay b)
    (answers : u.intake.answers = t.intake.answers) : s.removalTaken u b r outcome counters present := by
  simpa only [State.removalTaken, State.planEnded, State.completes, State.session, bay, answers] using h

/-! ## Removal awaited, and a terminal left (R131 to R133) -/

theorem awaitRemoval_gone {s : State} {b : BayId} (gone : (s.session b).gone = true) : s.awaitRemoval b = s.takeRemoval b :=
  if_pos gone

theorem awaitRemoval_bay {s : State} {b : BayId} (plugged : (s.session b).gone = false) : (s.awaitRemoval b).bay b =
    { s.bay b with session := { (s.bay b).session with
        state := .awaitRemoval
        removal := if s.removalTimeout b = 0 then none else some (s.timer (s.removalTimeout b * 1000)) } } := by
  rw [State.awaitRemoval, if_neg (by rw [plugged]; exact Bool.false_ne_true), updSession_bay_self]

section
variable {s : State} {b : BayId}

theorem leaveTerminal_refused {code : Result} {i : SlotId} (refusal : (s.session b).refusal = some (code, i)) :
    s.leaveTerminal b = s.planEnd b code (byteOf i.val) := by
  simp only [State.leaveTerminal, refusal]

variable (refusal : (s.session b).refusal = none)
include refusal

theorem leaveTerminal_ended (ending : (s.session b).ending ≠ .none) :
    s.leaveTerminal b = s.planEnd b (s.session b).ending.result 0xFF := by
  unfold State.leaveTerminal
  rw [refusal]
  split
  · contradiction
  next going => exact absurd going ending
  · rfl

theorem leaveTerminal_goes (ending : (s.session b).ending = .none) : s.leaveTerminal b = s.awaitRemoval b := by
  simp only [State.leaveTerminal, refusal, ending]

end

/-- A terminal that is left under a drop, a halt or a stop notice is as the statements describe it (R130 to R132, R135). -/
theorem State.keepsPlan.leaveTerminal {s u : State} {b : BayId} {r : RunningOrder} (kept : s.keepsPlan u b r)
    (refusal : (u.session b).refusal = none) :
    s.endedOrRemoved (u.leaveTerminal b) b r (u.bay b).session.outcome (u.bay b).counters := by
  refine ⟨fun code ends => ?_, fun going gone => ?_⟩
  · have ending : (u.session b).ending = (s.session b).ending := kept.ending
    have result : (u.session b).ending ≠ .none ∧ code = (u.session b).ending.result := by
      rw [ending]
      obtain ⟨halted, rfl⟩ | ⟨stopped, rfl⟩ := ends
      · rw [halted]
        exact ⟨nofun, rfl⟩
      · rw [stopped]
        exact ⟨nofun, rfl⟩
    obtain ⟨ended, rfl⟩ := result
    rw [leaveTerminal_ended refusal ended]
    exact kept.planEnd _ _
  · rw [leaveTerminal_goes refusal (kept.ending.trans going), awaitRemoval_gone (kept.gone.trans gone)]
    exact kept.takeRemoval

theorem State.endedOrRemoved.congr {s t u : State} {b : BayId} {r : RunningOrder} {outcome : TerminalOutcome} {counters : Counters}
    (h : s.endedOrRemoved t b r outcome counters) (bay : u.bay b = t.bay b)
    (answers : u.intake.answers = t.intake.answers) : s.endedOrRemoved u b r outcome counters := by
  obtain ⟨ended, removed⟩ := h
  exact ⟨fun code ends => (ended code ends).congr bay answers, fun going gone => (removed going gone).congr bay answers⟩

end Sys2Proof.Machine
end

section

set_option Elab.async false

/-!
SUPPORT. How a terminal is filed: its receipts are entered while the queue has room, and the next waits in the line (R131, R143).
-/

namespace Sys2Proof.Machine

/-! ## Receipts entered one after the other (R131, R143) -/

/-- Receipts are entered in order (R143). -/
def State.enterReceipts (s : State) (l : List Receipt) : State := l.foldl State.enterReceipt s

theorem enterReceipts_frame (s : State) (l : List Receipt) :
    (s.enterReceipts l).bays = s.bays ∧ (s.enterReceipts l).ks = s.ks ∧ (s.enterReceipts l).intake = s.intake ∧
    (s.enterReceipts l).prof = s.prof ∧ (s.enterReceipts l).clock = s.clock ∧ (s.enterReceipts l).ceu = s.ceu ∧
    (s.enterReceipts l).cipher = s.cipher ∧ (s.enterReceipts l).engine = s.engine ∧
    (s.enterReceipts l).writer.line = s.writer.line ∧
    (s.enterReceipts l).writer.queue = s.writer.queue ++ l.map fun r => { r with time := s.clock } := by
  unfold State.enterReceipts
  induction l generalizing s with
  | nil => simp
  | cons r rest ih =>
    obtain ⟨bays, ks, intake, prof, clock, ceu, cipher, engine, line, queue⟩ := ih (s.enterReceipt r)
    rw [List.foldl_cons]
    refine ⟨bays.trans (by simp), ks.trans (by simp), intake.trans (by simp), prof.trans (by simp), clock.trans (by simp),
      ceu.trans (by simp), cipher.trans (by simp), engine.trans (by simp), line.trans (by simp), queue.trans ?_⟩
    rw [enterReceipt_queue]
    simp

/-- Room in the receipt queue (R142). -/
def Writer.queueRoom (w : Writer) : Nat := 16 - w.queue.length

/-- Receipts that all find room are entered, and the terminal is left. -/
theorem fileReceipts_fits {b : BayId} {l : List Receipt} {s : State} (fits : l.length ≤ s.writer.queueRoom) :
    State.fileReceipts b l s = ((s.enterReceipts l).updSession b fun x => { x with toFile := [] }).endFiling b := by
  induction l generalizing s with
  | nil => rfl
  | cons r rest ih =>
    rw [Writer.queueRoom, List.length_cons] at fits
    have room : s.queueHasRoom = true := decide_eq_true (by omega)
    rw [State.fileReceipts, if_pos room, ih]
    · rfl
    · rw [Writer.queueRoom, enterReceipt_queue, List.length_append]
      simp only [List.length_cons, List.length_nil]
      omega

/-- The first receipt without room waits in the line, and the rest with the session. -/
theorem fileReceipts_waits {b : BayId} {l : List Receipt} {s : State} (full : s.writer.queueRoom < l.length) :
    ∃ r rest, l.drop s.writer.queueRoom = r :: rest ∧ State.fileReceipts b l s =
      ((s.enterReceipts (l.take s.writer.queueRoom)).updSession b fun x => { x with toFile := rest }).waitInLine
        { submitter := .bay b, receipt := r } := by
  induction l generalizing s with
  | nil => exact absurd full (Nat.not_lt_zero _)
  | cons r rest ih =>
    cases room : s.queueHasRoom with
    | false =>
      have none : s.writer.queueRoom = 0 := by
        have long := of_decide_eq_false room
        rw [Writer.queueRoom]
        omega
      refine ⟨r, rest, by rw [none]; rfl, ?_⟩
      rw [State.fileReceipts, if_neg (by rw [room]; exact Bool.false_ne_true), none]
      rfl
    | true =>
      have short : s.writer.queue.length < 16 := of_decide_eq_true room
      have next : s.writer.queueRoom = (s.enterReceipt r).writer.queueRoom + 1 := by
        rw [Writer.queueRoom, Writer.queueRoom, enterReceipt_queue, List.length_append]
        simp only [List.length_cons, List.length_nil]
        omega
      rw [next, List.length_cons] at full
      obtain ⟨x, more, left, filed⟩ := ih (s := s.enterReceipt r) (Nat.lt_of_succ_lt_succ full)
      refine ⟨x, more, by rw [next]; exact left, ?_⟩
      rw [State.fileReceipts, if_pos room, filed, next]
      rfl

/-! ## The terminal with all its receipts entered (R131, R133) -/

/-- Every receipt is entered: the buffer is cleared, the hold release is given and a void is counted (R131, R133). -/
def State.filed (s : State) (b : BayId) : State :=
  let t := (s.updBay b fun x => { x with buffer := [] }).request (.release b)
  if (s.session b).outcome.isVoid then t.updCounters b fun c => { c with voided := countUp c.voided } else t

theorem endFiling_eq (s : State) (b : BayId) : s.endFiling b = (s.filed b).leaveTerminal b := rfl

/-- The counters once a terminal with the outcome has been filed (R133). -/
def Counters.filing (c : Counters) (outcome : TerminalOutcome) : Counters :=
  if outcome.isVoid then { c with voided := countUp c.voided } else c

theorem filed_bay (s : State) (b : BayId) : (s.filed b).bay b =
    { s.bay b with buffer := [], counters := (s.bay b).counters.filing (s.session b).outcome } := by
  unfold State.filed Counters.filing
  dsimp only
  split
  · rw [updCounters_bay_self, request_bay, updBay_bay_self]
  · rw [request_bay, updBay_bay_self]

theorem filed_frame (s : State) (b : BayId) : (s.filed b).ks = { s.ks with requests := s.ks.requests ++ [.release b] } ∧
    (s.filed b).intake = s.intake ∧ (s.filed b).prof = s.prof ∧ (s.filed b).clock = s.clock ∧ (s.filed b).ceu = s.ceu ∧
    (s.filed b).cipher = s.cipher ∧ (s.filed b).engine = s.engine ∧ (s.filed b).writer = s.writer := by
  unfold State.filed
  dsimp only
  split
  · exact ⟨rfl, rfl, rfl, rfl, rfl, rfl, rfl, rfl⟩
  · exact ⟨rfl, rfl, rfl, rfl, rfl, rfl, rfl, rfl⟩

/-- The session that enters FILING (R131). -/
def Session.filing (x : Session) (outcome : TerminalOutcome) : Session := { x with state := .filing, outcome, current := none }

/-- The receipts of the terminal at a bay (R131). -/
def State.receiptsOf (s : State) (b : BayId) (outcome : TerminalOutcome) : List Receipt :=
  (s.session b).receipts b (match (s.bay b).running with | some r => r.tag | none => 0) outcome (s.bay b).buffer

theorem receiptsOf_running {s : State} {b : BayId} {r : RunningOrder} (running : (s.bay b).running = some r)
    (outcome : TerminalOutcome) : s.receiptsOf b outcome = (s.session b).receipts b r.tag outcome (s.bay b).buffer := by
  rw [State.receiptsOf, running]

theorem file_eq (s : State) (b : BayId) (outcome : TerminalOutcome) :
    s.file b outcome = State.fileReceipts b (s.receiptsOf b outcome) (s.updSession b (·.filing outcome)) := rfl

/-- The terminal with all its receipts entered, before it is left. -/
def State.allEntered (s : State) (b : BayId) (outcome : TerminalOutcome) : State :=
  (((s.updSession b (·.filing outcome)).enterReceipts (s.receiptsOf b outcome)).updSession b fun x => { x with toFile := [] }).filed b

theorem file_fits {s : State} {b : BayId} {outcome : TerminalOutcome} (fits : (s.receiptsOf b outcome).length ≤ s.writer.queueRoom) :
    s.file b outcome = (s.allEntered b outcome).leaveTerminal b := by
  rw [file_eq, fileReceipts_fits (s := s.updSession b (·.filing outcome)) fits]
  rfl

theorem allEntered_bay (s : State) (b : BayId) (outcome : TerminalOutcome) : (s.allEntered b outcome).bay b =
    { s.bay b with
      session := { (s.bay b).session.filing outcome with toFile := [] }
      buffer := []
      counters := (s.bay b).counters.filing outcome } := by
  have bay : ((s.updSession b (·.filing outcome)).enterReceipts (s.receiptsOf b outcome)).bay b =
      { s.bay b with session := (s.bay b).session.filing outcome } := by
    rw [bay_of_bays (enterReceipts_frame _ _).1 b, updSession_bay_self]
  rw [State.allEntered, filed_bay, State.session, updSession_bay_self, bay]
  rfl

theorem allEntered_frame (s : State) (b : BayId) (outcome : TerminalOutcome) :
    (s.allEntered b outcome).ks = { s.ks with requests := s.ks.requests ++ [.release b] } ∧
    (s.allEntered b outcome).intake = s.intake ∧ (s.allEntered b outcome).prof = s.prof ∧
    (s.allEntered b outcome).clock = s.clock ∧ (s.allEntered b outcome).ceu = s.ceu ∧
    (s.allEntered b outcome).cipher = s.cipher ∧ (s.allEntered b outcome).engine = s.engine ∧
    (s.allEntered b outcome).writer.line = s.writer.line ∧ (s.allEntered b outcome).writer.queue =
      s.writer.queue ++ (s.receiptsOf b outcome).map fun r => { r with time := s.clock } := by
  have entered := enterReceipts_frame (s.updSession b (·.filing outcome)) (s.receiptsOf b outcome)
  simp [State.allEntered, filed_frame, entered]

/-- The terminal that waits in FILING with a receipt in the line (R143). -/
theorem file_waits {s : State} {b : BayId} {outcome : TerminalOutcome} (full : s.writer.queueRoom < (s.receiptsOf b outcome).length) :
    ∃ r rest, (s.receiptsOf b outcome).drop s.writer.queueRoom = r :: rest ∧
      (s.file b outcome).bay b = { s.bay b with session := { (s.bay b).session.filing outcome with toFile := rest } } ∧
      (s.file b outcome).writer.queue = s.writer.queue ++
        ((s.receiptsOf b outcome).take s.writer.queueRoom).map (fun r => { r with time := s.clock }) ∧
      (s.file b outcome).writer.line = s.writer.line ++ [{ submitter := .bay b, receipt := r }] ∧
      (s.file b outcome).ks = s.ks := by
  obtain ⟨r, rest, left, filed⟩ := fileReceipts_waits (b := b) (s := s.updSession b (·.filing outcome)) full
  have room : (s.updSession b (·.filing outcome)).writer.queueRoom = s.writer.queueRoom := rfl
  rw [room] at left filed
  have entered := enterReceipts_frame (s.updSession b (·.filing outcome)) ((s.receiptsOf b outcome).take s.writer.queueRoom)
  refine ⟨r, rest, left, ?_⟩
  rw [file_eq, filed]
  refine ⟨?_, ?_, ?_, ?_⟩
  · rw [bay_of_bays (waitInLine_frame ..).2.2.2.2.1 b, updSession_bay_self, bay_of_bays entered.1 b, updSession_bay_self]
  · simp [entered]
  · simp [waitInLine_line, entered]
  · simp [entered]

/-! ## What is kept while a terminal is left -/

theorem planStarted_keeps (x : Bay) (order : Nat) (tag : BitVec 32) (isRepeat : Bool) (plan : Plan) :
    (x.planStarted order tag isRepeat plan).buffer = x.buffer ∧
    (x.planStarted order tag isRepeat plan).session.deferral = x.session.deferral := ⟨rfl, rfl⟩

theorem planEnded_keeps (x : Bay) : x.planEnded.buffer = x.buffer ∧ x.planEnded.session.deferral = x.session.deferral := by
  unfold Bay.planEnded Bay.orderStarted
  (repeat' split) <;> exact ⟨rfl, rfl⟩

/-- The end of a bay's plan, or none where no plan runs. -/
theorem planEnd_keeps (s : State) (b : BayId) (result : Result) (refusing : Byte) :
    ((s.planEnd b result refusing).bay b).buffer = (s.bay b).buffer ∧
    ((s.planEnd b result refusing).bay b).session.deferral = (s.bay b).session.deferral := by
  cases running : (s.bay b).running with
  | none =>
    rw [planEnd_idle running]
    exact ⟨rfl, rfl⟩
  | some r =>
    rw [planEnd_bay running]
    exact planEnded_keeps _

/-- Leaving a terminal changes no key buffer, and leaves no deferral that was not there. -/
def Bay.leftFrom (x y : Bay) : Prop :=
  y.buffer = x.buffer ∧ (x.session.deferral = false → y.session.deferral = false)

theorem takeRise_leftFrom (s : State) (b : BayId) : (s.bay b).leftFrom ((s.takeRise b).bay b) := by
  cases running : (s.bay b).running with
  | none =>
    simp only [State.takeRise, running]
    exact ⟨rfl, id⟩
  | some r =>
    rw [takeRise_bay running]
    exact ⟨rfl, fun _ => rfl⟩

theorem planEnd_leftFrom (s : State) (b : BayId) (result : Result) (refusing : Byte) :
    (s.bay b).leftFrom ((s.planEnd b result refusing).bay b) := by
  obtain ⟨buffer, deferral⟩ := planEnd_keeps s b result refusing
  exact ⟨buffer, fun no => deferral.trans no⟩

theorem takeRemoval_leftFrom (s : State) (b : BayId) : (s.bay b).leftFrom ((s.takeRemoval b).bay b) := by
  unfold State.takeRemoval
  split
  · exact ⟨rfl, id⟩
  · split
    · exact planEnd_leftFrom ..
    · split
      · exact planEnd_leftFrom ..
      · dsimp only
        split
        · have risen := takeRise_leftFrom (s.updSession b fun x => { x with state := .awaitTerminal, removal := none }) b
          rwa [updSession_bay_self] at risen
        · rw [updSession_bay_self]
          exact ⟨rfl, id⟩

theorem awaitRemoval_leftFrom (s : State) (b : BayId) : (s.bay b).leftFrom ((s.awaitRemoval b).bay b) := by
  unfold State.awaitRemoval
  split
  · exact takeRemoval_leftFrom s b
  · rw [updSession_bay_self]
    exact ⟨rfl, id⟩

theorem leaveTerminal_leftFrom (s : State) (b : BayId) : (s.bay b).leftFrom ((s.leaveTerminal b).bay b) := by
  unfold State.leaveTerminal
  split
  · exact planEnd_leftFrom ..
  · exact awaitRemoval_leftFrom s b
  · exact planEnd_leftFrom ..

/-- Filing clears the key buffer with the last receipt, and leaves no deferral that was not there. -/
theorem file_deferral {s : State} {b : BayId} (none : (s.bay b).session.deferral = false) (outcome : TerminalOutcome) :
    ((s.file b outcome).bay b).session.deferral = false := by
  by_cases fits : (s.receiptsOf b outcome).length ≤ s.writer.queueRoom
  · rw [file_fits fits]
    refine (leaveTerminal_leftFrom _ _).2 ?_
    rw [allEntered_bay]
    exact none
  · obtain ⟨r, rest, -, bay, -⟩ := file_waits (Nat.lt_of_not_le fits)
    rw [bay]
    exact none

/-! ## What the statements compare with -/

/-- A terminal whose receipts are all entered still shows the plan it belongs to. -/
theorem State.keepsPlan.allEntered {s u : State} {b : BayId} {r : RunningOrder} (kept : s.keepsPlan u b r) (outcome : TerminalOutcome) :
    s.keepsPlan (u.allEntered b outcome) b r := by
  have frame := allEntered_frame u b outcome
  have bay := allEntered_bay u b outcome
  refine ⟨?_, ?_, ?_, ?_, ?_, ?_, ?_, ?_, ?_, ?_⟩
  · rw [frame.2.1, kept.area]
  · rw [frame.2.2.1, kept.prof]
  · rw [bay]; exact kept.running
  · rw [bay]; exact kept.halt
  · rw [bay]; exact kept.held
  · rw [bay]; exact kept.cache
  · rw [bay]; exact kept.attempted
  · rw [bay]; exact kept.ending
  · rw [bay]; exact kept.gone
  · rw [bay]; exact kept.presence

/-- A change of the bay that leaves what its plan's end looks at. -/
theorem State.keepsPlan.of_bay {s u : State} {b : BayId} {r : RunningOrder} (area : u.intake.area = s.intake.area)
    (prof : u.prof = s.prof) {x : Bay} (bay : u.bay b = x) (running : x.running = some r) (halt : x.halt = (s.bay b).halt)
    (held : x.held = (s.bay b).held) (cache : x.cache = (s.bay b).cache)
    (attempted : x.session.attempted = (s.bay b).session.attempted) (ending : x.session.ending = (s.bay b).session.ending)
    (gone : x.session.gone = (s.bay b).session.gone) (presence : x.link.presence = (s.bay b).link.presence) :
    s.keepsPlan u b r := by
  subst bay
  exact ⟨area, prof, running, halt, held, cache, attempted, ending, gone, presence⟩

end Sys2Proof.Machine
end

section

set_option Elab.async false

/-!
SUPPORT. PLAN_RUN, PLAN_REPEAT, BAY_HALT and BAY_QUERY, and what a halt or stop notice does to a session (R108, R114 to R117, R134,
R135, R137).
-/

namespace Sys2Proof.Machine

/-! ## BAY_QUERY (R137) -/

section
variable {s : State} {e : Entry} (inHand : s.inHand .bayQuery = some e)
include inHand

theorem exec_bayQuery_refused (on : s.engine ≠ .off) (high : 7 < byteAt e.params 0) :
    ∃ t, exec .bayQuery s = .next t ∧ s.answersAtTake t e .refusedField [] ∧ s.sameOutsideIntake t := by
  refine refused_at_take_next on ((withOrder_inHand s.quiet .bayQuery e _ inHand).trans ?_)
  simp only [bayAt_none _ _ high]

theorem exec_bayQuery {b : BayId} (bay : b.val = byteAt e.params 0) : exec .bayQuery s = .next (s.run fun _ =>
    (s.quiet.updLink b fun l => { l with dropped := false }).answerAtTake e.cell .ok (s.bay b).queryData) := by
  refine next_run_eq ((withOrder_inHand s.quiet .bayQuery e _ inHand).trans ?_)
  simp only [bayAt_some _ _ _ bay]
  rfl

end

/-- The report field by field, the running place apart (R137). -/
theorem queryData_fields (x : Bay) : x.queryData.length = 40 ∧ x.queryData.getD 0 0 = x.session.state.code ∧
    field x.queryData 8 4 = toLE 4 (match x.held with | some h => h.tag.toNat | none => 0) ∧
    field x.queryData 15 8 =
      [boolByte x.session.deferral, boolByte x.cache.isSome, x.session.outcome.codes.1, x.session.outcome.codes.2,
       x.link.rate.code, boolByte x.link.presence.isPresent, boolByte x.link.dropped, nakCode x.link.lastNak] ∧
    field x.queryData 24 12 = x.counters.bytes ∧
    field x.queryData 36 4 = toLE 2 x.link.strays ++ toLE 2 x.link.lineErrors := by
  unfold Bay.queryData Bay.planFields
  cases x.running with
  | none => exact ⟨rfl, rfl, rfl, rfl, rfl, rfl⟩
  | some r => exact ⟨rfl, rfl, rfl, rfl, rfl, rfl⟩

theorem queryData_running {x : Bay} {r : RunningOrder} (running : x.running = some r) :
    field x.queryData 1 7 =
      [if r.isRepeat then 0x09 else 0x08, x.session.ending.code, byteOf r.plan.repeats] ++ toLE 4 r.tag.toNat ∧
    field x.queryData 12 2 = toLE 2 x.session.attempted := by
  unfold Bay.queryData Bay.planFields
  rw [running]
  exact ⟨rfl, rfl⟩

/-- Settles O42. -/
theorem bayQueryReportsAndClearsDropped : Obligations.BayQueryReportsAndClearsDropped := by
  refine fun s e on inHand => ⟨exec_bayQuery_refused inHand on, fun b bay => ⟨_, exec_bayQuery inHand bay, ?_⟩⟩
  obtain ⟨-, bays, -, -⟩ := run_parts s (fun _ =>
    (s.quiet.updLink b fun l => { l with dropped := false }).answerAtTake e.cell .ok (s.bay b).queryData) on
  obtain ⟨length, state, held, flags, counters, errors⟩ := queryData_fields (s.bay b)
  refine ⟨answered_at_take s (s.quiet.updLink b fun l => { l with dropped := false }) _ e _ _ on rfl rfl, (bays b).trans ?_,
    fun c other => (bays c).trans ?_, length, state, fun r running => queryData_running running, held, flags, counters, errors, ?_⟩
  · simp
  · simp [other]
  · simp [run_frame _ _ on]

/-! ## PLAN_RUN and PLAN_REPEAT (R114 to R116) -/

section
variable {s : State} {p : Plan}

theorem planRefusal_twice (twice : ¬(p.items.map (·.base)).Nodup ∨ ¬(p.items.map (·.register)).Nodup) :
    s.planRefusal p = some .refusedField := if_pos twice

variable (bases : (p.items.map (·.base)).Nodup) (registers : (p.items.map (·.register)).Nodup)
include bases registers

theorem planRefusal_class {x : Item} (mem : x ∈ p.items) (bad : (s.slot x.base).isBase = false ∨
    (∃ k, x.delivery = .wrapped k ∧ (s.slot k).isTransport = false) ∨ (x.delivery = .direct ∧ (s.slot x.base).direct = false)) :
    s.planRefusal p = some .refusedClass := by
  have once : ¬(¬(p.items.map (·.base)).Nodup ∨ ¬(p.items.map (·.register)).Nodup) := by simp [bases, registers]
  have fails : p.items.all s.itemClass = false ∨ p.items.all s.itemDirect = false := by
    obtain base | ⟨k, delivery, transport⟩ | ⟨delivery, direct⟩ := bad
    · exact .inl (List.all_eq_false.mpr ⟨x, mem, by simp [State.itemClass, base]⟩)
    · exact .inl (List.all_eq_false.mpr ⟨x, mem, by simp [State.itemClass, delivery, transport]⟩)
    · exact .inr (List.all_eq_false.mpr ⟨x, mem, by simp [State.itemDirect, delivery, direct]⟩)
  refine (if_neg once).trans ?_
  split
  · rfl
  next classes => exact if_pos (fails.resolve_left classes)

theorem planRefusal_none (good : ∀ x ∈ p.items, (s.slot x.base).isBase = true ∧
    (∀ k, x.delivery = .wrapped k → (s.slot k).isTransport = true) ∧ (x.delivery = .direct → (s.slot x.base).direct = true)) :
    s.planRefusal p = none := by
  have once : ¬(¬(p.items.map (·.base)).Nodup ∨ ¬(p.items.map (·.register)).Nodup) := by simp [bases, registers]
  have classes : p.items.all s.itemClass = true := by
    refine List.all_eq_true.mpr fun x mem => ?_
    obtain ⟨base, transport, -⟩ := good x mem
    cases delivery : x.delivery with
    | direct => simp [State.itemClass, base, delivery]
    | wrapped k => simp [State.itemClass, base, delivery, transport k delivery]
  have directs : p.items.all s.itemDirect = true := by
    refine List.all_eq_true.mpr fun x mem => ?_
    obtain ⟨-, -, direct⟩ := good x mem
    cases delivery : x.delivery with
    | direct => simp [State.itemDirect, delivery, direct delivery]
    | wrapped k => simp [State.itemDirect, delivery]
  refine (if_neg once).trans ?_
  rw [classes, directs]
  rfl

end

section
variable {s : State} {b : BayId} (e : Entry) (source : PlanSource)

theorem placeOrder_starts (idle : (s.bay b).running = none) :
    s.placeOrder e b source = (s.hold e).startOrder b { order := e.cell, tag := e.tag, source } := by
  simp only [State.placeOrder, idle]

theorem placeOrder_holds (busy : (s.bay b).running ≠ none) (free : (s.bay b).held = none) : s.placeOrder e b source =
    (s.hold e).updBay b fun x => { x with held := some { order := e.cell, tag := e.tag, source } } := by
  obtain ⟨r, running⟩ := Option.ne_none_iff_exists'.mp busy
  simp only [State.placeOrder, running, free]

theorem placeOrder_refused (busy : (s.bay b).running ≠ none) (full : (s.bay b).held ≠ none) :
    s.placeOrder e b source = s.refuseAtTake e .bayBusy := by
  obtain ⟨r, running⟩ := Option.ne_none_iff_exists'.mp busy
  obtain ⟨h, held⟩ := Option.ne_none_iff_exists'.mp full
  simp only [State.placeOrder, running, held]

end

/-- What an order placed at a bay leaves alone, besides the bay: everything but its entry. -/
theorem run_placed_frame {s u : State} (on : s.engine ≠ .off) {e : Entry} {b : BayId} {x : HeldOrder}
    (placed : u = (s.quiet.hold e).startOrder b x ∨ u = (s.quiet.hold e).updBay b fun y => { y with held := some x }) :
    s.otherBaysSame (s.run fun _ => u) b ∧ (s.run fun _ => u).intake.answers = s.intake.answers ∧ (s.run fun _ => u).ks = s.ks ∧
    (s.run fun _ => u).ceu = s.ceu ∧ (s.run fun _ => u).cipher = s.cipher ∧ (s.run fun _ => u).prof = s.prof ∧
    (s.run fun _ => u).clock = s.clock := by
  obtain ⟨-, bays, -, -⟩ := run_parts s (fun _ => u) on
  obtain rfl | rfl := placed
  · refine ⟨fun c other => (bays c).trans ?_, ?_⟩
    · simp [other]
    · simp [run_frame _ _ on]
  · refine ⟨fun c other => (bays c).trans ?_, ?_⟩
    · simp [other]
    · simp [run_frame _ _ on]

/-- A bay that runs an order holds the next one. -/
theorem run_held_bay {s : State} (on : s.engine ≠ .off) (e : Entry) (b : BayId) (x : HeldOrder) :
    (s.run fun _ => (s.quiet.hold e).updBay b fun y => { y with held := some x }).bay b = { s.bay b with held := some x } := by
  obtain ⟨-, bays, -, -⟩ := run_parts s (fun _ => (s.quiet.hold e).updBay b fun y => { y with held := some x }) on
  rw [bays, updBay_bay_self]
  rfl

theorem run_started_bay {s : State} (on : s.engine ≠ .off) (e : Entry) (b : BayId) (x : HeldOrder) :
    (s.run fun _ => (s.quiet.hold e).startOrder b x).bay b = (s.bay b).orderStarted x := by
  obtain ⟨-, bays, -, -⟩ := run_parts s (fun _ => (s.quiet.hold e).startOrder b x) on
  rw [bays, startOrder_bay]
  rfl

section
variable {s : State} {e : Entry} (inHand : s.inHand .planRun = some e)
include inHand

theorem exec_planRun_unread (unread : plan? e.params = none) :
    exec .planRun s = .next (s.run fun _ => s.quiet.refuseAtTake e .refusedField) := by
  refine next_run_eq ((withOrder_inHand s.quiet .planRun e _ inHand).trans ?_)
  simp only [unread]

variable {p : Plan} (read : plan? e.params = some p)
include read

theorem exec_planRun_refused {code : Result} (refused : s.planRefusal p = some code) :
    exec .planRun s = .next (s.run fun _ => s.quiet.refuseAtTake e code) := by
  refine next_run_eq ((withOrder_inHand s.quiet .planRun e _ inHand).trans ?_)
  have refused : s.quiet.planRefusal p = some code := refused
  simp only [read, refused]

theorem exec_planRun (passes : s.planRefusal p = none) :
    exec .planRun s = .next (s.run fun _ => s.quiet.placeOrder e p.bay (.run p)) := by
  refine next_run_eq ((withOrder_inHand s.quiet .planRun e _ inHand).trans ?_)
  have passes : s.quiet.planRefusal p = none := passes
  simp only [read, passes]

end

section
variable {s : State} {e : Entry} (inHand : s.inHand .planRepeat = some e)
include inHand

theorem exec_planRepeat_refused (bad : 7 < byteAt e.params 0 ∨ 127 < byteAt e.params 1) :
    exec .planRepeat s = .next (s.run fun _ => s.quiet.refuseAtTake e .refusedField) := by
  refine next_run_eq ((withOrder_inHand s.quiet .planRepeat e _ inHand).trans ?_)
  obtain high | many := bad
  · simp only [bayAt_none _ _ high]
  · split
    · rfl
    · exact if_pos many

variable {b : BayId} (bay : b.val = byteAt e.params 0) (count : byteAt e.params 1 ≤ 127)
include bay count

theorem exec_planRepeat_noPlan (idle : (s.bay b).running = none) (empty : (s.bay b).cache = none) :
    exec .planRepeat s = .next (s.run fun _ => s.quiet.refuseAtTake e .noPlan) := by
  refine next_run_eq ((withOrder_inHand s.quiet .planRepeat e _ inHand).trans ?_)
  simp only [bayAt_some _ _ _ bay]
  exact (if_neg (by omega)).trans (if_pos ⟨idle, empty⟩)

theorem exec_planRepeat (some : (s.bay b).running ≠ none ∨ (s.bay b).cache ≠ none) :
    exec .planRepeat s = .next (s.run fun _ => s.quiet.placeOrder e b (.again (byteAt e.params 1))) := by
  refine next_run_eq ((withOrder_inHand s.quiet .planRepeat e _ inHand).trans ?_)
  simp only [bayAt_some _ _ _ bay]
  refine (if_neg (by omega)).trans (if_neg ?_)
  rintro ⟨idle, empty⟩
  obtain busy | cached := some
  · exact busy idle
  · exact cached empty

end

theorem refused_run_next {s : State} {c : Instr} {e : Entry} {r : Result} (on : s.engine ≠ .off)
    (effect : exec c s = .next (s.run fun _ => s.quiet.refuseAtTake e r)) :
    ∃ t, exec c s = .next t ∧ s.answersAtTake t e r [] ∧ s.sameOutsideIntake t :=
  ⟨_, effect, refused_at_take s _ e r on rfl⟩

/-- Settles O40. -/
theorem planOrdersByRule : Obligations.PlanOrdersByRule := by
  refine ⟨fun s e on inHand => ⟨fun unread => refused_run_next on (exec_planRun_unread inHand unread), fun p read =>
    ⟨fun twice => refused_run_next on (exec_planRun_refused inHand read (planRefusal_twice twice)), fun bases registers =>
    ⟨?classes, fun good => ?run⟩⟩⟩, fun s e on inHand =>
    ⟨fun bad => refused_run_next on (exec_planRepeat_refused inHand bad), fun b bay count => ?again⟩⟩
  case classes =>
    rintro ⟨x, mem, bad⟩
    exact refused_run_next on (exec_planRun_refused inHand read (planRefusal_class bases registers mem bad))
  case run =>
    have effect := exec_planRun inHand read (planRefusal_none bases registers good)
    refine ⟨fun idle => ?_, fun busy free => ?_, fun busy full => ?_⟩
    · rw [placeOrder_starts (s := s.quiet) _ _ idle] at effect
      have started := run_started_bay on e p.bay { order := e.cell, tag := e.tag, source := .run p }
      refine ⟨_, effect, ?_⟩
      rw [State.session, started]
      exact ⟨rfl, rfl, rfl, rfl, rfl, rfl, rfl, rfl, rfl, rfl, rfl, rfl, run_placed_frame on (.inl rfl)⟩
    · rw [placeOrder_holds (s := s.quiet) _ _ busy free] at effect
      exact ⟨_, effect, run_held_bay on e p.bay _, run_placed_frame on (.inr rfl)⟩
    · rw [placeOrder_refused (s := s.quiet) _ _ busy full] at effect
      exact refused_run_next on effect
  case again =>
    refine ⟨fun idle empty => refused_run_next on (exec_planRepeat_noPlan inHand bay count idle empty), fun p idle cached => ?_,
      fun busy free => ?_, fun busy full => ?_⟩
    · have effect := exec_planRepeat inHand bay count (.inr (by rw [cached]; nofun))
      rw [placeOrder_starts (s := s.quiet) _ _ idle] at effect
      have started := run_started_bay on e b { order := e.cell, tag := e.tag, source := .again (byteAt e.params 1) }
      refine ⟨_, effect, ?_⟩
      rw [State.session, started, Bay.orderStarted, cached]
      exact ⟨rfl, cached, rfl, rfl, rfl, run_placed_frame on (.inl rfl)⟩
    · have effect := exec_planRepeat inHand bay count (.inl busy)
      rw [placeOrder_holds (s := s.quiet) _ _ busy free] at effect
      exact ⟨_, effect, run_held_bay on e b _, run_placed_frame on (.inr rfl)⟩
    · have effect := exec_planRepeat inHand bay count (.inl busy)
      rw [placeOrder_refused (s := s.quiet) _ _ busy full] at effect
      exact refused_run_next on effect

end Sys2Proof.Machine
end

section

set_option Elab.async false

/-!
SUPPORT. What a halt or stop notice does to a session, and BAY_HALT (R134, R135).
-/

namespace Sys2Proof.Machine

/-! ## Frames under the latched profile (R105, R129) -/

/-- A frame under the latched profile changes nothing of the bay but its link. -/
theorem sendLatched_bay (s : State) (b : BayId) (frame : EngineFrame) :
    ∃ link, (s.sendLatched b frame).bay b = { s.bay b with link } := by
  unfold State.sendLatched
  split
  · exact ⟨_, openExchange_bay ..⟩
  · exact ⟨_, rfl⟩

theorem unwind_bay (s : State) (b : BayId) (reason : VoidReason) : ∃ link, (s.unwind b reason).bay b = { s.bay b with
    link
    session := { (s.bay b).session with
      state := .unwinding, reason := some ((s.bay b).session.reason.getD reason), current := none } } := by
  obtain ⟨link, bay⟩ := sendLatched_bay
    (s.updSession b fun x => { x with state := .unwinding, reason := some (x.reason.getD reason), current := none }) b .rollback
  refine ⟨link, bay.trans ?_⟩
  rw [updSession_bay_self]

/-! ## The session's table of R135 -/

section
variable {s : State} {b : BayId} (reason : VoidReason)

/-- In these states the plan ends at once, with the exchange that was open abandoned. -/
theorem haltSession_ends (ends : (s.session b).endsAtOnce) : ∃ (u : State) (link : Link), s.haltSession b reason =
      u.planEnd b (s.session b).ending.result 0xFF ∧ u.intake = s.intake ∧ u.bay b = { s.bay b with link } ∧
      ((s.session b).state = .probing ∨ (s.session b).state = .releasing → link.exchange = none) := by
  have abandoned := (Link.abandoned_frame (s.bay b).link).1
  unfold State.haltSession
  dsimp only
  obtain state | state | state | ⟨state, begun⟩ := ends
  · simp only [state]
    exact ⟨s, _, rfl, rfl, rfl, fun h => absurd h (by simp)⟩
  · simp only [state]
    exact ⟨s, _, rfl, rfl, rfl, fun h => absurd h (by simp)⟩
  · simp only [state]
    exact ⟨_, _, rfl, (abandonExchange_frame ..).2.2.2.2.2.2.2.1, abandonExchange_bay s b, fun _ => abandoned⟩
  · simp only [state, begun, Bool.false_eq_true, if_false]
    exact ⟨_, _, rfl, (abandonExchange_frame ..).2.2.2.2.2.2.2.1, abandonExchange_bay s b, fun _ => abandoned⟩

theorem haltSession_claiming (state : (s.session b).state = .claiming) : s.haltSession b reason = s.stopClaiming b reason := by
  simp only [State.haltSession, state]

theorem haltSession_preparing (state : (s.session b).state = .preparing) :
    s.haltSession b reason = s.updSession b (·.fixReason reason) := by
  simp only [State.haltSession, state]

theorem haltSession_unwinds (begun : (s.session b).state = .loading ∨ ((s.session b).state = .releasing ∧ (s.session b).begun = true)) :
    s.haltSession b reason = (s.abandonExchange b).unwind b reason := by
  obtain state | ⟨state, begun⟩ := begun
  · simp only [State.haltSession, state]
  · simp only [State.haltSession, state, begun, if_true]

theorem haltSession_rests (rests : (s.session b).state = .unwinding ∨ (s.session b).state = .filing) : s.haltSession b reason = s := by
  obtain state | state := rests
  · simp only [State.haltSession, state]
  · simp only [State.haltSession, state]

theorem stopClaiming_bay : (s.stopClaiming b reason).bay b = { s.bay b with session := (s.bay b).session.fixReason reason } := by
  unfold State.stopClaiming
  dsimp only
  split
  · exact updSession_bay_self s b (·.fixReason reason)
  · exact updSession_bay_self s b (·.fixReason reason)

/-- A claim or a preparation goes on with its reason fixed. -/
theorem haltSession_fixes (waits : (s.session b).state = .claiming ∨ (s.session b).state = .preparing) :
    (s.haltSession b reason).bay b = { s.bay b with session := (s.bay b).session.fixReason reason } := by
  obtain state | state := waits
  · rw [haltSession_claiming _ state, stopClaiming_bay]
  · rw [haltSession_preparing _ state, updSession_bay_self]

/-- A terminal that is begun is unwound. -/
theorem haltSession_unwound (begun : (s.session b).state = .loading ∨ ((s.session b).state = .releasing ∧ (s.session b).begun = true)) :
    ∃ link, (s.haltSession b reason).bay b = { s.bay b with
      link
      session := { (s.bay b).session with
        state := .unwinding, reason := some ((s.bay b).session.reason.getD reason), current := none } } ∧
      ((s.session b).latched ≠ none → link.exchange.map (·.frame) = some .rollback) := by
  have abandoned := abandonExchange_bay s b
  obtain ⟨link, bay⟩ := unwind_bay (s.abandonExchange b) b reason
  rw [haltSession_unwinds _ begun]
  refine ⟨link, ?_, fun latched => ?_⟩
  · rw [bay, abandoned]
  · have sent := unwind_frame_sent (s := s.abandonExchange b) (b := b) reason (by rw [State.session, abandoned]; exact latched)
    rw [bay] at sent
    exact sent

end

/-! ## The held order (R134) -/

theorem dropHeld_bay (s : State) (b : BayId) (result : Result) : (s.dropHeld b result).bay b = { s.bay b with held := none } := by
  unfold State.dropHeld
  split
  next free => rw [← free]
  · rw [bay_of_bays (completeOrder_frame ..).2.2.2.2.1 b, updBay_bay_self]

theorem dropHeld_completes {s : State} {b : BayId} {h : HeldOrder} (held : (s.bay b).held = some h) (result : Result) :
    s.completes (s.dropHeld b result) h.order result (planData b 0xFF Counters.zero) := by
  unfold State.dropHeld
  rw [held]
  exact completed_listed s _ _ _ _ rfl

/-! ## BAY_HALT (R134, R135) -/

/-- The bay at which a BAY_HALT is taken, before its session acts (R134). -/
def Bay.haltTaken (x : Bay) (e : Entry) : Bay :=
  { x with held := none, halt := some { order := e.cell, state := x.session.state },
           session := { x.session with ending := .halted } }

/-- A BAY_HALT taken, before the session acts (R134). -/
def State.haltTaken (s : State) (e : Entry) (b : BayId) : State :=
  ((s.hold e).dropHeld b .halted).updBay b fun x =>
    { x with halt := some { order := e.cell, state := x.session.state }, session := { x.session with ending := .halted } }

theorem haltBay_eq (s : State) (e : Entry) (b : BayId) : s.haltBay e b = (s.haltTaken e b).haltSession b .halted := rfl

theorem haltTaken_bay (s : State) (e : Entry) (b : BayId) : (s.haltTaken e b).bay b = (s.bay b).haltTaken e := by
  rw [State.haltTaken, updBay_bay_self, dropHeld_bay]
  rfl

theorem haltTaken_area (s : State) (e : Entry) (b : BayId) : (s.haltTaken e b).intake.area = s.intake.area := by
  simp [State.haltTaken]

theorem haltBay_completes_held {s : State} {b : BayId} {h : HeldOrder} (held : (s.bay b).held = some h) (e : Entry) :
    s.completes (s.haltBay e b) h.order .halted (planData b 0xFF Counters.zero) := by
  have dropped := dropHeld_completes (s := s.hold e) held .halted
  rw [haltBay_eq]
  exact dropped.grows (((State.Grows.refl _).updBay b _).haltSession b _)

section
variable {s : State} {e : Entry} {b : BayId} {r : RunningOrder} (running : (s.bay b).running = some r)

theorem haltTaken_state : ((s.haltTaken e b).session b).state = (s.session b).state ∧
    ((s.haltTaken e b).session b).begun = (s.session b).begun ∧ ((s.haltTaken e b).session b).latched = (s.session b).latched ∧
    ((s.haltTaken e b).session b).ending = .halted := by
  rw [State.session, haltTaken_bay]
  exact ⟨rfl, rfl, rfl, rfl⟩

include running

/-- Where a halt ends the plan at once, the bay is IDLE and both orders are answered. -/
theorem haltBay_ends (ends : (s.session b).endsAtOnce) :
    (∃ link, (s.haltBay e b).bay b = Bay.planFinished { (s.bay b).haltTaken e with link }) ∧
    s.completes (s.haltBay e b) r.order .halted (planData b 0xFF (s.bay b).counters) ∧
    s.completes (s.haltBay e b) e.cell .ok [byteOf b.val, (s.session b).state.code] := by
  obtain ⟨state, begun, -, ending⟩ := haltTaken_state (s := s) (e := e) (b := b)
  obtain ⟨u, link, effect, intake, bay, -⟩ := haltSession_ends (s := s.haltTaken e b) (b := b) .halted
    (by rw [Session.endsAtOnce, state, begun]; exact ends)
  rw [haltTaken_bay] at bay
  rw [haltBay_eq, effect, ending]
  have running' : (u.bay b).running = some r := by rw [bay]; exact running
  obtain ⟨order, halts⟩ := planEnd_completes running' Ending.halted.result 0xFF
  have area : u.intake.area = s.intake.area := by rw [intake, haltTaken_area]
  refine ⟨⟨link, ?_⟩, ?_, ?_⟩
  · rw [planEnd_bay running', bay, planEnded_of_none rfl]
  · have order := order.of_area area
    rwa [bay] at order
  · exact (halts { order := e.cell, state := (s.session b).state } (by rw [bay]; rfl)).of_area area

end

theorem endsAtOnce_of {x : Session} (ends : x.state = .awaitTerminal ∨ x.state = .awaitRemoval ∨ x.state = .probing ∨
    (x.state = .releasing ∧ x.begun = false)) : x.endsAtOnce := ends

section
variable {s : State} {e : Entry} (inHand : s.inHand .bayHalt = some e)
include inHand

theorem exec_bayHalt_unread (high : 7 < byteAt e.params 0) :
    exec .bayHalt s = .next (s.run fun _ => s.quiet.refuseAtTake e .refusedField) := by
  refine next_run_eq ((withOrder_inHand s.quiet .bayHalt e _ inHand).trans ?_)
  simp only [bayAt_none _ _ high]

variable {b : BayId} (bay : b.val = byteAt e.params 0)
include bay

theorem exec_bayHalt_refused (bad : (s.bay b).running = none ∨ (s.session b).ending ≠ .none) :
    exec .bayHalt s = .next (s.run fun _ => s.quiet.refuseAtTake e .refusedState) := by
  refine next_run_eq ((withOrder_inHand s.quiet .bayHalt e _ inHand).trans ?_)
  simp only [bayAt_some _ _ _ bay]
  exact if_pos bad

theorem exec_bayHalt (running : (s.bay b).running ≠ none) (going : (s.session b).ending = .none) :
    exec .bayHalt s = .next (s.run fun _ => s.quiet.haltBay e b) := by
  refine next_run_eq ((withOrder_inHand s.quiet .bayHalt e _ inHand).trans ?_)
  simp only [bayAt_some _ _ _ bay]
  refine if_neg ?_
  rintro (idle | ended)
  · exact running idle
  · exact ended going

end

/-- What a halt keeps of the bay in every state of its session. -/
theorem haltBay_keeps {s : State} {e : Entry} {b : BayId} {r : RunningOrder} (running : (s.bay b).running = some r) :
    ((s.haltBay e b).bay b).held = none ∧ ((s.haltBay e b).bay b).cache = (s.bay b).cache ∧
    ((s.haltBay e b).bay b).counters = (s.bay b).counters := by
  obtain ⟨state, begun, -, -⟩ := haltTaken_state (s := s) (e := e) (b := b)
  have bay := haltTaken_bay s e b
  by_cases ends : (s.session b).endsAtOnce
  · obtain ⟨⟨link, ended⟩, -, -⟩ := haltBay_ends (e := e) running ends
    rw [ended]
    exact ⟨rfl, rfl, rfl⟩
  · rw [haltBay_eq]
    cases at' : (s.session b).state with
    | awaitTerminal => exact absurd (.inl at') ends
    | awaitRemoval => exact absurd (.inr (.inl at')) ends
    | probing => exact absurd (.inr (.inr (.inl at'))) ends
    | claiming =>
      rw [haltSession_fixes .halted (.inl (state.trans at')), bay]
      exact ⟨rfl, rfl, rfl⟩
    | preparing =>
      rw [haltSession_fixes .halted (.inr (state.trans at')), bay]
      exact ⟨rfl, rfl, rfl⟩
    | loading =>
      obtain ⟨link, unwound, -⟩ := haltSession_unwound .halted (.inl (state.trans at'))
      rw [unwound, bay]
      exact ⟨rfl, rfl, rfl⟩
    | releasing =>
      have begun' : (s.session b).begun = true := by
        cases early : (s.session b).begun with
        | true => rfl
        | false => exact absurd (.inr (.inr (.inr ⟨at', early⟩))) ends
      obtain ⟨link, unwound, -⟩ := haltSession_unwound .halted (.inr ⟨state.trans at', begun.trans begun'⟩)
      rw [unwound, bay]
      exact ⟨rfl, rfl, rfl⟩
    | unwinding =>
      rw [haltSession_rests .halted (.inl (state.trans at')), bay]
      exact ⟨rfl, rfl, rfl⟩
    | filing =>
      rw [haltSession_rests .halted (.inr (state.trans at')), bay]
      exact ⟨rfl, rfl, rfl⟩
    | idle =>
      have rests : (s.haltTaken e b).haltSession b .halted = s.haltTaken e b := by
        simp only [State.haltSession, state.trans at']
      rw [rests, bay]
      exact ⟨rfl, rfl, rfl⟩

/-- Settles O41. -/
theorem bayHaltByState : Obligations.BayHaltByState := by
  refine fun s e on inHand => ⟨fun high => refused_run_next on (exec_bayHalt_unread inHand high), fun b bay =>
    ⟨fun bad => refused_run_next on (exec_bayHalt_refused inHand bay bad), fun r running going =>
    ⟨_, exec_bayHalt inHand bay (by rw [running]; nofun) going, ?_⟩⟩⟩
  obtain ⟨-, bays, sessions, -⟩ := run_parts s (fun _ => s.quiet.haltBay e b) on
  obtain ⟨state, begun, latched, -⟩ := haltTaken_state (s := s.quiet) (e := e) (b := b)
  have taken := haltTaken_bay s.quiet e b
  obtain ⟨held, cache, counters⟩ := haltBay_keeps (s := s.quiet) (e := e) running
  have own : (s.quiet.haltBay e b).session b = ((s.quiet.haltBay e b).bay b).session := rfl
  rw [bays, sessions, own]
  refine ⟨held, fun c other => (bays c).trans (by simp [other]), ?slots, cache, counters, ?ceu, ?cipher, ?prof, ?queue, ?clock,
    fun h holding => ?holder, fun ends => ?ends, fun waits => ?fixes, fun begunAt => ?unwinds, fun rests => ?rests⟩
  case slots | ceu | cipher | prof | queue | clock => simp [run_frame _ _ on]
  case holder => exact .run on (f := fun _ => s.quiet.haltBay e b) (haltBay_completes_held (s := s.quiet) holding e)
  case ends =>
    obtain ⟨⟨link, ended⟩, order, halted⟩ := haltBay_ends (s := s.quiet) (e := e) running ends
    rw [ended]
    exact ⟨rfl, rfl, .run on (f := fun _ => s.quiet.haltBay e b) order, .run on (f := fun _ => s.quiet.haltBay e b) halted⟩
  case fixes =>
    rw [haltBay_eq, haltSession_fixes .halted (by rw [state]; exact waits), taken]
    exact ⟨running, rfl, rfl, rfl, rfl⟩
  case unwinds =>
    obtain ⟨link, unwound, sent⟩ := haltSession_unwound (s := s.quiet.haltTaken e b) (b := b) .halted
      (by rw [state, begun]; exact begunAt)
    rw [haltBay_eq, unwound, taken]
    exact ⟨running, rfl, rfl, rfl, rfl, fun q p own => sent (by rw [latched]; exact own ▸ nofun)⟩
  case rests =>
    rw [haltBay_eq, haltSession_rests .halted (by rw [state]; exact rests), taken]
    rfl

end Sys2Proof.Machine
end

section

set_option Elab.async false

/-!
SUPPORT. A terminal frame at a bay's exchange: strays, NAKs and replies (R94, R98, R101 to R103).
-/

namespace Sys2Proof.Machine

/-! ## A frame is received (R93) -/

theorem updLink_updLink (s : State) (b : BayId) (f g : Link → Link) :
    (s.updLink b f).updLink b g = s.updLink b fun l => g (f l) := by
  simp [State.updLink, State.updBay, State.bay]

/-- A link whose receiver has taken a whole frame (R93). -/
def Link.heard (l : Link) (clock : BitVec 32) : Link := { l.gapClosed clock with receiver := .hunt }

theorem Link.heard_frame (l : Link) (clock : BitVec 32) : (l.heard clock).exchange = l.exchange ∧ (l.heard clock).strays = l.strays ∧
    (l.heard clock).seq = l.seq ∧ (l.heard clock).presence = l.presence ∧ (l.heard clock).lastNak = l.lastNak ∧
    (l.heard clock).rate = l.rate := by
  unfold Link.heard Link.gapClosed
  split
  · exact ⟨rfl, rfl, rfl, rfl, rfl, rfl⟩
  · exact ⟨rfl, rfl, rfl, rfl, rfl, rfl⟩

/-- A bay that has received a whole frame, before the exchange takes it. -/
def State.heardAt (s : State) (b : BayId) : State := s.updLink b (·.heard s.clock)

theorem receiveTerminal_eq (s : State) (b : BayId) (f : TerminalFrame) : s.receiveTerminal b f = (s.heardAt b).takeFrame b f :=
  congrArg (fun t => t.takeFrame b f) (updLink_updLink s b _ _)

theorem heardAt_bay (s : State) (b : BayId) : (s.heardAt b).bay b = { s.bay b with link := (s.bay b).link.heard s.clock } :=
  updLink_bay_self ..

theorem heardAt_frame (s : State) (b : BayId) : (s.heardAt b).engine = s.engine ∧ (s.heardAt b).ks = s.ks ∧
    (s.heardAt b).intake = s.intake ∧ (s.heardAt b).prof = s.prof ∧ (s.heardAt b).clock = s.clock ∧ (s.heardAt b).ceu = s.ceu ∧
    (s.heardAt b).cipher = s.cipher ∧ (s.heardAt b).writer = s.writer := ⟨rfl, rfl, rfl, rfl, rfl, rfl, rfl, rfl⟩

theorem heardAt_other (s : State) (b : BayId) {c : BayId} (other : c ≠ b) : (s.heardAt b).bay c = s.bay c := updLink_other _ _ _ _ other

/-! ## What the exchange makes of it (R94, R98, R101, R102) -/

section
variable {s : State} {b : BayId}

theorem takeFrame_idle (idle : (s.bay b).running = none) (f : TerminalFrame) : s.takeFrame b f = s := by
  simp only [State.takeFrame, idle]

variable (running : (s.bay b).running ≠ none)
include running

theorem takeFrame_closed (closed : (s.bay b).link.exchange = none) (f : TerminalFrame) : s.takeFrame b f = s.countStray b := by
  obtain ⟨r, running⟩ := Option.ne_none_iff_exists'.mp running
  simp only [State.takeFrame, running, closed]

variable {x : Exchange} (opened : (s.bay b).link.exchange = some x)
include opened

theorem takeFrame_other_seq {f : TerminalFrame} (other : f.seq ≠ x.seq) : s.takeFrame b f = s.countStray b := by
  obtain ⟨r, running⟩ := Option.ne_none_iff_exists'.mp running
  simp only [State.takeFrame, running, opened]
  exact if_pos other

/-- A frame of another kind than the one expected, and no NAK. -/
theorem takeFrame_other_kind {f : TerminalFrame} (own : f.seq = x.seq) (other : f.matches x.expected = false)
    (noNak : ∀ seq reason, f ≠ .nak seq reason) : s.takeFrame b f = s.countStray b := by
  obtain ⟨r, running⟩ := Option.ne_none_iff_exists'.mp running
  have other : ¬f.matches x.expected = true := by rw [other]; exact Bool.false_ne_true
  simp only [State.takeFrame, running, opened]
  refine (if_neg (not_not_intro own)).trans ?_
  cases f with
  | nak seq reason => exact absurd rfl (noNak seq reason)
  | ident => exact if_neg other
  | ack => exact if_neg other
  | check => exact if_neg other

/-- The reply that the exchange awaits closes it. -/
theorem takeFrame_reply {f : TerminalFrame} (own : f.seq = x.seq) (expected : f.matches x.expected = true) :
    s.takeFrame b f = (s.closeExchange b x).sessionReply b f := by
  obtain ⟨r, running⟩ := Option.ne_none_iff_exists'.mp running
  simp only [State.takeFrame, running, opened]
  refine (if_neg (not_not_intro own)).trans ?_
  cases f with
  | nak seq reason =>
    have never : TerminalFrame.matches (.nak seq reason) x.expected = false := by cases x.expected <;> rfl
    exact absurd (never.symm.trans expected) nofun
  | ident => exact if_pos expected
  | ack => exact if_pos expected
  | check => exact if_pos expected

variable {seq reason : Byte} (own : x.seq = seq)
include own

theorem takeFrame_busy (busy : reason = 1) : s.takeFrame b (.nak seq reason) = s.busyRetry b x := by
  obtain ⟨r, running⟩ := Option.ne_none_iff_exists'.mp running
  simp only [State.takeFrame, running, opened]
  exact (if_neg (not_not_intro own.symm)).trans (if_pos busy)

theorem takeFrame_refused (refused : reason ≠ 1) : s.takeFrame b (.nak seq reason) =
    ((s.closeExchange b x).updLink b fun l => { l with lastNak := some (nakReason reason) }).sessionFailure b .terminalRefused := by
  obtain ⟨r, running⟩ := Option.ne_none_iff_exists'.mp running
  simp only [State.takeFrame, running, opened]
  exact (if_neg (not_not_intro own.symm)).trans (if_neg refused)

end

/-- A stray counted on a link (R98). -/
theorem heardAt_countStray (s : State) (b : BayId) :
    (s.heardAt b).countStray b = s.updLink b fun l => { l.heard s.clock with strays := countUp l.strays } := by
  refine (updLink_updLink s b _ _).trans (congrArg (s.updLink b) (funext fun l => ?_))
  dsimp only
  rw [(l.heard_frame s.clock).2.1]

/-! ## The commands -/

/-- The four terminal frames as commands. -/
theorem exec_terminalFrame {s : State} {b : BayId} {c : Instr} {f : TerminalFrame}
    (frame : (∃ seq terminal model caps occupancy, c = .ident b seq terminal model caps occupancy ∧
         f = .ident seq terminal model caps occupancy) ∨ (∃ seq, c = .ack b seq ∧ f = .ack seq) ∨
       (∃ seq register value, c = .check b seq register value ∧ f = .check seq register value) ∨
       (∃ seq reason, c = .nak b seq reason ∧ f = .nak seq reason)) :
    exec c s = .next (s.runBays fun s => s.receiveTerminal b f) := by
  obtain ⟨seq, terminal, model, caps, occupancy, rfl, rfl⟩ | ⟨seq, rfl, rfl⟩ | ⟨seq, register, value, rfl, rfl⟩ |
    ⟨seq, reason, rfl, rfl⟩ := frame
  · rfl
  · rfl
  · rfl
  · rfl

/-- The end of an exchange by a NAK, or by a busy terminal with no retry left, with what is recorded of it. -/
def State.exchangeFailed (s : State) (b : BayId) (x : Exchange) (nak : Option NakReason) : State :=
  match nak with
  | some reason => (s.closeExchange b x).updLink b fun l => { l with lastNak := some reason }
  | none => s.closeExchange b x

theorem exchangeFailed_bay (s : State) (b : BayId) (x : Exchange) (nak : Option NakReason) : (s.exchangeFailed b x nak).bay b =
    { s.bay b with link := { (s.bay b).link with
        exchange := none, lastRetries := x.retriesUsed, lastNak := nak.or (s.bay b).link.lastNak } } := by
  cases nak with
  | some reason =>
    rw [State.exchangeFailed, updLink_bay_self, closeExchange_bay]
    rfl
  | none =>
    rw [State.exchangeFailed, closeExchange_bay]
    rfl

/-- A frame under the latched profile leaves the rest of the link. -/
theorem sendLatched_link (s : State) (b : BayId) (frame : EngineFrame) :
    ((s.sendLatched b frame).bay b).link.lastNak = (s.bay b).link.lastNak ∧
    ((s.sendLatched b frame).bay b).link.presence = (s.bay b).link.presence := by
  unfold State.sendLatched
  split
  · rw [openExchange_bay]
    obtain ⟨-, presence, -, lastNak⟩ := Link.opened_frame (s.bay b).link frame _ _
    exact ⟨lastNak, presence⟩
  · exact ⟨rfl, rfl⟩

theorem unwind_link (s : State) (b : BayId) (reason : VoidReason) :
    ((s.unwind b reason).bay b).link.lastNak = (s.bay b).link.lastNak ∧
    ((s.unwind b reason).bay b).link.presence = (s.bay b).link.presence := by
  have link := sendLatched_link
    (s.updSession b fun x => { x with state := .unwinding, reason := some (x.reason.getD reason), current := none }) b .rollback
  rwa [updSession_bay_self] at link

theorem awaitRemoval_link {s : State} {b : BayId} (plugged : (s.session b).gone = false) :
    ((s.awaitRemoval b).bay b).link = (s.bay b).link := by
  rw [awaitRemoval_bay plugged]

/-- What the session makes of a failure of its exchange in PROBING and LOADING. -/
theorem exchangeFailed_sessionFailure {s : State} {b : BayId} (x : Exchange) (nak : Option NakReason) (e : ExchangeFailure) :
    ((s.session b).state = .probing → (s.session b).gone = false →
      (((s.exchangeFailed b x nak).sessionFailure b e).session b).state = .awaitRemoval ∧
      (((s.exchangeFailed b x nak).sessionFailure b e).bay b).link.exchange = none) ∧
    ((s.session b).state = .loading →
      (((s.exchangeFailed b x nak).sessionFailure b e).session b).state = .unwinding ∧
      (((s.exchangeFailed b x nak).sessionFailure b e).session b).reason = some ((s.session b).reason.getD e.reason) ∧
      ((s.session b).latched ≠ none →
        (((s.exchangeFailed b x nak).sessionFailure b e).bay b).link.exchange.map (·.frame) = some .rollback)) ∧
    (((s.session b).state = .probing ∧ (s.session b).gone = false) ∨ (s.session b).state = .loading →
      (((s.exchangeFailed b x nak).sessionFailure b e).bay b).link.lastNak = nak.or (s.bay b).link.lastNak) := by
  have bay := exchangeFailed_bay s b x nak
  have session : (s.exchangeFailed b x nak).session b = s.session b := by
    rw [State.session, bay]
    rfl
  refine ⟨fun state plugged => ?_, fun state => ?_, fun states => ?_⟩
  · rw [sessionFailure_probing e (by rw [session]; exact state)]
    obtain ⟨awaits, link⟩ := awaitRemoval_present (s := s.exchangeFailed b x nak) (by rw [session]; exact plugged)
    exact ⟨awaits, by rw [link, bay]⟩
  · rw [sessionFailure_begun e (.inl (by rw [session]; exact state)), unwind_session, session]
    exact ⟨rfl, rfl, fun latched => unwind_frame_sent _ (by rw [session]; exact latched)⟩
  · obtain ⟨state, plugged⟩ | state := states
    · rw [sessionFailure_probing e (by rw [session]; exact state), awaitRemoval_link (by rw [session]; exact plugged), bay]
    · rw [sessionFailure_begun e (.inl (by rw [session]; exact state)), (unwind_link ..).1, bay]

theorem busyRetry_stray {s : State} {b : BayId} {x : Exchange} (pending : x.resendPending = true) : s.busyRetry b x = s.countStray b :=
  if_pos pending

theorem busyRetry_retries {s : State} {b : BayId} {x : Exchange} (clear : x.resendPending = false)
    (left : x.retriesUsed < x.retryLimit) : s.busyRetry b x = s.updLink b fun l =>
      { l with exchange := some { x with retriesUsed := x.retriesUsed + 1, resendPending := true } } :=
  (if_neg (by rw [clear]; exact Bool.false_ne_true)).trans (if_pos left)

theorem busyRetry_ends {s : State} {b : BayId} {x : Exchange} (clear : x.resendPending = false)
    (spent : x.retryLimit ≤ x.retriesUsed) : s.busyRetry b x = (s.exchangeFailed b x none).sessionFailure b .noReply :=
  (if_neg (by rw [clear]; exact Bool.false_ne_true)).trans (if_neg (Nat.not_lt.mpr spent))

/-- How a NAK that ends the exchange is recorded: a reason other than BUSY_RETRY (R102). -/
def nakRecord (reason : Byte) : Option NakReason := if reason = 1 then none else some (nakReason reason)

/-- The failure such a NAK is to the session (R101, R102). -/
def nakFailure (reason : Byte) : ExchangeFailure := if reason = 1 then .noReply else .terminalRefused

theorem takeFrame_nak_ends {s : State} {b : BayId} {x : Exchange} (running : (s.bay b).running ≠ none)
    (opened : (s.bay b).link.exchange = some x) {seq reason : Byte} (own : x.seq = seq)
    (ends : reason = 1 → x.resendPending = false ∧ x.retryLimit ≤ x.retriesUsed) :
    s.takeFrame b (.nak seq reason) = (s.exchangeFailed b x (nakRecord reason)).sessionFailure b (nakFailure reason) := by
  by_cases busy : reason = 1
  · obtain ⟨clear, spent⟩ := ends busy
    rw [takeFrame_busy running opened own busy, busyRetry_ends clear spent, nakRecord, nakFailure, if_pos busy, if_pos busy]
  · rw [takeFrame_refused running opened own busy, nakRecord, nakFailure, if_neg busy, if_neg busy]
    rfl

theorem nakReason_eq (reason : Byte) : nakReason reason =
    if reason = 3 then .registerLocked else if reason = 4 then .badBlock else .refused := rfl

theorem exec_nak_ends {s : State} {b : BayId} {x : Exchange} (on : s.engine ≠ .off) (loaded : s.engine ≠ .loading)
    (running : (s.bay b).running ≠ none) (opened : (s.bay b).link.exchange = some x) {seq reason : Byte} (own : x.seq = seq)
    (ends : reason = 1 → x.resendPending = false ∧ x.retryLimit ≤ x.retriesUsed) : exec (.nak b seq reason) s =
      .next (s.run fun _ => ((s.quiet.heardAt b).exchangeFailed b x (nakRecord reason)).sessionFailure b (nakFailure reason)) := by
  refine next_runBays_eq on loaded ((receiveTerminal_eq ..).trans (takeFrame_nak_ends ?_ ?_ own ends))
  · rw [heardAt_bay]
    exact running
  · rw [heardAt_bay]
    exact (Link.heard_frame ..).1.trans opened

theorem exchangeFailed_frame (s : State) (b : BayId) (x : Exchange) (nak : Option NakReason) :
    (s.exchangeFailed b x nak).ks = s.ks ∧ (s.exchangeFailed b x nak).ceu = s.ceu ∧ (s.exchangeFailed b x nak).cipher = s.cipher ∧
    (s.exchangeFailed b x nak).prof = s.prof ∧ (s.exchangeFailed b x nak).clock = s.clock := by
  cases nak
  · exact ⟨rfl, rfl, rfl, rfl, rfl⟩
  · exact ⟨rfl, rfl, rfl, rfl, rfl⟩

theorem exchangeFailed_other (s : State) (b : BayId) (x : Exchange) (nak : Option NakReason) {c : BayId} (other : c ≠ b) :
    (s.exchangeFailed b x nak).bay c = s.bay c := by
  cases nak
  · exact closeExchange_other s b x c other
  · exact (updLink_other _ _ _ _ other).trans (closeExchange_other s b x c other)

/-- Settles O49. -/
theorem straysAndNaks : Obligations.StraysAndNaks := by
  refine ⟨fun s b c f on loaded settled frame => ⟨fun idle => ?idle, fun running stray => ?stray⟩,
    fun s b seq reason x on loaded settled running opened own => ⟨fun busy pending => ?pending, fun busy clear left => ?retries,
    fun ends => ⟨_, exec_nak_ends on loaded running opened own ends, ?ends⟩⟩⟩
  case idle =>
    rw [exec_terminalFrame frame]
    obtain ⟨t, effect, bay, others, rest⟩ := next_runBays_updLink (b := b) (f := (·.heard s.clock))
      (g := fun s => s.receiveTerminal b f) on loaded settled
      ((receiveTerminal_eq ..).trans (takeFrame_idle (by rw [heardAt_bay]; exact idle) f)) rfl
    exact ⟨t, effect, bay, rest, others⟩
  case stray =>
    rw [exec_terminalFrame frame]
    have running' : ((s.quiet.heardAt b).bay b).running ≠ none := by rw [heardAt_bay]; exact running
    have exchange : ((s.quiet.heardAt b).bay b).link.exchange = (s.bay b).link.exchange := by
      rw [heardAt_bay]
      exact (Link.heard_frame ..).1
    have counted : (s.quiet.heardAt b).takeFrame b f = (s.quiet.heardAt b).countStray b := by
      obtain closed | ⟨x, opened, other | ⟨other, noNak⟩⟩ := stray
      · exact takeFrame_closed running' (exchange.trans closed) f
      · exact takeFrame_other_seq running' (exchange.trans opened) other
      · by_cases own : f.seq = x.seq
        · exact takeFrame_other_kind running' (exchange.trans opened) own other noNak
        · exact takeFrame_other_seq running' (exchange.trans opened) own
    obtain ⟨t, effect, bay, others, rest⟩ := next_runBays_updLink (b := b)
      (f := fun l => { l.heard s.clock with strays := countUp l.strays }) (g := fun s => s.receiveTerminal b f) on loaded settled
      ((receiveTerminal_eq ..).trans (counted.trans (heardAt_countStray ..))) rfl
    exact ⟨t, effect, bay, rest, others⟩
  case pending =>
    refine next_runBays_updLink (b := b) (f := fun l => { l.heard s.clock with strays := countUp l.strays }) on loaded settled ?_ rfl
    have stray : (s.quiet.heardAt b).takeFrame b (.nak seq reason) = (s.quiet.heardAt b).countStray b :=
      (takeFrame_busy (by rw [heardAt_bay]; exact running) (by rw [heardAt_bay]; exact (Link.heard_frame ..).1.trans opened) own busy).trans
        (busyRetry_stray pending)
    exact (receiveTerminal_eq ..).trans (stray.trans (heardAt_countStray ..))
  case retries =>
    refine next_runBays_updLink (b := b) (f := fun l => { l.heard s.clock with
      exchange := some { x with retriesUsed := x.retriesUsed + 1, resendPending := true } }) on loaded settled ?_ rfl
    have retried := (takeFrame_busy (s := s.quiet.heardAt b) (by rw [heardAt_bay]; exact running)
      (by rw [heardAt_bay]; exact (Link.heard_frame ..).1.trans opened) own busy).trans (busyRetry_retries clear left)
    exact (receiveTerminal_eq ..).trans (retried.trans (updLink_updLink ..))
  case ends =>
    obtain ⟨-, bays, sessions, -⟩ := run_parts s
      (fun _ => ((s.quiet.heardAt b).exchangeFailed b x (nakRecord reason)).sessionFailure b (nakFailure reason)) on
    obtain ⟨probing, loading, lastNak⟩ := exchangeFailed_sessionFailure (s := s.quiet.heardAt b) (b := b) x (nakRecord reason)
      (nakFailure reason)
    have session : (s.quiet.heardAt b).session b = s.session b := by
      rw [State.session, heardAt_bay]
      rfl
    rw [session] at probing loading lastNak
    refine ⟨fun c other => (bays c).trans (by simp [other, exchangeFailed_other, heardAt_other]), ?slots, ?cipher, ?ceu, ?prof, ?clock,
      fun refused states => ?lastNak, fun state plugged => ?probing, fun state => ?loading⟩
    case slots | cipher | ceu | prof | clock => simp [run_frame _ _ on, exchangeFailed_frame, heardAt_frame]
    case lastNak =>
      rw [bays, lastNak states, nakRecord, if_neg refused, nakReason_eq]
      rfl
    case probing =>
      rw [sessions, bays]
      exact probing state plugged
    case loading =>
      rw [sessions, bays]
      obtain ⟨unwinding, fixed, sent⟩ := loading state
      refine ⟨unwinding, fixed.trans ?_, sent⟩
      rw [nakFailure]
      split
      · rfl
      · rfl

end Sys2Proof.Machine
end

section

set_option Elab.async false

/-!
SUPPORT. IDENT in PROBING: the profile of the terminal, its item records and what the session does next (R120 to R123, R156).
-/

namespace Sys2Proof.Machine

/-! ## The model map (R156) -/

/-- The map's part of O46: the first used entry with the model code. -/
theorem lookup_eq (p : ProfileStore) (model : BitVec 16) :
    (model = 0 → p.lookup model = none) ∧
    ((∀ n : Fin 64, p.map[n].model ≠ model) → p.lookup model = none) ∧
    ∀ n : Fin 64, model ≠ 0 → p.map[n].model = model → (∀ k : Fin 64, k < n → p.map[k].model ≠ model) →
      p.lookup model = some p.map[n].profile := by
  unfold ProfileStore.lookup
  refine ⟨fun zero => ?_, fun missing => ?_, fun n used own first => ?_⟩
  · rw [Option.map_eq_none_iff, List.find?_eq_none]
    intro e _
    simp only [Bool.and_eq_true, decide_eq_true_eq, not_and]
    exact fun used own => used (own.trans zero)
  · rw [Option.map_eq_none_iff, List.find?_eq_none]
    intro e mem
    obtain ⟨k, inside, rfl⟩ := List.mem_iff_getElem.mp mem
    have low : k < 64 := by simpa using inside
    have other := missing ⟨k, low⟩
    simp only [Bool.and_eq_true, decide_eq_true_eq, not_and]
    exact fun _ own => other own
  · rw [Option.map_eq_some_iff]
    refine ⟨p.map[n], List.find?_eq_some_iff_getElem.mpr ⟨?_, n.val, by simp, by simp, fun j before => ?_⟩, rfl⟩
    · simp only [Bool.and_eq_true, decide_eq_true_eq]
      exact ⟨own ▸ used, own⟩
    · have other := first ⟨j, by omega⟩ before
      simp only [Bool.not_eq_true', Bool.and_eq_false_iff, decide_eq_false_iff_not]
      exact .inr other

/-! ## The first item that needs something (R123, R127) -/

theorem nextNeed_of_first {before after : List ItemRecord} {x : ItemRecord} {need : Need} (earlier : ∀ y ∈ before, y.need = none)
    (needs : x.need = some need) (n : Nat) : nextNeed (before ++ x :: after) n = some (n + before.length, need) := by
  induction before generalizing n with
  | nil => simp only [List.nil_append, nextNeed, needs, List.length_nil, Nat.add_zero]
  | cons y rest ih =>
    have skipped := earlier y (by simp)
    simp only [List.cons_append, nextNeed, skipped, List.length_cons]
    rw [ih (fun z mem => earlier z (by simp [mem])) (n + 1), Nat.add_right_comm]
    rfl

theorem nextNeed_of_none {l : List ItemRecord} (nothing : ∀ y ∈ l, y.need = none) (n : Nat) : nextNeed l n = none := by
  induction l generalizing n with
  | nil => rfl
  | cons y rest ih =>
    have skipped := nothing y (by simp)
    simp only [nextNeed, skipped]
    exact ih (fun z mem => nothing z (by simp [mem])) (n + 1)

theorem firstApplicable_of_first {before after : List ItemRecord} {x : ItemRecord} (earlier : ∀ y ∈ before, y.applies = false)
    (applies : x.applies = true) (n : Nat) : firstApplicable (before ++ x :: after) n = some (n + before.length, x) := by
  induction before generalizing n with
  | nil => simp only [List.nil_append, firstApplicable, applies, if_true, List.length_nil, Nat.add_zero]
  | cons y rest ih =>
    have skipped : ¬y.applies = true := by rw [earlier y (by simp)]; exact Bool.false_ne_true
    rw [List.cons_append, firstApplicable, if_neg skipped, ih (fun z mem => earlier z (by simp [mem])) (n + 1), List.length_cons,
      Nat.add_right_comm]
    rfl

theorem firstApplicable_of_none {l : List ItemRecord} (nothing : ∀ y ∈ l, y.applies = false) (n : Nat) :
    firstApplicable l n = none := by
  induction l generalizing n with
  | nil => rfl
  | cons y rest ih =>
    have skipped : ¬y.applies = true := by rw [nothing y (by simp)]; exact Bool.false_ne_true
    rw [firstApplicable, if_neg skipped]
    exact ih (fun z mem => nothing z (by simp [mem])) (n + 1)

/-- The first item of a list that applies, with those before it. -/
theorem exists_first_applying {l : List ItemRecord} (some : ∃ x ∈ l, x.applies = true) :
    ∃ before x after, l = before ++ x :: after ∧ x.applies = true ∧ ∀ y ∈ before, y.applies = false := by
  obtain ⟨x, mem, applies⟩ := some
  obtain ⟨first, found⟩ := Option.isSome_iff_exists.mp (List.find?_isSome.mpr ⟨x, mem, applies⟩)
  obtain ⟨applies, before, after, rfl, earlier⟩ := List.find?_eq_some_iff_append.mp found
  exact ⟨before, first, after, rfl, applies, fun y mem => by simpa using earlier y mem⟩

/-! ## The item records of a terminal (R122) -/

/-- An item's record as the terminal is identified (R122). -/
def Item.recordFor (i : Item) (d : Identity) : ItemRecord :=
  { item := i, applies := i.holds d, claim := none, wrapGeneration := none, stage := .waiting }

theorem recordFor_fields (items : List Item) (d : Identity) :
    (items.map (·.recordFor d)).map (·.item) = items ∧
    ∀ i ∈ items.map (·.recordFor d), i.claim = none ∧ i.wrapGeneration = none ∧ i.stage = .waiting ∧
      i.applies = (match i.item.condition with
        | .always => true | .ifCap n => d.caps.getLsbD n.val | .ifNotCap n => !d.caps.getLsbD n.val
        | .ifRegEmpty => !d.occupancy.getLsbD i.item.register.val) := by
  refine ⟨?_, fun i mem => ?_⟩
  · rw [List.map_map]
    exact List.map_id items
  · obtain ⟨x, -, rfl⟩ := List.mem_map.mp mem
    refine ⟨rfl, rfl, rfl, ?_⟩
    cases condition : x.condition <;> simp only [Item.recordFor, Item.holds, condition]

theorem need_of_unclaimed {x : ItemRecord} (applies : x.applies = true) (unclaimed : x.claim = none) :
    x.need = some (.claim x.item.base) := by
  simp only [ItemRecord.need, applies, unclaimed, if_true]

theorem need_of_not_applies {x : ItemRecord} (skipped : x.applies = false) : x.need = none :=
  if_neg (by rw [skipped]; exact Bool.false_ne_true)

/-! ## Resolution (R121) -/

/-- The profile of a plan for a model: its override, or the model map's (R121). -/
def Plan.profileFor (plan : Plan) (p : ProfileStore) (model : BitVec 16) : Option (Fin 16) :=
  match plan.override with | some k => some k | none => p.lookup model

theorem resolve_none {s : State} {plan : Plan} {d : Identity} (misses : plan.profileFor s.prof d.model = none ∨
    ∃ k, plan.profileFor s.prof d.model = some k ∧ s.prof.profiles[k].wrapOnly = true ∧ ∃ i ∈ plan.items, i.delivery = .direct) :
    s.resolve plan d = none := by
  have same : s.resolve plan d = match plan.profileFor s.prof d.model with
    | none => none
    | some p => if (s.profile p).wrapOnly = true ∧ plan.items.any (fun i => !i.delivery.isWrapped) = true then none
        else some (p, s.profile p) := rfl
  rw [same]
  obtain miss | ⟨k, hit, wrapOnly, i, mem, direct⟩ := misses
  · rw [miss]
  · rw [hit]
    exact if_pos ⟨wrapOnly, List.any_eq_true.mpr ⟨i, mem, by rw [direct]; rfl⟩⟩

theorem resolve_some {s : State} {plan : Plan} {d : Identity} {k : Fin 16} (hit : plan.profileFor s.prof d.model = some k)
    (fits : s.prof.profiles[k].wrapOnly = false ∨ ∀ i ∈ plan.items, i.delivery ≠ .direct) :
    s.resolve plan d = some (k, s.prof.profiles[k]) := by
  have same : s.resolve plan d = match plan.profileFor s.prof d.model with
    | none => none
    | some p => if (s.profile p).wrapOnly = true ∧ plan.items.any (fun i => !i.delivery.isWrapped) = true then none
        else some (p, s.profile p) := rfl
  rw [same, hit]
  refine if_neg ?_
  rintro ⟨wrapOnly, some_direct⟩
  obtain free | wrapped := fits
  · exact absurd (free.symm.trans wrapOnly) nofun
  · obtain ⟨i, mem, direct⟩ := List.any_eq_true.mp some_direct
    cases delivery : i.delivery with
    | direct => exact wrapped i mem delivery
    | wrapped t => rw [delivery] at direct; cases direct

/-- A bay with its terminal identified and its profile latched, before the session goes on (R121, R122). -/
def Bay.resolved (x : Bay) (d : Identity) (latched : Fin 16 × Profile) (records : List ItemRecord) : Bay :=
  { x with
    session := { x.session with identity := some d, latched := some latched, records }
    counters := { x.counters with skippedItems := min (x.counters.skippedItems + records.countP (fun i => !i.applies)) 65535 } }

/-- The state with the terminal resolved (R121, R122). -/
def State.resolved (s : State) (b : BayId) (d : Identity) (latched : Fin 16 × Profile) (records : List ItemRecord) : State :=
  ((s.updSession b fun x => { x with identity := some d }).updSession b fun x => { x with latched := some latched, records }).updCounters b
    fun c => { c with skippedItems := min (c.skippedItems + records.countP (fun i => !i.applies)) 65535 }

theorem resolved_bay (s : State) (b : BayId) (d : Identity) (latched : Fin 16 × Profile) (records : List ItemRecord) :
    (s.resolved b d latched records).bay b = (s.bay b).resolved d latched records := by
  rw [State.resolved, updCounters_bay_self, updSession_bay_self, updSession_bay_self]
  rfl

/-- The session enters CLAIMING with its first request, a claim for the item at a place (R123). -/
def State.firstClaim (s : State) (b : BayId) (n : Nat) (base : SlotId) : State :=
  ((s.updSession b fun y => { y with state := .claiming }).updSession b fun y =>
    { y with current := some n, deferral := false }).request (.claim b base)

theorem firstClaim_bay (s : State) (b : BayId) (n : Nat) (base : SlotId) : (s.firstClaim b n base).bay b = { s.bay b with
    session := { (s.bay b).session with state := .claiming, current := some n, deferral := false } } := by
  rw [State.firstClaim, request_bay, updSession_bay_self, updSession_bay_self]

theorem firstClaim_frame (s : State) (b : BayId) (n : Nat) (base : SlotId) : s.otherBaysSame (s.firstClaim b n base) b ∧
    (s.firstClaim b n base).cipher = s.cipher ∧ (s.firstClaim b n base).writer = s.writer ∧
    (s.firstClaim b n base).ks.requests = s.ks.requests ++ [.claim b base] :=
  ⟨fun c other => (request_bay ..).trans ((updSession_other _ _ _ _ other).trans (updSession_other _ _ _ _ other)), rfl, rfl, rfl⟩

theorem resolved_frame (s : State) (b : BayId) (d : Identity) (latched : Fin 16 × Profile) (records : List ItemRecord) :
    s.otherBaysSame (s.resolved b d latched records) b ∧ (s.resolved b d latched records).cipher = s.cipher ∧
    (s.resolved b d latched records).writer = s.writer ∧ (s.resolved b d latched records).ks = s.ks :=
  ⟨fun c other => (updCounters_other _ _ _ _ other).trans ((updSession_other _ _ _ _ other).trans (updSession_other _ _ _ _ other)),
    rfl, rfl, rfl⟩

section
variable {s : State} {b : BayId} {plan : Plan} {d : Identity}

theorem identified_unmatched (misses : s.resolve plan d = none) : s.identified b plan d =
    ((s.updSession b fun x => { x with identity := some d }).updCounters b fun c =>
      { c with unmatched := countUp c.unmatched }).awaitRemoval b := by
  simp only [State.identified, misses]

variable {latched : Fin 16 × Profile} (hits : s.resolve plan d = some latched)
include hits

/-- The session of a terminal with an applicable item asks for its first claim (R123). -/
theorem identified_claims {before after : List ItemRecord} {x : ItemRecord}
    (records : plan.items.map (·.recordFor d) = before ++ x :: after) (applies : x.applies = true)
    (earlier : ∀ y ∈ before, y.applies = false) : s.identified b plan d =
      (s.resolved b d latched (plan.items.map (·.recordFor d))).firstClaim b before.length x.item.base := by
  have any : (plan.items.map (·.recordFor d)).any (·.applies) = true :=
    List.any_eq_true.mpr ⟨x, by rw [records]; simp, applies⟩
  have unclaimed : x.claim = none := ((recordFor_fields plan.items d).2 x (by rw [records]; simp)).1
  have need := nextNeed_of_first (before := before) (after := after) (fun y mem => need_of_not_applies (earlier y mem))
    (need_of_unclaimed applies unclaimed) 0
  rw [← records, Nat.zero_add] at need
  simp only [State.identified, hits]
  refine (if_pos any).trans ?_
  unfold State.claimNext
  have session : (((s.resolved b d latched (plan.items.map (·.recordFor d))).updSession b fun y =>
      { y with state := .claiming }).session b).records = plan.items.map (·.recordFor d) := by
    rw [State.session, updSession_bay_self, resolved_bay]
    rfl
  change (match nextNeed (((s.resolved b d latched (plan.items.map (·.recordFor d))).updSession b fun y =>
      { y with state := .claiming }).session b).records 0 with
    | some (n, .claim i) => _ | some (n, .wrap i) => _ | none => _) = _
  rw [session, need]
  rfl

/-- A terminal without an applicable item is released, and counted as skipped (R122). -/
theorem identified_skips (skips : ∀ i ∈ plan.items.map (·.recordFor d), i.applies = false) : s.identified b plan d =
    ((s.resolved b d latched (plan.items.map (·.recordFor d))).updCounters b fun c =>
      { c with skippedTerminals := countUp c.skippedTerminals }).enterReleasing b := by
  have any : ¬(plan.items.map (·.recordFor d)).any (·.applies) = true := by
    rw [List.any_eq_true]
    rintro ⟨i, mem, applies⟩
    exact absurd ((skips i mem).symm.trans applies) nofun
  simp only [State.identified, hits]
  exact if_neg any

end

/-! ## IDENT (R120 to R123) -/

theorem enterReleasing_bay (s : State) (b : BayId) : ∃ link, (s.enterReleasing b).bay b =
      { s.bay b with link, session := { (s.bay b).session with state := .releasing, current := none } } ∧
    ((s.bay b).session.latched ≠ none → link.exchange.map (·.frame) = some .release) := by
  obtain ⟨link, bay⟩ := sendLatched_bay (s.updSession b fun x => { x with state := .releasing, current := none }) b .release
  refine ⟨link, bay.trans (by rw [updSession_bay_self]), fun latched => ?_⟩
  have sent := sendLatched_frame_sent (s := s.updSession b fun x => { x with state := .releasing, current := none }) (b := b) .release
    (by rw [State.session, updSession_bay_self]; exact latched)
  rwa [bay] at sent

/-- A bay whose exchange has its reply: the exchange is closed (R98, R103). -/
def State.replied (s : State) (b : BayId) (x : Exchange) : State := (s.heardAt b).closeExchange b x

theorem replied_bay (s : State) (b : BayId) (x : Exchange) : (s.replied b x).bay b = { s.bay b with
    link := { (s.bay b).link.heard s.clock with exchange := none, lastRetries := x.retriesUsed } } := by
  rw [State.replied, closeExchange_bay, heardAt_bay]

theorem replied_frame (s : State) (b : BayId) (x : Exchange) : (s.replied b x).ks = s.ks ∧ (s.replied b x).ceu = s.ceu ∧
    (s.replied b x).cipher = s.cipher ∧ (s.replied b x).prof = s.prof ∧ (s.replied b x).clock = s.clock ∧
    (s.replied b x).writer = s.writer ∧ (s.replied b x).intake = s.intake ∧ (s.replied b x).engine = s.engine :=
  ⟨rfl, rfl, rfl, rfl, rfl, rfl, rfl, rfl⟩

theorem replied_other (s : State) (b : BayId) (x : Exchange) {c : BayId} (other : c ≠ b) : (s.replied b x).bay c = s.bay c :=
  (closeExchange_other _ _ _ _ other).trans (heardAt_other s b other)

/-- A reply taken by the exchange reaches the session (R98, R103). -/
theorem exec_reply {s : State} {b : BayId} {c : Instr} {f : TerminalFrame} (on : s.engine ≠ .off) (loaded : s.engine ≠ .loading)
    (command : exec c s = .next (s.runBays fun s => s.receiveTerminal b f)) (running : (s.bay b).running ≠ none) {x : Exchange}
    (opened : (s.bay b).link.exchange = some x) (own : f.seq = x.seq) (expected : f.matches x.expected = true) :
    exec c s = .next (s.run fun _ => (s.quiet.replied b x).sessionReply b f) := by
  rw [command]
  refine next_runBays_eq on loaded ((receiveTerminal_eq ..).trans (takeFrame_reply ?_ ?_ own expected))
  · rw [heardAt_bay]
    exact running
  · rw [heardAt_bay]
    exact (Link.heard_frame ..).1.trans opened

theorem sessionReply_probing {s : State} {b : BayId} {r : RunningOrder} (state : (s.session b).state = .probing)
    (running : (s.bay b).running = some r) (seq : Byte) (d : Identity) :
    s.sessionReply b (.ident seq d.terminal d.model d.caps d.occupancy) = s.identified b r.plan d := by
  simp only [State.sessionReply, state, running]

/-- What an identified terminal leads to, at its bay and in the key store's requests (R120 to R123). -/
structure State.identifies (s t : State) (b : BayId) (plan : Plan) (d : Identity) : Prop where
  identity : (t.session b).identity = some d
  others : s.otherBaysSame t b
  cipher : t.cipher = s.cipher
  queue : t.writer.queue = s.writer.queue
  unmatched : s.resolve plan d = none →
    (t.bay b).counters.unmatched = countUp (s.bay b).counters.unmatched ∧ (t.session b).state = .awaitRemoval ∧
    t.ks.requests = s.ks.requests ∧ (t.bay b).link.exchange = (s.bay b).link.exchange
  resolved : ∀ latched, s.resolve plan d = some latched →
    (t.session b).latched = some latched ∧ (t.session b).records = plan.items.map (·.recordFor d) ∧
    (t.bay b).counters.skippedItems = min ((s.bay b).counters.skippedItems +
      (plan.items.map (·.recordFor d)).countP (fun i => !i.applies)) 65535
  claims : s.resolve plan d ≠ none → (∃ i ∈ plan.items.map (·.recordFor d), i.applies = true) →
    (t.session b).state = .claiming ∧ (t.bay b).link.exchange = (s.bay b).link.exchange ∧
    ∃ before i after, plan.items.map (·.recordFor d) = before ++ i :: after ∧ (t.session b).current = some before.length ∧
      i.applies = true ∧ (∀ j ∈ before, j.applies = false) ∧ t.ks.requests = s.ks.requests ++ [.claim b i.item.base]
  skips : s.resolve plan d ≠ none → (∀ i ∈ plan.items.map (·.recordFor d), i.applies = false) →
    (t.session b).state = .releasing ∧
    (t.bay b).counters.skippedTerminals = countUp (s.bay b).counters.skippedTerminals ∧
    (t.bay b).link.exchange.map (·.frame) = some .release ∧ t.ks.requests = s.ks.requests

section
variable {s : State} {b : BayId} {plan : Plan} {d : Identity}

theorem identifies_of_unmatched (plugged : (s.session b).gone = false) (resolution : s.resolve plan d = none) :
    s.identifies (s.identified b plan d) b plan d := by
  have plugged : (s.bay b).session.gone = false := plugged
  have bay := awaitRemoval_bay (s := (s.updSession b fun x => { x with identity := some d }).updCounters b fun c =>
    { c with unmatched := countUp c.unmatched }) (b := b) (by
      rw [State.session, updCounters_bay_self, updSession_bay_self]
      exact plugged)
  rw [updCounters_bay_self, updSession_bay_self] at bay
  rw [identified_unmatched resolution]
  refine ⟨?_, fun c other => by simp [other], by simp, by simp, fun _ => ⟨?_, ?_, by simp, ?_⟩, fun latched other => ?_, fun some => absurd resolution some,
    fun some => absurd resolution some⟩
  · rw [State.session, bay]
  · rw [bay]
  · rw [State.session, bay]
  · rw [bay]
  · rw [resolution] at other
    cases other

variable {latched : Fin 16 × Profile} (resolution : s.resolve plan d = some latched)
include resolution

/-- The state of a bay that asks for its first claim (R123). -/
theorem identifies_of_claims (applying : ∃ i ∈ plan.items.map (·.recordFor d), i.applies = true) :
    s.identifies (s.identified b plan d) b plan d := by
  obtain ⟨before, i, after, records, applies, earlier⟩ := exists_first_applying applying
  rw [identified_claims resolution records applies earlier]
  obtain ⟨resolvedOthers, resolvedCipher, resolvedWriter, resolvedKs⟩ :=
    resolved_frame s b d latched (plan.items.map (·.recordFor d))
  obtain ⟨others, cipher, writer, requests⟩ :=
    firstClaim_frame (s.resolved b d latched (plan.items.map (·.recordFor d))) b before.length i.item.base
  have bay := firstClaim_bay (s.resolved b d latched (plan.items.map (·.recordFor d))) b before.length i.item.base
  rw [resolved_bay] at bay
  rw [resolvedKs] at requests
  generalize (s.resolved b d latched (plan.items.map (·.recordFor d))).firstClaim b before.length i.item.base = t at *
  have session := congrArg Bay.session bay
  refine ⟨?_, fun c other => (others c other).trans (resolvedOthers c other), cipher.trans resolvedCipher,
    by rw [writer, resolvedWriter], fun none => ?_, fun other hits => ?_,
    fun _ _ => ⟨?_, ?_, before, i, after, records, ?_, applies, earlier, requests⟩, fun _ skips => ?_⟩
  · rw [State.session, session]
    rfl
  · rw [resolution] at none
    cases none
  · obtain rfl : latched = other := Option.some.inj (resolution.symm.trans hits)
    rw [State.session, session]
    exact ⟨rfl, rfl, by rw [bay]; rfl⟩
  · rw [State.session, session]
  · rw [bay]
    rfl
  · rw [State.session, session]
  · obtain ⟨i, mem, applies⟩ := applying
    exact absurd ((skips i mem).symm.trans applies) nofun

theorem identifies_of_skips (skips : ∀ i ∈ plan.items.map (·.recordFor d), i.applies = false) :
    s.identifies (s.identified b plan d) b plan d := by
  obtain ⟨link, bay, sent⟩ := enterReleasing_bay ((s.resolved b d latched (plan.items.map (·.recordFor d))).updCounters b fun c =>
    { c with skippedTerminals := countUp c.skippedTerminals }) b
  rw [updCounters_bay_self, resolved_bay] at bay sent
  rw [identified_skips resolution skips]
  have session := congrArg Bay.session bay
  have counters := congrArg Bay.counters bay
  refine ⟨?_, fun c other => by simp [State.resolved, other], by simp [State.resolved], by simp [State.resolved], fun none => ?_, fun other hits => ?_,
    fun _ some => ?_, fun _ _ => ⟨?_, ?_, ?_, by simp [State.resolved]⟩⟩
  · rw [State.session, session]
    rfl
  · rw [resolution] at none
    cases none
  · obtain rfl : latched = other := Option.some.inj (resolution.symm.trans hits)
    rw [State.session, session, counters]
    exact ⟨rfl, rfl, rfl⟩
  · obtain ⟨i, mem, applies⟩ := some
    exact absurd ((skips i mem).symm.trans applies) nofun
  · rw [State.session, session]
  · rw [counters]
    rfl
  · rw [bay]
    exact sent nofun

end

theorem identified_identifies {s : State} {b : BayId} (plan : Plan) (d : Identity) (plugged : (s.session b).gone = false) :
    s.identifies (s.identified b plan d) b plan d := by
  cases resolution : s.resolve plan d with
  | none => exact identifies_of_unmatched plugged resolution
  | some latched =>
    by_cases applying : ∃ i ∈ plan.items.map (·.recordFor d), i.applies = true
    · exact identifies_of_claims resolution applying
    · exact identifies_of_skips resolution fun i mem => Bool.eq_false_iff.mpr fun applies => applying ⟨i, mem, applies⟩

/-- What a command tells of its effect on one bay's terminal. -/
theorem State.identifies.run {s u : State} {f : State → State} {b : BayId} {plan : Plan} {d : Identity} (on : s.engine ≠ .off)
    (h : u.identifies (f s.quiet) b plan d) : u.identifies (s.run f) b plan d := by
  obtain ⟨-, bays, sessions, -⟩ := run_parts s f on
  have frame := run_frame s f on
  obtain ⟨identity, others, cipher, queue, unmatched, resolved, claims, skips⟩ := h
  refine ⟨?_, fun c other => (bays c).trans (others c other), ?_, ?_, ?_, ?_, ?_, ?_⟩
  · rw [sessions]; exact identity
  · rw [frame.2.2.2.2.1]; exact cipher
  · rw [show (s.run f).writer.queue = (f s.quiet).writer.queue by simp [frame]]; exact queue
  · rw [sessions, bays, frame.2.2.1]; exact unmatched
  · rw [sessions, bays]; exact resolved
  · rw [sessions, bays, frame.2.2.1]; exact claims
  · rw [sessions, bays, frame.2.2.1]; exact skips

/-- The items of a list before a place, and the item there. -/
theorem first_applying_place {l before after : List ItemRecord} {i : ItemRecord} (split : l = before ++ i :: after) :
    l[before.length]? = some i ∧ l.take before.length = before := by
  subst split
  exact ⟨by simp, by simp⟩

/-- The bay that takes the reply of a terminal in PROBING. -/
def State.identifying (s : State) (b : BayId) (x : Exchange) (plan : Plan) (d : Identity) : State := (s.replied b x).identified b plan d

theorem exec_ident {s : State} {b : BayId} {seq : Byte} {r : RunningOrder} {x : Exchange} (on : s.engine ≠ .off)
    (loaded : s.engine ≠ .loading) (running : (s.bay b).running = some r) (opened : (s.bay b).link.exchange = some x) (own : x.seq = seq)
    (expected : x.expected = .ident) (state : (s.session b).state = .probing) (d : Identity) :
    exec (.ident b seq d.terminal d.model d.caps d.occupancy) s = .next (s.run fun _ => s.quiet.identifying b x r.plan d) := by
  rw [exec_reply on loaded (exec_terminalFrame (.inl ⟨seq, d.terminal, d.model, d.caps, d.occupancy, rfl, rfl⟩))
    (by rw [running]; nofun) opened own.symm (by rw [expected]; rfl)]
  have reply := sessionReply_probing (s := s.quiet.replied b x) (b := b) (r := r) (by rw [State.session, replied_bay]; exact state)
    (by rw [replied_bay]; exact running) seq d
  rw [reply]
  rfl

/-- Settles O46. -/
theorem identResolvesTerminal : Obligations.IdentResolvesTerminal := by
  refine ⟨fun s b seq terminal model caps occupancy r x on loaded running opened own expected state plugged =>
    ⟨_, exec_ident on loaded running opened own expected state { terminal, model, caps, occupancy }, ?_⟩, lookup_eq⟩
  have bay := replied_bay s.quiet b x
  have plugged' : ((s.quiet.replied b x).session b).gone = false := by rw [State.session, bay]; exact plugged
  obtain ⟨identity, others, cipher, queue, unmatched, resolved, claims, skips⟩ := State.identifies.run on
    (f := fun _ => s.quiet.identifying b x r.plan { terminal, model, caps, occupancy })
    (identified_identifies r.plan { terminal, model, caps, occupancy } plugged')
  rw [bay] at unmatched resolved claims skips
  refine ⟨identity, fun c other => (others c other).trans (replied_other s.quiet b x other), ?slots, ?ceu, cipher, ?prof,
    ?clock, queue, fun q find => ⟨fun misses => ?unmatched, fun k hit fits => ?resolved⟩⟩
  case slots | ceu | prof | clock => simp [run_frame _ _ on, State.identifying, replied_frame]
  case unmatched =>
    have misses : (s.quiet.replied b x).resolve r.plan { terminal, model, caps, occupancy } = none :=
      resolve_none (by obtain rfl := find; exact misses)
    exact unmatched misses
  case resolved =>
    have hits : (s.quiet.replied b x).resolve r.plan { terminal, model, caps, occupancy } = some (k, s.prof.profiles[k]) :=
      resolve_some (by obtain rfl := find; exact hit) fits
    have some : (s.quiet.replied b x).resolve r.plan { terminal, model, caps, occupancy } ≠ none := by rw [hits]; nofun
    obtain ⟨latched, records, skipped⟩ := resolved _ hits
    obtain ⟨items, fields⟩ := recordFor_fields r.plan.items { terminal, model, caps, occupancy }
    rw [records]
    refine ⟨latched, items, fields, skipped, fun applying => ?_, fun nothing => skips some nothing⟩
    obtain ⟨claiming, closed, before, i, after, split, current, applies, earlier, requests⟩ := claims some applying
    obtain ⟨place, taken⟩ := first_applying_place split
    exact ⟨claiming, closed, before.length, i, current, place, applies, by rw [taken]; exact earlier, requests⟩

end Sys2Proof.Machine
end

section

set_option Elab.async false

/-!
SUPPORT. The deliveries of LOADING, and the ACK that files a terminal (R109, R110, R127 to R131).
-/

namespace Sys2Proof.Machine

/-! ## The frames of LOADING (R109, R110, R127) -/

section
variable {s : State} {b : BayId}

theorem sendPart_eq {q : Fin 16} {p : Profile} {block : List Byte} {n : Nat} (latched : (s.session b).latched = some (q, p))
    (buffered : ((s.bay b).buffer[n]?).bind (·.block) = some block) (i : ItemRecord) (number : Nat) : s.sendPart b n i number =
      (s.updSession b fun x => { x with current := some n, delivery := .part number }).openExchange b
        (.part i.item.register number (chunkCount block.length p.chunkSize) (chunkOf block p.chunkSize number))
        p.retryLimit p.replyTimeout := by
  simp only [State.sendPart, latched, buffered]

/-- The bay that sends a chunk of an item (R109). -/
theorem sendPart_bay {q : Fin 16} {p : Profile} {block : List Byte} {n : Nat} (latched : (s.session b).latched = some (q, p))
    (buffered : ((s.bay b).buffer[n]?).bind (·.block) = some block) (i : ItemRecord) (number : Nat) : (s.sendPart b n i number).bay b =
      { s.bay b with
        session := { (s.bay b).session with current := some n, delivery := .part number }
        link := (s.bay b).link.opened
          (.part i.item.register number (chunkCount block.length p.chunkSize) (chunkOf block p.chunkSize number))
          p.retryLimit p.replyTimeout } := by
  rw [sendPart_eq latched buffered, openExchange_bay, updSession_bay_self]

theorem sendLatched_eq {q : Fin 16} {p : Profile} (latched : (s.session b).latched = some (q, p)) (frame : EngineFrame) :
    s.sendLatched b frame = s.openExchange b frame p.retryLimit p.replyTimeout := by
  simp only [State.sendLatched, latched]

/-- The bay that sends the END of an item (R110). -/
theorem sendEnd_bay {q : Fin 16} {p : Profile} (latched : (s.session b).latched = some (q, p)) (i : ItemRecord) :
    (s.sendEnd b i).bay b = { s.bay b with
      session := { (s.bay b).session with delivery := .endItem }
      link := (s.bay b).link.opened (.endItem i.item.register i.item.delivery.isWrapped) p.retryLimit p.replyTimeout } := by
  rw [State.sendEnd, sendLatched_eq (q := q) (p := p) (by rw [State.session, updSession_bay_self]; exact latched), openExchange_bay,
    updSession_bay_self]

theorem deliverFrom_next {n m : Nat} {i : ItemRecord} (first : firstApplicable ((s.session b).records.drop n) n = some (m, i)) :
    s.deliverFrom b n = s.sendPart b m i 1 := by
  simp only [State.deliverFrom, first]

theorem deliverFrom_last {n : Nat} (none : firstApplicable ((s.session b).records.drop n) n = none) :
    s.deliverFrom b n = s.enterReleasing b := by
  simp only [State.deliverFrom, none]

end

/-! ### What no step of LOADING changes -/

/-- Bays that differ in the link and the session alone. -/
def Bay.delivers (x y : Bay) : Prop := ∃ link session, y = { x with link, session }

theorem Bay.delivers.rest {x y : Bay} (h : x.delivers y) : y.buffer = x.buffer ∧ y.counters = x.counters := by
  obtain ⟨link, session, rfl⟩ := h
  exact ⟨rfl, rfl⟩

theorem sendLatched_delivers (s : State) (b : BayId) (f : Session → Session) (frame : EngineFrame) :
    (s.bay b).delivers (((s.updSession b f).sendLatched b frame).bay b) := by
  obtain ⟨link, bay⟩ := sendLatched_bay (s.updSession b f) b frame
  exact ⟨link, f (s.bay b).session, by rw [bay, updSession_bay_self]⟩

theorem sendPart_delivers (s : State) (b : BayId) (n : Nat) (i : ItemRecord) (number : Nat) :
    (s.bay b).delivers ((s.sendPart b n i number).bay b) := by
  unfold State.sendPart
  split
  · rw [openExchange_bay, updSession_bay_self]
    exact ⟨_, _, rfl⟩
  · exact ⟨_, _, rfl⟩

theorem deliverFrom_delivers (s : State) (b : BayId) (n : Nat) : (s.bay b).delivers ((s.deliverFrom b n).bay b) := by
  unfold State.deliverFrom
  split
  · exact sendPart_delivers ..
  · exact sendLatched_delivers ..

theorem loadingReply_ack_delivers (s : State) (b : BayId) (seq : Byte) :
    (s.bay b).delivers ((s.loadingReply b (.ack seq)).bay b) := by
  unfold State.loadingReply
  dsimp only
  split
  · exact deliverFrom_delivers ..
  · split
    · split
      · exact sendPart_delivers ..
      · exact sendLatched_delivers ..
    · exact ⟨_, _, rfl⟩
  · split
    next given => cases given
    · exact ⟨_, _, rfl⟩
  · exact ⟨_, _, rfl⟩

/-! ## The replies of LOADING -/

section
variable {s : State} {b : BayId}

theorem sessionReply_loading (state : (s.session b).state = .loading) (f : TerminalFrame) : s.sessionReply b f = s.loadingReply b f := by
  simp only [State.sessionReply, state]

theorem loadingReply_begin (place : (s.session b).delivery = .begin) (f : TerminalFrame) : s.loadingReply b f = s.deliverFrom b 0 := by
  simp only [State.loadingReply, place]

variable {q : Fin 16} {p : Profile} {n : Nat} {i : ItemRecord} (latched : (s.session b).latched = some (q, p))
  (current : (s.session b).current = some n) (record : (s.session b).records[n]? = some i)
include current record

theorem loadingReply_endItem (place : (s.session b).delivery = .endItem) (seq register : Byte) (value : CheckValue) :
    s.loadingReply b (.check seq register value) =
      if register.toNat = i.item.register.val ∧ ((s.bay b).buffer[n]?).bind (·.checkValue) = some value then
        (s.updSession b fun y => y.updRecord n fun i => { i with stage := .delivered }).deliverFrom b (n + 1)
      else s.unwind b .checkMismatch := by
  simp only [State.loadingReply, place, current, record]

include latched

theorem loadingReply_part {k : Nat} {block : List Byte} (place : (s.session b).delivery = .part k)
    (buffered : ((s.bay b).buffer[n]?).bind (·.block) = some block) (f : TerminalFrame) : s.loadingReply b f =
      if k < chunkCount block.length p.chunkSize then s.sendPart b n i (k + 1) else s.sendEnd b i := by
  simp only [State.loadingReply, place, current, record, latched, buffered]

end

/-- A record changed at its place. -/
theorem updRecord_eq {x : Session} {n : Nat} {i : ItemRecord} (record : x.records[n]? = some i) (f : ItemRecord → ItemRecord) :
    x.updRecord n f = { x with records := x.records.set n (f i) } := by
  obtain ⟨inside, rfl⟩ := List.getElem?_eq_some_iff.mp record
  rw [Session.updRecord, List.modify_eq_set_get _ inside]
  rfl

/-- The first applicable item at or after a place, by what lies before it. -/
theorem firstApplicable_drop {l : List ItemRecord} {n m : Nat} {j : ItemRecord} (after : n ≤ m) (record : l[m]? = some j)
    (applies : j.applies = true) (earlier : ∀ x ∈ (l.take m).drop n, x.applies = false) :
    firstApplicable (l.drop n) n = some (m, j) := by
  obtain ⟨inside, rfl⟩ := List.getElem?_eq_some_iff.mp record
  have split : l.drop n = (l.take m).drop n ++ l[m] :: l.drop (m + 1) := by
    rw [← List.drop_eq_getElem_cons inside, ← List.drop_append_of_le_length (by simp; omega), List.take_append_drop]
  rw [split, firstApplicable_of_first earlier applies]
  have length : ((l.take m).drop n).length = m - n := by simp; omega
  rw [length, Nat.add_sub_cancel' after]

theorem exec_loadingReply {s : State} {b : BayId} {c : Instr} {f : TerminalFrame} (on : s.engine ≠ .off) (loaded : s.engine ≠ .loading)
    (command : exec c s = .next (s.runBays fun s => s.receiveTerminal b f)) (running : (s.bay b).running ≠ none) {x : Exchange}
    (opened : (s.bay b).link.exchange = some x) (own : f.seq = x.seq) (expected : f.matches x.expected = true)
    (state : (s.session b).state = .loading) : exec c s = .next (s.run fun _ => (s.quiet.replied b x).loadingReply b f) := by
  rw [exec_reply on loaded command running opened own expected,
    sessionReply_loading (s := s.quiet.replied b x) (by rw [State.session, replied_bay]; exact state)]

theorem opened_frame (l : Link) (frame : EngineFrame) (retryLimit timeout : Nat) :
    (l.opened frame retryLimit timeout).exchange.map (·.frame) = some frame := by
  rw [Link.opened_exchange]
  rfl

section
variable {s : State} {b : BayId} {q : Fin 16} {p : Profile} (latched : (s.session b).latched = some (q, p))
include latched

/-- The first chunk of the first applicable item follows BEGIN (R127). -/
theorem loadingReply_first {n : Nat} {i : ItemRecord} {block : List Byte} (place : (s.session b).delivery = .begin)
    (record : (s.session b).records[n]? = some i) (applies : i.applies = true)
    (earlier : ∀ j ∈ (s.session b).records.take n, j.applies = false)
    (buffered : ((s.bay b).buffer[n]?).bind (·.block) = some block) (f : TerminalFrame) : (s.loadingReply b f).bay b = { s.bay b with
      session := { (s.bay b).session with current := some n, delivery := .part 1 }
      link := (s.bay b).link.opened (.part i.item.register 1 (chunkCount block.length p.chunkSize) (chunkOf block p.chunkSize 1))
        p.retryLimit p.replyTimeout } := by
  have first := firstApplicable_drop (Nat.zero_le n) record applies earlier
  rw [loadingReply_begin place, deliverFrom_next first, sendPart_bay latched buffered]

/-- The next chunk follows a PART, and END the last one (R109, R110). -/
theorem loadingReply_chunk {n k : Nat} {i : ItemRecord} {block : List Byte} (place : (s.session b).delivery = .part k)
    (current : (s.session b).current = some n) (record : (s.session b).records[n]? = some i)
    (buffered : ((s.bay b).buffer[n]?).bind (·.block) = some block) (f : TerminalFrame) :
    ((s.loadingReply b f).session b).state = (s.session b).state ∧
    (k < chunkCount block.length p.chunkSize →
      ((s.loadingReply b f).session b).delivery = .part (k + 1) ∧ ((s.loadingReply b f).bay b).link.exchange.map (·.frame) =
        some (.part i.item.register (k + 1) (chunkCount block.length p.chunkSize) (chunkOf block p.chunkSize (k + 1)))) ∧
    (chunkCount block.length p.chunkSize ≤ k →
      ((s.loadingReply b f).session b).delivery = .endItem ∧ ((s.loadingReply b f).bay b).link.exchange.map (·.frame) =
        some (.endItem i.item.register i.item.delivery.isWrapped)) := by
  have reply := loadingReply_part latched current record place buffered f
  by_cases more : k < chunkCount block.length p.chunkSize
  · have bay := (congrArg (fun t => t.bay b) (reply.trans (if_pos more))).trans (sendPart_bay latched buffered i (k + 1))
    dsimp only at bay
    rw [State.session, bay]
    exact ⟨rfl, fun _ => ⟨rfl, opened_frame ..⟩, fun last => absurd more (Nat.not_lt.mpr last)⟩
  · have bay := (congrArg (fun t => t.bay b) (reply.trans (if_neg more))).trans (sendEnd_bay latched i)
    dsimp only at bay
    rw [State.session, bay]
    exact ⟨rfl, fun less => absurd less more, fun _ => ⟨rfl, opened_frame ..⟩⟩

variable {n : Nat} {i : ItemRecord} {k : KeyPlace} (place : (s.session b).delivery = .endItem)
  (current : (s.session b).current = some n) (record : (s.session b).records[n]? = some i) (buffered : (s.bay b).buffer[n]? = some k)
include place current record buffered

/-- The state in which the CHECK of an item has delivered it. -/
theorem loadingReply_delivered {seq register : Byte} {value : CheckValue} (right : register.toNat = i.item.register.val)
    (same : k.checkValue = some value) : s.loadingReply b (.check seq register value) =
      (s.updSession b fun y => { y with records := y.records.set n { i with stage := .delivered } }).deliverFrom b (n + 1) := by
  rw [loadingReply_endItem current record place, if_pos ⟨right, by rw [buffered]; exact same⟩]
  have updated : (s.updSession b fun y => y.updRecord n fun i => { i with stage := .delivered }) =
      s.updSession b fun y => { y with records := y.records.set n { i with stage := .delivered } } :=
    congrArg (fun session => s.updBay b fun x => { x with session })
      (updRecord_eq (x := s.session b) record fun i => { i with stage := .delivered })
  rw [updated]

omit latched in
theorem loadingReply_mismatch {seq register : Byte} {value : CheckValue} (wrong : register.toNat ≠ i.item.register.val ∨
    k.checkValue ≠ some value) : s.loadingReply b (.check seq register value) = s.unwind b .checkMismatch := by
  rw [loadingReply_endItem current record place]
  refine if_neg ?_
  rintro ⟨right, same⟩
  rw [buffered] at same
  obtain other | differs := wrong
  · exact other right
  · exact differs same

end

/-- A bay on which the CHECK of item `n` has delivered it. -/
def State.delivered (s : State) (b : BayId) (n : Nat) (i : ItemRecord) : State :=
  s.updSession b fun y => { y with records := y.records.set n { i with stage := .delivered } }

section
variable {s : State} {b : BayId} {q : Fin 16} {p : Profile} (latched : (s.session b).latched = some (q, p)) (n : Nat) (i : ItemRecord)
include latched

omit latched in
theorem deliverFrom_records (s : State) (b : BayId) (n : Nat) : ((s.deliverFrom b n).session b).records = (s.session b).records := by
  unfold State.deliverFrom
  split
  · unfold State.sendPart
    split
    · rw [openExchange_session, updSession_session_self]
    · rfl
  · unfold State.enterReleasing
    rw [sendLatched_session, updSession_session_self]

omit latched in
theorem delivered_records : ((s.delivered b n i).session b).records = (s.session b).records.set n { i with stage := .delivered } := by
  rw [State.session, State.delivered, updSession_bay_self]
  rfl

/-- After the last applicable item the terminal is released (R127). -/
theorem delivered_last (last : ∀ j ∈ (s.session b).records.drop (n + 1), j.applies = false) :
    (((s.delivered b n i).deliverFrom b (n + 1)).session b).state = .releasing ∧
    (((s.delivered b n i).deliverFrom b (n + 1)).bay b).link.exchange.map (·.frame) = some .release := by
  have records : ((s.delivered b n i).session b).records.drop (n + 1) = (s.session b).records.drop (n + 1) := by
    rw [State.session, State.delivered, updSession_bay_self]
    exact List.drop_set_of_lt (Nat.lt_succ_self n)
  obtain ⟨link, bay, sent⟩ := enterReleasing_bay (s.delivered b n i) b
  rw [deliverFrom_last (by rw [records]; exact firstApplicable_of_none last _), State.session, bay, State.delivered,
    updSession_bay_self]
  refine ⟨rfl, sent ?_⟩
  rw [State.delivered, updSession_bay_self]
  change (s.session b).latched ≠ none
  rw [latched]
  nofun

/-- The first chunk of the next applicable item follows a delivered one (R127). -/
theorem delivered_next {m : Nat} {j : ItemRecord} {block : List Byte} (later : n < m) (record : (s.session b).records[m]? = some j)
    (applies : j.applies = true) (earlier : ∀ l ∈ ((s.session b).records.take m).drop (n + 1), l.applies = false)
    (buffered : ((s.bay b).buffer[m]?).bind (·.block) = some block) : ((s.delivered b n i).deliverFrom b (n + 1)).bay b = { s.bay b with
      session := { (s.bay b).session with
        records := (s.session b).records.set n { i with stage := .delivered }, current := some m, delivery := .part 1 }
      link := (s.bay b).link.opened (.part j.item.register 1 (chunkCount block.length p.chunkSize) (chunkOf block p.chunkSize 1))
        p.retryLimit p.replyTimeout } := by
  have records : ((s.delivered b n i).session b).records.drop (n + 1) = (s.session b).records.drop (n + 1) := by
    rw [State.session, State.delivered, updSession_bay_self]
    exact List.drop_set_of_lt (Nat.lt_succ_self n)
  have first := firstApplicable_drop later record applies earlier
  rw [← records] at first
  rw [deliverFrom_next first, sendPart_bay (q := q) (p := p) (block := block), State.delivered, updSession_bay_self]
  · rfl
  · rw [State.session, State.delivered, updSession_bay_self]
    exact latched
  · rw [State.delivered, updSession_bay_self]
    exact buffered

end

theorem replied_session (s : State) (b : BayId) (x : Exchange) : (s.replied b x).session b = s.session b := by
  rw [State.session, replied_bay]
  rfl

theorem replied_buffer (s : State) (b : BayId) (x : Exchange) : ((s.replied b x).bay b).buffer = (s.bay b).buffer := by
  rw [replied_bay]

/-- A link whose exchange has closed still counts its SEQ from where it was. -/
theorem replied_seq (s : State) (b : BayId) (x : Exchange) : ((s.replied b x).bay b).link.seq = (s.bay b).link.seq := by
  rw [replied_bay]
  exact (Link.heard_frame ..).2.2.1

/-- What a reply of LOADING leaves alone. -/
theorem run_loadingReply_frame {s : State} (on : s.engine ≠ .off) (b : BayId) (x : Exchange) (f : TerminalFrame) :
    s.otherBaysSame (s.run fun _ => (s.quiet.replied b x).loadingReply b f) b ∧
    (s.run fun _ => (s.quiet.replied b x).loadingReply b f).ks = s.ks ∧
    (s.run fun _ => (s.quiet.replied b x).loadingReply b f).ceu = s.ceu ∧
    (s.run fun _ => (s.quiet.replied b x).loadingReply b f).cipher = s.cipher ∧
    (s.run fun _ => (s.quiet.replied b x).loadingReply b f).prof = s.prof ∧
    (s.run fun _ => (s.quiet.replied b x).loadingReply b f).writer.queue = s.writer.queue ∧
    (s.run fun _ => (s.quiet.replied b x).loadingReply b f).clock = s.clock := by
  obtain ⟨-, bays, -, -⟩ := run_parts s (fun _ => (s.quiet.replied b x).loadingReply b f) on
  refine ⟨fun c other => (bays c).trans ?_, ?_⟩
  · rw [loadingReply_other _ _ _ _ other, replied_other _ _ _ other]
    rfl
  · simp [run_frame _ _ on, replied_frame]

theorem chunkOf_first (block : List Byte) (size : Nat) : chunkOf block size 1 = block.take size := by
  simp [chunkOf]

/-- Settles O47. -/
theorem deliveryByReplies : Obligations.DeliveryByReplies := by
  refine ⟨fun s b seq x q p on loaded running opened own expected state latched => ⟨_, exec_loadingReply (f := .ack seq) on loaded rfl
    running opened own.symm (by rw [expected]; rfl) state, ?ack⟩, fun s b seq register value x q p n i k on loaded running opened own
    expected state latched place current record buffered => ⟨_, exec_loadingReply (f := .check seq register value) on loaded rfl running
    opened own.symm (by rw [expected]; rfl) state, ?check⟩⟩
  case ack =>
    obtain ⟨others, ks, ceu, cipher, prof, queue, clock⟩ := run_loadingReply_frame on b x (.ack seq)
    obtain ⟨-, bays, sessions, -⟩ := run_parts s (fun _ => (s.quiet.replied b x).loadingReply b (.ack seq)) on
    obtain ⟨buffer, counters⟩ := (loadingReply_ack_delivers (s.quiet.replied b x) b seq).rest
    have session := replied_session s.quiet b x
    have places := replied_buffer s.quiet b x
    refine ⟨others, ks, ceu, cipher, prof, queue, clock, ?_, ?_, fun n i block place record applies earlier buffered => ?_,
      fun n number i block place current record buffered => ?_⟩
    · rw [bays, buffer, places]
      rfl
    · rw [bays, counters, replied_bay]
      rfl
    · have bay := loadingReply_first (s := s.quiet.replied b x) (b := b) (q := q) (p := p) (by rw [session]; exact latched)
        (by rw [session]; exact place) (by rw [session]; exact record) applies (by rw [session]; exact earlier)
        (by rw [places]; exact buffered) (.ack seq)
      rw [sessions, bays, State.session, bay]
      refine ⟨(congrArg Session.state session).trans state, rfl, rfl, ?_, ?_⟩
      · rw [Link.opened_seq, replied_seq]
        rfl
      · rw [opened_frame, chunkOf_first]
    · obtain ⟨same, more, last⟩ := loadingReply_chunk (s := s.quiet.replied b x) (b := b) (q := q) (p := p)
        (by rw [session]; exact latched) (by rw [session]; exact place) (by rw [session]; exact current)
        (by rw [session]; exact record) (by rw [places]; exact buffered) (.ack seq)
      rw [sessions, bays]
      exact ⟨same.trans ((congrArg Session.state session).trans state), more, last⟩
  case check =>
    obtain ⟨others, ks, ceu, cipher, prof, queue, clock⟩ := run_loadingReply_frame on b x (.check seq register value)
    obtain ⟨-, bays, sessions, -⟩ := run_parts s (fun _ => (s.quiet.replied b x).loadingReply b (.check seq register value)) on
    have session := replied_session s.quiet b x
    have places := replied_buffer s.quiet b x
    have latched' : ((s.quiet.replied b x).session b).latched = some (q, p) := by rw [session]; exact latched
    refine ⟨others, ks, ceu, cipher, prof, queue, clock, fun right same => ?_, fun wrong => ?_⟩
    · have effect := loadingReply_delivered (seq := seq) latched' (by rw [session]; exact place) (by rw [session]; exact current)
        (by rw [session]; exact record) (by rw [places]; exact buffered) right same
      rw [sessions, bays, effect]
      have records := (deliverFrom_records ((s.quiet.replied b x).delivered b n i) b (n + 1)).trans (delivered_records n i)
      rw [session] at records
      refine ⟨records, fun last => ?_, fun m j block later listed applies earlier prepared => ?_⟩
      · exact delivered_last latched' n i (by rw [session]; exact last)
      · have bay := delivered_next latched' n i later (by rw [session]; exact listed) applies (by rw [session]; exact earlier)
          (by rw [places]; exact prepared)
        rw [State.delivered] at bay
        rw [State.session, bay]
        exact ⟨(congrArg Session.state session).trans state, rfl, rfl, opened_frame ..⟩
    · have effect := loadingReply_mismatch (seq := seq) (register := register) (value := value) (s := s.quiet.replied b x)
        (by rw [session]; exact place) (by rw [session]; exact current) (by rw [session]; exact record)
        (by rw [places]; exact buffered) wrong
      rw [sessions, bays, effect, unwind_session, session]
      exact ⟨rfl, rfl, unwind_frame_sent _ (by rw [latched']; nofun)⟩

end Sys2Proof.Machine
end

section

set_option Elab.async false

/-!
SUPPORT. The ACK of RELEASE and of ROLLBACK, and the receipts of a terminal (R128, R129, R131, R140).
-/

namespace Sys2Proof.Machine

/-! ## The receipts of a terminal (R131, R140) -/

/-- The check value of an item's place in the key buffer, 0 where there is none. -/
def checkValueAt (buffer : List KeyPlace) (n : Nat) : CheckValue :=
  match buffer[n]? with | some k => k.checkValue.getD 0 | none => 0

theorem checkValueAt_eq (buffer : List KeyPlace) (n : Nat) :
    checkValueAt buffer n = ((buffer[n]?).bind (·.checkValue)).getD 0 := by
  unfold checkValueAt
  cases buffer[n]? <;> rfl

section
variable (x : Session) (b : BayId) (tag : BitVec 32) (outcome : TerminalOutcome) (buffer : List KeyPlace)

theorem receipts_eq : x.receipts b tag outcome buffer = x.records.zipIdx.filterMap fun p =>
    p.1.claim.map fun c => x.receipt b tag outcome p.1 c (checkValueAt buffer p.2) := rfl

/-- What each receipt shows of its item and claim, in plan order. -/
theorem receipts_map {α : Type} (read : Receipt → α) (of : ItemRecord → GrantedClaim → α)
    (shows : ∀ i c value, read (x.receipt b tag outcome i c value) = of i c) :
    (x.receipts b tag outcome buffer).map read = x.records.filterMap fun i => i.claim.map (of i) := by
  have generalised (l : List ItemRecord) (n : Nat) :
      ((l.zipIdx n).filterMap fun p => p.1.claim.map fun c => x.receipt b tag outcome p.1 c (checkValueAt buffer p.2)).map read =
        l.filterMap fun i => i.claim.map (of i) := by
    induction l generalizing n with
    | nil => rfl
    | cons i rest ih =>
      rw [List.zipIdx_cons]
      cases claim : i.claim with
      | none => simp only [List.filterMap_cons, claim, Option.map_none, ih]
      | some c => simp only [List.filterMap_cons, claim, Option.map_some, List.map_cons, shows, ih]
  rw [receipts_eq]
  exact generalised x.records 0

theorem receipts_map_claim {α : Type} (read : Receipt → α) (of : GrantedClaim → α)
    (shows : ∀ i c value, read (x.receipt b tag outcome i c value) = of c) :
    (x.receipts b tag outcome buffer).map read = (x.records.filterMap (·.claim)).map of := by
  rw [receipts_map x b tag outcome buffer read (fun _ => of) shows, List.map_filterMap]

theorem filterMap_claim {α : Type} (l : List ItemRecord) (of : ItemRecord → α) :
    (l.filterMap fun i => i.claim.map fun _ => of i) = (l.filter (·.claim.isSome)).map of := by
  induction l with
  | nil => rfl
  | cons i rest ih =>
    cases claim : i.claim with
    | none =>
      rw [List.filterMap_cons, claim, Option.map_none, List.filter_cons_of_neg (by simp [claim])]
      exact ih
    | some c =>
      rw [List.filterMap_cons, claim, Option.map_some, List.filter_cons_of_pos (by simp [claim]), List.map_cons]
      exact congrArg _ ih

theorem receipts_map_item {α : Type} (read : Receipt → α) (of : ItemRecord → α)
    (shows : ∀ i c value, read (x.receipt b tag outcome i c value) = of i) :
    (x.receipts b tag outcome buffer).map read = (x.records.filter (·.claim.isSome)).map of := by
  rw [receipts_map x b tag outcome buffer read (fun i _ => of i) shows, filterMap_claim]

/-- The check values of a loaded terminal's receipts. -/
theorem receipts_checkValue (loaded : outcome = .loaded) : (x.receipts b tag outcome buffer).map (·.checkValue) =
    x.records.zipIdx.filterMap fun y => y.1.claim.map fun _ => ((buffer[y.2]?).bind (·.checkValue)).getD 0 := by
  subst loaded
  rw [receipts_eq, List.map_filterMap]
  refine congrArg (fun f => List.filterMap f x.records.zipIdx) (funext fun y => ?_)
  rw [Option.map_map]
  refine congrArg (fun f => Option.map f y.1.claim) (funext fun c => ?_)
  rw [← checkValueAt_eq]
  rfl

theorem receipts_mem {r : Receipt} (mem : r ∈ x.receipts b tag outcome buffer) :
    ∃ i c value, r = x.receipt b tag outcome i c value := by
  rw [receipts_eq, List.mem_filterMap] at mem
  obtain ⟨p, -, filed⟩ := mem
  obtain ⟨c, -, rfl⟩ := Option.map_eq_some_iff.mp filed
  exact ⟨p.1, c, _, rfl⟩

end

/-! ## The ACK that ends a terminal (R128, R129) -/

/-- The session of a terminal whose RELEASE or ROLLBACK is answered ends with this outcome. -/
def Session.ackedAs (x : Session) (outcome : TerminalOutcome) : Prop :=
  (x.state = .releasing ∧ x.begun = true ∧ outcome = .loaded) ∨
    (x.state = .unwinding ∧ outcome = .void (x.reason.getD .terminalLost))

/-- The bay with a loaded terminal counted (R128). -/
def State.countedAs (s : State) (b : BayId) (outcome : TerminalOutcome) : State :=
  if outcome.isVoid then s else s.updCounters b fun c => { c with loaded := countUp c.loaded }

theorem sessionReply_files {s : State} {b : BayId} {outcome : TerminalOutcome} (acked : (s.session b).ackedAs outcome) (seq : Byte) :
    s.sessionReply b (.ack seq) = (s.countedAs b outcome).file b outcome := by
  obtain ⟨state, begun, rfl⟩ | ⟨state, rfl⟩ := acked
  · simp only [State.sessionReply, state, begun, if_true]
    rfl
  · simp only [State.sessionReply, state]
    rfl

theorem countedAs_bay (s : State) (b : BayId) (outcome : TerminalOutcome) : (s.countedAs b outcome).bay b = { s.bay b with
    counters := if outcome.isVoid then (s.bay b).counters else
      { (s.bay b).counters with loaded := countUp (s.bay b).counters.loaded } } := by
  unfold State.countedAs
  cases outcome.isVoid
  · exact updCounters_bay_self s b fun c => { c with loaded := countUp c.loaded }
  · rfl

theorem countedAs_frame (s : State) (b : BayId) (outcome : TerminalOutcome) : (s.countedAs b outcome).ks = s.ks ∧
    (s.countedAs b outcome).prof = s.prof ∧ (s.countedAs b outcome).clock = s.clock ∧ (s.countedAs b outcome).ceu = s.ceu ∧
    (s.countedAs b outcome).cipher = s.cipher ∧ (s.countedAs b outcome).writer = s.writer ∧
    (s.countedAs b outcome).intake = s.intake ∧ ∀ c, c ≠ b → (s.countedAs b outcome).bay c = s.bay c := by
  unfold State.countedAs
  split
  · exact ⟨rfl, rfl, rfl, rfl, rfl, rfl, rfl, fun _ _ => rfl⟩
  · exact ⟨rfl, rfl, rfl, rfl, rfl, rfl, rfl, fun c other => updCounters_other _ _ _ _ other⟩

/-- A terminal that has been filed, with nothing fixed against its plan and still plugged, waits for its removal (R131, R132). -/
theorem allEntered_awaits {s : State} {b : BayId} {outcome : TerminalOutcome} (refusal : (s.session b).refusal = none)
    (ending : (s.session b).ending = .none) (plugged : (s.session b).gone = false) :
    ∃ removal, ((s.allEntered b outcome).leaveTerminal b).bay b = { s.bay b with
      session := { (s.bay b).session.filing outcome with toFile := [], state := .awaitRemoval, removal }
      buffer := []
      counters := (s.bay b).counters.filing outcome } := by
  have bay := allEntered_bay s b outcome
  have session : (s.allEntered b outcome).session b = { (s.bay b).session.filing outcome with toFile := [] } := by
    rw [State.session, bay]
  rw [leaveTerminal_goes (by rw [session]; exact refusal) (by rw [session]; exact ending),
    awaitRemoval_bay (by rw [session]; exact plugged), bay]
  exact ⟨_, rfl⟩

/-- A terminal filed with room for every receipt, nothing fixed against its plan and still plugged. -/
theorem file_awaits {s : State} {b : BayId} {r : RunningOrder} {outcome : TerminalOutcome} (running : (s.bay b).running = some r)
    (refusal : (s.session b).refusal = none) (ending : (s.session b).ending = .none) (plugged : (s.session b).gone = false)
    (fits : s.writer.queue.length + ((s.session b).receipts b r.tag outcome (s.bay b).buffer).length ≤ 16) :
    (∃ removal, (s.file b outcome).bay b = { s.bay b with
      session := { (s.bay b).session.filing outcome with toFile := [], state := .awaitRemoval, removal }
      buffer := []
      counters := (s.bay b).counters.filing outcome }) ∧
    (s.file b outcome).writer.queue = s.writer.queue ++
      ((s.session b).receipts b r.tag outcome (s.bay b).buffer).map (fun y => { y with time := s.clock }) ∧
    (s.file b outcome).ks.requests = s.ks.requests ++ [.release b] := by
  have receipts := receiptsOf_running running outcome
  have room : (s.receiptsOf b outcome).length ≤ s.writer.queueRoom := by
    rw [receipts, Writer.queueRoom]
    omega
  obtain ⟨ks, -, -, -, -, -, -, -, queue⟩ := allEntered_frame s b outcome
  rw [file_fits room]
  refine ⟨allEntered_awaits refusal ending plugged, ?_, ?_⟩
  · rw [← receipts, ← queue]
    simp
  · rw [(leaveTerminal_frame (s.allEntered b outcome) b).2.2.2.2.2.2.2.2.2.2.2.1, ks]

/-- A bay whose RELEASE or ROLLBACK is answered, before its terminal is filed. -/
def State.acked (s : State) (b : BayId) (x : Exchange) (outcome : TerminalOutcome) : State := (s.replied b x).countedAs b outcome

theorem acked_session (s : State) (b : BayId) (x : Exchange) (outcome : TerminalOutcome) :
    (s.acked b x outcome).session b = s.session b := by
  rw [State.session, State.acked, countedAs_bay, replied_bay]
  rfl

theorem acked_bay (s : State) (b : BayId) (x : Exchange) (outcome : TerminalOutcome) :
    ((s.acked b x outcome).bay b).running = (s.bay b).running ∧ ((s.acked b x outcome).bay b).buffer = (s.bay b).buffer ∧
    ((s.acked b x outcome).bay b).counters = if outcome.isVoid then (s.bay b).counters else
      { (s.bay b).counters with loaded := countUp (s.bay b).counters.loaded } := by
  rw [State.acked, countedAs_bay, replied_bay]
  exact ⟨rfl, rfl, rfl⟩

theorem acked_frame (s : State) (b : BayId) (x : Exchange) (outcome : TerminalOutcome) : (s.acked b x outcome).ks = s.ks ∧
    (s.acked b x outcome).prof = s.prof ∧ (s.acked b x outcome).clock = s.clock ∧ (s.acked b x outcome).ceu = s.ceu ∧
    (s.acked b x outcome).cipher = s.cipher ∧ (s.acked b x outcome).writer = s.writer := by
  obtain ⟨ks, prof, clock, ceu, cipher, writer, -, -⟩ := countedAs_frame (s.replied b x) b outcome
  exact ⟨ks, prof, clock, ceu, cipher, writer⟩

theorem acked_other (s : State) (b : BayId) (x : Exchange) (outcome : TerminalOutcome) {c : BayId} (other : c ≠ b) :
    (s.acked b x outcome).bay c = s.bay c :=
  ((countedAs_frame (s.replied b x) b outcome).2.2.2.2.2.2.2 c other).trans (replied_other s b x other)

theorem exec_ack_files {s : State} {b : BayId} {seq : Byte} {x : Exchange} {outcome : TerminalOutcome} (on : s.engine ≠ .off)
    (loaded : s.engine ≠ .loading) (running : (s.bay b).running ≠ none) (opened : (s.bay b).link.exchange = some x) (own : x.seq = seq)
    (expected : x.expected = .ack) (acked : (s.session b).ackedAs outcome) :
    exec (.ack b seq) s = .next (s.run fun _ => (s.quiet.acked b x outcome).file b outcome) := by
  rw [exec_reply (f := .ack seq) on loaded rfl running opened own.symm (by rw [expected]; rfl),
    sessionReply_files (s := s.quiet.replied b x) (by rw [replied_session]; exact acked)]
  rfl

/-- The counters of a terminal that is loaded, and of one that is not (R133). -/
theorem filing_counters {c d : Counters} {outcome : TerminalOutcome} (some : outcome ≠ .none)
    (counted : d = if outcome.isVoid then c else { c with loaded := countUp c.loaded }) :
    (outcome = .loaded → d.filing outcome = { c with loaded := countUp c.loaded }) ∧
    (outcome ≠ .loaded → d.filing outcome = { c with voided := countUp c.voided }) := by
  subst counted
  cases outcome with
  | none => exact absurd rfl some
  | loaded => exact ⟨fun _ => rfl, fun other => absurd rfl other⟩
  | void reason => exact ⟨nofun, fun _ => rfl⟩

theorem ackedAs_some {x : Session} {outcome : TerminalOutcome} (acked : x.ackedAs outcome) : outcome ≠ .none := by
  obtain ⟨-, -, rfl⟩ | ⟨-, rfl⟩ := acked
  · nofun
  · nofun

section
variable {s : State} {b : BayId} {r : RunningOrder} {x : Exchange} {outcome : TerminalOutcome} (on : s.engine ≠ .off)
include on

theorem run_acked_frame : s.otherBaysSame (s.run fun _ => (s.quiet.acked b x outcome).file b outcome) b ∧
    (s.run fun _ => (s.quiet.acked b x outcome).file b outcome).ks.slots = s.ks.slots ∧
    (s.run fun _ => (s.quiet.acked b x outcome).file b outcome).ceu = s.ceu ∧
    (s.run fun _ => (s.quiet.acked b x outcome).file b outcome).cipher = s.cipher ∧
    (s.run fun _ => (s.quiet.acked b x outcome).file b outcome).prof = s.prof ∧
    (s.run fun _ => (s.quiet.acked b x outcome).file b outcome).clock = s.clock := by
  obtain ⟨-, bays, -, -⟩ := run_parts s (fun _ => (s.quiet.acked b x outcome).file b outcome) on
  refine ⟨fun c other => (bays c).trans ?_, ?_⟩
  · rw [file_other _ _ _ _ other, acked_other _ _ _ _ other]
    rfl
  · simp [run_frame _ _ on, acked_frame]

theorem run_acked_files (running : (s.bay b).running = some r) (refusal : (s.session b).refusal = none)
    (ending : (s.session b).ending = .none) (plugged : (s.session b).gone = false)
    (fits : s.writer.queue.length + ((s.session b).receipts b r.tag outcome (s.bay b).buffer).length ≤ 16) :
    (∃ removal, (s.run fun _ => (s.quiet.acked b x outcome).file b outcome).bay b = { (s.quiet.acked b x outcome).bay b with
      session := { (s.bay b).session.filing outcome with toFile := [], state := .awaitRemoval, removal }
      buffer := []
      counters := ((s.quiet.acked b x outcome).bay b).counters.filing outcome }) ∧
    (s.run fun _ => (s.quiet.acked b x outcome).file b outcome).writer.queue = s.writer.queue ++
      ((s.session b).receipts b r.tag outcome (s.bay b).buffer).map (fun y => { y with time := s.clock }) ∧
    (s.run fun _ => (s.quiet.acked b x outcome).file b outcome).ks.requests = s.ks.requests ++ [.release b] := by
  have session := acked_session s.quiet b x outcome
  obtain ⟨sameRunning, sameBuffer, -⟩ := acked_bay s.quiet b x outcome
  obtain ⟨sameKs, -, sameClock, -, -, sameWriter⟩ := acked_frame s.quiet b x outcome
  have frame := run_frame s (fun _ => (s.quiet.acked b x outcome).file b outcome) on
  obtain ⟨-, bays, -, -⟩ := run_parts s (fun _ => (s.quiet.acked b x outcome).file b outcome) on
  obtain ⟨bay, queue, requests⟩ := file_awaits (s := s.quiet.acked b x outcome) (outcome := outcome) (sameRunning.trans running)
    (by rw [session]; exact refusal) (by rw [session]; exact ending) (by rw [session]; exact plugged)
    (by rw [session, sameBuffer, sameWriter]; exact fits)
  rw [session, sameBuffer, sameWriter, sameClock] at queue
  rw [sameKs] at requests
  obtain ⟨removal, bay⟩ := bay
  have own : ((s.quiet.acked b x outcome).bay b).session = (s.bay b).session := session
  rw [own] at bay
  exact ⟨⟨removal, (bays b).trans bay⟩, frame.2.2.2.2.2.2.2.2.2.2.2.2.2.2.2.1.trans queue,
    (congrArg KeyStore.requests frame.2.2.1).trans requests⟩

end

/-- Settles O48. -/
theorem ackFilesTerminal : Obligations.AckFilesTerminal := by
  refine ⟨fun s b seq x r outcome on loaded running opened own expected acked refusal ending plugged fits =>
    ⟨_, exec_ack_files on loaded (by rw [running]; nofun) opened own expected acked, ?filed⟩,
    fun x b tag outcome buffer d q p identity latched => ⟨receipts_map_claim x b tag outcome buffer _ _ fun _ _ _ => rfl,
    receipts_map_claim x b tag outcome buffer _ _ fun _ _ _ => rfl, receipts_map_claim x b tag outcome buffer _ _ fun _ _ _ => rfl,
    receipts_map_item x b tag outcome buffer _ _ fun _ _ _ => rfl, receipts_map_item x b tag outcome buffer _ _ fun _ _ _ => rfl,
    receipts_checkValue x b tag outcome buffer, fun r mem => ?receipt⟩⟩
  case filed =>
    obtain ⟨⟨removal, bay⟩, queue, requests⟩ := run_acked_files (x := x) on running refusal ending plugged fits
    obtain ⟨sameRunning, -, counted⟩ := acked_bay s.quiet b x outcome
    obtain ⟨isLoaded, isVoid⟩ := filing_counters (ackedAs_some acked) counted
    have own (t : State) : t.session b = (t.bay b).session := rfl
    rw [own, bay]
    exact ⟨rfl, rfl, queue, rfl, requests, sameRunning.trans running, isLoaded, isVoid, run_acked_frame on⟩
  case receipt =>
    obtain ⟨i, c, value, rfl⟩ := receipts_mem x b tag outcome buffer mem
    refine ⟨rfl, rfl, rfl, ?_, ?_, ?_, rfl, fun voided => ?_⟩
    · simp only [Session.receipt, identity]
    · simp only [Session.receipt, identity]
    · simp only [Session.receipt, latched]
    · unfold Session.receipt
      cases outcome with
      | loaded => exact absurd rfl voided
      | none => rfl
      | void reason => rfl

end Sys2Proof.Machine
end

section

set_option Elab.async false

/-!
SUPPORT. The end of CLAIMING under a fixed reason, and after a refusal (R124, R130, R131, R135).
-/

namespace Sys2Proof.Machine

/-! ## The state in which a decision of the key store reaches the bay -/

/-- A request of the bay has been decided, and its session stands as `x`, its deferral mark and item in hand apart: all that the
statements about the end of CLAIMING compare with. -/
structure State.decided (s u : State) (b : BayId) (x : Session) : Prop where
  bay : ∃ deferral current, u.bay b = { s.bay b with session := { x with deferral, current } }
  others : s.otherBaysSame u b
  ending : x.ending = (s.session b).ending
  gone : x.gone = (s.session b).gone
  attempted : x.attempted = (s.session b).attempted
  requests : u.ks.requests = s.ks.requests.tail
  queue : u.writer.queue = s.writer.queue
  line : u.writer.line = s.writer.line
  clock : u.clock = s.clock
  prof : u.prof = s.prof
  area : u.intake.area = s.intake.area

/-- A bay whose claiming is over: no deferral and no item in hand (R130, R135). -/
def State.claimsDone (s : State) (b : BayId) : State := s.updSession b fun x => { x with deferral := false, current := none }

section
variable {s u : State} {b : BayId} {x : Session}

theorem claimsDone_bay (d : s.decided u b x) :
    (u.claimsDone b).bay b = { s.bay b with session := { x with deferral := false, current := none } } := by
  obtain ⟨deferral, current, bay⟩ := d.bay
  rw [State.claimsDone, updSession_bay_self, bay]

theorem claimsDone_session (d : s.decided u b x) : (u.claimsDone b).session b = { x with deferral := false, current := none } := by
  rw [State.session, claimsDone_bay d]

theorem State.decided.keepsPlan (d : s.decided u b x) {r : RunningOrder} (running : (s.bay b).running = some r) :
    s.keepsPlan (u.claimsDone b) b r :=
  .of_bay d.area d.prof (claimsDone_bay d) running rfl rfl rfl d.attempted d.ending d.gone rfl

/-- Receipts do not show the mark and the item in hand. -/
theorem receiptsOf_claimsDone (d : s.decided u b x) {r : RunningOrder} (running : (s.bay b).running = some r)
    (outcome : TerminalOutcome) : (u.claimsDone b).receiptsOf b outcome = x.receipts b r.tag outcome (s.bay b).buffer := by
  have bay := claimsDone_bay d
  rw [receiptsOf_running (r := r) (by rw [bay]; exact running), State.session, bay]
  rfl

end

theorem State.keepsPlan.request {s u : State} {b : BayId} {r : RunningOrder} (kept : s.keepsPlan u b r) (q : KsRequest) :
    s.keepsPlan (u.request q) b r := by
  obtain ⟨area, prof, running, halt, held, cache, attempted, ending, gone, presence⟩ := kept
  exact ⟨area, prof, running, halt, held, cache, attempted, ending, gone, presence⟩

/-! ## Claiming over under a fixed reason (R130, R135) -/

section
variable {s u : State} {b : BayId} {x : Session}

theorem hasClaim_of_decided (d : s.decided u b x) : (u.session b).hasClaim = x.hasClaim := by
  obtain ⟨deferral, current, bay⟩ := d.bay
  rw [State.session, bay]
  rfl

theorem ending_of_decided (d : s.decided u b x) : (u.session b).ending = (s.session b).ending := by
  obtain ⟨deferral, current, bay⟩ := d.bay
  rw [State.session, bay]
  exact d.ending

/-- With no claim granted nothing is filed. -/
theorem claimingOver_unclaimed (d : s.decided u b x) (none : x.hasClaim = false) (reason : VoidReason) : u.claimingOver b reason =
    if (s.session b).ending = .none then (u.claimsDone b).leaveTerminal b
    else ((u.claimsDone b).request (.release b)).leaveTerminal b := by
  have unclaimed : ¬(u.session b).hasClaim = true := by rw [hasClaim_of_decided d, none]; exact Bool.false_ne_true
  rw [← ending_of_decided d]
  exact if_neg unclaimed

theorem claimingOver_claimed (d : s.decided u b x) (some : x.hasClaim = true) {reason : VoidReason} (fixed : x.reason = .some reason)
    (other : VoidReason) : u.claimingOver b other = (u.claimsDone b).file b (.void reason) := by
  have claimed : (u.session b).hasClaim = true := by rw [hasClaim_of_decided d, some]
  have voided : (u.claimsDone b).fileVoid b other = (u.claimsDone b).file b (.void reason) := by
    rw [State.fileVoid, claimsDone_session d, fixed]
    rfl
  exact (if_pos claimed).trans voided

theorem claimingOver_deferral (s : State) (b : BayId) (reason : VoidReason) :
    ((s.claimingOver b reason).bay b).session.deferral = false := by
  have done : ((s.claimsDone b).bay b).session.deferral = false := by rw [State.claimsDone, updSession_bay_self]
  have effect : s.claimingOver b reason = if (s.session b).hasClaim then (s.claimsDone b).fileVoid b reason
      else if (s.session b).ending = .none then (s.claimsDone b).leaveTerminal b
      else ((s.claimsDone b).request (.release b)).leaveTerminal b := rfl
  rw [effect]
  split
  · exact file_deferral done _
  · split
    · exact (leaveTerminal_leftFrom _ _).2 done
    · exact (leaveTerminal_leftFrom ((s.claimsDone b).request (.release b)) b).2 done

/-- What a filed terminal's writer, requests and bay show, with and without room for its receipts. -/
theorem file_parts {v : State} {outcome : TerminalOutcome} {l : List Receipt} (receipts : v.receiptsOf b outcome = l) (clock : v.clock = s.clock)
    (queue : v.writer.queue = s.writer.queue) (line : v.writer.line = s.writer.line) :
    (v.file b outcome).writer.queue = s.writer.queue ++
      (l.take (16 - s.writer.queue.length)).map (fun y => { y with time := s.clock }) ∧
    (l.length ≤ 16 - s.writer.queue.length →
      (v.file b outcome).writer.line = s.writer.line ∧ (v.file b outcome).ks.requests = v.ks.requests ++ [.release b] ∧
      ((v.file b outcome).bay b).buffer = [] ∧ v.file b outcome = (v.allEntered b outcome).leaveTerminal b) ∧
    (16 - s.writer.queue.length < l.length →
      (v.file b outcome).writer.line = s.writer.line ++
        (l.drop (16 - s.writer.queue.length)).head?.toList.map (fun y => { submitter := .bay b, receipt := y }) ∧
      (v.file b outcome).ks.requests = v.ks.requests ∧
      ∃ toFile, (v.file b outcome).bay b = { v.bay b with session := { (v.bay b).session.filing outcome with toFile } }) := by
  have room : v.writer.queueRoom = 16 - s.writer.queue.length := by rw [Writer.queueRoom, queue]
  by_cases fits : l.length ≤ 16 - s.writer.queue.length
  · obtain ⟨ks, -, -, -, -, -, -, sameLine, sameQueue⟩ := allEntered_frame v b outcome
    have bay := allEntered_bay v b outcome
    have effect := file_fits (s := v) (b := b) (outcome := outcome) (by rw [receipts, room]; exact fits)
    have left := leaveTerminal_frame (v.allEntered b outcome) b
    rw [effect]
    refine ⟨?_, fun _ => ⟨?_, ?_, ?_, rfl⟩, fun full => absurd fits (Nat.not_le.mpr full)⟩
    · rw [left.2.2.2.2.2.2.1, sameQueue, receipts, List.take_of_length_le fits, queue, clock]
    · simpa [sameLine] using line
    · simp [ks]
    · rw [(leaveTerminal_leftFrom _ _).1, bay]
  · have full := Nat.lt_of_not_le fits
    obtain ⟨y, rest, dropped, bay, sameQueue, sameLine, ks⟩ := file_waits (s := v) (b := b) (outcome := outcome)
      (by rw [receipts, room]; exact full)
    rw [receipts, room] at dropped sameQueue
    refine ⟨?_, fun short => absurd short fits, fun _ => ⟨?_, congrArg KeyStore.requests ks, rest, bay⟩⟩
    · rw [sameQueue, queue, clock]
    · rw [sameLine, line, dropped]
      rfl

/-- Claiming over under a reason is as the statements describe it (R130, R131, R135, R143). -/
theorem State.decided.claimingEnded (d : s.decided u b x) {reason : VoidReason} (fixed : x.reason = some reason) (other : VoidReason) :
    s.claimingEnded (u.claimingOver b other) b x reason := by
  refine ⟨claimingOver_deferral u b other, fun c apart => (claimingOver_other _ _ _ _ apart).trans (d.others c apart),
    fun r running refusal => ?_⟩
  have kept := d.keepsPlan running
  have session := claimsDone_session d
  have refusal' : ((u.claimsDone b).session b).refusal = none := by rw [session]; exact refusal
  have bay := claimsDone_bay d
  have requested : (u.claimsDone b).ks.requests = s.ks.requests.tail := d.requests
  have lined : (u.claimsDone b).writer.line = s.writer.line := d.line
  refine ⟨fun unclaimed => ?unclaimed, fun claimed => ?claimed⟩
  case unclaimed =>
    rw [claimingOver_unclaimed d unclaimed]
    split
    · have ended := kept.leaveTerminal refusal'
      have left := leaveTerminal_frame (u.claimsDone b) b
      rw [bay] at ended
      refine ⟨left.2.2.2.2.2.2.1.trans d.queue, by simpa using lined, ?_, ended⟩
      rw [left.2.2.2.2.2.2.2.2.2.2.2.1, List.append_nil]
      exact d.requests
    · have ended := (kept.request (.release b)).leaveTerminal refusal'
      have left := leaveTerminal_frame ((u.claimsDone b).request (.release b)) b
      rw [request_bay, bay] at ended
      refine ⟨left.2.2.2.2.2.2.1.trans d.queue, by simpa using lined, ?_, ended⟩
      rw [left.2.2.2.2.2.2.2.2.2.2.2.1]
      exact congrArg (· ++ [.release b]) d.requests
  case claimed =>
    obtain ⟨queue, fits, full⟩ := file_parts (receiptsOf_claimsDone d running (.void reason)) d.clock d.queue d.line
    rw [claimingOver_claimed d claimed fixed]
    refine ⟨queue, fun room => ?_, fun noRoom => ?_⟩
    · obtain ⟨line, requests, buffer, effect⟩ := fits room
      have entered := allEntered_bay (u.claimsDone b) b (.void reason)
      have ended := (kept.allEntered (.void reason)).leaveTerminal (by rw [State.session, entered]; exact refusal')
      rw [entered, bay, ← effect] at ended
      exact ⟨line, requests.trans (by rw [requested]), buffer, ended⟩
    · obtain ⟨line, requests, toFile, filed⟩ := full noRoom
      rw [bay] at filed
      rw [State.session, filed]
      exact ⟨line, requests.trans d.requests, running, rfl, rfl, d.ending, d.gone⟩

end

theorem State.claimingEnded.run {s : State} {f : State → State} {b : BayId} {x : Session} {reason : VoidReason} (on : s.engine ≠ .off)
    (h : s.quiet.claimingEnded (f s.quiet) b x reason) : s.claimingEnded (s.run f) b x reason := by
  obtain ⟨-, bays, sessions, -⟩ := run_parts s f on
  have frame := run_frame s f on
  obtain ⟨deferral, others, rest⟩ := h
  refine ⟨?_, fun c apart => (bays c).trans (others c apart), fun r running refusal => ?_⟩
  · rw [sessions]; exact deferral
  · have queue : (s.run f).writer.queue = (f s.quiet).writer.queue := by simp [frame]
    have line : (s.run f).writer.line = (f s.quiet).writer.line := by simp [frame]
    have answers : (s.run f).intake.answers = (f s.quiet).intake.answers := by simp [frame]
    obtain ⟨unclaimed, claimed⟩ := rest r running refusal
    refine ⟨fun none => ?_, fun some => ?_⟩
    · obtain ⟨sameQueue, sameLine, requests, ended⟩ := unclaimed none
      rw [queue, line, frame.2.2.1]
      exact ⟨sameQueue, sameLine, requests, ended.congr (bays b) answers⟩
    · obtain ⟨sameQueue, fits, full⟩ := claimed some
      rw [queue, line, frame.2.2.1, bays, sessions]
      refine ⟨sameQueue, fun room => ?_, full⟩
      obtain ⟨sameLine, requests, buffer, ended⟩ := fits room
      exact ⟨sameLine, requests, buffer, ended.congr (bays b) answers⟩

/-! ## A refused claim or wrap use (R124, R133) -/

theorem updSession_updSession (s : State) (b : BayId) (f g : Session → Session) :
    (s.updSession b f).updSession b g = s.updSession b fun x => g (f x) := by
  simp [State.updSession, State.updBay, State.bay]

/-- The refusal of a request is noted for the plan's end. -/
def State.refusalNoted (s : State) (b : BayId) (code : Result) (i : SlotId) : State :=
  s.updSession b fun x => { x with refusal := some (code, i) }

section
variable {s u : State} {b : BayId}

theorem State.decided.refusalNoted {x : Session} (d : s.decided u b x) (code : Result) (i : SlotId) :
    s.decided (u.refusalNoted b code i) b { x with refusal := some (code, i) } := by
  obtain ⟨⟨deferral, current, bay⟩, others, ending, gone, attempted, requests, queue, line, clock, prof, area⟩ := d
  refine ⟨⟨deferral, current, ?_⟩, fun c apart => ?_, ending, gone, attempted, requests, queue, line, clock, prof, area⟩
  · rw [State.refusalNoted, updSession_bay_self, bay]
  · exact (updSession_other _ _ _ _ apart).trans (others c apart)

theorem claimRefused_fixed {reason : VoidReason} (fixed : (u.session b).reason = some reason) (code : Result) (i : SlotId) :
    u.claimRefused b code i = u.claimingOver b reason := by
  simp only [State.claimRefused, fixed]

theorem claimRefused_open (unfixed : (u.session b).reason = none) (code : Result) (i : SlotId) : u.claimRefused b code i =
    if (u.session b).hasClaim then ((u.refusalNoted b code i).claimsDone b).fileVoid b .claimRefused
    else (((u.refusalNoted b code i).claimsDone b).request (.release b)).leaveTerminal b := by
  have noted : (u.updSession b fun x => { x with refusal := some (code, i), deferral := false, current := none }) =
      (u.refusalNoted b code i).claimsDone b := by
    rw [State.claimsDone, State.refusalNoted, updSession_updSession]
  simp only [State.claimRefused, unfixed, noted]

theorem claimRefused_deferral (s : State) (b : BayId) (code : Result) (i : SlotId) :
    ((s.claimRefused b code i).bay b).session.deferral = false := by
  cases reason : (s.session b).reason with
  | some reason =>
    rw [claimRefused_fixed reason]
    exact claimingOver_deferral s b _
  | none =>
    have done : (((s.refusalNoted b code i).claimsDone b).bay b).session.deferral = false := by
      rw [State.claimsDone, updSession_bay_self]
    rw [claimRefused_open reason]
    split
    · exact file_deferral done _
    · exact (leaveTerminal_leftFrom (((s.refusalNoted b code i).claimsDone b).request (.release b)) b).2 done

/-- A refused claim or wrap use is as the statements describe it. -/
theorem State.decided.claimRefused (d : s.decided u b (s.session b)) (slots : u.ks.slots = s.ks.slots) (code : Result) (i : SlotId) :
    s.claimRefusedTo (u.claimRefused b code i) b i code := by
  have reasonSame : (u.session b).reason = (s.session b).reason := by
    obtain ⟨deferral, current, bay⟩ := d.bay
    rw [State.session, bay]
  refine ⟨by simpa using slots, claimRefused_deferral u b code i, fun reason fixed => ?_, fun r running unfixed => ?_⟩
  · rw [claimRefused_fixed (reasonSame.trans fixed)]
    exact d.claimingEnded fixed reason
  · rw [claimRefused_open (reasonSame.trans unfixed), hasClaim_of_decided d]
    have noted := d.refusalNoted code i
    have kept := noted.keepsPlan running
    have bay := claimsDone_bay noted
    have refusal : (((u.refusalNoted b code i).claimsDone b).session b).refusal = some (code, i) := by rw [claimsDone_session noted]
    have counters : (((u.refusalNoted b code i).claimsDone b).bay b).counters = (s.bay b).counters := by rw [bay]
    cases claimed : (s.session b).hasClaim with
    | false =>
      let v := ((u.refusalNoted b code i).claimsDone b).request (.release b)
      have left : v.leaveTerminal b = v.planEnd b code (byteOf i.val) := leaveTerminal_refused refusal
      have ended := (kept.request (.release b)).planEnd code (byteOf i.val)
      have frame := leaveTerminal_frame v b
      rw [← left] at ended
      have requests : v.ks.requests = s.ks.requests.tail ++ [.release b] := congrArg (· ++ [KsRequest.release b]) d.requests
      obtain ⟨done, -, -, idle, -⟩ := ended
      rw [request_bay, counters] at done
      refine ⟨fun _ => ⟨done, frame.2.2.2.2.2.2.1.trans d.queue⟩, nofun, fun _ => ⟨?_, fun none => ?_⟩⟩
      · exact (congrArg KeyStore.requests frame.2.2.2.2.2.2.2.2.2.2.2.1).trans requests
      · obtain ⟨gone, state, -⟩ := idle none
        exact ⟨gone, state⟩
    | true =>
      have voided : ((u.refusalNoted b code i).claimsDone b).fileVoid b .claimRefused =
          ((u.refusalNoted b code i).claimsDone b).file b (.void .claimRefused) := by
        rw [State.fileVoid, claimsDone_session noted, unfixed]
        rfl
      obtain ⟨queue, fits, full⟩ := file_parts (l := (s.session b).receipts b r.tag (.void .claimRefused) (s.bay b).buffer)
        (receiptsOf_claimsDone noted running (.void .claimRefused)) noted.clock noted.queue noted.line
      have entered := allEntered_bay ((u.refusalNoted b code i).claimsDone b) b (.void .claimRefused)
      have ended := (kept.allEntered (.void .claimRefused)).planEnd code (byteOf i.val)
      rw [entered, counters] at ended
      have left : (((u.refusalNoted b code i).claimsDone b).allEntered b (.void .claimRefused)).leaveTerminal b =
          (((u.refusalNoted b code i).claimsDone b).allEntered b (.void .claimRefused)).planEnd b code (byteOf i.val) :=
        leaveTerminal_refused (by rw [State.session, entered]; exact refusal)
      simp only [if_true]
      rw [voided]
      refine ⟨nofun, fun _ => ⟨queue, fun room => ?_, fun noRoom => ?_⟩, fun room => ?_⟩
      · obtain ⟨-, -, -, effect⟩ := fits room
        rw [effect, left]
        exact ended.1
      · obtain ⟨line, -, toFile, filed⟩ := full noRoom
        rw [bay] at filed
        rw [State.session, filed]
        exact ⟨running, rfl, rfl, rfl, line⟩
      · obtain ⟨-, requests, -, effect⟩ := fits (room.resolve_left Bool.noConfusion)
        refine ⟨requests.trans (congrArg (· ++ [KsRequest.release b]) noted.requests), fun none => ?_⟩
        obtain ⟨-, -, -, idle, -⟩ := ended
        obtain ⟨gone, state, -⟩ := idle none
        rw [effect, left]
        exact ⟨gone, state⟩

end

theorem State.claimRefusedTo.run {s : State} {f : State → State} {b : BayId} {i : SlotId} {code : Result} (on : s.engine ≠ .off)
    (h : s.quiet.claimRefusedTo (f s.quiet) b i code) : s.claimRefusedTo (s.run f) b i code := by
  obtain ⟨-, bays, sessions, -⟩ := run_parts s f on
  have frame := run_frame s f on
  have queue : (s.run f).writer.queue = (f s.quiet).writer.queue := by simp [frame]
  have line : (s.run f).writer.line = (f s.quiet).writer.line := by simp [frame]
  have answers : (s.run f).intake.answers = (f s.quiet).intake.answers := by simp [frame]
  obtain ⟨slots, deferral, fixed, rest⟩ := h
  refine ⟨by rw [frame.2.2.1]; exact slots, by rw [sessions]; exact deferral, fun reason is => (fixed reason is).run on,
    fun r running unfixed => ?_⟩
  have said := rest r running unfixed
  simp only [State.completes, queue, line, frame.2.2.1, bays, sessions, answers] at said ⊢
  exact said

end Sys2Proof.Machine
end

section

set_option Elab.async false

/-!
SUPPORT. Claim requests refused and deferred (R48, R49, R124).
-/

namespace Sys2Proof.Machine

/-! ## The request at the head of the line -/

theorem headRequest_open {s : State} {q : KsRequest} (opened : s.ks.overwrite = none) (head : s.ks.requests.head? = some q) :
    s.quiet.headRequest = some q := by
  have store : s.quiet.storeOpen = true := by rw [quiet_storeOpen, State.storeOpen, opened]; rfl
  exact (if_pos store).trans head

theorem decided_dropRequest (s : State) (b : BayId) : s.decided s.dropRequest b (s.session b) :=
  ⟨⟨_, _, rfl⟩, fun _ _ => rfl, rfl, rfl, rfl, rfl, rfl, rfl, rfl, rfl, rfl⟩

section
variable {s : State} {b : BayId} {i : SlotId} (opened : s.ks.overwrite = none)
include opened

theorem exec_claimRequest (head : s.ks.requests.head? = some (.claim b i)) :
    exec .claimRequest s = .next (s.run fun _ => s.quiet.dropRequest.takeClaim b i) :=
  next_run_eq (by simp only [headRequest_open opened head])

theorem exec_wrapUse (head : s.ks.requests.head? = some (.wrapUse b i)) :
    exec .wrapUse s = .next (s.run fun _ => s.quiet.dropRequest.takeWrap b i) :=
  next_run_eq (by simp only [headRequest_open opened head])

theorem exec_claimWithdrawal (head : s.ks.requests.head? = some (.withdraw b)) :
    exec .claimWithdrawal s = .next (s.run fun _ => s.quiet.dropRequest.takeWithdrawal b) :=
  next_run_eq (by simp only [headRequest_open opened head])

theorem exec_holdRelease (head : s.ks.requests.head? = some (.release b)) :
    exec .holdRelease s = .next (s.run fun _ => s.quiet.dropRequest.releaseHolds b) :=
  next_run_eq (by simp only [headRequest_open opened head])

theorem exec_claimClosure {c : Closure} (head : s.ks.requests.head? = some .closure) (pending : s.ks.closure = some c) :
    exec .claimClosure s = .next (s.run fun _ => s.quiet.dropRequest.takeClosure c) := by
  have same : s.quiet.ks.closure = some c := pending
  exact next_run_eq (by simp only [headRequest_open opened head, same])

end

/-! ## The six tests (R48) -/

section
variable {x : Slot} {b : BayId}

theorem decideClaim_notReady (misfit : ¬(x.state = .ready ∧ x.isBase = true)) : x.decideClaim b = .refuse .refusedState :=
  if_pos misfit

variable (base : x.state = .ready ∧ x.isBase = true)
include base

theorem decideClaim_notAdmitted (barred : x.admits b = false) : x.decideClaim b = .refuse .refusedBay :=
  (if_neg (not_not_intro base)).trans (if_pos barred)

variable (admitted : x.admits b = true)
include admitted

theorem decideClaim_admitted : x.decideClaim b =
    if x.claims.any (fun c => decide (c.bay = b) && c.orphan) then .refuse .refusedState
    else if x.claims.any (fun c => decide (c.bay = b) && !c.orphan) then .defer
    else if 1048576 ≤ x.nextSerial then .refuse .serialsSpent
    else if x.allowance = 0 then .refuse .allowanceSpent
    else .grant :=
  (if_neg (not_not_intro base)).trans (if_neg (by simp [admitted]))

theorem decideClaim_orphan (orphan : ∃ c ∈ x.claims, c.bay = b ∧ c.orphan = true) : x.decideClaim b = .refuse .refusedState :=
  (decideClaim_admitted base admitted).trans (if_pos (by simpa using orphan))

theorem decideClaim_defers (live : ∀ c ∈ x.claims, c.bay = b → c.orphan = false) (claimed : ∃ c ∈ x.claims, c.bay = b) :
    x.decideClaim b = .defer := by
  have none : ¬x.claims.any (fun c => decide (c.bay = b) && c.orphan) = true := by simpa using live
  have open_ : x.claims.any (fun c => decide (c.bay = b) && !c.orphan) = true := by
    obtain ⟨c, listed, bay⟩ := claimed
    exact List.any_eq_true.mpr ⟨c, listed, by simp [bay, live c listed bay]⟩
  rw [decideClaim_admitted base admitted, if_neg none, if_pos open_]

variable (unclaimed : ∀ c ∈ x.claims, c.bay ≠ b)
include unclaimed

theorem decideClaim_unclaimed : x.decideClaim b =
    if 1048576 ≤ x.nextSerial then .refuse .serialsSpent else if x.allowance = 0 then .refuse .allowanceSpent else .grant := by
  have none : ∀ p : Claim → Bool, ¬x.claims.any (fun c => decide (c.bay = b) && p c) = true := by
    intro p claimed
    obtain ⟨c, listed, is⟩ := List.any_eq_true.mp claimed
    exact unclaimed c listed (of_decide_eq_true (Bool.and_eq_true_iff.mp is).1)
  rw [decideClaim_admitted base admitted, if_neg (none _), if_neg (none _)]

theorem decideClaim_serialsSpent (spent : 1048576 ≤ x.nextSerial) : x.decideClaim b = .refuse .serialsSpent :=
  (decideClaim_unclaimed base admitted unclaimed).trans (if_pos spent)

theorem decideClaim_allowanceSpent (serials : x.nextSerial < 1048576) (spent : x.allowance = 0) :
    x.decideClaim b = .refuse .allowanceSpent :=
  (decideClaim_unclaimed base admitted unclaimed).trans ((if_neg (Nat.not_le.mpr serials)).trans (if_pos spent))

theorem decideClaim_grants (serials : x.nextSerial < 1048576) (allowance : 0 < x.allowance) : x.decideClaim b = .grant :=
  (decideClaim_unclaimed base admitted unclaimed).trans
    ((if_neg (Nat.not_le.mpr serials)).trans (if_neg (Nat.ne_of_gt allowance)))

end

/-! ## What the bay is told -/

section
variable {s : State} {b : BayId} {i : SlotId}

theorem takeClaim_refused {code : Result} (decision : (s.slot i).decideClaim b = .refuse code) :
    s.takeClaim b i = s.claimRefused b code i := by
  simp only [State.takeClaim, decision]

/-- A deferred request stands in its bay's place (R49). -/
def State.claimDeferred (s : State) (b : BayId) (i : SlotId) : State :=
  (s.updKs fun k => { k with deferred := k.deferred.set b (some i) }).updSession b fun x => { x with deferral := true }

theorem takeClaim_deferred (decision : (s.slot i).decideClaim b = .defer) : s.takeClaim b i =
    if (s.session b).reason.isSome then (s.claimDeferred b i).request (.withdraw b) else s.claimDeferred b i := by
  simp only [State.takeClaim, decision]
  rfl

theorem takeClaim_granted (decision : (s.slot i).decideClaim b = .grant) : s.takeClaim b i =
    ((s.updSlot i (·.grantClaim b)).recordClaim b ((s.slot i).claimGrant i)).claimGranted b := by
  simp only [State.takeClaim, decision]

variable (on : s.engine ≠ .off) (opened : s.ks.overwrite = none) (head : s.ks.requests.head? = some (.claim b i))
include on opened head

theorem claimRequest_refused {code : Result} (decision : (s.slot i).decideClaim b = .refuse code) :
    ∃ t, exec .claimRequest s = .next t ∧ s.claimRefusedTo t b i code := by
  have refused : s.quiet.dropRequest.takeClaim b i = s.quiet.dropRequest.claimRefused b code i := takeClaim_refused decision
  refine ⟨_, exec_claimRequest opened head, State.claimRefusedTo.run on ?_⟩
  rw [refused]
  exact (decided_dropRequest s.quiet b).claimRefused rfl code i

theorem claimRequest_deferred (decision : (s.slot i).decideClaim b = .defer) :
    ∃ t, exec .claimRequest s = .next t ∧ t.ks.slots = s.ks.slots ∧ t.ks.deferred = s.ks.deferred.set b (some i) ∧
      (t.session b).deferral = true ∧ s.otherBaysSame t b ∧ ((s.session b).reason = none → t.ks.requests = s.ks.requests.tail) ∧
      t.ceu = s.ceu ∧ t.cipher = s.cipher ∧ t.prof = s.prof ∧ t.writer.queue = s.writer.queue ∧ t.clock = s.clock := by
  have waits : s.quiet.dropRequest.takeClaim b i = if (s.session b).reason.isSome then
      (s.quiet.dropRequest.claimDeferred b i).request (.withdraw b) else s.quiet.dropRequest.claimDeferred b i :=
    takeClaim_deferred decision
  have marked : ((s.quiet.dropRequest.claimDeferred b i).session b).deferral = true := by
    rw [State.claimDeferred, State.session, updSession_bay_self]
  have others : s.otherBaysSame (s.quiet.dropRequest.claimDeferred b i) b := fun c apart => updSession_other _ _ _ _ apart
  refine ⟨_, exec_claimRequest opened head, ?_⟩
  obtain ⟨-, bays, sessions, -⟩ := run_parts s (fun _ => s.quiet.dropRequest.takeClaim b i) on
  simp only [State.otherBaysSame, run_frame _ _ on, bays, sessions]
  rw [waits]
  split
  next fixed => exact ⟨rfl, rfl, marked, others, fun unfixed => by simp [unfixed] at fixed, rfl, rfl, rfl, rfl, rfl⟩
  next unfixed => exact ⟨rfl, rfl, marked, others, fun _ => rfl, rfl, rfl, rfl, rfl, rfl⟩

end

/-- Settles O25, test by test in the order of R48. -/
theorem claimRefusedOrDeferred : Obligations.ClaimRefusedOrDeferred := by
  intro s b i on opened head
  refine ⟨fun misfit => claimRequest_refused on opened head (decideClaim_notReady misfit), fun fits => ?_⟩
  refine ⟨fun barred => claimRequest_refused on opened head (decideClaim_notAdmitted fits barred), fun admitted => ?_⟩
  refine ⟨fun orphan => claimRequest_refused on opened head (decideClaim_orphan fits admitted orphan), fun live => ?_⟩
  refine ⟨fun claimed => claimRequest_deferred on opened head (decideClaim_defers fits admitted live claimed), fun unclaimed => ?_⟩
  exact ⟨fun spent => claimRequest_refused on opened head (decideClaim_serialsSpent fits admitted unclaimed spent),
    fun serials spent => claimRequest_refused on opened head (decideClaim_allowanceSpent fits admitted unclaimed serials spent)⟩

end Sys2Proof.Machine
end

section

set_option Elab.async false

/-!
SUPPORT. Claim withdrawals and hold releases (R39, R49, R130).
-/

namespace Sys2Proof.Machine

/-! ## Withdrawals (R49) -/

/-- A deferred request leaves its bay's place (R49). -/
def State.undeferred (s : State) (b : BayId) : State := s.updKs fun k => { k with deferred := k.deferred.set b none }

theorem takeWithdrawal_finds {s : State} {b : BayId} {i : SlotId} (deferred : s.ks.deferred[b] = some i) :
    s.takeWithdrawal b = (s.undeferred b).claimingOver b ((s.session b).reason.getD .terminalLost) := by
  simp only [State.takeWithdrawal, deferred]
  rfl

theorem takeWithdrawal_misses {s : State} {b : BayId} (free : s.ks.deferred[b] = none) : s.takeWithdrawal b = s := by
  simp only [State.takeWithdrawal, free]

theorem decided_undeferred (s : State) (b : BayId) : s.decided (s.dropRequest.undeferred b) b (s.session b) :=
  ⟨⟨_, _, rfl⟩, fun _ _ => rfl, rfl, rfl, rfl, rfl, rfl, rfl, rfl, rfl, rfl⟩

section
variable {s : State} {b : BayId} (on : s.engine ≠ .off) (opened : s.ks.overwrite = none)
  (head : s.ks.requests.head? = some (.withdraw b))
include on opened head

theorem claimWithdrawal_finds {i : SlotId} (deferred : s.ks.deferred[b] = some i) :
    ∃ t, exec .claimWithdrawal s = .next t ∧ t.ks.deferred = s.ks.deferred.set b none ∧ t.ks.slots = s.ks.slots ∧
      (t.session b).deferral = false ∧
      (∀ reason, (s.session b).reason = some reason → s.claimingEnded t b (s.session b) reason) ∧
      s.otherBaysSame t b ∧ t.ceu = s.ceu ∧ t.cipher = s.cipher ∧ t.prof = s.prof ∧ t.clock = s.clock := by
  have taken : s.quiet.dropRequest.takeWithdrawal b =
      (s.quiet.dropRequest.undeferred b).claimingOver b ((s.session b).reason.getD .terminalLost) := takeWithdrawal_finds deferred
  have decided := decided_undeferred s.quiet b
  refine ⟨_, (exec_claimWithdrawal opened head).trans (next_run_eq taken), ?_⟩
  obtain ⟨-, bays, sessions, -⟩ := run_parts s (fun _ => (s.quiet.dropRequest.undeferred b).claimingOver b
    ((s.session b).reason.getD .terminalLost)) on
  refine ⟨?_, ?_, ?_, fun reason fixed => ?_, fun c apart => ?_, ?_, ?_, ?_, ?_⟩
  · simp [run_frame _ _ on, State.undeferred]
  · simp [run_frame _ _ on, State.undeferred]
  · rw [sessions]
    exact claimingOver_deferral _ _ _
  · exact (decided.claimingEnded fixed _).run on
  · rw [bays, claimingOver_other _ _ _ _ apart]
    rfl
  all_goals simp [run_frame _ _ on, State.undeferred]

theorem claimWithdrawal_misses (free : s.ks.deferred[b] = none) :
    ∃ t, exec .claimWithdrawal s = .next t ∧ t.ks = { s.ks with requests := s.ks.requests.tail } ∧ t.bays = s.bays ∧
      t.ceu = s.ceu ∧ t.cipher = s.cipher ∧ t.prof = s.prof ∧ t.clock = s.clock := by
  have taken : s.quiet.dropRequest.takeWithdrawal b = s.quiet.dropRequest := takeWithdrawal_misses free
  refine ⟨_, (exec_claimWithdrawal opened head).trans (next_run_eq taken), ?_⟩
  simp only [run_frame _ _ on]
  exact ⟨rfl, rfl, rfl, rfl, rfl, rfl⟩

end

/-! ## Hold releases (R39) -/

/-- A pass over the slots, each step of which changes its own slot alone, relates every slot of the pass to itself before it. -/
theorem foldl_slot {op : State → SlotId → State} {R : SlotId → Slot → Slot → Prop}
    (others : ∀ s i j, j ≠ i → (op s i).slot j = s.slot j) (own : ∀ s i, R i (s.slot i) ((op s i).slot i)) {l : List SlotId}
    (once : l.Nodup) (s : State) : (∀ j, j ∉ l → (l.foldl op s).slot j = s.slot j) ∧ ∀ j ∈ l, R j (s.slot j) ((l.foldl op s).slot j) := by
  induction l generalizing s with
  | nil => exact ⟨fun _ _ => rfl, nofun⟩
  | cons i l ih =>
    obtain ⟨fresh, once⟩ := List.nodup_cons.1 once
    obtain ⟨outside, inside⟩ := ih once (op s i)
    refine ⟨fun j absent => ?_, fun j listed => ?_⟩
    · obtain ⟨apart, absent⟩ := not_or.mp (List.mem_cons.not.mp absent)
      exact (outside j absent).trans (others s i j apart)
    · obtain rfl | later := List.mem_cons.mp listed
      · rw [List.foldl_cons, outside j fresh]
        exact own s j
      · have same := others s i j fun e => fresh (e ▸ later)
        rw [← same]
        exact inside j later

/-- The slot without the bay in its hold set (R39). -/
def Slot.unheld (x : Slot) (b : BayId) : Slot := { x with holds := x.holds &&& ~~~(bayBit b) }

/-- What a hold release makes of a slot. -/
structure Slot.released (b : BayId) (i : SlotId) (x y : Slot) : Prop where
  same : x.heldBy b = false → y = x
  unheld : x.heldBy b = true → x.state ≠ .draining ∨ (x.unheld b).drained = false → y = x.unheld b
  erasing : x.heldBy b = true → x.state = .draining → (x.unheld b).drained = true → Slot.erasing i (x.unheld b) y

theorem releaseSlot_free {s : State} {b : BayId} {i : SlotId} (free : (s.slot i).heldBy b = false) : State.releaseSlot b s i = s :=
  if_neg (by rw [free]; exact Bool.false_ne_true)

theorem releaseSlot_held {s : State} {b : BayId} {i : SlotId} (held : (s.slot i).heldBy b = true) :
    State.releaseSlot b s i = (s.updSlot i (·.unheld b)).testDrain i := if_pos held

theorem releaseSlot_slot (b : BayId) (s : State) (i : SlotId) : Slot.released b i (s.slot i) ((State.releaseSlot b s i).slot i) := by
  have own := updSlot_slot_self s i (·.unheld b)
  refine ⟨fun free => by rw [releaseSlot_free free], fun held kept => ?_, fun held draining drained => ?_⟩
  · rw [releaseSlot_held held, testDrain_waits (by rw [own]; exact kept), own]
  · rw [releaseSlot_held held, testDrain_erases (by rw [own]; exact draining) (by rw [own]; exact drained), ← own]
    exact beginErase_slot _ i

theorem releaseHolds_slot (s : State) (b : BayId) (i : SlotId) : Slot.released b i (s.slot i) ((s.releaseHolds b).slot i) :=
  (foldl_slot (fun s i j apart => releaseSlot_otherSlot s b i j apart) (releaseSlot_slot b) (List.nodup_finRange 64) s).2 i
    (List.mem_finRange i)

theorem holds_without_of_free {x : Slot} {b : BayId} (free : x.heldBy b = false) : x.holds &&& ~~~(bayBit b) = x.holds := by
  ext n
  by_cases own : n = b.val
  · subst own
    have clear : x.holds[b.val] = false := free
    simp [clear]
  · simp [bayBit, Nat.lt_irrefl]
    intro _
    omega

/-- A pass over slots that have not changed yet fires what each step fires on its own slot. -/
theorem State.watchesFire.foldl {r : State} {recognised : Option (BayId × Edge)} {op : State → SlotId → State}
    (others : ∀ s i j, j ≠ i → (op s i).slot j = s.slot j)
    (step : ∀ {s : State} (i : SlotId), r.watchesFire s recognised → s.slot i = r.slot i → r.watchesFire (op s i) recognised)
    {l : List SlotId} (once : l.Nodup) {s : State} (h : r.watchesFire s recognised) (fresh : ∀ i ∈ l, s.slot i = r.slot i) :
    r.watchesFire (l.foldl op s) recognised := by
  induction l generalizing s with
  | nil => exact h
  | cons i l ih =>
    obtain ⟨new, once⟩ := List.nodup_cons.1 once
    refine ih once (step i h (fresh i (List.mem_cons_self ..))) fun j later => ?_
    rw [others s i j fun e => new (e ▸ later)]
    exact fresh j (List.mem_cons_of_mem _ later)

/-- A test of the drain condition fires what an erase fires; the slot's state has not changed before. -/
theorem State.watchesFire.testDrain {r s : State} {recognised : Option (BayId × Edge)} (h : r.watchesFire s recognised) (i : SlotId)
    (state : (s.slot i).state = (r.slot i).state) (allowance : (s.slot i).allowance = (r.slot i).allowance) :
    r.watchesFire (s.testDrain i) recognised := by
  unfold State.testDrain
  split
  next drains => exact h.beginErase i (.inr (state.symm.trans drains.1)) (.inl state) allowance
  · exact h

theorem State.watchesFire.releaseHolds {r s : State} {recognised : Option (BayId × Edge)} (h : r.watchesFire s recognised) (b : BayId)
    (fresh : ∀ i, s.slot i = r.slot i) : r.watchesFire (s.releaseHolds b) recognised := by
  refine h.foldl (fun s i j apart => releaseSlot_otherSlot s b i j apart) (fun {s} i h same => ?_) (List.nodup_finRange 64)
    fun i _ => fresh i
  cases held : (s.slot i).heldBy b with
  | false => rwa [releaseSlot_free held]
  | true =>
    have own := updSlot_slot_self s i (·.unheld b)
    rw [releaseSlot_held held]
    refine (h.updSlot i (·.unheld b) (by rw [same]) (by rw [same])).testDrain i ?_ ?_ <;> rw [own, same] <;> rfl

theorem drained_eq_false_iff (x : Slot) : x.drained = false ↔ x.holds ≠ 0 ∨ ∃ c ∈ x.claims, c.orphan = false := by
  rw [← Bool.not_eq_true, drained_iff]
  simp only [not_and_or, not_forall, Bool.not_eq_true, exists_prop]

section
variable {s : State} {b : BayId} (on : s.engine ≠ .off) (opened : s.ks.overwrite = none)
  (head : s.ks.requests.head? = some (.release b))
include on opened head

theorem holdRelease_run :
    ∃ t, exec .holdRelease s = .next t ∧ t.ks.requests = s.ks.requests.tail ∧ (∀ i, Slot.released b i (s.slot i) (t.slot i)) ∧
      s.watchesFire t none ∧ t.ceu = s.ceu ∧ t.cipher = s.cipher ∧ t.bays = s.bays ∧ t.prof = s.prof ∧
      t.writer.queue = s.writer.queue ∧ t.clock = s.clock := by
  refine ⟨_, exec_holdRelease opened head, ?_⟩
  obtain ⟨slots, -, -, -⟩ := run_parts s (fun _ => s.quiet.dropRequest.releaseHolds b) on
  have fires : s.quiet.watchesFire (s.quiet.dropRequest.releaseHolds b) none :=
    ((State.watchesFire.refl s.quiet).updKs _).releaseHolds b fun _ => rfl
  refine ⟨?_, fun i => ?_, fires.run on (by simp), ?_⟩
  · simp only [run_frame _ _ on, releaseHolds_frame]
    rfl
  · rw [slots]
    exact releaseHolds_slot s.quiet.dropRequest b i
  · simp [run_frame _ _ on]

end

/-- Settles O28: a withdrawal finds its request in the bay's place or not; a hold release acts on each slot by itself. -/
theorem withdrawalAndRelease : Obligations.WithdrawalAndRelease := by
  refine ⟨fun s b on opened head => ⟨fun i deferred => claimWithdrawal_finds on opened head deferred, claimWithdrawal_misses on opened head⟩,
    fun s b on opened head => ?_⟩
  obtain ⟨t, run, requests, released, fires, ceu, cipher, bays, prof, queue, clock⟩ := holdRelease_run on opened head
  refine ⟨t, run, requests, fun i going => ?_, fun i draining free => (released i).same free, fun i draining held => ⟨fun kept => ?_, fun empty orphans => ?_⟩,
    fires, ceu, cipher, bays, prof, queue, clock⟩
  · cases held : (s.slot i).heldBy b with
    | false =>
      have same : (s.slot i).holds &&& ~~~(1#8 <<< b.val) = (s.slot i).holds := holds_without_of_free held
      rw [(released i).same held, same]
    | true => exact (released i).unheld held (.inl going)
  · exact (released i).unheld held (.inr ((drained_eq_false_iff _).mpr kept))
  · have erasing := (released i).erasing held draining ((drained_iff _).mpr ⟨empty, orphans⟩)
    exact ⟨erasing.generation, erasing.claims, erasing.nextSerial, erasing.allowance, fun low => (erasing.persistent low).1,
      fun high => (erasing.volatile high).1⟩

end Sys2Proof.Machine
end

section

set_option Elab.async false

/-!
SUPPORT. What claiming does after a grant (R123, R125).
-/

namespace Sys2Proof.Machine

/-! ## The request of a need (R123) -/

/-- The request that a need is put to the key store with. -/
def Need.request (b : BayId) : Need → KsRequest
  | .claim i => .claim b i
  | .wrap i => .wrapUse b i

theorem claimNext_requests {s : State} {b : BayId} {n : Nat} {need : Need} (first : nextNeed (s.session b).records 0 = some (n, need)) :
    s.claimNext b = (s.updSession b fun x => { x with current := some n, deferral := false }).request (need.request b) := by
  cases need <;> simp only [State.claimNext, first] <;> rfl

theorem claimNext_prepares {s : State} {b : BayId} (none : nextNeed (s.session b).records 0 = none) :
    s.claimNext b = s.enterPreparing b := by
  simp only [State.claimNext, none]

/-! ## Entry to PREPARING (R125) -/

theorem nextPreparation_of_first {buffer : List KeyPlace} {before after : List ItemRecord} {x : ItemRecord} {n : Nat} {op : CipherOp}
    (earlier : ∀ y ∈ before, y.applies = false) (applies : x.applies = true)
    (needs : (buffer[n + before.length]?).bind x.nextOp = some op) :
    nextPreparation buffer (before ++ x :: after) n = some (n + before.length, op) := by
  rw [nextPreparation_append _ _ _ _ earlier]
  simp only [nextPreparation, applies, if_true, needs]

/-- The empty key buffer of PREPARING, a place for each item. -/
def emptyBuffer (records : List ItemRecord) : List KeyPlace :=
  records.map fun _ => { terminalKey := none, block := none, checkValue := none }

theorem prepareNext_submits {s : State} {b : BayId} {n : Nat} {op : CipherOp}
    (first : nextPreparation (s.bay b).buffer (s.session b).records 0 = some (n, op)) :
    s.prepareNext b = (s.updSession b fun x => { x with current := some n }).submitCipher (.bay b n) op := by
  simp only [State.prepareNext, first]

theorem prepareNext_loads {s : State} {b : BayId} (none : nextPreparation (s.bay b).buffer (s.session b).records 0 = none) :
    s.prepareNext b = s.enterLoading b := by
  simp only [State.prepareNext, none]

/-! ## The item records are kept -/

theorem planEnd_records (s : State) (b : BayId) (result : Result) (refusing : Byte) :
    ((s.planEnd b result refusing).session b).records = (s.session b).records := by
  cases running : (s.bay b).running with
  | none => rw [planEnd_idle running]
  | some r =>
    rw [State.session, planEnd_bay running]
    unfold Bay.planEnded Bay.orderStarted
    (repeat' split) <;> rfl

/-- A plugged terminal that is left keeps its item records until the next one. -/
theorem leaveTerminal_records {s : State} {b : BayId} (plugged : (s.session b).gone = false) :
    ((s.leaveTerminal b).session b).records = (s.session b).records := by
  unfold State.leaveTerminal
  split
  · exact planEnd_records ..
  · rw [State.session, awaitRemoval_bay plugged]
    rfl
  · exact planEnd_records ..

theorem file_records {s : State} {b : BayId} (plugged : (s.session b).gone = false) (outcome : TerminalOutcome) :
    ((s.file b outcome).session b).records = (s.session b).records := by
  by_cases fits : (s.receiptsOf b outcome).length ≤ s.writer.queueRoom
  · have bay := allEntered_bay s b outcome
    have entered : ((s.allEntered b outcome).session b).records = (s.session b).records := by rw [State.session, bay]; rfl
    rw [file_fits fits, leaveTerminal_records (by rw [State.session, bay]; exact plugged), entered]
  · obtain ⟨r, rest, -, bay, -⟩ := file_waits (Nat.lt_of_not_le fits)
    rw [State.session, bay]
    rfl

/-- The bay of a request to the cipher unit keeps its records, and the others stay as they are, where the request waits behind a
running operation or the terminal is plugged and nothing else waits. -/
theorem submitCipher_records {s : State} {b : BayId}
    (calm : s.cipher.running ≠ none ∨ (s.cipher.waiting = [] ∧ (s.session b).gone = false)) (n : Nat) (op : CipherOp) :
    ((s.submitCipher (.bay b n) op).session b).records = (s.session b).records ∧ s.otherBaysSame (s.submitCipher (.bay b n) op) b := by
  by_cases running : s.cipher.running = none
  · obtain ⟨empty, plugged⟩ := calm.resolve_left (not_not_intro running)
    cases copy : s.workingCopy op with
    | some working =>
      have bays := (submitCipher_starts running empty (.bay b n) copy).2.1
      exact ⟨by rw [session_of_bays bays], fun c _ => bay_of_bays bays c⟩
    | none =>
      let t := s.updCipher fun u => { u with waiting := u.waiting ++ [{ requester := .bay b n, op }] }
      have same : t.workingCopy op = none := by
        rw [← copy]
        cases op <;> rfl
      have effect : s.submitCipher (.bay b n) op =
          (t.keyUnavailable { requester := .bay b n, op }).updCipher fun u => { u with waiting := [] } := by
        rw [State.submitCipher, State.kickCipher, if_neg (by simp [running])]
        simp only [updCipher_cipher, empty, List.nil_append, State.startCipher]
        rw [show (s.updCipher fun u => { u with waiting := u.waiting ++ [{ requester := .bay b n, op }] }).workingCopy op = none from same]
      rw [effect]
      simp only [State.otherBaysSame, updCipher_session, updCipher_bay, State.keyUnavailable]
      split
      · exact ⟨file_records (s := t) plugged _, fun c apart => fileVoid_other t b _ c apart⟩
      · exact ⟨rfl, fun c _ => rfl⟩
  · rw [submitCipher_behind running]
    exact ⟨rfl, fun c _ => rfl⟩

theorem prepareNext_records {s : State} {b : BayId}
    (calm : s.cipher.running ≠ none ∨ (s.cipher.waiting = [] ∧ (s.session b).gone = false)) :
    ((s.prepareNext b).session b).records = (s.session b).records ∧ s.otherBaysSame (s.prepareNext b) b := by
  cases first : nextPreparation (s.bay b).buffer (s.session b).records 0 with
  | none =>
    rw [prepareNext_loads first]
    refine ⟨?_, fun c apart => enterLoading_other _ _ _ apart⟩
    obtain ⟨link, bay⟩ := sendLatched_bay (s.updSession b fun x =>
      { x with state := .loading, begun := true, delivery := .begin, current := (firstApplicable x.records 0).map (·.1) }) b
      (.begin ((s.session b).records.countP (·.applies)))
    rw [State.session, State.enterLoading, bay, updSession_bay_self]
    rfl
  | some need =>
    obtain ⟨n, op⟩ := need
    let t := s.updSession b fun x => { x with current := some n }
    have bay : t.bay b = { s.bay b with session := { (s.bay b).session with current := some n } } := updSession_bay_self ..
    have calmed : t.cipher.running ≠ none ∨ (t.cipher.waiting = [] ∧ (t.session b).gone = false) := by
      rw [State.session, bay]
      exact calm
    obtain ⟨records, others⟩ := submitCipher_records calmed n op
    rw [prepareNext_submits first]
    refine ⟨records.trans (by rw [State.session, bay]; rfl), fun c apart => (others c apart).trans (updSession_other _ _ _ _ apart)⟩

/-! ## A grant that no reason stops -/

/-- A claim or wrap use has been granted and recorded: the bay's items are `records` now, and the cipher unit and the keys it is given
are as they were. -/
structure State.recorded (s u : State) (b : BayId) (records : List ItemRecord) : Prop where
  decided : s.decided u b { s.session b with records := records }
  cipher : u.cipher = s.cipher
  keys : ∀ i generation, (u.slot i).keyFor generation false = (s.slot i).keyFor generation false

section
variable {s u : State} {b : BayId} {records : List ItemRecord} (h : s.recorded u b records)
include h

theorem records_of_recorded : (u.session b).records = records := by
  obtain ⟨deferral, current, bay⟩ := h.decided.bay
  rw [State.session, bay]

/-- The bay as it enters PREPARING. -/
theorem enterPreparing_recorded : ∃ v current, u.enterPreparing b = v.prepareNext b ∧
    v.bay b = { s.bay b with
      buffer := emptyBuffer records
      session := { s.session b with state := .preparing, records, current, deferral := false } } ∧
    s.otherBaysSame v b ∧ v.cipher = s.cipher ∧ v.ks = u.ks ∧ v.writer = u.writer := by
  obtain ⟨deferral, current, bay⟩ := h.decided.bay
  refine ⟨_, current, rfl, ?_, fun c apart => (updBay_bay_ne _ _ _ _ apart).trans (h.decided.others c apart), h.cipher, rfl, rfl⟩
  rw [updBay_bay_self, bay]
  rfl

theorem claimNext_recorded_requests {before after : List ItemRecord} {x : ItemRecord} {need : Need} (split : records = before ++ x :: after)
    (earlier : ∀ y ∈ before, y.needsNothing) (needs : x.need = some need) :
    (u.claimNext b).ks.requests = s.ks.requests.tail ++ [need.request b] ∧
    (u.claimNext b).bay b = { s.bay b with
      session := { s.session b with records, current := some before.length, deferral := false } } ∧
    s.otherBaysSame (u.claimNext b) b ∧ (u.claimNext b).cipher = s.cipher ∧ (u.claimNext b).writer.queue = s.writer.queue := by
  have first := nextNeed_of_first (after := after) (fun y mem => need_nothing y (earlier y mem)) needs 0
  rw [← split, Nat.zero_add, ← records_of_recorded h] at first
  obtain ⟨deferral, current, bay⟩ := h.decided.bay
  rw [claimNext_requests first]
  refine ⟨congrArg (· ++ [need.request b]) h.decided.requests, ?_,
    fun c apart => (request_bay ..).trans ((updSession_other _ _ _ _ apart).trans (h.decided.others c apart)), h.cipher,
    h.decided.queue⟩
  rw [request_bay, updSession_bay_self, bay]

theorem claimNext_recorded_derives {before after : List ItemRecord} {x : ItemRecord} {c : GrantedClaim}
    (split : records = before ++ x :: after) (earlier : ∀ y ∈ before, y.applies = false) (nothing : ∀ y ∈ records, y.needsNothing)
    (applies : x.applies = true) (stage : x.stage = .claimed) (claim : x.claim = some c) :
    ∃ v, u.claimNext b = v.submitCipher (.bay b before.length) (.derive c.slot c.generation c.ksn) ∧
      v.bay b = { s.bay b with
        buffer := emptyBuffer records
        session := { s.session b with state := .preparing, records, current := some before.length, deferral := false } } ∧
      s.otherBaysSame v b ∧ v.cipher = s.cipher ∧ v.ks = u.ks ∧ v.writer = u.writer := by
  obtain ⟨w, current, effect, bay, others, cipher, ks, writer⟩ := enterPreparing_recorded h
  have done : nextNeed (u.session b).records 0 = none :=
    nextNeed_of_none (fun y mem => need_nothing y (nothing y (by rwa [records_of_recorded h] at mem))) 0
  have place : ((emptyBuffer records)[0 + before.length]?).bind x.nextOp = some (.derive c.slot c.generation c.ksn) := by
    simp only [emptyBuffer, split, List.getElem?_map, Nat.zero_add, List.getElem?_append_right (Nat.le_refl _), Nat.sub_self,
      List.getElem?_cons_zero, Option.map_some, Option.bind_some, ItemRecord.nextOp, stage, claim]
  have first : nextPreparation (w.bay b).buffer (w.session b).records 0 =
      some (before.length, .derive c.slot c.generation c.ksn) := by
    have found := nextPreparation_of_first (after := after) earlier applies place
    rw [← split, Nat.zero_add] at found
    rw [State.session, bay]
    exact found
  refine ⟨_, (claimNext_prepares done).trans (effect.trans (prepareNext_submits first)), ?_,
    fun c apart => (updSession_other _ _ _ _ apart).trans (others c apart), cipher, ks, writer⟩
  rw [updSession_bay_self, bay]

/-- Claiming goes on as the statements describe it. -/
theorem claimNext_goesOn : s.claimingGoesOn (u.claimNext b) b records := by
  refine ⟨fun before x after request split earlier needs => ?_,
    fun before x after c split earlier nothing applies stage claim cipher starts => ?_⟩
  · obtain ⟨⟨applies, unclaimed⟩, rfl⟩ | ⟨i, needs, rfl⟩ := needs
    · exact claimNext_recorded_requests h split earlier (need_of_unclaimed applies unclaimed)
    · exact claimNext_recorded_requests h split earlier (need_wrap x i needs)
  · obtain ⟨v, effect, bay, others, unit, ks, writer⟩ := claimNext_recorded_derives h split earlier nothing applies stage claim
    have requests : v.ks.requests = s.ks.requests.tail := by rw [ks, h.decided.requests]
    have queue : v.writer.queue = s.writer.queue := by rw [writer, h.decided.queue]
    rw [effect]
    obtain ⟨running, rfl⟩ | ⟨key, idle, empty, copy, rfl⟩ := starts
    · rw [submitCipher_behind (by rw [unit]; exact running)]
      exact ⟨by rw [updCipher_cipher, unit], requests, bay, others, queue⟩
    · have slot : v.slot c.slot = u.slot c.slot := by rw [State.slot, ks]; rfl
      have working : v.workingCopy (.derive c.slot c.generation c.ksn) = some (some key) := by
        rw [State.workingCopy, slot, h.keys, copy]
        rfl
      obtain ⟨started, bays, sameKs, sameWriter⟩ := submitCipher_starts (by rw [unit]; exact idle) (by rw [unit]; exact empty)
        (.bay b before.length) working
      refine ⟨started, by rw [sameKs, requests], (bay_of_bays bays b).trans bay, fun d apart => (bay_of_bays bays d).trans (others d apart),
        by rw [sameWriter, queue]⟩

/-- The records and the other bays are kept but where a key turns out unavailable at once and more waits on the cipher unit. -/
theorem claimNext_records (calm : s.cipher.running ≠ none ∨ (s.cipher.waiting = [] ∧ (s.session b).gone = false)) :
    ((u.claimNext b).session b).records = records ∧ s.otherBaysSame (u.claimNext b) b := by
  cases first : nextNeed (u.session b).records 0 with
  | some need =>
    obtain ⟨n, need⟩ := need
    rw [claimNext_requests first]
    refine ⟨?_, fun c apart => (request_bay ..).trans ((updSession_other _ _ _ _ apart).trans (h.decided.others c apart))⟩
    rw [State.session, request_bay, updSession_bay_self]
    exact records_of_recorded h
  | none =>
    obtain ⟨v, current, effect, bay, others, cipher, -, -⟩ := enterPreparing_recorded h
    obtain ⟨records, same⟩ := prepareNext_records (s := v) (b := b) (by rw [cipher, State.session, bay]; exact calm)
    rw [claimNext_prepares first, effect]
    exact ⟨records.trans (by rw [State.session, bay]), fun c apart => (same c apart).trans (others c apart)⟩

end

theorem State.claimingGoesOn.run {s : State} {f : State → State} {b : BayId} {records : List ItemRecord} (on : s.engine ≠ .off)
    (h : s.quiet.claimingGoesOn (f s.quiet) b records) : s.claimingGoesOn (s.run f) b records := by
  obtain ⟨-, bays, -, -⟩ := run_parts s f on
  have frame := run_frame s f on
  have queue : (s.run f).writer.queue = (f s.quiet).writer.queue := by simp [frame]
  have cipher : (s.run f).cipher = (f s.quiet).cipher := by simp [frame]
  obtain ⟨requests, derives⟩ := h
  refine ⟨fun before x after request split earlier needs => ?_,
    fun before x after c split earlier nothing applies stage claim unit starts => ?_⟩
  · have said := requests before x after request split earlier needs
    simp only [State.otherBaysSame, queue, frame.2.2.1, bays, cipher] at said ⊢
    exact said
  · have said := derives before x after c split earlier nothing applies stage claim unit starts
    simp only [State.otherBaysSame, queue, frame.2.2.1, bays, cipher] at said ⊢
    exact said

/-! ## A grant under a fixed reason or none -/

theorem claimGranted_fixed {u : State} {b : BayId} {reason : VoidReason} (fixed : (u.session b).reason = some reason) :
    u.claimGranted b = u.claimingOver b reason := by
  simp only [State.claimGranted, fixed]

theorem claimGranted_open {u : State} {b : BayId} (unfixed : (u.session b).reason = none) : u.claimGranted b = u.claimNext b := by
  simp only [State.claimGranted, unfixed]

/-- A recorded grant goes on or ends as the statements describe it. -/
theorem State.recorded.claimGranted {s u : State} {b : BayId} {records : List ItemRecord} (h : s.recorded u b records) :
    ((s.session b).reason = none → s.claimingGoesOn (u.claimGranted b) b records ∧
      (s.cipher.running ≠ none ∨ (s.cipher.waiting = [] ∧ (s.session b).gone = false) →
        ((u.claimGranted b).session b).records = records ∧ s.otherBaysSame (u.claimGranted b) b)) ∧
    ∀ reason, (s.session b).reason = some reason →
      s.claimingEnded (u.claimGranted b) b { s.session b with records := records } reason := by
  have same : (u.session b).reason = (s.session b).reason := by
    obtain ⟨deferral, current, bay⟩ := h.decided.bay
    rw [State.session, bay]
  refine ⟨fun unfixed => ?_, fun reason fixed => ?_⟩
  · rw [claimGranted_open (same.trans unfixed)]
    exact ⟨claimNext_goesOn h, claimNext_records h⟩
  · rw [claimGranted_fixed (same.trans fixed)]
    exact h.decided.claimingEnded fixed reason

end Sys2Proof.Machine
end

section

set_option Elab.async false

/-!
SUPPORT. Claims and wrap uses granted (R38, R48, R50).
-/

namespace Sys2Proof.Machine

/-! ## The grant of a claim (R50) -/

/-- The record of an item with its claim. -/
def ItemRecord.claimed (r : ItemRecord) (c : GrantedClaim) : ItemRecord := { r with claim := some c, stage := .claimed }

theorem recordClaim_current {s : State} {b : BayId} {n : Nat} (current : (s.session b).current = some n) (c : GrantedClaim) :
    s.recordClaim b c = s.updSession b fun x => { x with records := x.records.modify n (·.claimed c) } := by
  simp only [State.recordClaim, current]
  rfl

/-- A slot whose holds, claims and counts change gives the cipher unit the same key. -/
theorem keyFor_updSlot {s : State} {i : SlotId} {f : Slot → Slot}
    (same : ∀ generation, (f (s.slot i)).keyFor generation false = (s.slot i).keyFor generation false) (j : SlotId) (generation : BitVec 16) :
    ((s.updSlot i f).slot j).keyFor generation false = (s.slot j).keyFor generation false := by
  by_cases own : j = i
  · subst own
    rw [updSlot_slot_self, same]
  · rw [updSlot_other _ _ _ _ own]

/-- The key store and the bay after a grant, before the bay goes on. -/
def State.claimTaken (s : State) (b : BayId) (i : SlotId) : State :=
  (s.updSlot i (·.grantClaim b)).recordClaim b ((s.slot i).claimGrant i)

theorem takeClaim_grants {s : State} {b : BayId} {i : SlotId} (decision : (s.slot i).decideClaim b = .grant) :
    s.takeClaim b i = (s.claimTaken b i).claimGranted b := takeClaim_granted decision

/-- A grant is recorded in the item in hand; `u` is the state in which the key store decides. -/
theorem recorded_claimTaken {s u : State} {b : BayId} (i : SlotId) {n : Nat} {r : ItemRecord} (taken : s.recorded u b (s.session b).records)
    (current : (u.session b).current = some n) (record : (s.session b).records[n]? = some r) :
    s.recorded (u.claimTaken b i) b ((s.session b).records.set n (r.claimed ((u.slot i).claimGrant i))) := by
  obtain ⟨⟨⟨deferral, inHand, bay⟩, others, ending, gone, attempted, requests, queue, line, clock, prof, area⟩, cipher, keys⟩ := taken
  let v := u.updSlot i (·.grantClaim b)
  have effect : u.claimTaken b i = v.updSession b fun x =>
      { x with records := x.records.modify n (·.claimed ((u.slot i).claimGrant i)) } := by
    rw [State.claimTaken]
    exact recordClaim_current (s := v) (by rw [State.session, updSlot_bay]; exact current) _
  have placed : (s.session b).records.modify n (·.claimed ((u.slot i).claimGrant i)) =
      (s.session b).records.set n (r.claimed ((u.slot i).claimGrant i)) := by
    rw [List.modify_eq_set_getElem?, record]
    rfl
  rw [effect]
  refine ⟨⟨⟨deferral, inHand, ?_⟩, fun c apart => ?_, ending, gone, attempted, ?_, ?_, ?_, ?_, ?_, ?_⟩, ?_, fun j generation => ?_⟩
  · rw [updSession_bay_self, updSlot_bay, bay, ← placed]
  · rw [updSession_other _ _ _ _ apart, updSlot_bay, others c apart]
  · simpa [v] using requests
  · simpa [v] using queue
  · simpa [v] using line
  · simpa [v] using clock
  · simpa [v] using prof
  · simpa [v] using area
  · simpa [v] using cipher
  · rw [updSession_slot, ← keys]
    exact keyFor_updSlot (fun _ => rfl) j generation

/-- A grant changes one slot, and fires what its allowance fires (R172). -/
theorem State.watchesFire.claimTaken {r s : State} {recognised : Option (BayId × Edge)} (h : r.watchesFire s recognised) (b : BayId)
    (i : SlotId) (state : (s.slot i).state = (r.slot i).state) (allowance : (s.slot i).allowance = (r.slot i).allowance) :
    r.watchesFire ((s.claimTaken b i).claimGranted b) recognised := by
  have granted := h.updSlot i (·.grantClaim b) state allowance
  have recorded := granted.same (t := s.claimTaken b i) (by simp [State.claimTaken]) (by simp [State.claimTaken])
    (by simp [State.claimTaken]) (by simp [State.claimTaken]) (by simp [State.claimTaken])
  exact recorded.same

theorem claimTaken_slots (s : State) (b : BayId) (i : SlotId) :
    ((s.claimTaken b i).claimGranted b).slot i = (s.slot i).grantClaim b ∧
    s.otherSlotsSame ((s.claimTaken b i).claimGranted b) i := by
  refine ⟨by simp [State.claimTaken], fun j apart => by simp [State.claimTaken, apart]⟩

theorem claimTaken_frame (s : State) (b : BayId) (i : SlotId) :
    ((s.claimTaken b i).claimGranted b).ks.deferred = s.ks.deferred ∧ ((s.claimTaken b i).claimGranted b).ks.closure = s.ks.closure ∧
    ((s.claimTaken b i).claimGranted b).ks.grant = s.ks.grant ∧ ((s.claimTaken b i).claimGranted b).ceu = s.ceu ∧
    ((s.claimTaken b i).claimGranted b).prof = s.prof ∧ ((s.claimTaken b i).claimGranted b).clock = s.clock ∧
    ((s.claimTaken b i).claimGranted b).events.room = s.events.room := by
  simp [State.claimTaken]

theorem recorded_dropRequest (s : State) (b : BayId) : s.recorded s.dropRequest b (s.session b).records :=
  ⟨decided_dropRequest s b, rfl, fun _ _ => rfl⟩

/-- Settles O26: the six tests pass, and the bay goes on with the claim in its item. -/
theorem claimGranted : Obligations.ClaimGranted := by
  intro s b i on opened head ready base admitted unclaimed serials allowance
  have decision : (s.quiet.dropRequest.slot i).decideClaim b = .grant :=
    decideClaim_grants (x := s.slot i) ⟨ready, base⟩ admitted unclaimed serials allowance
  have effect := takeClaim_grants decision
  refine ⟨_, (exec_claimRequest opened head).trans (next_run_eq effect), ?_⟩
  obtain ⟨slots, bays, sessions, -⟩ := run_parts s (fun _ => (s.quiet.dropRequest.claimTaken b i).claimGranted b) on
  obtain ⟨slot, others⟩ := claimTaken_slots s.quiet.dropRequest b i
  obtain ⟨deferred, closure, grant, ceu, prof, clock, room⟩ := claimTaken_frame s.quiet.dropRequest b i
  have frame := run_frame s (fun _ => (s.quiet.dropRequest.claimTaken b i).claimGranted b) on
  have fires : s.quiet.watchesFire ((s.quiet.dropRequest.claimTaken b i).claimGranted b) none :=
    ((State.watchesFire.refl s.quiet).updKs _).claimTaken b i rfl rfl
  refine ⟨(slots i).trans slot, fun j apart => (slots j).trans (others j apart), ?_, ?_, ?_, ?_, ?_, ?_, fires.run on room,
    fun n r records current record is => ?_⟩
  · rw [frame.2.2.1]; exact deferred
  · rw [frame.2.2.1]; exact closure
  · rw [frame.2.2.1]; exact grant
  · rw [frame.2.2.2.1]; exact ceu
  · rw [frame.2.2.2.2.2.2.1]; exact prof
  · rw [frame.2.1]; exact clock
  · subst is
    have recorded := recorded_claimTaken i (recorded_dropRequest s.quiet b) current record
    obtain ⟨goesOn, ended⟩ := recorded.claimGranted
    refine ⟨fun unfixed => ?_, fun reason fixed => (ended reason fixed).run on⟩
    obtain ⟨next, calm⟩ := goesOn unfixed
    refine ⟨next.run on, fun still => ?_⟩
    obtain ⟨kept, same⟩ := calm still
    exact ⟨by rw [sessions]; exact kept, fun c apart => (bays c).trans (same c apart)⟩

end Sys2Proof.Machine
end

section

set_option Elab.async false

/-!
SUPPORT. Wrap uses by the table of R38.
-/

namespace Sys2Proof.Machine

/-! ## The table (R38) -/

section
variable {x : Slot} {b : BayId}

theorem refuseWrap_held (held : x.heldBy b = true) (state : x.state = .ready ∨ x.state = .draining) : x.refuseWrap b = none :=
  if_pos ⟨held, state⟩

theorem refuseWrap_transport (new : ¬(x.heldBy b = true ∧ (x.state = .ready ∨ x.state = .draining))) (ready : x.state = .ready)
    (transport : x.isTransport = true) : x.refuseWrap b = if x.admits b then none else some .refusedBay :=
  (if_neg new).trans (if_pos ⟨ready, transport⟩)

theorem refuseWrap_admitted (ready : x.state = .ready) (transport : x.isTransport = true) (admitted : x.admits b = true) :
    x.refuseWrap b = none := by
  by_cases held : x.heldBy b = true ∧ (x.state = .ready ∨ x.state = .draining)
  · exact if_pos held
  · rw [refuseWrap_transport held ready transport, if_pos admitted]

theorem refuseWrap_barred (free : x.heldBy b = false) (ready : x.state = .ready) (transport : x.isTransport = true)
    (barred : x.admits b = false) : x.refuseWrap b = some .refusedBay := by
  rw [refuseWrap_transport (by simp [free]) ready transport, if_neg (by simp [barred])]

theorem refuseWrap_state (new : ¬(x.heldBy b = true ∧ (x.state = .ready ∨ x.state = .draining)))
    (misfit : ¬(x.state = .ready ∧ x.isTransport = true)) : x.refuseWrap b = some .refusedState :=
  (if_neg new).trans (if_neg misfit)

end

/-! ## A wrap use granted -/

/-- The record of an item on a transport slot that has been granted to the terminal (R38). -/
def ItemRecord.wrappedOn (i : SlotId) (generation : BitVec 16) (r : ItemRecord) : ItemRecord :=
  if r.applies = true ∧ r.item.delivery = .wrapped i then { r with wrapGeneration := some generation } else r

/-- The key store and the bay after a granted wrap use, before the bay goes on. -/
def State.wrapTaken (s : State) (b : BayId) (i : SlotId) : State :=
  (s.updSlot i fun x => { x with holds := x.holds ||| bayBit b }).recordWrap b i (s.slot i).generation

theorem takeWrap_grants {s : State} {b : BayId} {i : SlotId} (granted : (s.slot i).refuseWrap b = none) :
    s.takeWrap b i = (s.wrapTaken b i).claimGranted b := by
  simp only [State.takeWrap, granted]
  rfl

theorem takeWrap_refused {s : State} {b : BayId} {i : SlotId} {code : Result} (refused : (s.slot i).refuseWrap b = some code) :
    s.takeWrap b i = s.claimRefused b code i := by
  simp only [State.takeWrap, refused]

theorem recorded_wrapTaken {s u : State} {b : BayId} (i : SlotId) (taken : s.recorded u b (s.session b).records) :
    s.recorded (u.wrapTaken b i) b ((s.session b).records.map (·.wrappedOn i (u.slot i).generation)) := by
  obtain ⟨⟨⟨deferral, inHand, bay⟩, others, ending, gone, attempted, requests, queue, line, clock, prof, area⟩, cipher, keys⟩ := taken
  let v := u.updSlot i fun x => { x with holds := x.holds ||| bayBit b }
  have effect : u.wrapTaken b i = v.updSession b fun x => { x with records := x.records.map (·.wrappedOn i (u.slot i).generation) } := rfl
  rw [effect]
  refine ⟨⟨⟨deferral, inHand, ?_⟩, fun c apart => ?_, ending, gone, attempted, ?_, ?_, ?_, ?_, ?_, ?_⟩, ?_, fun j generation => ?_⟩
  · rw [updSession_bay_self, updSlot_bay, bay]
  · rw [updSession_other _ _ _ _ apart, updSlot_bay, others c apart]
  · simpa [v] using requests
  · simpa [v] using queue
  · simpa [v] using line
  · simpa [v] using clock
  · simpa [v] using prof
  · simpa [v] using area
  · simpa [v] using cipher
  · rw [updSession_slot, ← keys]
    exact keyFor_updSlot (fun _ => rfl) j generation

/-- A wrap use changes no state and no allowance, so it fires no watch of a slot. -/
theorem State.watchesFire.wrapTaken {r s : State} {recognised : Option (BayId × Edge)} (h : r.watchesFire s recognised) (b : BayId)
    (i : SlotId) (state : (s.slot i).state = (r.slot i).state) (allowance : (s.slot i).allowance = (r.slot i).allowance) :
    r.watchesFire ((s.wrapTaken b i).claimGranted b) recognised := by
  have granted := h.updSlot i (fun x => { x with holds := x.holds ||| bayBit b }) state allowance
  have recorded := granted.same (t := s.wrapTaken b i) (by simp [State.wrapTaken]) (by simp [State.wrapTaken])
    (by simp [State.wrapTaken]) (by simp [State.wrapTaken]) (by simp [State.wrapTaken])
  exact recorded.same

theorem wrapTaken_slots (s : State) (b : BayId) (i : SlotId) :
    ((s.wrapTaken b i).claimGranted b).slot i = { s.slot i with holds := (s.slot i).holds ||| bayBit b } ∧
    s.otherSlotsSame ((s.wrapTaken b i).claimGranted b) i := by
  refine ⟨by simp [State.wrapTaken], fun j apart => by simp [State.wrapTaken, apart]⟩

theorem wrapTaken_frame (s : State) (b : BayId) (i : SlotId) :
    ((s.wrapTaken b i).claimGranted b).ks.deferred = s.ks.deferred ∧ ((s.wrapTaken b i).claimGranted b).ceu = s.ceu ∧
    ((s.wrapTaken b i).claimGranted b).prof = s.prof ∧ ((s.wrapTaken b i).claimGranted b).clock = s.clock ∧
    ((s.wrapTaken b i).claimGranted b).events.room = s.events.room := by
  simp [State.wrapTaken]

/-! ## WRAP_USE -/

section
variable {s : State} {b : BayId} {i : SlotId} (on : s.engine ≠ .off) (opened : s.ks.overwrite = none)
  (head : s.ks.requests.head? = some (.wrapUse b i))
include on opened head

theorem wrapUse_refused {code : Result} (refused : (s.slot i).refuseWrap b = some code) :
    ∃ t, exec .wrapUse s = .next t ∧ s.claimRefusedTo t b i code := by
  have effect : s.quiet.dropRequest.takeWrap b i = s.quiet.dropRequest.claimRefused b code i := takeWrap_refused refused
  refine ⟨_, exec_wrapUse opened head, State.claimRefusedTo.run on ?_⟩
  rw [effect]
  exact (decided_dropRequest s.quiet b).claimRefused rfl code i

theorem wrapUse_granted (granted : (s.slot i).refuseWrap b = none) :
    ∃ t, exec .wrapUse s = .next t ∧ t.slot i = { s.slot i with holds := (s.slot i).holds ||| (1#8 <<< b.val) } ∧
      s.otherSlotsSame t i ∧ t.ks.deferred = s.ks.deferred ∧ t.ceu = s.ceu ∧ t.prof = s.prof ∧ t.clock = s.clock ∧
      s.watchesFire t none ∧
      ∀ records, records = (s.session b).records.map (fun r =>
          if r.applies = true ∧ r.item.delivery = .wrapped i then { r with wrapGeneration := some (s.slot i).generation } else r) →
        ((s.session b).reason = none →
          s.claimingGoesOn t b records ∧
          (s.cipher.running ≠ none ∨ (s.cipher.waiting = [] ∧ (s.session b).gone = false) →
            (t.session b).records = records ∧ s.otherBaysSame t b)) ∧
        ∀ reason, (s.session b).reason = some reason →
          s.claimingEnded t b { s.session b with records := records } reason := by
  have effect : s.quiet.dropRequest.takeWrap b i = (s.quiet.dropRequest.wrapTaken b i).claimGranted b := takeWrap_grants granted
  refine ⟨_, (exec_wrapUse opened head).trans (next_run_eq effect), ?_⟩
  obtain ⟨slots, bays, sessions, -⟩ := run_parts s (fun _ => (s.quiet.dropRequest.wrapTaken b i).claimGranted b) on
  obtain ⟨slot, others⟩ := wrapTaken_slots s.quiet.dropRequest b i
  obtain ⟨deferred, ceu, prof, clock, room⟩ := wrapTaken_frame s.quiet.dropRequest b i
  have frame := run_frame s (fun _ => (s.quiet.dropRequest.wrapTaken b i).claimGranted b) on
  have fires : s.quiet.watchesFire ((s.quiet.dropRequest.wrapTaken b i).claimGranted b) none :=
    ((State.watchesFire.refl s.quiet).updKs _).wrapTaken b i rfl rfl
  refine ⟨(slots i).trans slot, fun j apart => (slots j).trans (others j apart), ?_, ?_, ?_, ?_, fires.run on room,
    fun records is => ?_⟩
  · rw [frame.2.2.1]; exact deferred
  · rw [frame.2.2.2.1]; exact ceu
  · rw [frame.2.2.2.2.2.2.1]; exact prof
  · rw [frame.2.1]; exact clock
  · subst is
    obtain ⟨goesOn, ended⟩ := (recorded_wrapTaken i (recorded_dropRequest s.quiet b)).claimGranted
    refine ⟨fun unfixed => ?_, fun reason fixed => (ended reason fixed).run on⟩
    obtain ⟨next, calm⟩ := goesOn unfixed
    refine ⟨next.run on, fun still => ?_⟩
    obtain ⟨kept, same⟩ := calm still
    exact ⟨by rw [sessions]; exact kept, fun c apart => (bays c).trans (same c apart)⟩

end

/-! ## Whom the generation serves -/

theorem delivery_of_need_wrap {x : ItemRecord} {i : SlotId} (needs : x.need = some (.wrap i)) : x.item.delivery = .wrapped i ∧ x.wrapGeneration = none := by
  unfold ItemRecord.need at needs
  split at needs
  · split at needs
    · exact nomatch needs
    next delivery generation =>
      obtain rfl : _ = i := Need.wrap.inj (Option.some.inj needs)
      exact ⟨delivery, generation⟩
    · exact nomatch needs
  · exact nomatch needs

theorem delivery_of_nextOp_wrap {x : ItemRecord} {k : KeyPlace} {i : SlotId} {g : BitVec 16} {key : Key} (next : x.nextOp k = some (.wrap i g key)) :
    x.item.delivery = .wrapped i ∧ x.wrapGeneration = some g := by
  unfold ItemRecord.nextOp at next
  split at next
  · exact nomatch next
  · exact nomatch next
  · split at next
    next delivery generation =>
      obtain ⟨rfl, rfl, -⟩ := CipherOp.wrap.inj (Option.some.inj next)
      exact ⟨delivery, generation⟩
    · exact nomatch next
  · exact nomatch next

/-- Settles O27, by the rows of R38's table. -/
theorem wrapUseByRule : Obligations.WrapUseByRule := by
  refine ⟨fun s b i on opened head => ⟨fun fits => wrapUse_granted on opened head ?_, fun free ready transport barred => ?_, fun misfit => ?_⟩,
    fun x i needs => delivery_of_need_wrap needs, fun x k i g key next => delivery_of_nextOp_wrap next⟩
  · obtain ⟨held, state⟩ | ⟨ready, transport, admitted⟩ := fits
    · exact refuseWrap_held held state
    · exact refuseWrap_admitted ready transport admitted
  · exact wrapUse_refused on opened head (refuseWrap_barred free ready transport barred)
  · refine wrapUse_refused on opened head (refuseWrap_state ?_ ?_)
    · rintro ⟨held, ready | draining⟩
      · obtain ⟨other, -⟩ | ⟨-, -, free⟩ := misfit
        · exact other ready
        · simp [free] at held
      · obtain ⟨-, other | free⟩ | ⟨ready, -, -⟩ := misfit
        · exact other draining
        · simp [free] at held
        · exact nomatch ready.symm.trans draining
    · rintro ⟨ready, transport⟩
      obtain ⟨other, -⟩ | ⟨-, plain, -⟩ := misfit
      · exact other ready
      · simp [plain] at transport

end Sys2Proof.Machine
end

section

set_option Elab.async false

/-!
SUPPORT. The answers and the end of a settle (R55, R56).
-/

namespace Sys2Proof.Machine

/-! ## A slot that is written as it stands -/

theorem updSlot_same {s : State} {i : SlotId} {f : Slot → Slot} (same : f (s.slot i) = s.slot i) : s.updSlot i f = s := by
  have calm : s.events.fired (Watch.firesOnSlot i (s.slot i) (s.slot i)) = 0 := by
    simp only [EventUnit.fired, firesOnSlot_same i _ _ rfl rfl, Bool.false_eq_true, if_false]
    rfl
  have written : s.ks.slots.set i (s.slot i) = s.ks.slots := Vector.set_getElem_self ..
  rw [State.updSlot, same, State.setSlot, State.report]
  simp only [updKs_events, updKs_ks, calm, State.raiseBits, State.setEvents, BitVec.or_zero, written, State.updKs]
  simp

/-! ## Answers (R56) -/

section
variable {s : State} {i : SlotId}

theorem updSettle_unsettled (none : (s.slot i).settle = none) (f : Settle → Settle) : s.updSettle i f = s :=
  updSlot_same (by cases x : s.slot i; simp_all)

theorem answerSettle_slot {v : Settle} (settle : (s.slot i).settle = some v) (result : Result) :
    (s.answerSettle i result).slot i = { s.slot i with settle := some { v with order := none } } := by
  obtain ⟨order, tag, remaining, unclosed, entered⟩ := v
  cases order with
  | none =>
    simp only [State.answerSettle, settle]
    rw [← settle]
  | some cell =>
    simp only [State.answerSettle, settle]
    rw [slot_of_ks (t := s.updSettle i fun t => { t with order := none }) (by simp) i, updSettle_slot settle]

theorem answerSettle_completes {v : Settle} {cell : Nat} (settle : (s.slot i).settle = some v) (order : v.order = some cell)
    (result : Result) : s.completes (s.answerSettle i result) cell result (slotCountData i v.entered (s.slot i).generation) := by
  obtain ⟨_, tag, remaining, unclosed, entered⟩ := v
  obtain rfl : _ = some cell := order
  simp only [State.answerSettle, settle]
  exact completed_listed s _ _ _ _ rfl

/-! ## The test of a settle (R55, R56) -/

theorem testSettle_unsettled (none : (s.slot i).settle = none) : s.testSettle i = s := by
  simp only [State.testSettle, none]

theorem testSettle_submits {v : Settle} (settle : (s.slot i).settle = some v) (going : v.remaining ≠ [] ∨ s.settleWaits i = true) :
    s.testSettle i = s := by
  simp only [State.testSettle, settle]
  exact if_pos going

variable {v : Settle} (settle : (s.slot i).settle = some v) (entered : v.remaining = []) (free : s.settleWaits i = false)
include settle entered free

theorem testSettle_closed (closed : v.unclosed = []) :
    s.testSettle i = (s.answerSettle i .ok).updSlot i fun x => { x with settle := none } := by
  simp only [State.testSettle, settle, entered, free, closed]
  rfl

theorem testSettle_stopped (open_ : v.unclosed ≠ []) (stopping : s.engine = .stopping) :
    s.testSettle i = s.answerSettle i .engineStopped := by
  simp only [State.testSettle, settle, entered, free, open_, stopping]
  simp

end

end Sys2Proof.Machine
end

section

set_option Elab.async false

/-!
SUPPORT. Claim closures (R49, R52).
-/

namespace Sys2Proof.Machine

/-! ## The claim that a closure names (R52) -/

theorem closeClaim_claims {x : Slot} {c : Closure} {before after : List Claim} {d : Claim} (claims : x.claims = before ++ d :: after)
    (named : d.bay = c.bay ∧ d.serial = c.serial) (earlier : ∀ e ∈ before, ¬(e.bay = c.bay ∧ e.serial = c.serial)) :
    x.closeClaim c = { x with claims := before ++ after, receipted := x.receipted + 1 } := by
  have passed : ∀ e ∈ before, ¬(decide (e.bay = c.bay) && decide (e.serial = c.serial)) = true := fun e mem => by
    simpa using earlier e mem
  have erased : x.claims.eraseP (fun d => decide (d.bay = c.bay) && decide (d.serial = c.serial)) = before ++ after := by
    rw [claims, List.eraseP_append_right _ passed, List.eraseP_cons_of_pos (by simpa using named)]
  rw [Slot.closeClaim, erased]

theorem closes_of_named {x : Slot} {c : Closure} {before after : List Claim} {d : Claim} (generation : x.generation = c.generation)
    (claims : x.claims = before ++ d :: after) (named : d.bay = c.bay ∧ d.serial = c.serial) : x.closes c = true := by
  have listed : x.claims.any (fun d => decide (d.bay = c.bay) && decide (d.serial = c.serial)) = true :=
    List.any_eq_true.mpr ⟨d, by rw [claims]; simp, by simpa using named⟩
  rw [Slot.closes, listed]
  simpa using generation

theorem closes_false {x : Slot} {c : Closure}
    (misses : x.generation ≠ c.generation ∨ ∀ d ∈ x.claims, ¬(d.bay = c.bay ∧ d.serial = c.serial)) : ¬x.closes c = true := by
  intro closes
  obtain ⟨generation, listed⟩ := Bool.and_eq_true_iff.mp closes
  obtain ⟨d, mem, named⟩ := List.any_eq_true.mp listed
  obtain other | none := misses
  · exact other (of_decide_eq_true generation)
  · exact none d mem (by simpa using named)

/-- The key store with the closure taken and the claim out of its slot's list, before anything follows. -/
def State.claimClosed (s : State) (c : Closure) : State := s.closureTaken.updSlot c.slot (·.closeClaim c)

theorem takeClosure_misses {s : State} {c : Closure} (misses : ¬(s.slot c.slot).closes c = true) : s.takeClosure c = s.closureTaken :=
  if_neg misses

theorem takeClosure_finds {s : State} {c : Closure} (closes : (s.slot c.slot).closes c = true) : s.takeClosure c =
    (((s.claimClosed c).retakeDeferred c.bay c.slot).testDrain c.slot).settleClosed c.slot
      { bay := c.bay, serial := c.serial, orphan := true } := if_pos closes

theorem retakeDeferred_none {s : State} {b : BayId} {i : SlotId} (elsewhere : s.ks.deferred[b] ≠ some i) : s.retakeDeferred b i = s :=
  if_neg elsewhere

/-- The bay's deferred request is out of its place, and its mark is cleared (R49). -/
def State.deferralTaken (s : State) (b : BayId) : State := (s.undeferred b).updSession b fun x => { x with deferral := false }

theorem retakeDeferred_some {s : State} {b : BayId} {i : SlotId} (waits : s.ks.deferred[b] = some i) :
    s.retakeDeferred b i = (s.deferralTaken b).takeClaim b i := if_pos waits

theorem settleClosed_unsettled {s : State} {i : SlotId} (none : (s.slot i).settle = none) (c : Claim) : s.settleClosed i c = s := by
  rw [State.settleClosed, updSettle_unsettled none, testSettle_unsettled none]

/-! ## The commands' effects -/

section
variable {s : State} {c : Closure} {before after : List Claim} {d : Claim} (opened : s.ks.overwrite = none)
  (head : s.ks.requests.head? = some .closure) (pending : s.ks.closure = some c)
include opened head pending

theorem exec_claimClosure_misses
    (misses : (s.slot c.slot).generation ≠ c.generation ∨ ∀ d ∈ (s.slot c.slot).claims, ¬(d.bay = c.bay ∧ d.serial = c.serial)) :
    exec .claimClosure s = .next (s.run fun _ => s.quiet.dropRequest.closureTaken) :=
  (exec_claimClosure opened head pending).trans (next_run_eq (takeClosure_misses (s := s.quiet.dropRequest) (closes_false misses)))

variable (generation : (s.slot c.slot).generation = c.generation) (claims : (s.slot c.slot).claims = before ++ d :: after)
  (named : d.bay = c.bay ∧ d.serial = c.serial)
include generation claims named

theorem exec_claimClosure_finds : exec .claimClosure s = .next (s.run fun _ =>
    (((s.quiet.dropRequest.claimClosed c).retakeDeferred c.bay c.slot).testDrain c.slot).settleClosed c.slot
      { bay := c.bay, serial := c.serial, orphan := true }) :=
  (exec_claimClosure opened head pending).trans
    (next_run_eq (takeClosure_finds (s := s.quiet.dropRequest) (closes_of_named generation claims named)))

end

section
variable (s : State) (c : Closure)

theorem claimClosed_slot : (s.claimClosed c).slot c.slot = (s.slot c.slot).closeClaim c := updSlot_slot_self ..

theorem claimClosed_other : s.otherSlotsSame (s.claimClosed c) c.slot := fun j apart => updSlot_other _ _ _ _ apart

theorem claimClosed_frame : (s.claimClosed c).ks.closure = none ∧ (s.claimClosed c).ks.requests = s.ks.requests ∧
    (s.claimClosed c).ks.deferred = s.ks.deferred ∧ (s.claimClosed c).bays = s.bays ∧ (s.claimClosed c).ceu = s.ceu ∧
    (s.claimClosed c).cipher = s.cipher ∧ (s.claimClosed c).prof = s.prof ∧ (s.claimClosed c).writer = s.writer ∧
    (s.claimClosed c).clock = s.clock ∧ (s.claimClosed c).intake = s.intake ∧ (s.claimClosed c).engine = s.engine :=
  ⟨rfl, rfl, rfl, rfl, rfl, rfl, rfl, rfl, rfl, rfl, rfl⟩

end

/-! ## No request waits on the slot -/

section
variable {s : State} {c : Closure} {before after : List Claim} {d : Claim} (on : s.engine ≠ .off) (opened : s.ks.overwrite = none)
  (head : s.ks.requests.head? = some .closure) (pending : s.ks.closure = some c)
  (generation : (s.slot c.slot).generation = c.generation) (claims : (s.slot c.slot).claims = before ++ d :: after)
  (named : d.bay = c.bay ∧ d.serial = c.serial) (earlier : ∀ e ∈ before, ¬(e.bay = c.bay ∧ e.serial = c.serial))

section
include on opened head pending

theorem claimClosure_misses
    (misses : (s.slot c.slot).generation ≠ c.generation ∨ ∀ d ∈ (s.slot c.slot).claims, ¬(d.bay = c.bay ∧ d.serial = c.serial)) :
    ∃ t, exec .claimClosure s = .next t ∧
      t.ks = { s.ks with requests := s.ks.requests.tail, closure := none } ∧ t.bays = s.bays ∧ t.ceu = s.ceu ∧
      t.cipher = s.cipher ∧ t.prof = s.prof ∧ t.clock = s.clock := by
  refine ⟨_, exec_claimClosure_misses opened head pending misses, ?_⟩
  simp only [run_frame _ _ on]
  exact ⟨rfl, rfl, rfl, rfl, rfl, rfl⟩

end

variable (elsewhere : s.ks.deferred[c.bay] ≠ some c.slot)
include on opened head pending generation claims named earlier elsewhere

theorem claimClosure_keeps (unsettled : (s.slot c.slot).settle = none)
    (kept : (s.slot c.slot).state ≠ .draining ∨ (s.slot c.slot).holds ≠ 0 ∨ ∃ e ∈ before ++ after, e.orphan = false) :
    ∃ t, exec .claimClosure s = .next t ∧
      t.slot c.slot = { s.slot c.slot with claims := before ++ after, receipted := (s.slot c.slot).receipted + 1 } ∧
      s.otherSlotsSame t c.slot ∧ t.ks.closure = none ∧ t.ks.requests = s.ks.requests.tail ∧
      t.ks.deferred = s.ks.deferred ∧ t.bays = s.bays ∧ t.ceu = s.ceu ∧ t.cipher = s.cipher ∧ t.prof = s.prof ∧
      t.writer.queue = s.writer.queue ∧ t.clock = s.clock := by
  let w := s.quiet.dropRequest.claimClosed c
  have slot : w.slot c.slot = { s.slot c.slot with claims := before ++ after, receipted := (s.slot c.slot).receipted + 1 } :=
    (claimClosed_slot ..).trans (closeClaim_claims (x := s.slot c.slot) claims named earlier)
  have effect : (((w.retakeDeferred c.bay c.slot).testDrain c.slot).settleClosed c.slot
      { bay := c.bay, serial := c.serial, orphan := true }) = w := by
    rw [retakeDeferred_none (s := w) elsewhere, testDrain_waits, settleClosed_unsettled]
    · rw [slot]; exact unsettled
    · rw [slot]
      exact kept.imp_right fun held => (drained_eq_false_iff _).mpr held
  refine ⟨_, (exec_claimClosure_finds opened head pending generation claims named).trans (next_run_eq effect), ?_⟩
  obtain ⟨slots, -, -, -⟩ := run_parts s (fun _ => w) on
  refine ⟨(slots _).trans slot, fun j apart => (slots j).trans (claimClosed_other _ c j apart), ?_⟩
  simp only [run_frame _ _ on]
  exact ⟨rfl, rfl, rfl, rfl, rfl, rfl, rfl, rfl, rfl⟩

theorem claimClosure_erases (unsettled : (s.slot c.slot).settle = none) (draining : (s.slot c.slot).state = .draining)
    (free : (s.slot c.slot).holds = 0) (orphans : ∀ e ∈ before ++ after, e.orphan = true) :
    ∃ t, exec .claimClosure s = .next t ∧ (t.slot c.slot).generation = (s.slot c.slot).generation + 1 ∧
      (t.slot c.slot).claims = [] ∧ (t.slot c.slot).nextSerial = 0 ∧ (t.slot c.slot).receipted = 0 ∧
      (t.slot c.slot).allowance = 0 ∧ (t.slot c.slot).keyholders = [] ∧ (t.slot c.slot).checkValue = none ∧
      (c.slot.val < 48 → (t.slot c.slot).state = .writing ∧ (t.slot c.slot).target = some .empty) ∧
      (48 ≤ c.slot.val → (t.slot c.slot).state = .empty ∧ (t.slot c.slot).definition = none) ∧
      s.otherSlotsSame t c.slot ∧ t.ks.closure = none ∧ t.ks.requests = s.ks.requests.tail ∧
      t.bays = s.bays ∧ t.ceu = s.ceu ∧ t.cipher = s.cipher ∧ t.prof = s.prof ∧ t.clock = s.clock := by
  let w := s.quiet.dropRequest.claimClosed c
  have slot : w.slot c.slot = { s.slot c.slot with claims := before ++ after, receipted := (s.slot c.slot).receipted + 1 } :=
    (claimClosed_slot ..).trans (closeClaim_claims (x := s.slot c.slot) claims named earlier)
  have erasing := beginErase_slot w c.slot
  rw [slot] at erasing
  have effect : (((w.retakeDeferred c.bay c.slot).testDrain c.slot).settleClosed c.slot
      { bay := c.bay, serial := c.serial, orphan := true }) = w.beginErase c.slot := by
    rw [retakeDeferred_none (s := w) elsewhere, testDrain_erases (by rw [slot]; exact draining)
      (by rw [slot]; exact (drained_iff _).mpr ⟨free, orphans⟩), settleClosed_unsettled (erasing.settle.trans unsettled)]
  refine ⟨_, (exec_claimClosure_finds opened head pending generation claims named).trans (next_run_eq effect), ?_⟩
  obtain ⟨slots, -, -, -⟩ := run_parts s (fun _ => w.beginErase c.slot) on
  simp only [slots]
  refine ⟨erasing.generation, erasing.claims, erasing.nextSerial, erasing.receipted, erasing.allowance, erasing.keyholders,
    erasing.checkValue, fun low => ?_, fun high => ?_, fun j apart => ?_, ?_⟩
  · exact ⟨(erasing.persistent low).1, (erasing.persistent low).2.1⟩
  · exact ⟨(erasing.volatile high).1, (erasing.volatile high).2.1⟩
  · rw [slots, beginErase_otherSlot _ _ _ apart]
    exact claimClosed_other _ c j apart
  · simp only [run_frame _ _ on, beginErase_frame]
    exact ⟨rfl, rfl, rfl, rfl, rfl, rfl, rfl⟩

end

end Sys2Proof.Machine
end

section

set_option Elab.async false

/-!
SUPPORT. Closures that a settle or a deferred request waits for (R49, R52, R55).
-/

namespace Sys2Proof.Machine

/-! ## No deferral after a decision -/

theorem keyUnavailable_deferral {s : State} {b : BayId} (none : (s.bay b).session.deferral = false) (r : CipherRequest) :
    ((s.keyUnavailable r).bay b).session.deferral = false := by
  unfold State.keyUnavailable
  split
  next c n _ =>
    split
    · by_cases own : b = c
      · subst own
        exact file_deferral none _
      · rw [fileVoid_other _ _ _ _ own]
        exact none
    · exact none
  · exact none
  · exact none

theorem startCipher_deferral {l : List CipherRequest} {s : State} {b : BayId} (none : (s.bay b).session.deferral = false) :
    ((State.startCipher l s).bay b).session.deferral = false := by
  induction l generalizing s with
  | nil => exact none
  | cons r rest ih =>
    rw [State.startCipher]
    split
    · exact none
    · exact ih (keyUnavailable_deferral none r)

theorem submitCipher_deferral {s : State} {b : BayId} (none : (s.bay b).session.deferral = false) (requester : Requester) (op : CipherOp) :
    ((s.submitCipher requester op).bay b).session.deferral = false := by
  unfold State.submitCipher State.kickCipher
  split
  · exact none
  · exact startCipher_deferral none

theorem prepareNext_deferral {s : State} {b : BayId} (none : (s.bay b).session.deferral = false) :
    ((s.prepareNext b).bay b).session.deferral = false := by
  unfold State.prepareNext
  split
  · refine submitCipher_deferral ?_ _ _
    rw [updSession_bay_self]
    exact none
  · obtain ⟨link, bay⟩ := sendLatched_bay (s.updSession b fun x =>
      { x with state := .loading, begun := true, delivery := .begin, current := (firstApplicable x.records 0).map (·.1) }) b
      (.begin ((s.session b).records.countP (·.applies)))
    rw [State.enterLoading, bay, updSession_bay_self]
    exact none

/-- A bay that goes on after a grant waits for no deferred claim. -/
theorem claimGranted_deferral (s : State) (b : BayId) : ((s.claimGranted b).bay b).session.deferral = false := by
  cases reason : (s.session b).reason with
  | some reason =>
    rw [claimGranted_fixed reason]
    exact claimingOver_deferral ..
  | none =>
    rw [claimGranted_open reason]
    cases first : nextNeed (s.session b).records 0 with
    | some need =>
      obtain ⟨n, need⟩ := need
      rw [claimNext_requests first, request_bay, updSession_bay_self]
    | none =>
      rw [claimNext_prepares first, State.enterPreparing]
      exact prepareNext_deferral (by rw [updBay_bay_self])

/-! ## The closure of an orphan under a settle (R55) -/

/-- The test of a settle changes nothing of its slot but the settle. -/
theorem testSettle_slot (s : State) (i : SlotId) : ∃ settle, (s.testSettle i).slot i = { s.slot i with settle } := by
  cases settle : (s.slot i).settle with
  | none => exact ⟨(s.slot i).settle, by rw [testSettle_unsettled settle]⟩
  | some v =>
    have answered := answerSettle_slot settle
    unfold State.testSettle
    simp only [settle]
    split
    · exact ⟨_, rfl⟩
    · split
      · exact ⟨none, by rw [updSlot_slot_self, answered]⟩
      · split
        · exact ⟨_, answered _⟩
        · exact ⟨_, rfl⟩

/-- A settle that ends answers OK with the receipts it entered. -/
theorem testSettle_completes {s : State} {i : SlotId} {v : Settle} {cell : Nat} (settle : (s.slot i).settle = some v)
    (entered : v.remaining = []) (free : s.settleWaits i = false) (closed : v.unclosed = []) (order : v.order = some cell) :
    s.completes (s.testSettle i) cell .ok (slotCountData i v.entered (s.slot i).generation) := by
  rw [testSettle_closed settle entered free closed]
  exact answerSettle_completes settle order .ok

/-- The closure of an orphan is off the list of its settle (R55). -/
def State.settleReported (s : State) (c : Closure) : State :=
  s.updSettle c.slot fun t =>
    { t with unclosed := t.unclosed.filter fun e => !(decide (e.bay = c.bay) && decide (e.serial = c.serial)) }

theorem settleClosed_eq (s : State) (c : Closure) : s.settleClosed c.slot { bay := c.bay, serial := c.serial, orphan := true } =
    (s.settleReported c).testSettle c.slot := rfl

theorem settleReported_frame (s : State) (c : Closure) : (s.settleReported c).bays = s.bays ∧ (s.settleReported c).ceu = s.ceu ∧
    (s.settleReported c).cipher = s.cipher ∧ (s.settleReported c).prof = s.prof ∧ (s.settleReported c).writer = s.writer ∧
    (s.settleReported c).engine = s.engine ∧ (s.settleReported c).intake = s.intake ∧
    ∀ j, j ≠ c.slot → (s.settleReported c).slot j = s.slot j :=
  ⟨rfl, rfl, rfl, rfl, rfl, rfl, rfl, fun j apart => updSettle_otherSlot s c.slot _ j apart⟩

theorem State.completes.congr_left {s u t : State} {cell : Nat} {r : Result} {data : List Byte} (h : u.completes t cell r data)
    (area : u.intake.area = s.intake.area) : s.completes t cell r data := fun inUse => h (by rw [area]; exact inUse)

section
variable {s : State} {c : Closure} {before after : List Claim} {d : Claim} (on : s.engine ≠ .off) (opened : s.ks.overwrite = none)
  (head : s.ks.requests.head? = some .closure) (pending : s.ks.closure = some c)
  (generation : (s.slot c.slot).generation = c.generation) (claims : (s.slot c.slot).claims = before ++ d :: after)
  (named : d.bay = c.bay ∧ d.serial = c.serial) (earlier : ∀ e ∈ before, ¬(e.bay = c.bay ∧ e.serial = c.serial))
include on opened head pending generation claims named earlier

theorem claimClosure_settles {v : Settle} {left : List Claim} (elsewhere : s.ks.deferred[c.bay] ≠ some c.slot)
    (ready : (s.slot c.slot).state = .ready) (settle : (s.slot c.slot).settle = some v)
    (rest : left = v.unclosed.filter (fun e => !(decide (e.bay = c.bay) && decide (e.serial = c.serial)))) :
    ∃ t, exec .claimClosure s = .next t ∧ (t.slot c.slot).claims = before ++ after ∧
      (t.slot c.slot).receipted = (s.slot c.slot).receipted + 1 ∧ (t.slot c.slot).state = .ready ∧
      s.otherSlotsSame t c.slot ∧ t.bays = s.bays ∧ t.ceu = s.ceu ∧ t.cipher = s.cipher ∧ t.prof = s.prof ∧
      (v.remaining = [] → s.settleWaits c.slot = false → left = [] →
        (t.slot c.slot).settle = none ∧ ∀ cell, v.order = some cell → s.completes t cell .ok
          ([byteOf c.slot.val, byteOf v.entered] ++ toLE 2 (s.slot c.slot).generation.toNat)) ∧
      (v.remaining ≠ [] ∨ s.settleWaits c.slot = true ∨ (left ≠ [] ∧ s.engine ≠ .stopping) →
        (t.slot c.slot).settle = some { v with unclosed := left }) := by
  let w := s.quiet.dropRequest.claimClosed c
  have closed : w.slot c.slot = { s.slot c.slot with claims := before ++ after, receipted := (s.slot c.slot).receipted + 1 } :=
    (claimClosed_slot ..).trans (closeClaim_claims (x := s.slot c.slot) claims named earlier)
  let y := w.settleReported c
  have slot : y.slot c.slot = { s.slot c.slot with
      claims := before ++ after, receipted := (s.slot c.slot).receipted + 1, settle := some { v with unclosed := left } } := by
    have settled : (w.slot c.slot).settle = some v := by rw [closed]; exact settle
    have own := updSettle_slot settled fun t =>
      { t with unclosed := t.unclosed.filter fun e => !(decide (e.bay = c.bay) && decide (e.serial = c.serial)) }
    rw [show y = w.updSettle c.slot _ from rfl, own, closed, rest]
  have waits : y.settleWaits c.slot = s.settleWaits c.slot := by
    simp only [State.settleWaits, y, settleReported_frame, w, claimClosed_frame]
    rfl
  have sameEngine : y.engine = s.engine := by
    simp only [y, settleReported_frame, w, claimClosed_frame]
    rfl
  have reported : (y.slot c.slot).settle = some { v with unclosed := left } := by rw [slot]
  have effect : (((w.retakeDeferred c.bay c.slot).testDrain c.slot).settleClosed c.slot
      { bay := c.bay, serial := c.serial, orphan := true }) = y.testSettle c.slot := by
    rw [retakeDeferred_none (s := w) elsewhere, testDrain_waits (.inl (by rw [closed, ready]; exact nofun)), settleClosed_eq]
  obtain ⟨after', own⟩ := testSettle_slot y c.slot
  refine ⟨_, (exec_claimClosure_finds opened head pending generation claims named).trans (next_run_eq effect), ?_⟩
  obtain ⟨slots, -, -, -⟩ := run_parts s (fun _ => y.testSettle c.slot) on
  simp only [slots]
  refine ⟨by rw [own, slot], by rw [own, slot], by rw [own, slot]; exact ready, fun j apart => ?_, ?_, ?_, ?_, ?_,
    fun entered free none => ⟨?_, fun cell order => ?_⟩, fun going => ?_⟩
  · rw [slots, testSettle_otherSlot _ _ _ apart]
    exact ((settleReported_frame w c).2.2.2.2.2.2.2 j apart).trans (claimClosed_other _ c j apart)
  · simp only [run_frame _ _ on, testSettle_frame, y, settleReported_frame, w, claimClosed_frame]; rfl
  · simp only [run_frame _ _ on, testSettle_frame, y, settleReported_frame, w, claimClosed_frame]; rfl
  · simp only [run_frame _ _ on, testSettle_frame, y, settleReported_frame, w, claimClosed_frame]; rfl
  · simp only [run_frame _ _ on, testSettle_frame, y, settleReported_frame, w, claimClosed_frame]; rfl
  · rw [testSettle_closed reported entered (waits.trans free) none, updSlot_slot_self]
  · have answered := testSettle_completes reported entered (waits.trans free) none order
    rw [slot] at answered
    have area : y.intake.area = s.quiet.intake.area := by
      simp only [y, settleReported_frame, w, claimClosed_frame]
      rfl
    exact State.completes.run on (f := fun _ => y.testSettle c.slot) (answered.congr_left area)
  · by_cases submits : v.remaining ≠ [] ∨ s.settleWaits c.slot = true
    · rw [testSettle_submits reported (submits.imp_right waits.trans), slot]
    · obtain ⟨entered, free⟩ := not_or.mp submits
      obtain ⟨open_, engine⟩ := (going.resolve_left entered).resolve_left free
      rw [testSettle_waits reported (by rw [sameEngine]; exact engine) open_, slot]

end

end Sys2Proof.Machine
end

section

set_option Elab.async false

/-!
SUPPORT. Deferred requests taken again at a closure (R49, R52).
-/

namespace Sys2Proof.Machine

section
variable (s : State) (c : Closure)

/-- The state in which the deferred request is taken again: the claim closed, the request out of its place. -/
def State.retaking : State := (s.claimClosed c).deferralTaken c.bay

theorem retaking_slot : (s.retaking c).slot c.slot = (s.slot c.slot).closeClaim c := claimClosed_slot s c

theorem retaking_other : s.otherSlotsSame (s.retaking c) c.slot := claimClosed_other s c

theorem retaking_frame : (s.retaking c).ks.closure = none ∧ (s.retaking c).ks.requests = s.ks.requests ∧
    (s.retaking c).ks.deferred = s.ks.deferred.set c.bay none ∧ (s.retaking c).ceu = s.ceu ∧
    (s.retaking c).cipher = s.cipher ∧ (s.retaking c).prof = s.prof ∧ (s.retaking c).writer = s.writer ∧
    (s.retaking c).clock = s.clock ∧ (s.retaking c).intake = s.intake ∧ (s.retaking c).events.room = s.events.room :=
  ⟨rfl, rfl, rfl, rfl, rfl, rfl, rfl, rfl, rfl, rfl⟩

theorem retaking_bay : (s.retaking c).bay c.bay = { s.bay c.bay with session := { s.session c.bay with deferral := false } } := by
  rw [State.retaking, State.deferralTaken, updSession_bay_self]
  rfl

theorem retaking_bay_other {z : BayId} (apart : z ≠ c.bay) : (s.retaking c).bay z = s.bay z := updSession_other _ _ _ _ apart

theorem recorded_retaking : s.recorded (s.dropRequest.retaking c) c.bay (s.session c.bay).records := by
  obtain ⟨-, requests, -, -, cipher, prof, writer, clock, intake, -⟩ := retaking_frame s.dropRequest c
  refine ⟨⟨⟨false, _, retaking_bay s.dropRequest c⟩, fun z apart => retaking_bay_other s.dropRequest c apart, rfl, rfl, rfl,
    requests, by rw [writer]; rfl, by rw [writer]; rfl, clock, prof, by rw [intake]; rfl⟩, cipher, ?_⟩
  exact keyFor_updSlot (s := s.dropRequest.closureTaken) (f := (·.closeClaim c)) fun _ => rfl

/-- The store as it stands with the claim closed and nothing else done: the request is refused against it. -/
theorem decided_retaking : (s.updSlot c.slot (·.closeClaim c)).decided (s.dropRequest.retaking c) c.bay (s.session c.bay) ∧
    (s.dropRequest.retaking c).ks.slots = (s.updSlot c.slot (·.closeClaim c)).ks.slots := by
  obtain ⟨-, requests, -, -, cipher, prof, writer, clock, intake, -⟩ := retaking_frame s.dropRequest c
  exact ⟨⟨⟨false, _, retaking_bay s.dropRequest c⟩, fun z apart => retaking_bay_other s.dropRequest c apart, rfl, rfl, rfl,
    requests, by rw [writer]; rfl, by rw [writer]; rfl, clock, prof, by rw [intake]; rfl⟩, rfl⟩

end

theorem State.watchesFire.retaking {r s : State} {recognised : Option (BayId × Edge)} (h : r.watchesFire s recognised) (c : Closure)
    (fresh : s.slot c.slot = r.slot c.slot) : r.watchesFire (s.retaking c) recognised := by
  have taken : r.watchesFire s.closureTaken recognised := h.updKs _
  have closed : r.watchesFire (s.claimClosed c) recognised :=
    taken.updSlot c.slot (·.closeClaim c) (congrArg Slot.state fresh) (congrArg Slot.allowance fresh)
  exact closed.same (t := s.retaking c) rfl (fun _ => rfl) (fun _ => rfl) (fun _ => rfl) rfl

section
variable {s : State} {c : Closure} {before after : List Claim} {d : Claim} (on : s.engine ≠ .off) (opened : s.ks.overwrite = none)
  (head : s.ks.requests.head? = some .closure) (pending : s.ks.closure = some c)
  (generation : (s.slot c.slot).generation = c.generation) (claims : (s.slot c.slot).claims = before ++ d :: after)
  (named : d.bay = c.bay ∧ d.serial = c.serial) (earlier : ∀ e ∈ before, ¬(e.bay = c.bay ∧ e.serial = c.serial))
  (waits : s.ks.deferred[c.bay] = some c.slot) (unsettled : (s.slot c.slot).settle = none)

section
include claims named earlier

theorem retaking_closed : (s.quiet.dropRequest.retaking c).slot c.slot =
    { s.slot c.slot with claims := before ++ after, receipted := (s.slot c.slot).receipted + 1 } :=
  (retaking_slot s.quiet.dropRequest c).trans (closeClaim_claims (x := s.slot c.slot) claims named earlier)

end

section
include opened head pending generation claims named waits

theorem exec_claimClosure_retakes {u : State} (taken : (s.quiet.dropRequest.retaking c).takeClaim c.bay c.slot = u)
    (kept : (u.slot c.slot).state ≠ .draining ∨ (u.slot c.slot).drained = false) (settle : (u.slot c.slot).settle = none) :
    exec .claimClosure s = .next (s.run fun _ => u) := by
  refine (exec_claimClosure_finds opened head pending generation claims named).trans (next_run_eq ?_)
  have again : (s.quiet.dropRequest.claimClosed c).retakeDeferred c.bay c.slot = u :=
    (retakeDeferred_some (s := s.quiet.dropRequest.claimClosed c) waits).trans taken
  rw [again, testDrain_waits kept, settleClosed_unsettled settle]

end

include on opened head pending generation claims named earlier waits unsettled

/-- The request that waited is granted at the closure. -/
theorem claimClosure_grants (ready : (s.slot c.slot).state = .ready) (base : (s.slot c.slot).isBase = true)
    (admitted : (s.slot c.slot).admits c.bay = true) (unclaimed : ∀ e ∈ before ++ after, e.bay ≠ c.bay)
    (serials : (s.slot c.slot).nextSerial < 1048576) (allowance : 0 < (s.slot c.slot).allowance) :
    ∃ t, exec .claimClosure s = .next t ∧
      t.slot c.slot =
        { s.slot c.slot with
          nextSerial := (s.slot c.slot).nextSerial + 1, allowance := (s.slot c.slot).allowance - 1,
          receipted := (s.slot c.slot).receipted + 1,
          claims := before ++ after ++ [{ bay := c.bay, serial := (s.slot c.slot).nextSerial, orphan := false }],
          holds := (s.slot c.slot).holds ||| (1#8 <<< c.bay.val) } ∧
      s.otherSlotsSame t c.slot ∧ t.ks.deferred = s.ks.deferred.set c.bay none ∧ t.ks.closure = none ∧
      (t.session c.bay).deferral = false ∧ t.ceu = s.ceu ∧ t.prof = s.prof ∧ s.watchesFire t none ∧
      ∀ (n : Nat) (r : ItemRecord) (records : List ItemRecord), (s.session c.bay).current = some n →
        (s.session c.bay).records[n]? = some r →
        records = (s.session c.bay).records.set n
          { r with
            stage := .claimed
            claim := some { slot := c.slot, generation := (s.slot c.slot).generation, serial := (s.slot c.slot).nextSerial,
                            ksn := formKsn (s.slot c.slot).ksi (s.slot c.slot).nextSerial } } →
        ((s.session c.bay).reason = none → s.claimingGoesOn t c.bay records) ∧
        ∀ reason, (s.session c.bay).reason = some reason →
          s.claimingEnded t c.bay { s.session c.bay with records := records } reason := by
  have closed := retaking_closed claims named earlier
  have bay := retaking_bay s.quiet.dropRequest c
  have recorded := recorded_retaking s.quiet c
  have fires : s.quiet.watchesFire (s.quiet.dropRequest.retaking c) none :=
    ((State.watchesFire.refl s.quiet).updKs _).retaking (s := s.quiet.dropRequest) c rfl
  obtain ⟨closure, -, deferred, ceu, -, prof, -, -, -, room⟩ := retaking_frame s.quiet.dropRequest c
  have others := retaking_other s.quiet.dropRequest c
  generalize retaken : s.quiet.dropRequest.retaking c = u at *
  have decision : (u.slot c.slot).decideClaim c.bay = .grant := by
    rw [closed]
    exact decideClaim_grants ⟨ready, base⟩ admitted unclaimed serials allowance
  obtain ⟨slot, apart⟩ := claimTaken_slots u c.bay c.slot
  obtain ⟨sameDeferred, sameClosure, -, sameCeu, sameProf, -, sameRoom⟩ := claimTaken_frame u c.bay c.slot
  have state : (u.slot c.slot).state = (s.quiet.slot c.slot).state := by rw [closed]; rfl
  have allowances : (u.slot c.slot).allowance = (s.quiet.slot c.slot).allowance := by rw [closed]; rfl
  have fired : s.quiet.watchesFire ((u.claimTaken c.bay c.slot).claimGranted c.bay) none :=
    State.watchesFire.claimTaken fires c.bay c.slot state allowances
  rw [closed] at slot
  have effect : exec .claimClosure s = .next (s.run fun _ => (u.claimTaken c.bay c.slot).claimGranted c.bay) :=
    exec_claimClosure_retakes opened head pending generation claims named waits
      ((congrArg (fun u : State => u.takeClaim c.bay c.slot) retaken).trans (takeClaim_grants decision))
      (.inl (by rw [slot]; simp [Slot.grantClaim, ready])) (by rw [slot]; exact unsettled)
  refine ⟨_, effect, ?_⟩
  obtain ⟨slots, -, sessions, -⟩ := run_parts s (fun _ => (u.claimTaken c.bay c.slot).claimGranted c.bay) on
  have frame := run_frame s (fun _ => (u.claimTaken c.bay c.slot).claimGranted c.bay) on
  refine ⟨(slots _).trans slot, fun j other => (slots j).trans ((apart j other).trans (others j other)), ?_, ?_, ?_, ?_, ?_,
    fired.run on (sameRoom.trans room), fun n r records current record is => ?_⟩
  · rw [frame.2.2.1]; exact sameDeferred.trans deferred
  · rw [frame.2.2.1]; exact sameClosure.trans closure
  · rw [sessions]; exact claimGranted_deferral _ _
  · rw [frame.2.2.2.1]; exact sameCeu.trans ceu
  · rw [frame.2.2.2.2.2.2.1]; exact sameProf.trans prof
  · have noted := recorded_claimTaken c.slot recorded (r := r) (n := n) (by rw [State.session, bay]; exact current) record
    rw [closed] at noted
    obtain ⟨goesOn, ended⟩ := noted.claimGranted
    subst is
    exact ⟨fun unfixed => (goesOn unfixed).1.run on, fun reason fixed => (ended reason fixed).run on⟩

/-- The request that waited is refused where the slot drains. -/
theorem claimClosure_refuses (draining : (s.slot c.slot).state = .draining) (held : (s.slot c.slot).holds ≠ 0) :
    ∃ t, exec .claimClosure s = .next t ∧
      t.slot c.slot = { s.slot c.slot with claims := before ++ after, receipted := (s.slot c.slot).receipted + 1 } ∧
      s.otherSlotsSame t c.slot ∧ t.ks.deferred = s.ks.deferred.set c.bay none ∧ t.ks.closure = none ∧
      (t.session c.bay).deferral = false ∧ t.ceu = s.ceu ∧ t.cipher = s.cipher ∧ t.prof = s.prof ∧
      ∀ r, (s.bay c.bay).running = some r → (s.session c.bay).reason = none → (s.session c.bay).hasClaim = false →
        s.completes t r.order .refusedState (planData c.bay (byteOf c.slot.val) (s.bay c.bay).counters) := by
  have closed := retaking_closed claims named earlier
  obtain ⟨decided, slots⟩ := decided_retaking s.quiet c
  obtain ⟨closure, -, deferred, ceu, cipher, prof, -, -, -, -⟩ := retaking_frame s.quiet.dropRequest c
  have others := retaking_other s.quiet.dropRequest c
  generalize retaken : s.quiet.dropRequest.retaking c = u at *
  have decision : (u.slot c.slot).decideClaim c.bay = .refuse .refusedState := by
    rw [closed]
    exact decideClaim_notReady fun fits => nomatch draining.symm.trans fits.1
  have same := (claimRefused_frame u c.bay .refusedState c.slot).2.2.2.2.2.2.2.2.2.2.2.2.2.2.2.2.2.2.2.2.2.2.2.2.1
  have effect : exec .claimClosure s = .next (s.run fun _ => u.claimRefused c.bay .refusedState c.slot) :=
    exec_claimClosure_retakes opened head pending generation claims named waits
      ((congrArg (fun u : State => u.takeClaim c.bay c.slot) retaken).trans (takeClaim_refused decision))
      (.inr (by rw [same, closed]; exact (drained_eq_false_iff _).mpr (.inl held))) (by rw [same, closed]; exact unsettled)
  refine ⟨_, effect, ?_⟩
  obtain ⟨runSlots, -, sessions, -⟩ := run_parts s (fun _ => u.claimRefused c.bay .refusedState c.slot) on
  obtain ⟨-, noDeferral, -, rest⟩ := decided.claimRefused slots .refusedState c.slot
  refine ⟨(runSlots _).trans ((same _).trans closed), fun j other => (runSlots j).trans ((same j).trans (others j other)), ?_, ?_, ?_, ?_, ?_, ?_,
    fun r running unfixed unclaimed => ?_⟩
  · simp only [run_frame _ _ on, claimRefused_frame]; exact deferred
  · simp only [run_frame _ _ on, claimRefused_frame]; exact closure
  · rw [sessions]; exact noDeferral
  · simp only [run_frame _ _ on, claimRefused_frame]; exact ceu
  · simp only [run_frame _ _ on, claimRefused_frame]; exact cipher
  · simp only [run_frame _ _ on, claimRefused_frame]; exact prof
  · obtain ⟨completes, -⟩ := (rest r running unfixed).1 unclaimed
    exact State.completes.run on (f := fun _ => u.claimRefused c.bay .refusedState c.slot) completes

end

/-- Settles O29: the closure misses or finds its claim, and then by what waits on the slot. -/
theorem closureByRule : Obligations.ClosureByRule := by
  intro s c on opened head pending
  refine ⟨claimClosure_misses on opened head pending, fun before d after generation claims named earlier => ⟨fun elsewhere unsettled => ⟨?_, ?_⟩, ?_,
    fun waits unsettled => ⟨?_, ?_⟩⟩⟩
  · exact claimClosure_keeps on opened head pending generation claims named earlier elsewhere unsettled
  · exact claimClosure_erases on opened head pending generation claims named earlier elsewhere unsettled
  · exact fun v left elsewhere => claimClosure_settles on opened head pending generation claims named earlier elsewhere
  · exact claimClosure_grants on opened head pending generation claims named earlier waits unsettled
  · exact claimClosure_refuses on opened head pending generation claims named earlier waits unsettled

end Sys2Proof.Machine
end

section

set_option Elab.async false

/-!
SUPPORT. The cipher results of bays (R82 to R86, R125 to R127).
-/

namespace Sys2Proof.Machine

/-! ## A result stored (R125) -/

/-- A result is placed in the key buffer and its item is at a stage. -/
def State.stored (s : State) (b : BayId) (n : Nat) (place : KeyPlace → KeyPlace) (stage : Stage) : State :=
  (s.updPlace b n place).setStage b n stage

theorem modify_eq_set {α : Type} {l : List α} {n : Nat} {x : α} (at_n : l[n]? = some x) (f : α → α) : l.modify n f = l.set n (f x) := by
  rw [List.modify_eq_set_getElem?, at_n]
  rfl

section
variable {s : State} {b : BayId} {n : Nat} {x : ItemRecord} {k : KeyPlace} (record : (s.session b).records[n]? = some x)
  (held : (s.bay b).buffer[n]? = some k) (place : KeyPlace → KeyPlace) (stage : Stage)

include record held in
theorem stored_bay : (s.stored b n place stage).bay b = { s.bay b with
    buffer := (s.bay b).buffer.set n (place k)
    session := { s.session b with records := (s.session b).records.set n { x with stage } } } := by
  have buffer := modify_eq_set held place
  have records := modify_eq_set record fun i => { i with stage }
  rw [State.stored, State.setStage, updSession_bay_self, State.updPlace, updBay_bay_self, ← buffer, ← records]
  rfl

theorem stored_frame (s : State) (b : BayId) (n : Nat) : s.otherBaysSame (s.stored b n place stage) b ∧
    (s.stored b n place stage).cipher = s.cipher ∧ (s.stored b n place stage).ks = s.ks ∧ (s.stored b n place stage).ceu = s.ceu ∧
    (s.stored b n place stage).writer = s.writer ∧ (s.stored b n place stage).prof = s.prof ∧
    (s.stored b n place stage).clock = s.clock :=
  ⟨fun c apart => (updSession_other _ _ _ _ apart).trans (updPlace_other _ _ _ _ _ apart), rfl, rfl, rfl, rfl, rfl, rfl⟩

end

/-! ## The next operation (R125) -/

/-- Items that are prepared, or whose condition does not hold, are passed over. -/
theorem nextPreparation_skips {buffer : List KeyPlace} {before : List ItemRecord} (rest : List ItemRecord) (n : Nat)
    (done : ∀ y ∈ before, y.applies = true → y.stage = .prepared) :
    nextPreparation buffer (before ++ rest) n = nextPreparation buffer rest (n + before.length) := by
  induction before generalizing n with
  | nil => rfl
  | cons y before ih =>
    have nothing : (if y.applies = true then (buffer[n]?).bind y.nextOp else none) = none := by
      split
      next applies =>
        have prepared := done y (List.mem_cons_self ..) applies
        cases buffer[n]? with
        | none => rfl
        | some k => simp only [Option.bind_some, ItemRecord.nextOp, prepared]
      · rfl
    simp only [List.cons_append, nextPreparation, nothing]
    rw [ih (n + 1) fun z mem => done z (List.mem_cons_of_mem _ mem), List.length_cons, Nat.add_right_comm]
    rfl

section
variable {records : List ItemRecord} {buffer : List KeyPlace} {n : Nat} {x y : ItemRecord} {k : KeyPlace}
  (record : records[n]? = some x) (done : ∀ y ∈ records.take n, y.applies = true → y.stage = .prepared)
include record done

theorem nextPreparation_set : nextPreparation buffer (records.set n y) 0 =
    nextPreparation buffer (y :: records.drop (n + 1)) n := by
  obtain ⟨inside, -⟩ := List.getElem?_eq_some_iff.mp record
  have parts : records.set n y = records.take n ++ y :: records.drop (n + 1) := List.set_eq_take_append_cons_drop.trans (if_pos inside)
  rw [parts, nextPreparation_skips _ 0 done, List.length_take, Nat.min_eq_left (Nat.le_of_lt inside), Nat.zero_add]

theorem nextPreparation_set_some {op : CipherOp} (held : buffer[n]? = some k) (applies : y.applies = true) (needs : y.nextOp k = some op) :
    nextPreparation buffer (records.set n y) 0 = some (n, op) := by
  rw [nextPreparation_set record done]
  simp only [nextPreparation, applies, if_true, held, Option.bind_some, needs]

theorem nextPreparation_set_none (held : buffer[n]? = some k) (prepared : y.stage = .prepared)
    (last : ∀ z ∈ records.drop (n + 1), z.applies = false) : nextPreparation buffer (records.set n y) 0 = none := by
  have nothing : (if y.applies = true then (buffer[n]?).bind y.nextOp else none) = none := by
    split
    · simp only [held, Option.bind_some, ItemRecord.nextOp, prepared]
    · rfl
  have rest := nextPreparation_append buffer (records.drop (n + 1)) [] (n + 1) last
  rw [List.append_nil] at rest
  rw [nextPreparation_set record done]
  simp only [nextPreparation, nothing, rest]

end

/-- The bay in LOADING, and its exchange where a profile is latched (R127). -/
theorem enterLoading_bay (s : State) (b : BayId) : ∃ link, (s.enterLoading b).bay b = { s.bay b with
      link
      session := { (s.bay b).session with
        state := .loading, begun := true, delivery := .begin,
        current := (firstApplicable (s.bay b).session.records 0).map (·.1) } } ∧
    ((s.session b).latched ≠ none → link.exchange.map (·.frame) = some (.begin ((s.session b).records.countP (·.applies)))) := by
  let u := s.updSession b fun x =>
    { x with state := .loading, begun := true, delivery := .begin, current := (firstApplicable x.records 0).map (·.1) }
  have bay : u.bay b = { s.bay b with session := { (s.bay b).session with
      state := .loading, begun := true, delivery := .begin,
      current := (firstApplicable (s.bay b).session.records 0).map (·.1) } } := updSession_bay_self ..
  by_cases latched : (s.session b).latched = none
  · obtain ⟨link, sent⟩ := sendLatched_bay u b (.begin ((s.session b).records.countP (·.applies)))
    exact ⟨link, sent.trans (by rw [bay]), fun some => absurd latched some⟩
  · obtain ⟨⟨q, p⟩, profile⟩ := Option.ne_none_iff_exists'.mp latched
    have sent := sendLatched_eq (s := u) (by rw [State.session, bay]; exact profile)
      (.begin ((s.session b).records.countP (·.applies)))
    have effect : s.enterLoading b = u.openExchange b _ p.retryLimit p.replyTimeout := sent
    rw [effect, openExchange_bay, bay]
    exact ⟨_, rfl, fun _ => by rw [Link.opened_exchange]; rfl⟩

/-- A stage does not change which items apply. -/
theorem countP_applies_set {records : List ItemRecord} {n : Nat} {x : ItemRecord} (record : records[n]? = some x) (stage : Stage) :
    (records.set n { x with stage }).countP (·.applies) = records.countP (·.applies) := by
  obtain ⟨inside, rfl⟩ := List.getElem?_eq_some_iff.mp record
  have same : (records.set n { records[n] with stage }).map (·.applies) = records.map (·.applies) := by
    rw [List.map_set]
    refine List.ext_getElem (by simp) fun j _ _ => ?_
    by_cases own : n = j
    · subst own
      simp
    · simp [own]
  have count : ∀ l : List ItemRecord, l.countP (·.applies) = (l.map (·.applies)).countP id := fun l => by rw [List.countP_map]; rfl
  rw [count, count, same]

/-! ## What a bay goes on with -/

section
variable {s : State} {b : BayId} {n : Nat} {x : ItemRecord} {k : KeyPlace} {place : KeyPlace → KeyPlace} {stage : Stage}
  (idle : s.cipher.running = none) (empty : s.cipher.waiting = []) (record : (s.session b).records[n]? = some x)
  (held : (s.bay b).buffer[n]? = some k) (done : ∀ y ∈ (s.session b).records.take n, y.applies = true → y.stage = .prepared)

theorem set_getElem?_self {α : Type} {l : List α} {n : Nat} {x : α} (at_n : l[n]? = some x) (y : α) : (l.set n y)[n]? = some y := by
  obtain ⟨inside, -⟩ := List.getElem?_eq_some_iff.mp at_n
  rw [List.getElem?_set_self inside]

include idle empty record held done

/-- The item needs one operation more, and it starts at once. -/
theorem stored_submits {op : CipherOp} {working : Option Key} (applies : x.applies = true)
    (needs : ItemRecord.nextOp { x with stage } (place k) = some op) (copy : s.workingCopy op = some working) :
    ∃ t, ((s.stored b n place stage).prepareNext b).kickCipher = t ∧ (t.bay b).buffer = (s.bay b).buffer.set n (place k) ∧
      (t.session b).records = (s.session b).records.set n { x with stage } ∧
      t.cipher = { running := some { request := { requester := .bay b n, op }, working }, waiting := [] } ∧
      s.otherBaysSame t b ∧ t.ks = s.ks ∧ t.writer = s.writer := by
  have bay := stored_bay record held place stage
  obtain ⟨others, cipher, ks, -, writer, -, -⟩ := stored_frame place stage s b n
  have first : nextPreparation ((s.stored b n place stage).bay b).buffer ((s.stored b n place stage).session b).records 0 = some (n, op) := by
    rw [State.session, bay]
    exact nextPreparation_set_some record done (set_getElem?_self held _) applies needs
  let u := (s.stored b n place stage).updSession b fun x => { x with current := some n }
  have sameCopy : u.workingCopy op = some working := by
    rw [← copy]
    cases op <;> rfl
  have inHand : u.bay b = { (s.stored b n place stage).bay b with
      session := { ((s.stored b n place stage).bay b).session with current := some n } } := updSession_bay_self ..
  obtain ⟨started, bays, sameKs, sameWriter⟩ := submitCipher_starts (s := u) idle empty (.bay b n) sameCopy
  have busy : (u.submitCipher (.bay b n) op).kickCipher = u.submitCipher (.bay b n) op := if_pos (by rw [started]; rfl)
  refine ⟨_, (congrArg State.kickCipher (prepareNext_submits first)).trans busy, ?_, ?_, started, fun c apart => ?_, sameKs, sameWriter⟩
  · rw [bay_of_bays bays, inHand, bay]
  · rw [session_of_bays bays, State.session, inHand, bay]
  · rw [bay_of_bays bays]
    exact (updSession_other _ _ _ _ apart).trans (others c apart)

/-- Every item is prepared, and BEGIN opens LOADING (R127). -/
theorem stored_loads (prepared : stage = .prepared) (last : ∀ z ∈ (s.session b).records.drop (n + 1), z.applies = false) :
    ∃ t, ((s.stored b n place stage).prepareNext b).kickCipher = t ∧ (t.bay b).buffer = (s.bay b).buffer.set n (place k) ∧
      (t.session b).records = (s.session b).records.set n { x with stage } ∧ (t.session b).state = .loading ∧
      (t.session b).begun = true ∧ (t.session b).delivery = .begin ∧
      ((s.session b).latched ≠ none → (t.bay b).link.exchange.map (·.frame) =
        some (.begin ((s.session b).records.countP (·.applies)))) ∧
      t.cipher = { running := none, waiting := [] } ∧ s.otherBaysSame t b ∧ t.ks = s.ks ∧ t.writer = s.writer := by
  have bay := stored_bay record held place stage
  obtain ⟨others, cipher, ks, -, writer, -, -⟩ := stored_frame place stage s b n
  have first : nextPreparation ((s.stored b n place stage).bay b).buffer ((s.stored b n place stage).session b).records 0 = none := by
    rw [State.session, bay]
    exact nextPreparation_set_none record done (set_getElem?_self held _) prepared last
  have idleUnit : s.cipher = { running := none, waiting := [] } := by rw [← idle, ← empty]
  have rests : ((s.stored b n place stage).enterLoading b).kickCipher = (s.stored b n place stage).enterLoading b :=
    kickCipher_empty (by simpa [cipher] using empty)
  refine ⟨_, (congrArg State.kickCipher (prepareNext_loads first)).trans rests, ?_⟩
  have count : ((s.stored b n place stage).session b).records.countP (·.applies) = (s.session b).records.countP (·.applies) := by
    rw [State.session, bay]
    exact countP_applies_set record stage
  have frame := enterLoading_frame (s.stored b n place stage) b
  generalize s.stored b n place stage = u at *
  obtain ⟨link, loaded, begins⟩ := enterLoading_bay u b
  rw [bay] at loaded
  have own : (u.enterLoading b).bay b = _ := loaded
  refine ⟨by rw [own], by rw [State.session, own], by rw [State.session, own], by rw [State.session, own], by rw [State.session, own],
    fun latched => ?_, ?_, fun c apart => (enterLoading_other _ _ _ apart).trans (others c apart), ?_, ?_⟩
  · have opened := begins (by rw [State.session, bay]; exact latched)
    rw [count] at opened
    rw [own]
    exact opened
  · simp [frame, cipher, idleUnit]
  · simp [frame, ks]
  · simp [frame, writer]

end

end Sys2Proof.Machine
end

section

set_option Elab.async false

/-!
SUPPORT. DERIVE_DONE, CHECKVAL_DONE and WRAP_DONE for a bay (R82 to R86).
-/

namespace Sys2Proof.Machine

/-! ## A completion reaches its bay (R86) -/

section
variable {s : State} {b : BayId} {n : Nat}

theorem bayCompletion_stores (preparing : (s.session b).state = .preparing) (unfixed : (s.session b).reason = none)
    (store : State → State) : s.bayCompletion b store = (store s).prepareNext b := by
  rw [State.bayCompletion, if_pos preparing, unfixed]

theorem bayCompletion_voids {reason : VoidReason} (preparing : (s.session b).state = .preparing)
    (fixed : (s.session b).reason = some reason) (store : State → State) : s.bayCompletion b store = s.fileVoid b reason := by
  rw [State.bayCompletion, if_pos preparing, fixed]

theorem bayCompletion_discards (elsewhere : (s.session b).state ≠ .preparing) (store : State → State) :
    s.bayCompletion b store = s := if_neg elsewhere

theorem exec_deriveDone {i : SlotId} {g : BitVec 16} {ksn : Ksn} {key : Key}
    (running : s.cipher.running = some { request := { requester := .bay b n, op := .derive i g ksn }, working := some key }) :
    exec .deriveDone s = .next (s.run fun _ =>
      (s.quiet.releaseCipher.bayCompletion b (State.storeKey b n (Config.derive key ksn))).kickCipher) := by
  refine next_run_eq ?_
  have running : s.quiet.cipher.running = _ := running
  simp only [running]

theorem exec_checkvalDone_bay {key : Key} {w : Option Key}
    (running : s.cipher.running = some { request := { requester := .bay b n, op := .checkval key }, working := w }) :
    exec .checkvalDone s = .next (s.run fun _ =>
      (s.quiet.releaseCipher.bayCompletion b (State.storeCheckValue b n (Config.checkValue key))).kickCipher) := by
  refine next_run_eq ?_
  have running : s.quiet.cipher.running = _ := running
  simp only [running]

theorem exec_wrapDone {i : SlotId} {g : BitVec 16} {operand key : Key}
    (running : s.cipher.running = some { request := { requester := .bay b n, op := .wrap i g operand }, working := some key }) :
    exec .wrapDone s = .next (s.run fun _ =>
      (s.quiet.releaseCipher.bayCompletion b (State.storeBlock b n (Config.wrap key operand))).kickCipher) := by
  refine next_run_eq ?_
  have running : s.quiet.cipher.running = _ := running
  simp only [running]

end

/-- `u` is the state in which a completion is taken: as the command found it, with the place in the cipher unit free. -/
structure State.placeFree (s u : State) : Prop where
  cipher : u.cipher = { s.cipher with running := none }
  bay : ∀ b, u.bay b = s.bay b
  session : ∀ b, u.session b = s.session b
  ks : u.ks = s.ks
  ceu : u.ceu = s.ceu
  writer : u.writer = s.writer
  prof : u.prof = s.prof
  clock : u.clock = s.clock

theorem placeFree_release (s : State) : s.placeFree s.quiet.releaseCipher :=
  ⟨rfl, fun _ => rfl, fun _ => rfl, rfl, rfl, rfl, rfl, rfl⟩

/-- What the command keeps besides the bay and the cipher unit. -/
theorem kickCipher_prepareNext_frame (s : State) (b : BayId) :
    ((s.prepareNext b).kickCipher).ceu = s.ceu ∧ ((s.prepareNext b).kickCipher).prof = s.prof ∧
    ((s.prepareNext b).kickCipher).clock = s.clock := by
  simp

/-- A voided terminal with a claim waits in FILING while the queue is full, and nothing else moves. -/
theorem fileVoid_waits {s : State} {b : BayId} (reason : VoidReason) (full : 16 ≤ s.writer.queue.length)
    (granted : ∃ y ∈ (s.session b).records, y.claim ≠ none) :
    ((s.fileVoid b reason).session b).state = .filing ∧
    ((s.fileVoid b reason).session b).outcome = .void ((s.session b).reason.getD reason) ∧ (s.fileVoid b reason).ks = s.ks := by
  have queue : s.queueHasRoom = false := by
    simp only [State.queueHasRoom, decide_eq_false_iff_not]
    omega
  obtain ⟨state, -, outcome⟩ := fileVoid_session_of_full reason queue granted
  have some_left : s.writer.queueRoom < (s.receiptsOf b (.void ((s.session b).reason.getD reason))).length := by
    have none_fit : s.writer.queueRoom = 0 := by rw [Writer.queueRoom]; omega
    rw [none_fit]
    exact List.length_pos_of_ne_nil (Session.receipts_ne_nil _ _ _ _ granted)
  obtain ⟨-, -, -, -, -, -, ks⟩ := file_waits some_left
  exact ⟨state, outcome, ks⟩

/-! ## The results, in a state whose place in the cipher unit is free -/

section
variable {s u : State} {b : BayId} {n : Nat} {x : ItemRecord} {k : KeyPlace} (free : s.placeFree u) (empty : s.cipher.waiting = [])
include free empty

section
variable (preparing : (s.session b).state = .preparing) (unfixed : (s.session b).reason = none)
  (record : (s.session b).records[n]? = some x) (held : (s.bay b).buffer[n]? = some k)
  (done : ∀ y ∈ (s.session b).records.take n, y.applies = true → y.stage = .prepared)
  {store : State → State} {place : KeyPlace → KeyPlace} {stage : Stage} (stores : store u = u.stored b n place stage)
include preparing unfixed record held done stores

/-- The result is stored and the item's next operation starts. -/
theorem completion_submits {op : CipherOp} {working : Option Key} (applies : x.applies = true)
    (needs : ItemRecord.nextOp { x with stage } (place k) = some op) (copy : s.workingCopy op = some working) :
    ∃ t, (u.bayCompletion b store).kickCipher = t ∧ (t.bay b).buffer = (s.bay b).buffer.set n (place k) ∧
      (t.session b).records = (s.session b).records.set n { x with stage } ∧
      t.cipher = { running := some { request := { requester := .bay b n, op }, working }, waiting := [] } ∧
      s.otherBaysSame t b ∧ t.ks = s.ks ∧ t.ceu = s.ceu ∧ t.writer.queue = s.writer.queue ∧ t.prof = s.prof ∧ t.clock = s.clock := by
  obtain ⟨cipher, bay, session, ks, ceu, writer, prof, clock⟩ := free
  have sameCopy : u.workingCopy op = some working := by
    rw [← copy]
    cases op <;> simp only [State.workingCopy, State.slot, ks]
  rw [← session] at record done preparing unfixed
  rw [← bay] at held
  obtain ⟨t, effect, buffer, records, unit, others, sameKs, sameWriter⟩ := stored_submits (place := place) (stage := stage)
    (by rw [cipher]) (by rw [cipher]; exact empty) record held done applies needs sameCopy
  obtain ⟨keptCeu, keptProf, keptClock⟩ := kickCipher_prepareNext_frame (u.stored b n place stage) b
  obtain ⟨-, -, -, storedCeu, -, storedProf, storedClock⟩ := stored_frame place stage u b n
  rw [effect] at keptCeu keptProf keptClock
  refine ⟨t, ?_, by rw [buffer, bay], by rw [records, session], unit, fun c apart => (others c apart).trans (bay c), sameKs.trans ks,
    keptCeu.trans (storedCeu.trans ceu), by rw [sameWriter, writer], keptProf.trans (storedProf.trans prof),
    keptClock.trans (storedClock.trans clock)⟩
  rw [bayCompletion_stores preparing unfixed, stores, effect]

/-- The result is stored as the last, and BEGIN opens LOADING. -/
theorem completion_loads (prepared : stage = .prepared) (last : ∀ z ∈ (s.session b).records.drop (n + 1), z.applies = false) :
    ∃ t, (u.bayCompletion b store).kickCipher = t ∧ (t.bay b).buffer = (s.bay b).buffer.set n (place k) ∧
      (t.session b).records = (s.session b).records.set n { x with stage } ∧ (t.session b).state = .loading ∧
      (t.session b).begun = true ∧ (t.session b).delivery = .begin ∧
      ((s.session b).latched ≠ none → (t.bay b).link.exchange.map (·.frame) =
        some (.begin ((s.session b).records.countP (·.applies)))) ∧
      t.cipher = { running := none, waiting := [] } ∧ s.otherBaysSame t b ∧ t.ks = s.ks ∧ t.ceu = s.ceu ∧
      t.writer.queue = s.writer.queue ∧ t.clock = s.clock := by
  obtain ⟨cipher, bay, session, ks, ceu, writer, prof, clock⟩ := free
  rw [← session] at record done preparing unfixed last
  rw [← bay] at held
  obtain ⟨t, effect, buffer, records, state, begun, delivery, exchange, unit, others, sameKs, sameWriter⟩ :=
    stored_loads (place := place) (stage := stage) (by rw [cipher]) (by rw [cipher]; exact empty) record held done prepared last
  obtain ⟨keptCeu, -, keptClock⟩ := kickCipher_prepareNext_frame (u.stored b n place stage) b
  obtain ⟨-, -, -, storedCeu, -, -, storedClock⟩ := stored_frame place stage u b n
  rw [effect] at keptCeu keptClock
  rw [session] at exchange
  refine ⟨t, ?_, by rw [buffer, bay], by rw [records, session], state, begun, delivery, exchange, unit,
    fun c apart => (others c apart).trans (bay c), sameKs.trans ks, keptCeu.trans (storedCeu.trans ceu), by rw [sameWriter, writer],
    keptClock.trans (storedClock.trans clock)⟩
  rw [bayCompletion_stores preparing unfixed, stores, effect]

end

/-- A result that its session no longer waits for is dropped. -/
theorem completion_discards (elsewhere : (s.session b).state ≠ .preparing) (store : State → State) :
    (u.bayCompletion b store).kickCipher = u := by
  rw [bayCompletion_discards (by rw [free.session]; exact elsewhere), kickCipher_empty (by rw [free.cipher]; exact empty)]

/-- A session with a reason fixed files its terminal VOID. -/
theorem completion_voids {reason : VoidReason} (preparing : (s.session b).state = .preparing)
    (fixed : (s.session b).reason = some reason) (store : State → State) :
    ∃ t, (u.bayCompletion b store).kickCipher = t ∧ t.cipher = { running := none, waiting := [] } ∧ s.otherBaysSame t b ∧
      t.ks.slots = s.ks.slots ∧
      (16 ≤ s.writer.queue.length → (∃ y ∈ (s.session b).records, y.claim ≠ none) →
        (t.session b).state = .filing ∧ (t.session b).outcome = .void reason) := by
  obtain ⟨cipher, bay, session, ks, -, writer, -, -⟩ := free
  have unit : u.cipher = { running := none, waiting := [] } := by simp only [cipher, empty]
  refine ⟨u.fileVoid b reason, ?_, ?_, fun c apart => (fileVoid_other _ _ _ _ apart).trans (bay c), ?_, fun full granted => ?_⟩
  · rw [bayCompletion_voids (by rw [session]; exact preparing) (by rw [session]; exact fixed),
      kickCipher_empty (by simp [unit])]
  · simp [unit]
  · simp [ks]
  · obtain ⟨state, outcome, -⟩ := fileVoid_waits (s := u) (b := b) reason (by rw [writer]; exact full) (by rw [session]; exact granted)
    rw [session, fixed] at outcome
    exact ⟨state, outcome⟩

end

/-! ## The operations that bays submit -/

theorem storeKey_stored (s : State) (b : BayId) (n : Nat) (key : Key) :
    State.storeKey b n key s = s.stored b n (fun k => { k with terminalKey := some key }) .derived := rfl

theorem storeBlock_stored (s : State) (b : BayId) (n : Nat) (block : BitVec 256) :
    State.storeBlock b n block s = s.stored b n (fun k => { k with block := some (blockBytes block), terminalKey := none }) .prepared := rfl

section
variable {s : State} {b : BayId} {n : Nat} {x : ItemRecord} (record : (s.session b).records[n]? = some x) (value : CheckValue)
include record

theorem storeCheckValue_direct (direct : x.item.delivery = .direct) : State.storeCheckValue b n value s =
    s.stored b n (fun k => { k with checkValue := some value, block := k.terminalKey.map keyBytes }) .prepared := by
  simp only [State.storeCheckValue, record, direct]
  rfl

theorem storeCheckValue_wrapped {tr : SlotId} (wrapped : x.item.delivery = .wrapped tr) : State.storeCheckValue b n value s =
    s.stored b n (fun k => { k with checkValue := some value }) .checked := by
  simp only [State.storeCheckValue, record, wrapped]
  rfl

end

/-- What a command tells of its effect `t` on one bay and the cipher unit. -/
theorem run_only {s t : State} (on : s.engine ≠ .off) : (∀ b, (s.run fun _ => t).bay b = t.bay b) ∧
    (∀ b, (s.run fun _ => t).session b = t.session b) ∧ (s.run fun _ => t).cipher = t.cipher ∧ (s.run fun _ => t).ks = t.ks ∧
    (s.run fun _ => t).ceu = t.ceu ∧ (s.run fun _ => t).writer.queue = t.writer.queue ∧ (s.run fun _ => t).prof = t.prof ∧
    (s.run fun _ => t).clock = t.clock := by
  obtain ⟨-, bays, sessions, -⟩ := run_parts s (fun _ => t) on
  exact ⟨bays, sessions, by simp [run_frame _ _ on]⟩

section
variable {s : State} {b : BayId} {n : Nat} {x : ItemRecord} {k : KeyPlace} (on : s.engine ≠ .off) (empty : s.cipher.waiting = [])
include on empty

section
variable {i : SlotId} {g : BitVec 16} {ksn : Ksn} {key : Key}
  (running : s.cipher.running = some { request := { requester := .bay b n, op := .derive i g ksn }, working := some key })
include running

theorem deriveDone_stores (preparing : (s.session b).state = .preparing) (unfixed : (s.session b).reason = none)
    (record : (s.session b).records[n]? = some x) (held : (s.bay b).buffer[n]? = some k) (applies : x.applies = true)
    (done : ∀ y ∈ (s.session b).records.take n, y.applies = true → y.stage = .prepared) :
    ∃ t, exec .deriveDone s = .next t ∧
      (t.bay b).buffer = (s.bay b).buffer.set n { k with terminalKey := some (Config.derive key ksn) } ∧
      (t.session b).records = (s.session b).records.set n { x with stage := .derived } ∧
      t.cipher = { running := some { request := { requester := .bay b n, op := .checkval (Config.derive key ksn) },
                                     working := none }, waiting := [] } ∧
      s.otherBaysSame t b ∧ t.ks = s.ks ∧ t.ceu = s.ceu ∧ t.writer.queue = s.writer.queue ∧ t.prof = s.prof ∧ t.clock = s.clock := by
  have stores := storeKey_stored s.quiet.releaseCipher b n (Config.derive key ksn)
  have needs : ItemRecord.nextOp { x with stage := .derived } { k with terminalKey := some (Config.derive key ksn) } =
      some (.checkval (Config.derive key ksn)) := rfl
  obtain ⟨t, effect, told⟩ := completion_submits (placeFree_release s) empty preparing unfixed record held done stores applies needs rfl
  refine ⟨_, (exec_deriveDone running).trans (next_run_eq effect), ?_⟩
  simp only [State.otherBaysSame, run_only on] at told ⊢
  exact told

theorem deriveDone_discards (elsewhere : (s.session b).state ≠ .preparing) :
    ∃ t, exec .deriveDone s = .next t ∧ t.bays = s.bays ∧ t.cipher = { running := none, waiting := [] } ∧ t.ks = s.ks ∧
      t.ceu = s.ceu ∧ t.writer.queue = s.writer.queue := by
  have effect := completion_discards (placeFree_release s) empty elsewhere (State.storeKey b n (Config.derive key ksn))
  have free := placeFree_release s
  refine ⟨_, (exec_deriveDone running).trans (next_run_eq effect), ?_⟩
  simp only [run_frame _ _ on, free.cipher, free.ks, free.ceu, free.writer, empty]
  exact ⟨rfl, trivial, trivial, trivial, trivial⟩

theorem deriveDone_voids {reason : VoidReason} (preparing : (s.session b).state = .preparing)
    (fixed : (s.session b).reason = some reason) :
    ∃ t, exec .deriveDone s = .next t ∧ t.cipher = { running := none, waiting := [] } ∧ s.otherBaysSame t b ∧
      t.ks.slots = s.ks.slots ∧
      (16 ≤ s.writer.queue.length → (∃ y ∈ (s.session b).records, y.claim ≠ none) →
        (t.session b).state = .filing ∧ (t.session b).outcome = .void reason) := by
  obtain ⟨t, effect, told⟩ := completion_voids (placeFree_release s) empty preparing fixed (State.storeKey b n (Config.derive key ksn))
  refine ⟨_, (exec_deriveDone running).trans (next_run_eq effect), ?_⟩
  simp only [State.otherBaysSame, run_only on] at told ⊢
  exact told

end

section
variable {key : Key} {w : Option Key}
  (running : s.cipher.running = some { request := { requester := .bay b n, op := .checkval key }, working := w })
  (preparing : (s.session b).state = .preparing) (unfixed : (s.session b).reason = none)
  (record : (s.session b).records[n]? = some x) (held : (s.bay b).buffer[n]? = some k)
  (terminalKey : k.terminalKey = some key) (done : ∀ y ∈ (s.session b).records.take n, y.applies = true → y.stage = .prepared)
include running preparing unfixed record held terminalKey done

theorem checkvalDone_loads (direct : x.item.delivery = .direct) (last : ∀ y ∈ (s.session b).records.drop (n + 1), y.applies = false) :
    ∃ t, exec .checkvalDone s = .next t ∧
      (t.bay b).buffer = (s.bay b).buffer.set n { k with checkValue := some (Config.checkValue key), block := some (keyBytes key) } ∧
      (t.session b).records = (s.session b).records.set n { x with stage := .prepared } ∧
      (t.session b).state = .loading ∧ (t.session b).begun = true ∧ (t.session b).delivery = .begin ∧
      ((s.session b).latched ≠ none → (t.bay b).link.exchange.map (·.frame) =
        some (.begin ((s.session b).records.countP (·.applies)))) ∧
      t.cipher = { running := none, waiting := [] } ∧ s.otherBaysSame t b ∧ t.ks = s.ks ∧ t.ceu = s.ceu ∧
      t.writer.queue = s.writer.queue ∧ t.clock = s.clock := by
  have stores := storeCheckValue_direct (s := s.quiet.releaseCipher) record (Config.checkValue key) direct
  obtain ⟨t, effect, told⟩ := completion_loads (placeFree_release s) empty preparing unfixed record held done stores rfl last
  refine ⟨_, (exec_checkvalDone_bay running).trans (next_run_eq effect), ?_⟩
  simp only [State.otherBaysSame, run_only on, terminalKey, Option.map_some] at told ⊢
  exact told

theorem checkvalDone_wraps (applies : x.applies = true) {tr : SlotId} {g : BitVec 16} {key2 : Key} (wrapped : x.item.delivery = .wrapped tr)
    (generation : x.wrapGeneration = some g) (key2Given : (s.slot tr).keyFor g true = some key2) :
    ∃ t, exec .checkvalDone s = .next t ∧
      (t.bay b).buffer = (s.bay b).buffer.set n { k with checkValue := some (Config.checkValue key) } ∧
      (t.session b).records = (s.session b).records.set n { x with stage := .checked } ∧
      t.cipher = { running := some { request := { requester := .bay b n, op := .wrap tr g key }, working := some key2 },
                   waiting := [] } ∧
      s.otherBaysSame t b ∧ t.ks = s.ks ∧ t.ceu = s.ceu ∧ t.writer.queue = s.writer.queue ∧ t.clock = s.clock := by
  have stores := storeCheckValue_wrapped (s := s.quiet.releaseCipher) record (Config.checkValue key) wrapped
  have needs : ItemRecord.nextOp { x with stage := .checked } { k with checkValue := some (Config.checkValue key) } =
      some (.wrap tr g key) := by
    simp only [ItemRecord.nextOp, terminalKey, wrapped, generation]
  have copy : s.workingCopy (.wrap tr g key) = some (some key2) := by simp only [State.workingCopy, key2Given, Option.map_some]
  obtain ⟨t, effect, buffer, records, unit, others, ks, ceu, queue, -, clock⟩ :=
    completion_submits (placeFree_release s) empty preparing unfixed record held done stores applies needs copy
  refine ⟨_, (exec_checkvalDone_bay running).trans (next_run_eq effect), ?_⟩
  simp only [State.otherBaysSame, run_only on]
  exact ⟨buffer, records, unit, others, ks, ceu, queue, clock⟩

end

theorem wrapDone_loads {tr : SlotId} {g : BitVec 16} {operand key : Key}
    (running : s.cipher.running = some { request := { requester := .bay b n, op := .wrap tr g operand }, working := some key })
    (preparing : (s.session b).state = .preparing) (unfixed : (s.session b).reason = none)
    (record : (s.session b).records[n]? = some x) (held : (s.bay b).buffer[n]? = some k)
    (done : ∀ y ∈ (s.session b).records.take n, y.applies = true → y.stage = .prepared)
    (last : ∀ y ∈ (s.session b).records.drop (n + 1), y.applies = false) :
    ∃ t, exec .wrapDone s = .next t ∧
      (t.bay b).buffer = (s.bay b).buffer.set n { k with block := some (toBE 32 (Config.wrap key operand).toNat), terminalKey := none } ∧
      (t.session b).records = (s.session b).records.set n { x with stage := .prepared } ∧
      (t.session b).state = .loading ∧ (t.session b).begun = true ∧
      ((s.session b).latched ≠ none → (t.bay b).link.exchange.map (·.frame) =
        some (.begin ((s.session b).records.countP (·.applies)))) ∧
      t.cipher = { running := none, waiting := [] } ∧ s.otherBaysSame t b ∧ t.ks = s.ks ∧ t.ceu = s.ceu ∧
      t.writer.queue = s.writer.queue ∧ t.clock = s.clock := by
  have stores := storeBlock_stored s.quiet.releaseCipher b n (Config.wrap key operand)
  obtain ⟨t, effect, buffer, records, state, begun, -, told⟩ :=
    completion_loads (placeFree_release s) empty preparing unfixed record held done stores rfl last
  refine ⟨_, (exec_wrapDone running).trans (next_run_eq effect), ?_⟩
  simp only [State.otherBaysSame, run_only on] at told ⊢
  exact ⟨buffer, records, state, begun, told⟩

end

/-! ## A waiting request whose key is unavailable (R81, R126) -/

/-- With no ceremony the check of a component has no effect but on the unit. -/
theorem componentChecked_idle {s : State} (record : s.ceu.record = .empty) (nothing : s.ceu.arrivals = []) (value : CheckValue) :
    s.releaseCipher.componentChecked value = s.checkReleased := by
  have rests : s.checkReleased.takeArrivals = s.checkReleased := takeArrivals_none nothing
  have assembly : s.releaseCipher.assembly = none := by
    have same : s.releaseCipher.ceu.record = .empty := record
    simp only [State.assembly, same]
  unfold State.componentChecked
  rw [assembly]
  split <;> exact rests

/-- The request at the head voids its bay's terminal where its key is unavailable. -/
theorem kickCipher_unavailable {s : State} {b : BayId} {n : Nat} {op : CipherOp} (idle : s.cipher.running = none)
    (waiting : s.cipher.waiting = [{ requester := .bay b n, op }]) (unavailable : s.workingCopy op = none)
    (preparing : (s.session b).state = .preparing) :
    s.kickCipher = (s.fileVoid b .keyUnavailable).updCipher fun u => { u with waiting := [] } := by
  rw [State.kickCipher, if_neg (by simp [idle]), waiting]
  simp only [State.startCipher, unavailable, State.keyUnavailable]
  rw [if_pos preparing]

theorem checkvalDone_unavailable {s : State} {b : BayId} {n : Nat} {i : SlotId} {g : BitVec 16} {ksn : Ksn} {w : Option Key} {v : Key}
    (on : s.engine ≠ .off) (waiting : s.cipher.waiting = [{ requester := .bay b n, op := .derive i g ksn }])
    (running : s.cipher.running = some { request := { requester := .component, op := .checkval v }, working := w })
    (record : s.ceu.record = .empty) (nothing : s.ceu.arrivals = []) (unavailable : (s.slot i).keyFor g false = none)
    (preparing : (s.session b).state = .preparing) (full : 16 ≤ s.writer.queue.length)
    (granted : ∃ y ∈ (s.session b).records, y.claim ≠ none) :
    ∃ t, exec .checkvalDone s = .next t ∧ t.cipher = { running := none, waiting := [] } ∧ (t.session b).state = .filing ∧
      (t.session b).outcome = .void ((s.session b).reason.getD .keyUnavailable) ∧ t.ks = s.ks := by
  have idle := componentChecked_idle (s := s.quiet) record nothing (Config.checkValue v)
  have frame := checkReleased_frame s.quiet
  have copy : s.quiet.checkReleased.workingCopy (.derive i g ksn) = none := by
    have slot : s.quiet.checkReleased.slot i = s.slot i := rfl
    simp only [State.workingCopy, slot, unavailable, Option.map_none]
  have session : s.quiet.checkReleased.session b = s.session b := rfl
  have queue : s.quiet.checkReleased.writer.queue = s.writer.queue := rfl
  have ks : s.quiet.checkReleased.ks = s.ks := rfl
  have unit : s.quiet.checkReleased.cipher.running = none := rfl
  have left : s.quiet.checkReleased.cipher.waiting = [{ requester := .bay b n, op := .derive i g ksn }] := waiting
  have effect := (exec_checkvalDone_component running).trans (next_run_eq (congrArg State.kickCipher idle))
  generalize s.quiet.checkReleased = u at *
  rw [← session] at preparing granted
  rw [← queue] at full
  obtain ⟨state, outcome, sameKs⟩ := fileVoid_waits .keyUnavailable full granted
  rw [kickCipher_unavailable unit left copy preparing] at effect
  refine ⟨_, effect, ?_⟩
  simp only [run_only on, updCipher_session, updCipher_cipher, updCipher_ks, fileVoid_frame, unit]
  exact ⟨trivial, state, by rw [outcome, session], sameKs.trans ks⟩

/-- Settles O54: each result by what its session does with it, and the request whose key is unavailable. -/
theorem cipherResultsOfBays : Obligations.CipherResultsOfBays := by
  refine ⟨fun s b n i g ksn key on empty running => ⟨fun x k preparing unfixed record held applies _ done => ?_, fun elsewhere => ?_,
    fun reason preparing fixed => ?_⟩, fun s b n key w x k on empty running preparing unfixed record held applies terminalKey done => ⟨?_, ?_⟩,
    fun s b n tr g operand key x k on empty running preparing unfixed record held _ done last => ?_,
    fun s b n i g ksn rest w v on waiting running record nothing unavailable last preparing full granted => ?_⟩
  · exact deriveDone_stores on empty running preparing unfixed record held applies done
  · exact deriveDone_discards on empty running elsewhere
  · exact deriveDone_voids on empty running preparing fixed
  · exact fun direct last => checkvalDone_loads on empty running preparing unfixed record held terminalKey done direct last
  · exact fun tr g key2 => checkvalDone_wraps on empty running preparing unfixed record held terminalKey done applies
  · exact wrapDone_loads on empty running preparing unfixed record held done last
  · exact checkvalDone_unavailable on (last ▸ waiting) running record nothing unavailable preparing full granted

end Sys2Proof.Machine
end

section

set_option Elab.async false

/-!
SUPPORT. How a command ends: the engine stays or leaves STOPPING, and what the writer and the watches show of it (R7, R151, R174).
-/

namespace Sys2Proof.Machine

/-! ## The conditions of R7 -/

theorem stopComplete_iff (s : State) : s.stopComplete = true ↔
    s.engine = .stopping ∧ s.nothingOpen ∧ s.writer.state ≠ .writing ∧ s.writer.state ≠ .taking := by
  have bays : s.bays.toList.all (fun b => b.running.isNone) = true ↔ ∀ b : BayId, (s.bay b).running = none := by
    simp only [List.all_eq_true, Option.isNone_iff_eq_none, State.bay]
    refine ⟨fun all b => all _ (by simp), fun all x mem => ?_⟩
    obtain ⟨k, inside, rfl⟩ := List.mem_iff_getElem.mp mem
    have low : k < 8 := by simpa using inside
    exact all ⟨k, low⟩
  simp only [State.stopComplete, State.nothingOpen, Bool.and_eq_true, decide_eq_true_eq, List.isEmpty_iff, bays]
  tauto

theorem stopComplete_of_parts {s t : State} (engine : t.engine = s.engine) (bays : t.bays = s.bays) (ceu : t.ceu = s.ceu)
    (table : t.intake.table = s.intake.table) (state : t.writer.state = s.writer.state) : t.stopComplete = s.stopComplete := by
  simp only [State.stopComplete, engine, bays, ceu, table, state]

/-- The end of a sweep moves the writer in AWAIT_ROLL only. -/
theorem triggerSweep_state {s : State} (moves : s.writer.state ≠ .awaitRoll) : s.triggerSweep.writer.state = s.writer.state := by
  have same : s.requestSweep.writer = s.writer := by simp
  unfold State.triggerSweep
  split
  · unfold State.pokeWriter
    rw [same]
    split
    next awaits => exact absurd awaits moves
    · simp
    all_goals rw [same]
  · rw [same]

theorem closeSweep_state {s : State} (moves : s.writer.state ≠ .awaitRoll) : s.closeSweep.writer.state = s.writer.state := by
  unfold State.closeSweep
  split
  · split
    · dsimp only
      split
      · rw [triggerSweep_state (by exact moves)]
        rfl
      · rfl
    · rfl
  · rfl

/-- In STOPPING no sweep starts. -/
theorem closeSweep_writer_of_stopping {s : State} (stopping : s.engine = .stopping) : s.closeSweep.writer = s.writer := by
  unfold State.closeSweep
  split
  · split
    · dsimp only
      split
      · rw [triggerSweep_idle (by simp [State.sweepArea, stopping])]
        rfl
      · rfl
    · rfl
  · rfl

theorem closeSweep_stopComplete (s : State) : s.closeSweep.stopComplete = s.stopComplete := by
  by_cases stopping : s.engine = .stopping
  · exact stopComplete_of_parts (by simp) (by simp) (by simp) (by simp) (by rw [closeSweep_writer_of_stopping stopping])
  · simp [State.stopComplete, stopping]

/-! ## A command whose effect is known -/

section
variable {s u : State} (on : s.engine ≠ .off)
include on

theorem run_stays (stays : u.stopComplete = false) : (s.run fun _ => u) = u.closeSweep := by
  rw [run_on s _ on, settleEngine_settled _ ((closeSweep_stopComplete u).trans stays)]

theorem run_leaves (leaves : u.stopComplete = true) : (s.run fun _ => u) = u.closeSweep.enterStandby := by
  rw [run_on s _ on]
  exact if_pos ((closeSweep_stopComplete u).trans leaves)

variable (engine : u.engine = s.engine)
include engine

/-- The command ends in another engine state just where the last condition of R7 has come true. -/
theorem run_engine_ne_iff : (s.run fun _ => u).engine ≠ s.engine ↔ u.stopComplete = true := by
  cases complete : u.stopComplete with
  | false =>
    rw [run_stays on complete]
    simp [engine]
  | true =>
    rw [run_leaves on complete]
    have stopping : s.engine = .stopping := engine.symm.trans ((stopComplete_iff u).mp complete).1
    have standby : u.closeSweep.enterStandby.engine = .standby := by simp [State.enterStandby]
    rw [standby, stopping]
    simp

theorem run_engine_running (running : s.engine = .running) : (s.run fun _ => u).engine = .running := by
  have stays : u.stopComplete = false := by
    rw [Bool.eq_false_iff]
    intro complete
    exact nomatch running.symm.trans (engine.symm.trans ((stopComplete_iff u).mp complete).1)
  rw [run_stays on stays]
  simp [engine, running]

/-- The engine that has stayed has its writer as the command's effect left it, but in AWAIT_ROLL. -/
theorem run_engine_same (same : (s.run fun _ => u).engine = s.engine) : u.stopComplete = false ∧ (s.run fun _ => u) = u.closeSweep := by
  have stays : u.stopComplete = false := by
    rw [Bool.eq_false_iff]
    exact fun complete => (run_engine_ne_iff on engine).mpr complete same
  exact ⟨stays, run_stays on stays⟩

/-- The engine that has left STOPPING has dropped its roll. -/
theorem run_writerLeft (left : (s.run fun _ => u).engine ≠ s.engine) : s.writerLeft (s.run fun _ => u) := by
  have complete := (run_engine_ne_iff on engine).mp left
  have stopping : s.engine = .stopping := engine.symm.trans ((stopComplete_iff u).mp complete).1
  rw [run_leaves on complete]
  refine ⟨stopping, ?_, ?_, ?_, rfl, ?_, rfl⟩
  all_goals simp [State.enterStandby, State.writerInactive, State.setRoll]

omit engine in
/-- The watches of a command that stays in its engine state. -/
theorem run_watches_stay (fires : s.quiet.watchesFire u none) (stays : u.stopComplete = false) : s.watchesFire (s.run fun _ => u) none := by
  rw [run_stays on stays]
  exact fires.same

/-- A roll that is dropped at the command's end fires every watch that its room was not below when the command began. -/
theorem run_drop_fires (fires : s.quiet.watchesFire u none) (left : (s.run fun _ => u).engine ≠ s.engine) :
    s.dropFiresRoomWatches (s.run fun _ => u) := by
  have complete := (run_engine_ne_iff on engine).mp left
  intro n threshold watch positive above
  obtain ⟨watches, flags⟩ := fires
  have source : u.events.watches[n] = .rollRoomBelow threshold := by rw [watches]; exact watch
  rw [run_watch s _ on, Bool.or_eq_true, closeSweep_stopComplete, complete, Bool.true_and, source]
  by_cases below : u.events.room < threshold
  · refine .inl ((flags n).mpr (.inr ?_))
    have watched : s.quiet.events.watches[n] = .rollRoomBelow threshold := watch
    rw [watched]
    exact ⟨above, below⟩
  · refine .inr ?_
    simp only [Watch.firesOnRoom, Bool.and_eq_true, decide_eq_true_eq]
    omega

end

end Sys2Proof.Machine
end

section

set_option Elab.async false

/-!
SUPPORT. Take attempts (R147 to R149, R151).
-/

namespace Sys2Proof.Machine

/-! ## What an attempt leaves alone -/

/-- From `s` to `u` nothing but the writer, the event unit and the port traffic has changed, and no receipt. -/
structure State.attempted (s u : State) : Prop where
  engine : u.engine = s.engine
  intake : u.intake = s.intake
  ks : u.ks = s.ks
  ceu : u.ceu = s.ceu
  cipher : u.cipher = s.cipher
  bays : u.bays = s.bays
  prof : u.prof = s.prof
  clock : u.clock = s.clock
  queue : u.writer.queue = s.writer.queue

section
variable {s u : State} (on : s.engine ≠ .off) (settled : s.settled) (attempt : s.attempted u)
include attempt

theorem State.attempted.nothingOpen : u.nothingOpen ↔ s.nothingOpen := by
  simp only [State.nothingOpen, State.bay, attempt.bays, attempt.ceu, attempt.intake]

include settled in
/-- An attempt ends no sweep. -/
theorem State.attempted.closeSweep : u.closeSweep = u := by
  refine closeSweep_settled u fun w sweep last => ?_
  rw [attempt.intake] at sweep
  have done := settled.1 w sweep last
  simpa only [State.visitDone, State.validating, attempt.intake] using done

include on in
theorem State.attempted.run : (s.run fun _ => u).writer.queue = s.writer.queue ∧ (s.run fun _ => u).ks = s.ks ∧
    (s.run fun _ => u).ceu = s.ceu ∧ (s.run fun _ => u).cipher = s.cipher ∧ (s.run fun _ => u).bays = s.bays ∧
    (s.run fun _ => u).prof = s.prof ∧ (s.run fun _ => u).clock = s.clock := by
  obtain ⟨-, -, ks, ceu, cipher, bays, prof, clock, queue⟩ := attempt
  simp only [run_frame _ _ on]
  exact ⟨queue, ks, ceu, cipher, bays, prof, clock⟩

include on settled in
/-- The engine that has stayed shows the attempt's own effect. -/
theorem State.attempted.stays (same : (s.run fun _ => u).engine = s.engine) : (s.run fun _ => u) = u :=
  (run_engine_same on attempt.engine same).2.trans (attempt.closeSweep settled)

include on in
theorem State.attempted.engine_ne_iff : (s.run fun _ => u).engine ≠ s.engine ↔
    s.engine = .stopping ∧ s.nothingOpen ∧ u.writer.state ≠ .writing ∧ u.writer.state ≠ .taking := by
  rw [run_engine_ne_iff on attempt.engine, stopComplete_iff, attempt.engine, attempt.nothingOpen]

end

/-! ## The effects -/

/-- A take of a roll from `s` (R148). -/
theorem takeRoll_attempted (s : State) (a : Area) (base : BitVec 64) (capacity : BitVec 32) : s.attempted (s.takeRoll a base capacity) := by
  constructor <;> simp

theorem takeRoll_writer (s : State) (a : Area) (base : BitVec 64) (capacity : BitVec 32) :
    (s.takeRoll a base capacity).writer.rollCount = s.writer.rollCount + 1 ∧ (s.takeRoll a base capacity).writer.readAgain = false ∧
    (s.takeRoll a base capacity).writer.roll =
      some { base, capacity := capacity.toNat, written := 0, sequence := s.writer.rollCount + 1 } ∧
    (s.takeRoll a base capacity).events.room = capacity.toNat ∧
    (s.takeRoll a base capacity).writer.state =
      (if s.writer.queue = [] then .idle else if 0 < capacity.toNat then .writing else .taking) := by
  refine ⟨rfl, rfl, rfl, rfl, ?_⟩
  have state : (s.takeRoll a base capacity).writer.state =
      if s.writer.queue.isEmpty then .idle else if 0 < capacity.toNat then .writing else .taking := rfl
  rw [state]
  simp only [List.isEmpty_iff]

/-- An attempt that ends without a roll (R147, R149). -/
theorem noRoll_attempted (s : State) (ready : BitVec 32) : s.attempted (s.noRoll ready) := by
  constructor <;> simp

theorem noRoll_again {s : State} (again : s.writer.readAgain = true) (ready : BitVec 32) :
    s.noRoll ready = s.updWriter fun w => { w with readAgain := false } := if_pos again

theorem noRoll_idle {s : State} (last : s.writer.readAgain = false) (empty : s.writer.queue = []) (ready : BitVec 32) :
    s.noRoll ready = s.updWriter fun w => { w with state := .idle, fromAwait := false } :=
  (if_neg (by simp [last])).trans (if_pos (by simp [empty]))

theorem noRoll_awaits {s : State} (last : s.writer.readAgain = false) (some_left : s.writer.queue ≠ []) (ready : BitVec 32) :
    s.noRoll ready =
      if s.writer.fromAwait = true ∧ ready = 0 then s.updWriter fun w => { w with state := .awaitRoll, fromAwait := false }
      else (s.updWriter fun w => { w with state := .awaitRoll, fromAwait := false }).raise .rollFull :=
  (if_neg (by simp [last])).trans (if_neg (by simpa using some_left))

theorem noRoll_state {s : State} (last : s.writer.readAgain = false) (ready : BitVec 32) :
    (s.noRoll ready).writer.state = if s.writer.queue = [] then .idle else .awaitRoll := by
  by_cases empty : s.writer.queue = []
  · rw [noRoll_idle last empty, if_pos empty]
    rfl
  · rw [noRoll_awaits last empty, if_neg empty]
    split <;> rfl

/-- The state in which an attempt gives up: an offer that is not usable has been declined (R149; log 47). -/
def State.offerSeen (s : State) (a : Area) (ready : BitVec 32) : State :=
  if ready = 1 then (s.emit [.busWrite (a.at 0x1C) (toLE 4 0)]).raise .rollFull else s

theorem offerSeen_attempted (s : State) (a : Area) (ready : BitVec 32) : s.attempted (s.offerSeen a ready) ∧
    (s.offerSeen a ready).writer = s.writer ∧ (s.offerSeen a ready).events.watches = s.events.watches ∧
    (s.offerSeen a ready).events.room = s.events.room := by
  unfold State.offerSeen
  split
  · exact ⟨⟨rfl, rfl, rfl, rfl, rfl, rfl, rfl, rfl, rfl⟩, rfl, rfl, rfl⟩
  · exact ⟨⟨rfl, rfl, rfl, rfl, rfl, rfl, rfl, rfl, rfl⟩, rfl, rfl, rfl⟩

theorem State.attempted.trans {r s t : State} (h : r.attempted s) (k : s.attempted t) : r.attempted t :=
  ⟨k.engine.trans h.engine, k.intake.trans h.intake, k.ks.trans h.ks, k.ceu.trans h.ceu, k.cipher.trans h.cipher, k.bays.trans h.bays,
    k.prof.trans h.prof, k.clock.trans h.clock, k.queue.trans h.queue⟩

theorem offerUsable_iff (base : BitVec 64) (capacity : BitVec 32) : offerUsable base capacity = true ↔
    16 ≤ capacity.toNat ∧ capacity.toNat ≤ 65535 ∧ base.toNat % 64 = 0 := by
  simp only [offerUsable, Bool.and_eq_true, decide_eq_true_eq, and_assoc]

/-! ## The command -/

section
variable {s : State} {a : Area} {ready : BitVec 32} {base : BitVec 64} {capacity : BitVec 32} (area : s.intake.area = some a)
  (taking : s.writer.state = .taking)
include area taking

theorem exec_takeAttempt_waits (pending : s.ks.closure ≠ none) :
    exec (.takeAttempt ready base capacity) s = .next (s.run fun _ => s.quiet) := by
  refine next_run_eq ?_
  have inUse : s.quiet.intake.area = some a := area
  simp only [inUse]
  exact if_neg fun free => pending free.2

variable (free : s.ks.closure = none)
include free

theorem exec_takeAttempt : exec (.takeAttempt ready base capacity) s = .next (s.run fun _ =>
    if ready = 1 then if offerUsable base capacity then s.quiet.takeRoll a base capacity else s.quiet.declineRoll a
    else s.quiet.noRoll ready) := by
  refine next_run_eq ?_
  have inUse : s.quiet.intake.area = some a := area
  simp only [inUse]
  exact if_pos ⟨taking, free⟩

theorem exec_takeAttempt_takes (offered : ready = 1) (usable : offerUsable base capacity = true) :
    exec (.takeAttempt ready base capacity) s = .next (s.run fun _ => s.quiet.takeRoll a base capacity) := by
  rw [exec_takeAttempt area taking free, if_pos offered, if_pos usable]

theorem exec_takeAttempt_gives_up (none_taken : ready ≠ 1 ∨ offerUsable base capacity = false) :
    exec (.takeAttempt ready base capacity) s = .next (s.run fun _ => (s.quiet.offerSeen a ready).noRoll ready) := by
  rw [exec_takeAttempt area taking free]
  by_cases offered : ready = 1
  · have unusable := none_taken.resolve_left (not_not_intro offered)
    subst offered
    rw [if_pos rfl, unusable]
    rfl
  · rw [if_neg offered, State.offerSeen, if_neg offered]

end

end Sys2Proof.Machine
end

section

set_option Elab.async false

/-!
SUPPORT. TAKE_ATTEMPT, with an offer taken and without (R147 to R149, R174).
-/

namespace Sys2Proof.Machine

theorem attempted_quiet (s : State) : s.attempted s.quiet := ⟨rfl, rfl, rfl, rfl, rfl, rfl, rfl, rfl, rfl⟩

theorem State.watchesFire.takeRoll {r s : State} (h : r.watchesFire s none) (room : s.events.room = r.events.room) (a : Area)
    (base : BitVec 64) (capacity : BitVec 32) : r.watchesFire (s.takeRoll a base capacity) none := by
  have emitted : r.watchesFire (s.emit (takeWrites a base capacity (s.writer.rollCount + 1))) none := h.same
  have rolled := emitted.setRoll (some { base, capacity := capacity.toNat, written := 0, sequence := s.writer.rollCount + 1 }) room
  exact rolled.same (t := s.takeRoll a base capacity) (by simp [State.takeRoll]) (fun n => raise_watch _ _ n) (by simp [State.takeRoll])
    (by simp [State.takeRoll]) (by simp [State.takeRoll])

theorem State.watchesFire.noRoll {r s : State} (h : r.watchesFire s none) (ready : BitVec 32) : r.watchesFire (s.noRoll ready) none := by
  refine h.same (flags := fun n => ?_)
  unfold State.noRoll
  dsimp only
  (repeat' split) <;> simp [raise_watch]

theorem State.watchesFire.offerSeen {r s : State} (h : r.watchesFire s none) (a : Area) (ready : BitVec 32) :
    r.watchesFire (s.offerSeen a ready) none := by
  unfold State.offerSeen
  split
  · exact (h.same (t := s.emit [.busWrite (a.at 0x1C) (toLE 4 0)])).raise .rollFull
  · exact h

theorem takeRoll_tells (s : State) (a : Area) (base : BitVec 64) (capacity : BitVec 32) :
    (s.emit (takeWrites a base capacity (s.writer.rollCount + 1))).tells (s.takeRoll a base capacity) :=
  (raiseBits_tells _ _).trans (raiseBits_tells _ _)

theorem noRoll_tells (s : State) (ready : BitVec 32) : s.tells (s.noRoll ready) := by
  unfold State.noRoll
  dsimp only
  split
  · exact .of_out rfl
  · split
    · exact .of_out rfl
    · split
      · exact .of_out rfl
      · exact raiseBits_tells _ _

section
variable {s : State} {a : Area} {ready : BitVec 32} {base : BitVec 64} {capacity : BitVec 32} (on : s.engine ≠ .off)
include on

/-- What every attempt tells. -/
theorem attempt_told {u : State} (attempt : s.attempted u) (fires : s.quiet.watchesFire u none) :
    (s.run fun _ => u).writer.queue = s.writer.queue ∧ (s.run fun _ => u).ks = s.ks ∧
    (s.run fun _ => u).ceu = s.ceu ∧ (s.run fun _ => u).cipher = s.cipher ∧ (s.run fun _ => u).bays = s.bays ∧
    (s.run fun _ => u).prof = s.prof ∧ (s.run fun _ => u).clock = s.clock ∧
    (s.engine = .running → (s.run fun _ => u).engine = .running) ∧
    ((s.run fun _ => u).engine = s.engine → s.watchesFire (s.run fun _ => u) none) ∧
    ((s.run fun _ => u).engine ≠ s.engine → s.writerLeft (s.run fun _ => u) ∧ s.dropFiresRoomWatches (s.run fun _ => u)) := by
  obtain ⟨queue, ks, ceu, cipher, bays, prof, clock⟩ := attempt.run on
  exact ⟨queue, ks, ceu, cipher, bays, prof, clock, run_engine_running on attempt.engine,
    fun same => run_watches_stay on fires (run_engine_same on attempt.engine same).1,
    fun left => ⟨run_writerLeft on attempt.engine left, run_drop_fires on attempt.engine fires left⟩⟩

variable (settled : s.settled)
include settled

/-- A usable offer taken (R148). -/
theorem rollTaken_told (usable : 16 ≤ capacity.toNat) :
    let t := s.run fun _ => s.quiet.takeRoll a base capacity
    (t.engine ≠ s.engine ↔ s.engine = .stopping ∧ s.writer.queue = [] ∧ s.nothingOpen) ∧
    (t.engine = s.engine →
      t.writer.roll = some { base := base, capacity := capacity.toNat, written := 0, sequence := s.writer.rollCount + 1 } ∧
      t.events.room = capacity.toNat ∧ t.writer.state = (if s.writer.queue = [] then .idle else .writing)) ∧
    t.writer.rollCount = s.writer.rollCount + 1 ∧ t.writer.readAgain = false ∧ t.hasFlag .rollTaken ∧
    ∃ more, t.out =
      [.busWrite (a.base + BitVec.ofNat 64 0x20) (toLE 8 base.toNat),
       .busWrite (a.base + BitVec.ofNat 64 0x28) (toLE 4 capacity.toNat),
       .busWrite (a.base + BitVec.ofNat 64 0x2C) (toLE 4 0),
       .busWrite (a.base + BitVec.ofNat 64 0x30) (toLE 4 (s.writer.rollCount + 1).toNat),
       .busWrite (a.base + BitVec.ofNat 64 0x1C) (toLE 4 0)] ++ more := by
  have attempt := (attempted_quiet s).trans (takeRoll_attempted s.quiet a base capacity)
  obtain ⟨count, again, roll, room, state⟩ := takeRoll_writer s.quiet a base capacity
  have tells := (takeRoll_tells s.quiet a base capacity).trans (run_tells (s := s) (f := fun _ => s.quiet.takeRoll a base capacity) on)
  have flag : (s.quiet.takeRoll a base capacity).hasFlag .rollTaken := State.hasFlag_raise _ _
  have queue : s.quiet.writer.queue = s.writer.queue := rfl
  have sameCount : s.quiet.writer.rollCount = s.writer.rollCount := rfl
  have positive : 0 < capacity.toNat := by omega
  rw [queue] at state
  simp only [positive, if_true] at state
  rw [sameCount] at count roll
  generalize s.quiet.takeRoll a base capacity = u at *
  have stays := attempt.stays on settled
  refine ⟨?_, fun same => ?_, ?_, ?_, hasFlag_run on flag, ?_⟩
  · rw [attempt.engine_ne_iff on, state]
    by_cases empty : s.writer.queue = []
    · simp [empty]
    · simp [empty]
  · rw [stays same]
    exact ⟨roll, room, state⟩
  · simp [run_frame _ _ on, count]
  · by_cases same : (s.run fun _ => u).engine = s.engine
    · rw [stays same, again]
    · exact (run_writerLeft on attempt.engine same).2.2.2.2.2.1
  · obtain ⟨more, out, -⟩ := tells
    exact ⟨more, out⟩

/-- An attempt that ends without a roll (R147, R149). -/
theorem noRoll_told (taking : s.writer.state = .taking) :
    let t := s.run fun _ => (s.quiet.offerSeen a ready).noRoll ready
    (ready = 1 → t.hasFlag .rollFull ∧ ∃ more, t.out = .busWrite (a.base + BitVec.ofNat 64 0x1C) (toLE 4 0) :: more) ∧
    t.writer.rollCount = s.writer.rollCount ∧ (t.engine = s.engine → t.writer.roll = s.writer.roll) ∧
    (s.writer.readAgain = true → t.engine = s.engine ∧ t.writer.state = .taking ∧ t.writer.readAgain = false) ∧
    (s.writer.readAgain = false →
      (t.engine ≠ s.engine ↔ s.engine = .stopping ∧ s.nothingOpen) ∧
      (s.writer.queue = [] → t.engine = s.engine → t.writer.state = .idle) ∧
      (s.writer.queue ≠ [] → (t.engine = s.engine → t.writer.state = .awaitRoll) ∧
        (s.writer.fromAwait = false ∨ ready ≠ 0 → t.hasFlag .rollFull)) ∧
      (s.writer.fromAwait = true → ready = 0 → t.engine = s.engine → t.events.flags = s.events.flags)) := by
  obtain ⟨seen, writer, watches, room⟩ := offerSeen_attempted s.quiet a ready
  have attempt := ((attempted_quiet s).trans seen).trans (noRoll_attempted (s.quiet.offerSeen a ready) ready)
  have tells := (noRoll_tells (s.quiet.offerSeen a ready) ready).trans
    (run_tells (s := s) (f := fun _ => (s.quiet.offerSeen a ready).noRoll ready) on)
  have grows : (s.quiet.offerSeen a ready).Grows ((s.quiet.offerSeen a ready).noRoll ready) := (State.Grows.refl _).noRoll ready
  have declined : ready = 1 → (s.quiet.offerSeen a ready).hasFlag .rollFull ∧
      ∃ more, (s.quiet.offerSeen a ready).out = .busWrite (a.base + BitVec.ofNat 64 0x1C) (toLE 4 0) :: more := by
    intro offered
    rw [State.offerSeen, if_pos offered]
    obtain ⟨more, out, -⟩ := raiseBits_tells (s.quiet.emit [.busWrite (a.at 0x1C) (toLE 4 0)]) Flag.rollFull.bit
    exact ⟨State.hasFlag_raise _ _, more, out⟩
  have unread : ready = 0 → (s.quiet.offerSeen a ready).events.flags = s.events.flags := by
    rintro rfl
    rfl
  have seenWriter : (s.quiet.offerSeen a ready).writer = s.writer := writer
  generalize s.quiet.offerSeen a ready = v at *
  have stays := attempt.stays on settled
  refine ⟨fun offered => ?_, ?_, fun same => ?_, fun again => ?_, fun last => ⟨?_, fun empty same => ?_, fun some_left => ⟨fun same => ?_, fun raises => ?_⟩,
    fun fromAwait unoffered same => ?_⟩⟩
  · obtain ⟨flag, early, out⟩ := declined offered
    obtain ⟨more, later, -⟩ := tells
    exact ⟨hasFlag_run on (grows.hasFlag flag), early ++ more, by rw [later, out, List.cons_append]⟩
  · simp [run_frame _ _ on, seenWriter]
  · rw [stays same]
    simp [seenWriter]
  · have effect := noRoll_again (s := v) (by rw [seenWriter]; exact again) ready
    have same : (s.run fun _ => v.noRoll ready).engine = s.engine := by
      by_contra left
      have ends := ((attempt.engine_ne_iff on).mp left).2.2.2
      rw [effect] at ends
      exact ends (by rw [← taking, ← seenWriter]; rfl)
    rw [stays same]
    refine ⟨attempt.engine, ?_, ?_⟩
    · rw [effect, ← taking, ← seenWriter]; rfl
    · rw [effect]; rfl
  · have state := noRoll_state (s := v) (by rw [seenWriter]; exact last) ready
    rw [attempt.engine_ne_iff on, state]
    split <;> simp
  · rw [stays same, noRoll_state (by rw [seenWriter]; exact last), if_pos (by rw [seenWriter]; exact empty)]
  · rw [stays same, noRoll_state (by rw [seenWriter]; exact last), if_neg (by rw [seenWriter]; exact some_left)]
  · refine hasFlag_run on ?_
    rw [noRoll_awaits (by rw [seenWriter]; exact last) (by rw [seenWriter]; exact some_left), if_neg]
    · exact State.hasFlag_raise _ _
    · rw [seenWriter]
      rintro ⟨fromAwait, zero⟩
      obtain fresh | other := raises
      · simp [fresh] at fromAwait
      · exact other zero
  · have flags := unread unoffered
    rw [stays same]
    by_cases empty : s.writer.queue = []
    · rw [noRoll_idle (by rw [seenWriter]; exact last) (by rw [seenWriter]; exact empty)]
      exact flags
    · rw [noRoll_awaits (by rw [seenWriter]; exact last) (by rw [seenWriter]; exact empty),
        if_pos ⟨by rw [seenWriter]; exact fromAwait, unoffered⟩]
      exact flags

end

/-- Settles O56: the attempt waits for a pending closure, takes a usable offer, or ends without a roll. -/
theorem takeAttemptByOffer : Obligations.TakeAttemptByOffer := by
  intro s a ready base capacity engine settled area taking
  have on : s.engine ≠ .off := by obtain e | e := engine <;> simp [e]
  refine ⟨fun pending => ?_, fun free => ?_⟩
  · exact (exec_takeAttempt_waits area taking pending).trans
      (congrArg Host.Outcome.next (run_settled s (fun _ => s.quiet) on (settled_quiet s settled)))
  · by_cases usable : ready = 1 ∧ offerUsable base capacity = true
    · obtain ⟨offered, fits⟩ := usable
      have limits := (offerUsable_iff base capacity).mp fits
      have misfit : ¬(capacity.toNat < 16 ∨ 65535 < capacity.toNat ∨ base.toNat % 64 ≠ 0) := by omega
      obtain ⟨queue, ks, ceu, cipher, bays, prof, clock, running, watches, left⟩ := attempt_told on
        ((attempted_quiet s).trans (takeRoll_attempted s.quiet a base capacity))
        (State.watchesFire.takeRoll (.refl s.quiet) rfl a base capacity)
      refine ⟨_, exec_takeAttempt_takes area taking free offered fits, queue, ks, ceu, cipher, bays, prof, clock, running, watches, left,
        fun _ _ _ _ => rollTaken_told on settled limits.1, fun _ unusable => (misfit unusable).elim, fun none_taken => ?_⟩
      obtain other | unusable := none_taken
      · exact (other offered).elim
      · exact (misfit unusable).elim
    · have none_taken : ready ≠ 1 ∨ offerUsable base capacity = false := by
        rw [← Bool.not_eq_true]
        exact not_and_or.mp usable
      obtain ⟨seen, -, -, -⟩ := offerSeen_attempted s.quiet a ready
      obtain ⟨queue, ks, ceu, cipher, bays, prof, clock, running, watches, left⟩ := attempt_told on
        (((attempted_quiet s).trans seen).trans (noRoll_attempted (s.quiet.offerSeen a ready) ready))
        (((State.watchesFire.refl s.quiet).offerSeen a ready).noRoll ready)
      obtain ⟨declined, count, roll, again, last⟩ := noRoll_told (a := a) (ready := ready) on settled taking
      refine ⟨_, exec_takeAttempt_gives_up area taking free none_taken, queue, ks, ceu, cipher, bays, prof, clock, running, watches, left,
        fun offered low high aligned => ?_, fun offered _ => declined offered, fun _ => ⟨count, roll, again, last⟩⟩
      exact absurd ⟨offered, (offerUsable_iff base capacity).mpr ⟨low, high, aligned⟩⟩ usable

end Sys2Proof.Machine
end

section

set_option Elab.async false

/-!
SUPPORT. What the submitters of receipts do while they go on: the port traffic only grows, and no slot changes its state or its
allowance (R131, R143, R55).
-/

namespace Sys2Proof.Machine

/-- From `s` to `t` traffic is only added, and every slot keeps its state and its allowance. -/
structure State.goesOn (s t : State) : Prop where
  out : s.out <+: t.out
  states : ∀ i, (t.slot i).state = (s.slot i).state
  allowances : ∀ i, (t.slot i).allowance = (s.slot i).allowance

namespace State.goesOn

theorem refl (s : State) : s.goesOn s := ⟨List.prefix_refl _, fun _ => rfl, fun _ => rfl⟩

theorem trans {r s t : State} (h : r.goesOn s) (k : s.goesOn t) : r.goesOn t :=
  ⟨h.out.trans k.out, fun i => (k.states i).trans (h.states i), fun i => (k.allowances i).trans (h.allowances i)⟩

section
variable {r s : State} (h : r.goesOn s)
include h

theorem same {t : State} (out : t.out = s.out) (ks : t.ks.slots = s.ks.slots) : r.goesOn t :=
  h.trans ⟨by rw [out], fun i => by rw [slot_of_slots ks], fun i => by rw [slot_of_slots ks]⟩

theorem raiseBits (bits : BitVec 16) : r.goesOn (s.raiseBits bits) := by
  obtain ⟨more, out, -⟩ := raiseBits_tells s bits
  exact h.trans ⟨⟨more, out.symm⟩, fun _ => rfl, fun _ => rfl⟩

theorem raise (f : Flag) : r.goesOn (s.raise f) := h.raiseBits _

theorem emit (o : List Output) : r.goesOn (s.emit o) := h.trans ⟨List.prefix_append _ _, fun _ => rfl, fun _ => rfl⟩

theorem updBay (b : BayId) (f : Bay → Bay) : r.goesOn (s.updBay b f) := h.same rfl rfl

theorem updLink (b : BayId) (f : Link → Link) : r.goesOn (s.updLink b f) := h.updBay b _

theorem updSession (b : BayId) (f : Session → Session) : r.goesOn (s.updSession b f) := h.updBay b _

theorem updCounters (b : BayId) (f : Counters → Counters) : r.goesOn (s.updCounters b f) := h.updBay b _

theorem updWriter (f : Writer → Writer) : r.goesOn (s.updWriter f) := h.same rfl rfl

theorem request (q : KsRequest) : r.goesOn (s.request q) := h.same rfl rfl

theorem setRoll (roll : Option Roll) : r.goesOn (s.setRoll roll) := by
  let u := s.updWriter fun w => { w with roll }
  have reported := (h.updWriter fun w => { w with roll }).raiseBits (u.events.fired (Watch.firesOnRoom s.events.room u.writer.room))
  exact reported.same rfl rfl

/-! ### Slots and orders -/

theorem setSlot (i : SlotId) (x : Slot) (state : x.state = (s.slot i).state) (allowance : x.allowance = (s.slot i).allowance) :
    r.goesOn (s.setSlot i x) := by
  have own : (s.setSlot i x).slot i = x := updSlot_slot_self s i fun _ => x
  have others : ∀ j, j ≠ i → (s.setSlot i x).slot j = s.slot j := fun j apart => updSlot_other s i j (fun _ => x) apart
  obtain ⟨more, out, -⟩ := raiseBits_tells (s.updKs fun k => { k with slots := k.slots.set i x })
    ((s.updKs fun k => { k with slots := k.slots.set i x }).events.fired (Watch.firesOnSlot i (s.slot i) x))
  refine h.trans ⟨⟨more, out.symm⟩, fun j => ?_, fun j => ?_⟩
  all_goals
    by_cases same : j = i
    · subst same
      rw [own]
      assumption
    · rw [others j same]

theorem updSettle (i : SlotId) (f : Settle → Settle) : r.goesOn (s.updSettle i f) := h.setSlot i _ rfl rfl

theorem completeOrder (cell : Nat) (result : Result) (data : List Byte) : r.goesOn (s.completeOrder cell result data) := by
  have kept : (s.completeOrder cell result data).ks = s.ks := by simp
  have out : s.out <+: (s.completeOrder cell result data).out := by
    unfold State.completeOrder
    split
    · exact List.prefix_refl _
    · obtain ⟨more, out, -⟩ := answered_tells s cell
      exact ⟨more, out.symm⟩
  exact h.trans ⟨out, fun i => by rw [slot_of_ks kept], fun i => by rw [slot_of_ks kept]⟩

theorem answerSettle (i : SlotId) (result : Result) : r.goesOn (s.answerSettle i result) := by
  unfold State.answerSettle
  split
  · exact (h.updSettle i _).completeOrder _ _ _
  · exact h

theorem testSettle (i : SlotId) : r.goesOn (s.testSettle i) := by
  unfold State.testSettle
  split
  · exact h
  · split
    · exact h
    · split
      · exact (h.answerSettle i _).setSlot i _ rfl rfl
      · split
        · exact h.answerSettle i _
        · exact h

theorem stopSettle (i : SlotId) : r.goesOn (s.stopSettle i) := ((h.updSettle i _).answerSettle i _).testSettle i

theorem enterReceipt (x : Receipt) : r.goesOn (s.enterReceipt x) := by
  unfold State.enterReceipt
  dsimp only
  split
  · exact (h.updWriter _).updWriter _
  · exact h.updWriter _

theorem waitInLine (x : Submission) : r.goesOn (s.waitInLine x) := by
  unfold State.waitInLine
  dsimp only
  split
  · exact (h.updWriter _).raise _
  · exact h.updWriter _

theorem settleEntered (i : SlotId) (c : Claim) : r.goesOn (s.settleEntered i c) := h.updSettle i _

/-! ### Bays -/

theorem transmit (b : BayId) (t : Transmission) : r.goesOn (s.transmit b t) := by
  unfold State.transmit
  dsimp only
  split
  · exact (h.updLink b _).emit _
  · exact h.updLink b _

theorem openExchange (b : BayId) (frame : EngineFrame) (retryLimit timeout : Nat) :
    r.goesOn (s.openExchange b frame retryLimit timeout) := (h.updLink b _).transmit b _

theorem startOrder (b : BayId) (x : HeldOrder) : r.goesOn (s.startOrder b x) := by
  unfold State.startOrder
  split
  · exact h.updBay b _
  · exact h.updBay b _
  · exact h

theorem finishPlan (b : BayId) (x : RunningOrder) (result : Result) (refusing : Byte) : r.goesOn (s.finishPlan b x result refusing) := by
  unfold State.finishPlan
  dsimp only
  split
  · exact (h.completeOrder _ _ _).updBay b _
  · exact ((h.completeOrder _ _ _).completeOrder _ _ _).updBay b _

theorem planEnd (b : BayId) (result : Result) (refusing : Byte) : r.goesOn (s.planEnd b result refusing) := by
  unfold State.planEnd
  split
  · exact h
  · dsimp only
    split
    · exact h.finishPlan b _ _ _
    · exact ((h.finishPlan b _ _ _).updBay b _).startOrder b _

theorem takeRise (b : BayId) : r.goesOn (s.takeRise b) := by
  unfold State.takeRise
  split
  · exact h
  · exact (h.updBay b _).openExchange b _ _ _

theorem takeRemoval (b : BayId) : r.goesOn (s.takeRemoval b) := by
  unfold State.takeRemoval
  split
  · exact h
  · split
    · exact h.planEnd b _ _
    · split
      · exact h.planEnd b _ _
      · dsimp only
        split
        · exact (h.updSession b _).takeRise b
        · exact h.updSession b _

theorem awaitRemoval (b : BayId) : r.goesOn (s.awaitRemoval b) := by
  unfold State.awaitRemoval
  split
  · exact h.takeRemoval b
  · exact h.updSession b _

theorem leaveTerminal (b : BayId) : r.goesOn (s.leaveTerminal b) := by
  unfold State.leaveTerminal
  split
  · exact h.planEnd b _ _
  · exact h.awaitRemoval b
  · exact h.planEnd b _ _

theorem endFiling (b : BayId) : r.goesOn (s.endFiling b) := by
  unfold State.endFiling
  dsimp only
  split
  · exact (((h.updBay b _).request _).updCounters b _).leaveTerminal b
  · exact ((h.updBay b _).request _).leaveTerminal b

end

/-! ### The submitters -/

theorem fileReceipts {r s : State} (h : r.goesOn s) (b : BayId) (l : List Receipt) : r.goesOn (State.fileReceipts b l s) := by
  induction l generalizing s with
  | nil => exact (h.updSession b _).endFiling b
  | cons x rest ih =>
    unfold State.fileReceipts
    split
    · exact ih (h.enterReceipt x)
    · exact (h.updSession b _).waitInLine _

theorem submitSettle {r s : State} (h : r.goesOn s) (i : SlotId) (l : List Claim) : r.goesOn (State.submitSettle i l s) := by
  induction l generalizing s with
  | nil => exact (h.updSettle i _).testSettle i
  | cons c rest ih =>
    unfold State.submitSettle
    dsimp only
    split
    · exact ih ((h.settleEntered i c).enterReceipt _)
    · split
      · exact (h.updSettle i _).waitInLine _
      · exact h.stopSettle i

section
variable {r s : State} (h : r.goesOn s)
include h

theorem resumeSettle (i : SlotId) (x : Receipt) : r.goesOn (s.resumeSettle i x) := by
  unfold State.resumeSettle
  dsimp only
  split
  · exact (h.settleEntered i _).submitSettle i _
  · exact h.settleEntered i _

theorem resumeSubmitter (x : Submission) : r.goesOn (s.resumeSubmitter x) := by
  unfold State.resumeSubmitter
  split
  · exact h.fileReceipts _ _
  · exact h.resumeSettle _ _

theorem admitWaiting : r.goesOn s.admitWaiting := by
  unfold State.admitWaiting
  split
  · exact h
  · exact ((h.updWriter _).enterReceipt _).resumeSubmitter _

end

end State.goesOn

end Sys2Proof.Machine
end

section

set_option Elab.async false

/-!
SUPPORT. RECEIPT_WRITE_SEQUENCE (R143 to R146, R151).
-/

namespace Sys2Proof.Machine

/-! ## The 64 bytes of a receipt (section 11.6) -/

theorem field_append_skip {x : List Byte} {m : Nat} (length : x.length = m) (y : List Byte) (k n : Nat) :
    field (x ++ y) (m + k) n = field y k n := by
  subst length
  rw [field, field, ← List.drop_drop, List.drop_left]

/-- The blocks of a record at their offsets. -/
theorem fields_of_blocks {b0 b1 b2 b3 b4 b5 bytes : List Byte} (blocks : bytes = b0 ++ (b1 ++ (b2 ++ (b3 ++ (b4 ++ b5)))))
    (l0 : b0.length = 8) (l1 : b1.length = 8) (l2 : b2.length = 8) (l3 : b3.length = 16) (l4 : b4.length = 4) (l5 : b5.length = 20) :
    bytes.length = 64 ∧ field bytes 0x00 8 = b0 ∧ field bytes 0x08 8 = b1 ∧ field bytes 0x10 8 = b2 ∧ field bytes 0x18 16 = b3 ∧
    field bytes 0x28 4 = b4 ∧ field bytes 0x2C 20 = b5 := by
  have first : ∀ {x : List Byte} {n : Nat}, x.length = n → ∀ y, field (x ++ y) 0 n = x := fun length y => field_append_left length y
  have last : field b5 0 20 = b5 := by simp [field, ← l5]
  subst blocks
  refine ⟨by simp [l0, l1, l2, l3, l4, l5], first l0 _, ?_, ?_, ?_, ?_, ?_⟩
  · rw [show 0x08 = 8 + 0 from rfl, field_append_skip l0, first l1]
  · rw [show 0x10 = 8 + (8 + 0) from rfl, field_append_skip l0, field_append_skip l1, first l2]
  · rw [show 0x18 = 8 + (8 + (8 + 0)) from rfl, field_append_skip l0, field_append_skip l1, field_append_skip l2, first l3]
  · rw [show 0x28 = 8 + (8 + (8 + (16 + 0))) from rfl, field_append_skip l0, field_append_skip l1, field_append_skip l2,
      field_append_skip l3, first l4]
  · rw [show 0x2C = 8 + (8 + (8 + (16 + (4 + 0)))) from rfl, field_append_skip l0, field_append_skip l1, field_append_skip l2,
      field_append_skip l3, field_append_skip l4, last]

theorem receipt_bytes_fields (r : Receipt) (sequence : BitVec 32) (index : Nat) :
    (r.bytes sequence index).length = 64 ∧
    field (r.bytes sequence index) 0x00 8 =
      [r.outcome.codes.1, r.outcome.codes.2, if r.unconfirmed then 1 else 0, byteOf r.bay.val, byteOf r.slot.val,
       byteOf r.register.val, r.profile, 0] ∧
    field (r.bytes sequence index) 0x08 8 =
      toLE 2 r.generation.toNat ++ toLE 2 r.label.toNat ++ toLE 2 r.model.toNat ++ [0, 0] ∧
    field (r.bytes sequence index) 0x10 8 = toBE 8 r.ksn.toNat ∧
    field (r.bytes sequence index) 0x18 16 = toBE 16 r.terminal.toNat ∧
    field (r.bytes sequence index) 0x28 4 = toBE 3 r.checkValue.toNat ++ [0] ∧
    field (r.bytes sequence index) 0x2C 20 =
      toLE 4 r.time.toNat ++ toLE 4 r.tag.toNat ++ toLE 4 sequence.toNat ++ toLE 4 index ++ [0, 0, 0, 0] :=
  fields_of_blocks (by simp only [Receipt.bytes, List.append_assoc]; rfl) rfl (by simp [toLE_length]) (toBE_length ..) (toBE_length ..)
    (by simp [toBE_length]) (by simp [toLE_length])

/-! ## The write and its closure (R145) -/

/-- The head receipt is in the roll and its closure with the key store; the waiting line has not moved yet. -/
def State.receiptOut (s : State) (a : Area) (roll : Roll) (r : Receipt) (rest : List Receipt) : State :=
  ((((s.emit (receiptWrites a roll r)).setRoll (some { roll with written := roll.written + 1 })).updWriter fun w =>
    { w with queue := rest }).updKs fun k => { k with closure := some r.closure }).request .closure

/-- The writer chooses what it does next (R144). -/
def State.writerNext (s : State) : State := s.updWriter fun w => { w with state := w.nextState, fromAwait := false }

theorem writeReceipt_eq (s : State) (a : Area) (roll : Roll) (r : Receipt) (rest : List Receipt) :
    s.writeReceipt a roll r rest = (s.receiptOut a roll r rest).admitWaiting.writerNext := rfl

/-- What the write of a receipt makes of the writer and the key store, and what it leaves alone. -/
structure State.receiptWrote (s v : State) (current : Roll) (r : Receipt) (rest : List Receipt) : Prop where
  ks : v.ks = { s.ks with closure := some r.closure, requests := s.ks.requests ++ [.closure] }
  queue : v.writer.queue = rest
  line : v.writer.line = s.writer.line
  roll : v.writer.roll = some { current with written := current.written + 1 }
  room : v.events.room = current.capacity - (current.written + 1)
  rollCount : v.writer.rollCount = s.writer.rollCount
  state : v.writer.state = s.writer.state
  engine : v.engine = s.engine
  intake : v.intake = s.intake
  bays : v.bays = s.bays
  ceu : v.ceu = s.ceu
  cipher : v.cipher = s.cipher
  prof : v.prof = s.prof
  clock : v.clock = s.clock

theorem receiptOut_receiptWrote (s : State) (a : Area) (roll : Roll) (r : Receipt) (rest : List Receipt) :
    s.receiptWrote (s.quiet.receiptOut a roll r rest) roll r rest :=
  ⟨rfl, rfl, rfl, rfl, rfl, rfl, rfl, by simp [State.receiptOut], by simp [State.receiptOut], by simp [State.receiptOut],
    by simp [State.receiptOut], by simp [State.receiptOut], by simp [State.receiptOut], by simp [State.receiptOut]⟩

theorem receiptOut_fires (s : State) (a : Area) (roll : Roll) (r : Receipt) (rest : List Receipt) :
    s.quiet.watchesFire (s.quiet.receiptOut a roll r rest) none := by
  have emitted : s.quiet.watchesFire (s.quiet.emit (receiptWrites a roll r)) none := (State.watchesFire.refl s.quiet).same
  have rolled := emitted.setRoll (some { roll with written := roll.written + 1 }) rfl
  exact rolled.same rfl (fun _ => rfl) (fun _ => rfl) (fun _ => rfl) rfl

theorem receiptOut_out (s : State) (a : Area) (roll : Roll) (r : Receipt) (rest : List Receipt) :
    receiptWrites a roll r <+: (s.quiet.receiptOut a roll r rest).out := by
  have reported := ((State.goesOn.refl (s.quiet.emit (receiptWrites a roll r))).setRoll (some { roll with written := roll.written + 1 })).out
  exact reported

/-! ## The command -/

section
variable {s : State} {a : Area} {roll : Roll} {r : Receipt} {rest : List Receipt} (area : s.intake.area = some a)
  (rolls : s.writer.roll = some roll) (head : s.writer.queue = r :: rest)
include area rolls head

theorem exec_receiptWrite_waits (pending : s.ks.closure ≠ none) :
    exec .receiptWriteSequence s = .next (s.run fun _ => s.quiet) := by
  refine next_run_eq ?_
  have inUse : s.quiet.intake.area = some a := area
  have current : s.quiet.writer.roll = some roll := rolls
  have queue : s.quiet.writer.queue = r :: rest := head
  simp only [inUse, current, queue]
  refine if_neg fun able => pending ?_
  simp only [State.canWrite, Bool.and_eq_true, Option.isNone_iff_eq_none] at able
  exact able.1.1.2

theorem exec_receiptWrite (writing : s.writer.state = .writing) (free : s.ks.closure = none) (room : roll.written < roll.capacity) :
    exec .receiptWriteSequence s = .next (s.run fun _ => (s.quiet.receiptOut a roll r rest).admitWaiting.writerNext) := by
  refine next_run_eq ?_
  have inUse : s.quiet.intake.area = some a := area
  have current : s.quiet.writer.roll = some roll := rolls
  have queue : s.quiet.writer.queue = r :: rest := head
  have able : s.quiet.canWrite = true := by
    have left : 0 < roll.room := by rw [Roll.room]; omega
    simp [State.canWrite, writing, free, head, Writer.room, rolls, left]
  simp only [inUse, current, queue]
  rw [if_pos able, writeReceipt_eq]

end

/-! ## The waiting line (R143) -/

theorem admitWaiting_empty {s : State} (line : s.writer.line = []) : s.admitWaiting = s := by
  simp only [State.admitWaiting, line]

theorem admitWaiting_head {s : State} {x : Submission} {more : List Submission} (line : s.writer.line = x :: more) :
    s.admitWaiting = ((s.updWriter fun w => { w with line := more }).enterReceipt x.receipt).resumeSubmitter x := by
  simp only [State.admitWaiting, line]

/-- The oldest waiting receipt is entered before any other. -/
theorem admitWaiting_queue {s : State} {x : Submission} {more : List Submission} (line : s.writer.line = x :: more) :
    ∃ tail, s.admitWaiting.writer.queue = s.writer.queue ++ { x.receipt with time := s.clock } :: tail := by
  let v := (s.updWriter fun w => { w with line := more }).enterReceipt x.receipt
  have entered : v.writer.queue = s.writer.queue ++ [{ x.receipt with time := s.clock }] := enterReceipt_queue _ _
  obtain ⟨tail, grown⟩ := ((State.Grows.refl v).resumeSubmitter x).receipts
  refine ⟨tail, ?_⟩
  rw [admitWaiting_head line, ← grown, entered, List.append_assoc]
  rfl

theorem State.watchesFire.admitWaiting {r s : State} (h : r.watchesFire s none) : r.watchesFire s.admitWaiting none := by
  have kept := (State.goesOn.refl s).admitWaiting
  exact h.same (states := kept.states) (allowances := kept.allowances)

/-! ## What the command shows -/

section
variable {s v : State} {roll : Roll} {r : Receipt} {rest : List Receipt} (on : s.engine ≠ .off) (wrote : s.receiptWrote v roll r rest)
include wrote

theorem writerNext_engine : v.admitWaiting.writerNext.engine = s.engine := by
  have kept : v.admitWaiting.writerNext.engine = v.engine := (admitWaiting_frame v).2.1
  exact kept.trans wrote.engine

/-- The writer's choice with nothing waiting (R144). -/
theorem writerNext_state (line : s.writer.line = []) : v.admitWaiting.writerNext.writer.state =
    if rest = [] then .idle else if roll.written + 1 < roll.capacity then .writing else .taking := by
  have state : v.admitWaiting.writerNext.writer.state = v.admitWaiting.writer.nextState := rfl
  rw [state, admitWaiting_empty (wrote.line.trans line), Writer.nextState, wrote.queue, Writer.room, wrote.roll]
  have left : 0 < Roll.room { roll with written := roll.written + 1 } ↔ roll.written + 1 < roll.capacity := by
    simp only [Roll.room]
    omega
  simp only [List.isEmpty_iff, left]

include on in
/-- The parts that every write sequence shows. -/
theorem receiptWrite_told (fires : s.quiet.watchesFire v none) :
    let t := s.run fun _ => v.admitWaiting.writerNext
    t.ks.closure = some r.closure ∧ (s.engine = .running → t.engine = .running) ∧
    (t.engine = s.engine → t.writer.roll = some { roll with written := roll.written + 1 } ∧
      t.events.room = roll.capacity - (roll.written + 1)) ∧
    (t.engine = s.engine → s.watchesFire t none) ∧
    (t.engine ≠ s.engine → s.writerLeft t ∧ s.dropFiresRoomWatches t) ∧
    t.writer.rollCount = s.writer.rollCount ∧ t.ceu = s.ceu ∧ t.cipher = s.cipher ∧ t.prof = s.prof ∧ t.clock = s.clock := by
  have engine := writerNext_engine wrote
  have fired : s.quiet.watchesFire v.admitWaiting.writerNext none :=
    fires.admitWaiting.same rfl (fun _ => rfl) (fun _ => rfl) (fun _ => rfl) rfl
  have written : v.admitWaiting.writerNext.writer.roll = some { roll with written := roll.written + 1 } := by
    simp [State.writerNext, wrote.roll]
  have room : v.admitWaiting.writerNext.events.room = roll.capacity - (roll.written + 1) := by
    simp [State.writerNext, wrote.room]
  refine ⟨?_, run_engine_running on engine, fun same => ?_, fun same => run_watches_stay on fired (run_engine_same on engine same).1,
    fun left => ⟨run_writerLeft on engine left, run_drop_fires on engine fired left⟩, ?_⟩
  · simp [run_frame _ _ on, State.writerNext, wrote.ks]
  · rw [(run_engine_same on engine same).2]
    simp [written, room]
  · simp [run_frame _ _ on, State.writerNext, wrote.rollCount, wrote.ceu, wrote.cipher, wrote.prof, wrote.clock]

include on in
/-- With nothing waiting in the line the entry leaves and nothing else moves. -/
theorem receiptWrite_last (line : s.writer.line = []) :
    let t := s.run fun _ => v.admitWaiting.writerNext
    t.ks.slots = s.ks.slots ∧ t.writer.queue = rest ∧
    (t.engine ≠ s.engine ↔ s.engine = .stopping ∧ rest = [] ∧ s.nothingOpen) ∧
    (t.engine = s.engine →
      t.writer.state = (if rest = [] then .idle else if roll.written + 1 < roll.capacity then .writing else .taking)) ∧
    t.ks.requests = s.ks.requests ++ [.closure] ∧ t.bays = s.bays := by
  have engine := writerNext_engine wrote
  have state := writerNext_state wrote line
  have waits : v.admitWaiting = v := admitWaiting_empty (wrote.line.trans line)
  have open_ : v.admitWaiting.writerNext.nothingOpen ↔ s.nothingOpen := by
    have bays : v.admitWaiting.writerNext.bays = s.bays := by rw [waits]; exact wrote.bays
    have ceu : v.admitWaiting.writerNext.ceu = s.ceu := by rw [waits]; exact wrote.ceu
    have intake : v.admitWaiting.writerNext.intake = s.intake := by rw [waits]; exact wrote.intake
    simp only [State.nothingOpen, State.bay, bays, ceu, intake]
  refine ⟨?_, ?_, ?_, fun same => ?_, ?_, ?_⟩
  · simp [run_frame _ _ on, State.writerNext, waits, wrote.ks]
  · simp [run_frame _ _ on, State.writerNext, waits, wrote.queue]
  · rw [run_engine_ne_iff on engine, stopComplete_iff, engine, open_, state]
    by_cases empty : rest = []
    · simp [empty]
    · rw [if_neg empty]
      split <;> simp [empty]
  · rw [(run_engine_same on engine same).2, closeSweep_state, state]
    rw [state]
    (repeat' split) <;> exact nofun
  · simp [run_frame _ _ on, State.writerNext, waits, wrote.ks]
  · simp [run_frame _ _ on, State.writerNext, waits, wrote.bays]

include on in
theorem receiptWrite_waiting {x : Submission} {more : List Submission} (line : s.writer.line = x :: more) :
    ∃ tail, (s.run fun _ => v.admitWaiting.writerNext).writer.queue = rest ++ { x.receipt with time := s.clock } :: tail := by
  obtain ⟨tail, queue⟩ := admitWaiting_queue (wrote.line.trans line)
  rw [wrote.queue, wrote.clock] at queue
  exact ⟨tail, by simp [run_frame _ _ on, State.writerNext, queue]⟩

end

theorem receiptWrite_out {s : State} (on : s.engine ≠ .off) (a : Area) (roll : Roll) (r : Receipt) (rest : List Receipt) :
    ∃ more, (s.run fun _ => (s.quiet.receiptOut a roll r rest).admitWaiting.writerNext).out =
      [.busWrite (roll.base + BitVec.ofNat 64 (roll.written * 64)) (r.bytes roll.sequence roll.written),
       .busWrite (a.base + BitVec.ofNat 64 0x2C) (toLE 4 (roll.written + 1))] ++ more := by
  have writes := receiptOut_out s a roll r rest
  have goes : (s.quiet.receiptOut a roll r rest).goesOn (s.quiet.receiptOut a roll r rest).admitWaiting.writerNext :=
    (State.goesOn.refl _).admitWaiting.updWriter _
  obtain ⟨last, out, -⟩ := run_tells (s := s) (f := fun _ => (s.quiet.receiptOut a roll r rest).admitWaiting.writerNext) on
  obtain ⟨more, all⟩ := writes.trans goes.out
  exact ⟨more ++ last, by rw [out, ← all, List.append_assoc]; rfl⟩

/-- Settles O55: the bytes, the wait for a pending closure, and the write with its line empty or not. -/
theorem receiptWritten : Obligations.ReceiptWritten := by
  refine ⟨receipt_bytes_fields, fun s a roll r rest engine area writing rolls head room => ⟨fun settled pending => ?_, fun free => ?_⟩⟩
  · have on : s.engine ≠ .off := by obtain e | e := engine <;> simp [e]
    exact (exec_receiptWrite_waits area rolls head pending).trans
      (congrArg Host.Outcome.next (run_settled s (fun _ => s.quiet) on (settled_quiet s settled)))
  · have on : s.engine ≠ .off := by obtain e | e := engine <;> simp [e]
    have wrote := receiptOut_receiptWrote s a roll r rest
    obtain ⟨closure, running, rolled, watches, left, count, ceu, cipher, prof, clock⟩ :=
      receiptWrite_told on wrote (receiptOut_fires s a roll r rest)
    exact ⟨_, exec_receiptWrite area rolls head writing free room, receiptWrite_out on a roll r rest, closure, running, rolled, watches, left,
      receiptWrite_last on wrote, fun x more line => receiptWrite_waiting on wrote line, count, ceu, cipher, prof, clock⟩

end Sys2Proof.Machine
end

section

set_option Elab.async false

/-!
SUPPORT. The removal timer, and the terminals left by a reply and by a filed receipt (R129, R131 to R133).
-/

namespace Sys2Proof.Machine

/-! ## The plan of a bay as a state found it (R118, R132) -/

theorem State.planEnded.run {s u : State} {b : BayId} {r : RunningOrder} {code : Result} {refusing : Byte} {counters : Counters}
    (h : s.planEnded u b r code refusing counters) (on : s.engine ≠ .off) :
    s.planEnded (s.run fun _ => u) b r code refusing counters :=
  h.congr ((run_parts s (fun _ => u) on).2.1 b) (by simp [run_frame _ _ on])

theorem State.removalTaken.run {s u : State} {b : BayId} {r : RunningOrder} {outcome : TerminalOutcome} {counters : Counters}
    {present : Bool} (h : s.removalTaken u b r outcome counters present) (on : s.engine ≠ .off) :
    s.removalTaken (s.run fun _ => u) b r outcome counters present :=
  h.congr ((run_parts s (fun _ => u) on).2.1 b) (by simp [run_frame _ _ on])

/-- A terminal that awaits its removal, under its latched profile or profile 0 (R132). -/
theorem awaitRemoval_awaited {s u : State} {b : BayId} {r : RunningOrder} (plugged : (u.session b).gone = false)
    (running : (u.bay b).running = some r) (clock : u.clock = s.clock) : s.removalAwaited (u.awaitRemoval b) b r (u.removalTimeout b) := by
  rw [State.removalAwaited, State.session, awaitRemoval_bay plugged]
  refine ⟨running, rfl, ?_⟩
  rw [← clock]
  rfl

theorem State.removalAwaited.run {s u : State} {b : BayId} {r : RunningOrder} {timeout : Nat} (h : s.removalAwaited u b r timeout)
    (on : s.engine ≠ .off) : s.removalAwaited (s.run fun _ => u) b r timeout := by
  obtain ⟨-, bays, sessions, -⟩ := run_parts s (fun _ => u) on
  rw [State.removalAwaited, bays, sessions]
  exact h

theorem removalTimeout_latched {s : State} {b : BayId} {q : Fin 16} {p : Profile} (latched : (s.session b).latched = some (q, p)) :
    s.removalTimeout b = p.removalTimeout := by
  simp only [State.removalTimeout, latched]

theorem removalTimeout_zero {s : State} {b : BayId} (latched : (s.session b).latched = none) :
    s.removalTimeout b = s.prof.profiles[(0 : Fin 16)].removalTimeout := by
  simp only [State.removalTimeout, latched]
  rfl

/-! ## REMOVAL_TIMER_EXPIRY (R132) -/

theorem exec_removalTimerExpiry_early {s : State} {b : BayId} {w : Timer} (settled : s.settled)
    (timer : (s.session b).removal = some w) (early : (s.session b).state ≠ .awaitRemoval ∨ w.due s.clock = false) :
    exec (.removalTimerExpiry b) s = .next s.quiet := by
  refine runBays_id settled (if_neg ?_)
  rintro ⟨state, expired⟩
  have due : w.due s.clock = true := by
    have expired : s.expired (s.session b).removal = true := expired
    simpa only [timer, State.expired] using expired
  obtain other | notDue := early
  · exact other state
  · exact absurd (notDue.symm.trans due) nofun

theorem exec_removalTimerExpiry {s : State} {b : BayId} {w : Timer} (on : s.engine ≠ .off) (loaded : s.engine ≠ .loading)
    (timer : (s.session b).removal = some w) (state : (s.session b).state = .awaitRemoval) (due : w.due s.clock = true) :
    exec (.removalTimerExpiry b) s = .next (s.run fun _ => s.quiet.planEnd b .stuckTerminal 0xFF) := by
  refine next_runBays_eq on loaded (if_pos ⟨state, ?_⟩)
  have expired : s.expired (s.session b).removal = true := by simpa only [timer, State.expired] using due
  exact expired

theorem keepsPlan_quiet {s : State} {b : BayId} {r : RunningOrder} (running : (s.bay b).running = some r) : s.keepsPlan s.quiet b r :=
  .of_bay rfl rfl rfl running rfl rfl rfl rfl rfl rfl rfl

theorem removalTimer_ends {s : State} {b : BayId} {w : Timer} {r : RunningOrder} (on : s.engine ≠ .off) (loaded : s.engine ≠ .loading)
    (timer : (s.session b).removal = some w) (running : (s.bay b).running = some r) (state : (s.session b).state = .awaitRemoval)
    (due : w.due s.clock = true) :
    ∃ t, exec (.removalTimerExpiry b) s = .next t ∧ s.planEnded t b r .stuckTerminal 0xFF (s.bay b).counters ∧
      s.otherBaysSame t b ∧ t.ks = s.ks ∧ t.ceu = s.ceu ∧ t.cipher = s.cipher ∧ t.prof = s.prof ∧
      t.writer.queue = s.writer.queue ∧ t.clock = s.clock := by
  obtain ⟨-, bays, -, -⟩ := run_parts s (fun _ => s.quiet.planEnd b .stuckTerminal 0xFF) on
  refine ⟨_, exec_removalTimerExpiry on loaded timer state due, ((keepsPlan_quiet running).planEnd _ _).run on,
    fun c other => (bays c).trans (planEnd_other _ _ _ _ _ other), ?_⟩
  simp [run_frame _ _ on]

/-! ## ACK of a RELEASE before BEGIN (R129) -/

theorem sessionReply_released {s : State} {b : BayId} (state : (s.session b).state = .releasing) (begun : (s.session b).begun = false)
    (f : TerminalFrame) : s.sessionReply b f = s.awaitRemoval b := by
  simp only [State.sessionReply, state, begun]
  rfl

section
variable {s : State} {b : BayId} {x : Exchange} {r : RunningOrder} (running : (s.bay b).running = some r)
include running

theorem keepsPlan_replied : s.keepsPlan (s.quiet.replied b x) b r :=
  .of_bay rfl rfl (replied_bay s.quiet b x) running rfl rfl rfl rfl rfl rfl (Link.heard_frame ..).2.2.2.1

theorem released_plugged (on : s.engine ≠ .off) (plugged : (s.session b).gone = false) :
    let t := s.run fun _ => (s.quiet.replied b x).awaitRemoval b
    (∀ q p, (s.session b).latched = some (q, p) → s.removalAwaited t b r p.removalTimeout) ∧
    ((s.session b).latched = none → s.removalAwaited t b r s.prof.profiles[(0 : Fin 16)].removalTimeout) ∧
    (t.bay b).link.exchange = none ∧ (t.bay b).counters = (s.bay b).counters := by
  have session : (s.quiet.replied b x).session b = s.session b := replied_session s.quiet b x
  have plugged' : ((s.quiet.replied b x).session b).gone = false := by rw [session]; exact plugged
  have awaited := (awaitRemoval_awaited (s := s) plugged' (by rw [replied_bay]; exact running) rfl).run on
  have bay : (s.run fun _ => (s.quiet.replied b x).awaitRemoval b).bay b = ((s.quiet.replied b x).awaitRemoval b).bay b :=
    (run_parts s (fun _ => (s.quiet.replied b x).awaitRemoval b) on).2.1 b
  refine ⟨fun q p latched => ?_, fun latched => ?_, ?_⟩
  · rwa [removalTimeout_latched (by rw [session]; exact latched)] at awaited
  · rwa [removalTimeout_zero (by rw [session]; exact latched)] at awaited
  · rw [bay, awaitRemoval_bay plugged', replied_bay]
    exact ⟨rfl, rfl⟩

theorem released_gone (on : s.engine ≠ .off) (gone : (s.session b).gone = true) :
    s.removalTaken (s.run fun _ => (s.quiet.replied b x).awaitRemoval b) b r (s.session b).outcome (s.bay b).counters
      (s.bay b).link.presence.isPresent := by
  have session : (s.quiet.replied b x).session b = s.session b := replied_session s.quiet b x
  have bay := replied_bay s.quiet b x
  have taken := (keepsPlan_replied (x := x) running).takeRemoval
  rw [bay] at taken
  rw [awaitRemoval_gone (by rw [session]; exact gone)]
  exact taken.run on

theorem ack_releases {seq : Byte} (on : s.engine ≠ .off) (loaded : s.engine ≠ .loading)
    (opened : (s.bay b).link.exchange = some x) (own : x.seq = seq) (expected : x.expected = .ack)
    (state : (s.session b).state = .releasing) (begun : (s.session b).begun = false) :
    exec (.ack b seq) s = .next (s.run fun _ => (s.quiet.replied b x).awaitRemoval b) ∧
    s.otherBaysSame (s.run fun _ => (s.quiet.replied b x).awaitRemoval b) b ∧
    (s.run fun _ => (s.quiet.replied b x).awaitRemoval b).ks = s.ks ∧
    (s.run fun _ => (s.quiet.replied b x).awaitRemoval b).ceu = s.ceu ∧
    (s.run fun _ => (s.quiet.replied b x).awaitRemoval b).cipher = s.cipher ∧
    (s.run fun _ => (s.quiet.replied b x).awaitRemoval b).prof = s.prof ∧
    (s.run fun _ => (s.quiet.replied b x).awaitRemoval b).writer.queue = s.writer.queue ∧
    (s.run fun _ => (s.quiet.replied b x).awaitRemoval b).clock = s.clock := by
  obtain ⟨-, bays, -, -⟩ := run_parts s (fun _ => (s.quiet.replied b x).awaitRemoval b) on
  have session : (s.quiet.replied b x).session b = s.session b := replied_session s.quiet b x
  have effect := exec_reply on loaded (exec_terminalFrame (.inr (.inl ⟨seq, rfl, rfl⟩))) (by rw [running]; nofun) opened own.symm
    (by rw [expected]; rfl)
  rw [sessionReply_released (by rw [session]; exact state) (by rw [session]; exact begun)] at effect
  refine ⟨effect, fun c other => (bays c).trans ((awaitRemoval_other _ _ _ other).trans (replied_other s.quiet b x other)), ?_⟩
  simp [run_frame _ _ on, replied_frame]

end

/-! ## The last receipt of a terminal leaves the line (R131, R143) -/

/-- The terminal in FILING whose last receipt leaves the waiting line. -/
def State.lastEntered (v : State) (b : BayId) (z : Receipt) (more : List Submission) : State :=
  (((v.updWriter fun w => { w with line := more }).enterReceipt z).updSession b fun x => { x with toFile := [] }).filed b

theorem admitWaiting_last {v : State} {b : BayId} {z : Receipt} {more : List Submission}
    (line : v.writer.line = { submitter := .bay b, receipt := z } :: more) (none : (v.session b).toFile = []) :
    v.admitWaiting = (v.lastEntered b z more).leaveTerminal b := by
  have session : ((v.updWriter fun w => { w with line := more }).enterReceipt z).session b = v.session b :=
    (session_of_bays (by simp) b)
  rw [admitWaiting_head line, State.resumeSubmitter]
  dsimp only
  rw [session, none, State.fileReceipts, endFiling_eq]
  rfl

theorem lastEntered_bay (v : State) (b : BayId) (z : Receipt) (more : List Submission) : (v.lastEntered b z more).bay b =
    { v.bay b with
      session := { (v.bay b).session with toFile := [] }
      buffer := []
      counters := (v.bay b).counters.filing (v.session b).outcome } := by
  have bay : ((v.updWriter fun w => { w with line := more }).enterReceipt z).bay b = v.bay b := bay_of_bays (by simp) b
  rw [State.lastEntered, filed_bay, State.session, updSession_bay_self, bay]
  rfl

theorem lastEntered_frame (v : State) (b : BayId) (z : Receipt) (more : List Submission) :
    (v.lastEntered b z more).ks = { v.ks with requests := v.ks.requests ++ [.release b] } ∧
    (v.lastEntered b z more).intake = v.intake ∧ (v.lastEntered b z more).prof = v.prof ∧
    (v.lastEntered b z more).clock = v.clock ∧ (v.lastEntered b z more).ceu = v.ceu ∧ (v.lastEntered b z more).cipher = v.cipher ∧
    (v.lastEntered b z more).engine = v.engine ∧ (v.lastEntered b z more).writer.line = more ∧
    (v.lastEntered b z more).writer.queue = v.writer.queue ++ [{ z with time := v.clock }] := by
  simp [State.lastEntered, filed_frame, enterReceipt_queue]

theorem filed_other (s : State) (b : BayId) {c : BayId} (other : c ≠ b) : (s.filed b).bay c = s.bay c := by
  unfold State.filed
  dsimp only
  split <;> simp [other]

theorem lastEntered_other (v : State) (b : BayId) (z : Receipt) (more : List Submission) {c : BayId} (other : c ≠ b) :
    (v.lastEntered b z more).bay c = v.bay c := by
  rw [State.lastEntered, filed_other _ _ other, updSession_other _ _ _ _ other]
  exact bay_of_bays (by simp) c

/-- A void terminal counts as it is filed (R133). -/
theorem filing_eq_of {c counters : Counters} {outcome : TerminalOutcome}
    (void : ∀ reason, outcome = .void reason → counters = { c with voided := countUp c.voided })
    (loaded : (∀ reason, outcome ≠ .void reason) → counters = c) : c.filing outcome = counters := by
  unfold Counters.filing
  split
  next isVoid =>
    obtain ⟨reason, rfl⟩ := (isVoid_iff outcome).mp isVoid
    exact (void reason rfl).symm
  next notVoid => exact (loaded fun reason same => notVoid ((isVoid_iff outcome).mpr ⟨reason, same⟩)).symm

/-- How a terminal is left when its last receipt is entered: its plan ends, or the terminal awaits its removal or is taken as
removed (R118, R131, R132). -/
structure State.left (s t : State) (b : BayId) (r : RunningOrder) (counters : Counters) : Prop where
  refused : ∀ code i, (s.session b).refusal = some (code, i) → s.planEnded t b r code (byteOf i.val) counters
  ended : ∀ code, (s.session b).refusal = none →
    ((s.session b).ending = .halted ∧ code = .halted) ∨ ((s.session b).ending = .engineStopped ∧ code = .engineStopped) →
    s.planEnded t b r code 0xFF counters
  awaits : (s.session b).refusal = none → (s.session b).ending = .none → (s.session b).gone = false →
    (∀ q p, (s.session b).latched = some (q, p) → s.removalAwaited t b r p.removalTimeout) ∧ (t.bay b).counters = counters
  removed : (s.session b).refusal = none → (s.session b).ending = .none → (s.session b).gone = true →
    s.removalTaken t b r (s.session b).outcome counters (s.bay b).link.presence.isPresent

/-- A state in which only the bay's buffer, counters and receipts differ leaves the terminal so. -/
theorem leaveTerminal_left {s u : State} {b : BayId} {r : RunningOrder} {counters : Counters} (kept : s.keepsPlan u b r)
    (clock : u.clock = s.clock) (session : u.session b = { s.session b with toFile := [] })
    (counted : (u.bay b).counters = counters) : s.left (u.leaveTerminal b) b r counters := by
  have refusal : (u.session b).refusal = (s.session b).refusal := by rw [session]
  have outcome : (u.bay b).session.outcome = (s.session b).outcome := by
    refine (congrArg Session.outcome session).trans ?_
    rfl
  have latched : (u.session b).latched = (s.session b).latched := by rw [session]
  have ending : (u.session b).ending = (s.session b).ending := kept.ending
  have gone : (u.session b).gone = (s.session b).gone := kept.gone
  subst counted
  refine ⟨fun code i refused => ?_, fun code none ends => ?_, fun none going plugged => ?_, fun none going removed => ?_⟩
  · rw [leaveTerminal_refused (refusal.trans refused)]
    exact kept.planEnd _ _
  · exact (kept.leaveTerminal (refusal.trans none)).1 code ends
  · rw [leaveTerminal_goes (refusal.trans none) (ending.trans going)]
    refine ⟨fun q p profile => ?_, ?_⟩
    · have awaited := awaitRemoval_awaited (gone.trans plugged) kept.running clock
      rwa [removalTimeout_latched (latched.trans profile)] at awaited
    · rw [awaitRemoval_bay (gone.trans plugged)]
  · have taken := (kept.leaveTerminal (refusal.trans none)).2 going removed
    rwa [outcome] at taken

theorem State.left.congr {s t u : State} {b : BayId} {r : RunningOrder} {counters : Counters} (h : s.left t b r counters)
    (bay : u.bay b = t.bay b) (answers : u.intake.answers = t.intake.answers) : s.left u b r counters := by
  refine ⟨fun code i refused => (h.refused code i refused).congr bay answers,
    fun code none ends => (h.ended code none ends).congr bay answers, fun none going plugged => ?_,
    fun none going gone => (h.removed none going gone).congr bay answers⟩
  obtain ⟨awaited, counted⟩ := h.awaits none going plugged
  refine ⟨fun q p latched => ?_, by rw [bay]; exact counted⟩
  rw [State.removalAwaited, State.session, bay]
  exact awaited q p latched

section
variable {s v : State} {roll : Roll} {y : Receipt} {rest : List Receipt} {b : BayId} {z : Receipt} {more : List Submission}
  (wrote : s.receiptWrote v roll y rest)
include wrote

theorem lastEntered_left {r : RunningOrder} {counters : Counters} (running : (s.bay b).running = some r)
    (none : (s.session b).toFile = []) (counted : (s.bay b).counters.filing (s.session b).outcome = counters) :
    s.left ((v.lastEntered b z more).leaveTerminal b) b r counters := by
  have bay : v.bay b = s.bay b := bay_of_bays wrote.bays b
  have last := lastEntered_bay v b z more
  rw [State.session, bay] at last
  obtain ⟨-, intake, prof, clock, -⟩ := lastEntered_frame v b z more
  have area : (v.lastEntered b z more).intake.area = s.intake.area := by rw [intake, wrote.intake]
  refine leaveTerminal_left (.of_bay area (prof.trans wrote.prof) last running rfl rfl rfl rfl rfl rfl rfl) (clock.trans wrote.clock)
    ?_ ?_
  · rw [State.session, last]
    rfl
  · rw [last]
    exact counted

theorem lastEntered_same (on : s.engine ≠ .off) :
    let t := s.run fun _ => ((v.lastEntered b z more).leaveTerminal b).writerNext
    t.writer.queue = rest ++ [{ z with time := s.clock }] ∧ t.writer.line = more ∧
    t.ks.requests = s.ks.requests ++ [.closure, .release b] ∧ (t.bay b).buffer = [] ∧ s.otherBaysSame t b ∧
    t.ks.slots = s.ks.slots ∧ t.ceu = s.ceu ∧ t.cipher = s.cipher ∧ t.prof = s.prof ∧ t.clock = s.clock := by
  obtain ⟨-, bays, -, -⟩ := run_parts s (fun _ => ((v.lastEntered b z more).leaveTerminal b).writerNext) on
  have frame := lastEntered_frame v b z more
  have buffer := (leaveTerminal_leftFrom (v.lastEntered b z more) b).1
  rw [lastEntered_bay] at buffer
  refine ⟨?_, ?_, ?_, (congrArg Bay.buffer (bays b)).trans buffer, fun c other => (bays c).trans ?_, ?_⟩
  · simp [run_frame _ _ on, State.writerNext, frame, wrote.queue, wrote.clock]
  · simp [run_frame _ _ on, State.writerNext, frame]
  · simp [run_frame _ _ on, State.writerNext, frame, wrote.ks]
  · exact (leaveTerminal_other _ _ _ other).trans ((lastEntered_other v b z more other).trans (bay_of_bays wrote.bays c))
  · simp [run_frame _ _ on, State.writerNext, frame, wrote.ks, wrote.ceu, wrote.cipher, wrote.prof, wrote.clock]

end

/-- Settles O53: the timer, the reply to RELEASE, and the last receipt of a terminal. -/
theorem removalTimerEndsPlan : Obligations.RemovalTimerEndsPlan := by
  refine ⟨fun s b w r on loaded settled timer running => ⟨exec_removalTimerExpiry_early settled timer,
      removalTimer_ends on loaded timer running⟩,
    fun s b seq x r on loaded running opened own expected state begun => ?_,
    fun s a roll y z rest more b r counters engine area writing rolls head free room line filing none running void loaded => ?_⟩
  · obtain ⟨effect, same⟩ := ack_releases running on loaded opened own expected state begun
    exact ⟨_, effect, released_plugged running on, released_gone running on, same⟩
  · have on : s.engine ≠ .off := by obtain e | e := engine <;> simp [e]
    have wrote := receiptOut_receiptWrote s a roll y rest
    have effect := exec_receiptWrite area rolls head writing free room
    generalize s.quiet.receiptOut a roll y rest = v at wrote effect
    have session : v.session b = s.session b := session_of_bays wrote.bays b
    rw [admitWaiting_last (wrote.line.trans line) (by rw [session]; exact none)] at effect
    have left := lastEntered_left (z := z) (more := more) wrote running none (filing_eq_of void loaded)
    have bay := (run_parts s (fun _ => ((v.lastEntered b z more).leaveTerminal b).writerNext) on).2.1 b
    have left := left.congr (u := s.run fun _ => ((v.lastEntered b z more).leaveTerminal b).writerNext) bay
      (by simp [run_frame _ _ on, State.writerNext])
    obtain ⟨queue, line, requests, buffer, same⟩ := lastEntered_same (b := b) (z := z) (more := more) wrote on
    exact ⟨_, effect, queue, line, requests, buffer, left.refused, left.ended, left.awaits, left.removed, same⟩

end Sys2Proof.Machine
end

section

set_option Elab.async false

/-!
SUPPORT. A terminal that is unplugged: what leaving it tells, its link at rest, and the session's table of R130.
-/

namespace Sys2Proof.Machine

/-! ## The link of an empty bay (R106 to R108) -/

/-- The link after a drop: no terminal, no exchange and no frame in reception; a frame that is sent goes on (R104, R106, R108). -/
structure Link.down (l : Link) (sending : Option (Transmission × LineRate)) : Prop where
  dropped : l.dropped = true
  receiver : l.receiver = .hunt
  presence : l.presence = .absent
  presenceTimer : l.presenceTimer = none
  exchange : l.exchange = none
  sending : l.sending = sending

theorem Link.down.absent {l : Link} {sending : Option (Transmission × LineRate)} (h : l.down sending) : l.presence.isPresent = false := by
  rw [h.presence]
  rfl

theorem planEnded_down {x : Bay} {sending : Option (Transmission × LineRate)} (h : x.link.down sending) :
    x.planEnded.link.down sending := by
  unfold Bay.planEnded Bay.orderStarted
  split
  · exact h
  · split
    · exact ⟨h.dropped, rfl, h.presence, h.presenceTimer, h.exchange, h.sending⟩
    · exact h

/-- From `r` to `s` only messages went out, and the bay is empty in `s`. -/
structure State.staysDown (r s : State) (b : BayId) (sending : Option (Transmission × LineRate)) : Prop where
  out : r.tells s
  link : (s.bay b).link.down sending

theorem completeOrder_tells (s : State) (cell : Nat) (result : Result) (data : List Byte) : s.tells (s.completeOrder cell result data) := by
  unfold State.completeOrder
  split
  · exact .of_out rfl
  · exact answered_tells s cell

theorem startOrder_out (s : State) (b : BayId) (h : HeldOrder) : (s.startOrder b h).out = s.out := by
  unfold State.startOrder
  split
  · rfl
  · rfl
  · rfl

theorem finishPlan_tells (s : State) (b : BayId) (r : RunningOrder) (result : Result) (refusing : Byte) :
    s.tells (s.finishPlan b r result refusing) := by
  unfold State.finishPlan
  dsimp only
  split
  · exact (completeOrder_tells ..).trans (.of_out rfl)
  · exact ((completeOrder_tells ..).trans (completeOrder_tells ..)).trans (.of_out rfl)

theorem planEnd_tells (s : State) (b : BayId) (result : Result) (refusing : Byte) : s.tells (s.planEnd b result refusing) := by
  unfold State.planEnd
  split
  · exact .of_out rfl
  · dsimp only
    split
    · exact finishPlan_tells ..
    · exact (finishPlan_tells ..).trans (.of_out (startOrder_out ..))

theorem waitInLine_tells (s : State) (x : Submission) : s.tells (s.waitInLine x) := by
  unfold State.waitInLine
  dsimp only
  split
  · exact raiseBits_tells _ _
  · exact .of_out rfl

theorem enterReceipt_out (s : State) (x : Receipt) : (s.enterReceipt x).out = s.out := by
  unfold State.enterReceipt
  dsimp only
  split <;> rfl

namespace State.staysDown

section
variable {r s : State} {b : BayId} {sending : Option (Transmission × LineRate)} (h : r.staysDown s b sending)
include h

theorem same {t : State} (out : s.tells t) (bays : t.bays = s.bays) : r.staysDown t b sending :=
  ⟨h.out.trans out, by rw [bay_of_bays bays]; exact h.link⟩

theorem updBay (f : Bay → Bay) (link : (f (s.bay b)).link = (s.bay b).link) : r.staysDown (s.updBay b f) b sending :=
  ⟨h.out.trans (.of_out rfl), by rw [updBay_bay_self, link]; exact h.link⟩

theorem updSession (f : Session → Session) : r.staysDown (s.updSession b f) b sending := h.updBay _ rfl

theorem updCounters (f : Counters → Counters) : r.staysDown (s.updCounters b f) b sending := h.updBay _ rfl

theorem request (q : KsRequest) : r.staysDown (s.request q) b sending := h.same (.of_out rfl) rfl

theorem enterReceipt (x : Receipt) : r.staysDown (s.enterReceipt x) b sending := h.same (.of_out (enterReceipt_out s x)) (by simp)

theorem waitInLine (x : Submission) : r.staysDown (s.waitInLine x) b sending := h.same (waitInLine_tells s x) (by simp)

theorem planEnd (result : Result) (refusing : Byte) : r.staysDown (s.planEnd b result refusing) b sending := by
  refine ⟨h.out.trans (planEnd_tells ..), ?_⟩
  cases running : (s.bay b).running with
  | none =>
    rw [planEnd_idle running]
    exact h.link
  | some order =>
    rw [planEnd_bay running]
    exact planEnded_down h.link

theorem takeRemoval : r.staysDown (s.takeRemoval b) b sending := by
  unfold State.takeRemoval
  split
  · exact h
  · split
    · exact h.planEnd _ _
    · split
      · exact h.planEnd _ _
      · have awaits := h.updSession fun x => { x with state := .awaitTerminal, removal := none }
        dsimp only
        rw [if_neg (by rw [awaits.link.absent]; exact Bool.false_ne_true)]
        exact awaits

theorem awaitRemoval : r.staysDown (s.awaitRemoval b) b sending := by
  unfold State.awaitRemoval
  split
  · exact h.takeRemoval
  · exact h.updSession _

theorem leaveTerminal : r.staysDown (s.leaveTerminal b) b sending := by
  unfold State.leaveTerminal
  split
  · exact h.planEnd _ _
  · exact h.awaitRemoval
  · exact h.planEnd _ _

theorem endFiling : r.staysDown (s.endFiling b) b sending := by
  unfold State.endFiling
  dsimp only
  split
  · exact (((h.updBay _ rfl).request _).updCounters _).leaveTerminal
  · exact ((h.updBay _ rfl).request _).leaveTerminal

end

theorem fileReceipts {r s : State} {b : BayId} {sending : Option (Transmission × LineRate)} (h : r.staysDown s b sending)
    (l : List Receipt) : r.staysDown (State.fileReceipts b l s) b sending := by
  induction l generalizing s with
  | nil => exact (h.updSession _).endFiling
  | cons x rest ih =>
    unfold State.fileReceipts
    split
    · exact ih (h.enterReceipt x)
    · exact (h.updSession _).waitInLine _

section
variable {r s : State} {b : BayId} {sending : Option (Transmission × LineRate)} (h : r.staysDown s b sending)
include h

theorem fileVoid (reason : VoidReason) : r.staysDown (s.fileVoid b reason) b sending := by
  unfold State.fileVoid
  rw [file_eq]
  exact (h.updSession _).fileReceipts _

theorem stopClaiming (reason : VoidReason) : r.staysDown (s.stopClaiming b reason) b sending := by
  unfold State.stopClaiming
  dsimp only
  split
  · exact (h.updSession _).request _
  · exact h.updSession _

theorem sessionDrop : r.staysDown (s.sessionDrop b) b sending := by
  have gone := h.updSession fun y => { y with gone := true }
  unfold State.sessionDrop
  dsimp only
  split
  · exact h
  · exact h
  · exact gone.awaitRemoval
  · exact gone.stopClaiming _
  · exact gone.updSession _
  · exact (gone.updSession _).fileVoid _
  · split
    · exact (gone.updSession _).fileVoid _
    · exact gone.awaitRemoval
  · exact (gone.updSession _).fileVoid _
  · exact gone
  · exact (gone.updSession _).takeRemoval

end

end State.staysDown

/-! ## A plan's end and a removal, seen from an earlier state -/

section
variable {s v : State} {b : BayId}

theorem State.planEnded.of_base {t : State} {r : RunningOrder} {code : Result} {refusing : Byte} {counters : Counters}
    (h : v.planEnded t b r code refusing counters) (area : v.intake.area = s.intake.area) (halt : (v.bay b).halt = (s.bay b).halt)
    (held : (v.bay b).held = (s.bay b).held) (cache : (v.bay b).cache = (s.bay b).cache) :
    s.planEnded t b r code refusing counters := by
  simpa only [State.planEnded, State.completes, area, halt, held, cache] using h

theorem State.removalTaken.of_base {t : State} {r : RunningOrder} {outcome : TerminalOutcome} {counters : Counters} {present : Bool}
    (h : v.removalTaken t b r outcome counters present) (area : v.intake.area = s.intake.area)
    (halt : (v.bay b).halt = (s.bay b).halt) (held : (v.bay b).held = (s.bay b).held) (cache : (v.bay b).cache = (s.bay b).cache)
    (attempted : (v.session b).attempted = (s.session b).attempted) (prof : v.prof = s.prof) :
    s.removalTaken t b r outcome counters present := by
  obtain ⟨stopped, goes⟩ := h
  refine ⟨fun stops void => (stopped stops void).of_base area halt held cache, fun going => ?_⟩
  obtain ⟨spent, more⟩ := goes going
  rw [attempted, held, prof] at more
  rw [attempted] at spent
  exact ⟨fun limited last => (spent limited last).of_base area halt held cache, more⟩

theorem State.keepsPlan.refl {r : RunningOrder} (running : (s.bay b).running = some r) : s.keepsPlan s b r :=
  ⟨rfl, rfl, running, rfl, rfl, rfl, rfl, rfl, rfl, rfl⟩

end

/-! ## The session's table (R130) -/

theorem updSession_id {s : State} {b : BayId} {f : Session → Session} (same : f (s.session b) = s.session b) : s.updSession b f = s := by
  have kept : { s.bay b with session := f (s.session b) } = s.bay b := by rw [same]; rfl
  show { s with bays := s.bays.set b.val { s.bay b with session := f (s.session b) } } = s
  rw [kept]
  simp [State.bay]

/-- The session of a terminal that is unplugged is marked. -/
def State.goneAt (s : State) (b : BayId) : State := s.updSession b fun y => { y with gone := true }

/-- The terminal counts as unconfirmed: it was begun, and it is gone. -/
def State.lostAt (s : State) (b : BayId) : State := (s.goneAt b).updSession b fun y => { y with unconfirmed := true }

/-- The states in which a drop files the terminal VOID. -/
def Session.dropFiles (x : Session) : Prop :=
  x.state = .loading ∨ x.state = .unwinding ∨ (x.state = .releasing ∧ x.begun = true)

/-- The states in which a drop is the terminal's removal. -/
def Session.dropRemoves (x : Session) : Prop :=
  x.state = .probing ∨ x.state = .awaitRemoval ∨ (x.state = .releasing ∧ x.begun = false)

section
variable {s : State} {b : BayId}

theorem goneAt_bay : (s.goneAt b).bay b = { s.bay b with session := { (s.bay b).session with gone := true } } := updSession_bay_self ..

theorem lostAt_bay : (s.lostAt b).bay b =
    { s.bay b with session := { (s.bay b).session with gone := true, unconfirmed := true } } := by
  rw [State.lostAt, updSession_bay_self, goneAt_bay]

theorem sessionDrop_rests (rests : (s.session b).state = .idle ∨ (s.session b).state = .awaitTerminal) : s.sessionDrop b = s := by
  obtain state | state := rests
  · simp only [State.sessionDrop, state]
  · simp only [State.sessionDrop, state]

theorem sessionDrop_claiming (state : (s.session b).state = .claiming) :
    s.sessionDrop b = (s.goneAt b).stopClaiming b .terminalLost := by
  simp only [State.sessionDrop, state]
  rfl

theorem sessionDrop_preparing (state : (s.session b).state = .preparing) :
    s.sessionDrop b = (s.goneAt b).updSession b (·.fixReason .terminalLost) := by
  simp only [State.sessionDrop, state]
  rfl

theorem sessionDrop_filing (state : (s.session b).state = .filing) : s.sessionDrop b = s.goneAt b := by
  simp only [State.sessionDrop, state]
  rfl

theorem sessionDrop_files (files : (s.session b).dropFiles) :
    s.sessionDrop b = (s.lostAt b).file b (.void ((s.session b).reason.getD .terminalLost)) := by
  have filed : (s.lostAt b).fileVoid b .terminalLost = (s.lostAt b).file b (.void ((s.session b).reason.getD .terminalLost)) := by
    rw [State.fileVoid, State.session, lostAt_bay]
    rfl
  rw [← filed]
  obtain state | state | ⟨state, begun⟩ := files
  · simp only [State.sessionDrop, state]
    rfl
  · simp only [State.sessionDrop, state]
    rfl
  · simp only [State.sessionDrop, state, begun, if_true]
    rfl

/-- A drop that is the terminal's removal takes it, whatever removal timer ran. -/
theorem sessionDrop_removes (removes : (s.session b).dropRemoves) : ∃ removal : Option Timer, s.sessionDrop b =
    ((s.goneAt b).updSession b fun y => { y with removal }).takeRemoval b := by
  have marked : ((s.goneAt b).session b).gone = true := by rw [State.session, goneAt_bay]
  have kept : (s.goneAt b).updSession b (fun y => { y with removal := (s.session b).removal }) = s.goneAt b := by
    refine updSession_id ?_
    rw [State.session, goneAt_bay]
    rfl
  obtain state | state | ⟨state, begun⟩ := removes
  · refine ⟨(s.session b).removal, ?_⟩
    rw [kept, ← awaitRemoval_gone marked]
    simp only [State.sessionDrop, state]
    rfl
  · refine ⟨none, ?_⟩
    simp only [State.sessionDrop, state]
    rfl
  · refine ⟨(s.session b).removal, ?_⟩
    rw [kept, ← awaitRemoval_gone marked]
    simp only [State.sessionDrop, state, begun, Bool.false_eq_true, if_false]
    rfl

end

/-! ## Watches over a recognised rise or drop (R173) -/

theorem State.watchesFire.recognise {r s : State} (h : r.watchesFire s none) (b : BayId) (rise : Bool) :
    r.watchesFire (s.report (Watch.firesOnPresence b rise)) (some (b, if rise then .rise else .fall)) := by
  obtain ⟨watches, flags⟩ := h
  have kept : (s.report (Watch.firesOnPresence b rise)).events.watches = s.events.watches ∧
      (s.report (Watch.firesOnPresence b rise)).events.room = s.events.room := ⟨rfl, rfl⟩
  refine ⟨kept.1.trans watches, fun n => ?_⟩
  rw [report_watch, Bool.or_eq_true, flags, watches]
  cases r.events.watches[n] with
  | off => simp [Watch.firesFrom, Watch.firesOnPresence]
  | allowanceBelow i threshold =>
    have slots : (s.report (Watch.firesOnPresence b rise)).slot i = s.slot i := rfl
    simp [Watch.firesFrom, Watch.firesOnPresence, slots]
  | slotState i =>
    have slots : (s.report (Watch.firesOnPresence b rise)).slot i = s.slot i := rfl
    simp [Watch.firesFrom, Watch.firesOnPresence, slots]
  | rollRoomBelow threshold => simp [Watch.firesFrom, Watch.firesOnPresence, kept.2]
  | bayPresence c edge =>
    by_cases own : c = b
    · subst own
      cases edge <;> cases rise <;> simp [Watch.firesFrom, Watch.firesOnPresence]
    · simp [Watch.firesFrom, Watch.firesOnPresence, own, Ne.symm own]

end Sys2Proof.Machine
end

section

set_option Elab.async false

/-!
SUPPORT. The presence recogniser: its input, a rise and a drop (R106 to R108, R119, R130, R173).
-/

namespace Sys2Proof.Machine

/-! ## The input (R106) -/

/-- The link whose input goes to a level; asleep, its recogniser does not move. -/
def Link.driven (l : Link) (awake level : Bool) (settle drop : Timer) : Link :=
  let m := { l with input := level }
  if awake then (if level then m.inputHigh settle else m.inputLow drop) else m

theorem presenceInput_eq {s : State} {b : BayId} {level : Bool} (changes : (s.bay b).link.input ≠ level) :
    s.presenceInput b level = s.updLink b fun l => l.driven s.baysAwake level (s.timer (s.settleTime b)) (s.timer 20) := by
  unfold State.presenceInput
  rw [if_neg changes]
  cases awake : s.baysAwake with
  | false => rfl
  | true => exact (if_pos rfl).trans (updLink_updLink s b (fun l => { l with input := level }) _)

theorem driven_input (l : Link) (awake level : Bool) (settle drop : Timer) : (l.driven awake level settle drop).input = level := by
  unfold Link.driven Link.inputHigh Link.inputLow
  dsimp only
  (repeat' split) <;> rfl

theorem driven_asleep (l : Link) (level : Bool) (settle drop : Timer) : (l.driven false level settle drop).presence = l.presence := rfl

theorem driven_high (l : Link) (settle drop : Timer) :
    (l.presence = .absent → (l.driven true true settle drop).presence = .settling ∧
      (l.driven true true settle drop).presenceTimer = some settle) ∧
    (l.presence = .dropping → (l.driven true true settle drop).presence = .present ∧
      (l.driven true true settle drop).presenceTimer = none) := by
  refine ⟨fun presence => ?_, fun presence => ?_⟩
  · simp [Link.driven, Link.inputHigh, presence]
  · simp [Link.driven, Link.inputHigh, presence]

theorem driven_low (l : Link) (settle drop : Timer) :
    (l.presence = .settling → (l.driven true false settle drop).presence = .absent ∧
      (l.driven true false settle drop).presenceTimer = none) ∧
    (l.presence = .present → (l.driven true false settle drop).presence = .dropping ∧
      (l.driven true false settle drop).presenceTimer = some drop) := by
  refine ⟨fun presence => ?_, fun presence => ?_⟩
  · simp [Link.driven, Link.inputLow, presence]
  · simp [Link.driven, Link.inputLow, presence]

/-- A state after a change of the input of one bay. -/
def State.driven (s : State) (b : BayId) (level : Bool) : State :=
  s.quiet.updLink b fun l => l.driven s.baysAwake level (s.timer (s.settleTime b)) (s.timer 20)

theorem driven_bay (s : State) (b : BayId) (level : Bool) : (s.driven b level).bay b = { s.bay b with
    link := (s.bay b).link.driven s.baysAwake level (s.timer (s.settleTime b)) (s.timer 20) } := updLink_bay_self ..

theorem driven_rest (s : State) (b : BayId) (level : Bool) : ((s.driven b level).bay b).link.input = level ∧
    s.otherBaysSame (s.driven b level) b ∧ s.driven b level = { s.quiet with bays := (s.driven b level).bays } ∧
    ((s.driven b level).bay b).session = (s.bay b).session ∧
    (s.engine = .loading ∨ s.engine = .off → ((s.driven b level).bay b).link.presence = (s.bay b).link.presence) := by
  rw [driven_bay]
  refine ⟨driven_input .., fun c other => updLink_other _ _ _ _ other, rfl, rfl, fun asleep => ?_⟩
  have still : s.baysAwake = false := by
    obtain engine | engine := asleep <;> simp [State.baysAwake, engine]
  rw [still]
  rfl

theorem exec_bayPresHigh {s : State} {b : BayId} (low : (s.bay b).link.input = false) :
    exec (.bayPresHigh b) s = .next (s.driven b true) :=
  congrArg Host.Outcome.next (presenceInput_eq (s := s.quiet) (by rw [quiet_bay, low]; nofun))

theorem exec_bayPresLow {s : State} {b : BayId} (high : (s.bay b).link.input = true) :
    exec (.bayPresLow b) s = .next (s.driven b false) :=
  congrArg Host.Outcome.next (presenceInput_eq (s := s.quiet) (by rw [quiet_bay, high]; nofun))

theorem baysAwake_of {s : State} (loaded : s.engine ≠ .loading) (on : s.engine ≠ .off) : s.baysAwake = true :=
  decide_eq_true ⟨loaded, on⟩

/-! ## The timer (R106) -/

section
variable {s : State} {b : BayId} {w : Timer} (timer : (s.bay b).link.presenceTimer = some w)
include timer

theorem expired_presence : s.quiet.expired (s.quiet.bay b).link.presenceTimer = w.due s.clock := by
  rw [quiet_bay, timer]
  rfl

theorem exec_presenceTimer_early (settled : s.settled) (early : w.due s.clock = false) :
    exec (.presenceTimerExpiry b) s = .next s.quiet :=
  runBays_id settled (if_neg (by rw [expired_presence timer, early]; exact Bool.false_ne_true))

variable (on : s.engine ≠ .off) (loaded : s.engine ≠ .loading) (due : w.due s.clock = true)
include on loaded due

theorem exec_presenceTimer_rise (presence : (s.bay b).link.presence = .settling) :
    exec (.presenceTimerExpiry b) s = .next (s.run fun _ => s.quiet.recogniseRise b) := by
  refine next_runBays_eq on loaded ((if_pos (by rw [expired_presence timer, due])).trans ?_)
  simp only [quiet_bay, presence]

theorem exec_presenceTimer_drop (presence : (s.bay b).link.presence = .dropping) :
    exec (.presenceTimerExpiry b) s = .next (s.run fun _ => s.quiet.recogniseDrop b) := by
  refine next_runBays_eq on loaded ((if_pos (by rw [expired_presence timer, due])).trans ?_)
  simp only [quiet_bay, presence]

end

/-! ## A rise (R107, R119) -/

/-- The link of a terminal that is plugged. -/
def Link.plugged (l : Link) : Link := { l with presence := .present, presenceTimer := none }

/-- A terminal is plugged, before the session takes it. -/
def State.plugged (s : State) (b : BayId) : State := (s.updLink b Link.plugged).report (Watch.firesOnPresence b true)

theorem recogniseRise_eq (s : State) (b : BayId) :
    s.recogniseRise b = if (s.session b).state = .awaitTerminal then (s.plugged b).takeRise b else s.plugged b := rfl

theorem plugged_bay (s : State) (b : BayId) : (s.plugged b).bay b = { s.bay b with link := (s.bay b).link.plugged } :=
  updLink_bay_self ..

theorem plugged_other (s : State) (b : BayId) {c : BayId} (other : c ≠ b) : (s.plugged b).bay c = s.bay c :=
  updLink_other _ _ _ _ other

theorem plugged_frame (s : State) (b : BayId) : (s.plugged b).ks = s.ks ∧ (s.plugged b).ceu = s.ceu ∧
    (s.plugged b).cipher = s.cipher ∧ (s.plugged b).prof = s.prof ∧ (s.plugged b).clock = s.clock ∧
    (s.plugged b).events.room = s.events.room := ⟨rfl, rfl, rfl, rfl, rfl, rfl⟩

theorem takeRise_idle {s : State} {b : BayId} (idle : (s.bay b).running = none) : s.takeRise b = s := by
  simp only [State.takeRise, idle]

theorem Link.opened_timer (l : Link) (frame : EngineFrame) (retryLimit timeout : Nat) :
    (l.opened frame retryLimit timeout).presenceTimer = l.presenceTimer := by
  unfold Link.opened Link.given
  split <;> rfl

/-- A rise leaves the link of the bay PRESENT, whoever takes it. -/
theorem recogniseRise_link (s : State) (b : BayId) : ((s.recogniseRise b).bay b).link.presence = .present ∧
    ((s.recogniseRise b).bay b).link.presenceTimer = none ∧
    ((s.recogniseRise b).bay b).link.dropped = (s.bay b).link.dropped := by
  have plugged := plugged_bay s b
  rw [recogniseRise_eq]
  split
  · cases running : (s.bay b).running with
    | none =>
      rw [takeRise_idle (by rw [plugged]; exact running), plugged]
      exact ⟨rfl, rfl, rfl⟩
    | some r =>
      rw [takeRise_bay (r := r) (by rw [plugged]; exact running), plugged]
      obtain ⟨-, presence, dropped, -⟩ := Link.opened_frame (s.bay b).link.plugged .probe ((s.plugged b).profile 0).retryLimit r.plan.probeTimeout
      exact ⟨presence, Link.opened_timer .., dropped⟩
  · rw [plugged]
    exact ⟨rfl, rfl, rfl⟩

theorem recogniseRise_rest (s : State) (b : BayId) : s.otherBaysSame (s.recogniseRise b) b ∧ (s.recogniseRise b).ks = s.ks ∧
    (s.recogniseRise b).ceu = s.ceu ∧ (s.recogniseRise b).cipher = s.cipher ∧ (s.recogniseRise b).prof = s.prof ∧
    (s.recogniseRise b).clock = s.clock ∧ (s.recogniseRise b).events.room = s.events.room := by
  have frame := plugged_frame s b
  rw [recogniseRise_eq]
  split
  · refine ⟨fun c other => (takeRise_other _ _ _ other).trans (plugged_other s b other), ?_⟩
    simp [frame]
  · exact ⟨fun c other => plugged_other s b other, frame⟩

theorem recogniseRise_fires (s : State) (b : BayId) : s.watchesFire (s.recogniseRise b) (some (b, .rise)) := by
  have plugged : s.watchesFire (s.plugged b) (some (b, .rise)) :=
    ((State.watchesFire.refl s).same (t := s.updLink b Link.plugged) rfl (fun _ => rfl) (fun _ => rfl) (fun _ => rfl) rfl).recognise b true
  rw [recogniseRise_eq]
  split
  · exact plugged.same
  · exact plugged

/-- A session in AWAIT_TERMINAL takes the rise with a PROBE (R119). -/
theorem recogniseRise_probes {s : State} {b : BayId} {r : RunningOrder} (state : (s.session b).state = .awaitTerminal)
    (running : (s.bay b).running = some r) : ((s.recogniseRise b).session b).state = .probing ∧
      ((s.recogniseRise b).session b).attempted = countUp (s.session b).attempted ∧
      ((s.recogniseRise b).bay b).counters.attempted = countUp (s.bay b).counters.attempted ∧
      ((s.recogniseRise b).bay b).link.exchange.map (fun x => (x.frame, x.retryLimit, x.timeout)) =
        some (.probe, s.prof.profiles[(0 : Fin 16)].retryLimit, r.plan.probeTimeout) := by
  have plugged := plugged_bay s b
  rw [recogniseRise_eq, if_pos state, State.session, takeRise_bay (r := r) (by rw [plugged]; exact running), plugged]
  refine ⟨rfl, rfl, rfl, ?_⟩
  dsimp only [Bay.risen]
  rw [Link.opened_exchange]
  rfl

theorem rise_told {s : State} {b : BayId} (on : s.engine ≠ .off) :
    let t := s.run fun _ => s.quiet.recogniseRise b
    (t.bay b).link.presence = .present ∧ (t.bay b).link.presenceTimer = none ∧ (t.bay b).link.dropped = (s.bay b).link.dropped ∧
    ((s.session b).state ≠ .awaitTerminal → (t.bay b).session = (s.bay b).session) ∧
    (∀ r, (s.session b).state = .awaitTerminal → (s.bay b).running = some r →
      (t.session b).state = .probing ∧ (t.session b).attempted = countUp (s.session b).attempted ∧
      (t.bay b).counters.attempted = countUp (s.bay b).counters.attempted ∧
      (t.bay b).link.exchange.map (fun x => (x.frame, x.retryLimit, x.timeout)) =
        some (.probe, s.prof.profiles[(0 : Fin 16)].retryLimit, r.plan.probeTimeout)) ∧
    s.otherBaysSame t b ∧ s.watchesFire t (some (b, .rise)) ∧ t.ks = s.ks ∧ t.ceu = s.ceu ∧ t.cipher = s.cipher ∧ t.prof = s.prof ∧
    t.clock = s.clock := by
  obtain ⟨-, bays, sessions, -⟩ := run_parts s (fun _ => s.quiet.recogniseRise b) on
  obtain ⟨presence, timer, dropped⟩ := recogniseRise_link s.quiet b
  obtain ⟨others, ks, ceu, cipher, prof, clock, room⟩ := recogniseRise_rest s.quiet b
  have probes (r : RunningOrder) := recogniseRise_probes (s := s.quiet) (b := b) (r := r)
  dsimp only
  rw [bays, sessions]
  refine ⟨presence, timer, dropped, fun other => ?_, probes, fun c apart => (bays c).trans (others c apart),
    .run on (f := fun _ => s.quiet.recogniseRise b) (recogniseRise_fires s.quiet b) room, ?_⟩
  · have stays : s.quiet.recogniseRise b = s.quiet.plugged b := if_neg other
    rw [stays, plugged_bay]
    rfl
  · simp [run_frame _ _ on, ks, ceu, cipher, prof, clock]

end Sys2Proof.Machine
end

section

set_option Elab.async false

/-!
SUPPORT. A recognised drop, by the state of the bay's session (R107, R108, R130 to R132).
-/

namespace Sys2Proof.Machine

/-! ## The link and the watches (R104, R106 to R108) -/

/-- The link of a terminal that is unplugged (R108). -/
def Link.unplugged (l : Link) : Link := { l with presence := .absent, presenceTimer := none, dropped := true, receiver := .hunt }

/-- A terminal is unplugged, before the drop reaches its session. -/
def State.unplugged (s : State) (b : BayId) : State :=
  ((s.updLink b Link.unplugged).report (Watch.firesOnPresence b false)).abandonExchange b

theorem recogniseDrop_eq (s : State) (b : BayId) : s.recogniseDrop b = (s.unplugged b).sessionDrop b := rfl

theorem unplugged_bay (s : State) (b : BayId) :
    (s.unplugged b).bay b = { s.bay b with link := (s.bay b).link.unplugged.abandoned } := by
  have reported : ((s.updLink b Link.unplugged).report (Watch.firesOnPresence b false)).bay b =
      { s.bay b with link := (s.bay b).link.unplugged } := updLink_bay_self ..
  rw [State.unplugged, abandonExchange_bay, reported]

theorem unplugged_session (s : State) (b : BayId) : (s.unplugged b).session b = s.session b := by
  rw [State.session, unplugged_bay]
  rfl

theorem unplugged_other (s : State) (b : BayId) {c : BayId} (other : c ≠ b) : (s.unplugged b).bay c = s.bay c :=
  (abandonExchange_other _ b c other).trans (updLink_other _ _ _ _ other)

theorem unplugged_frame (s : State) (b : BayId) : (s.unplugged b).ks = s.ks ∧ (s.unplugged b).ceu = s.ceu ∧
    (s.unplugged b).cipher = s.cipher ∧ (s.unplugged b).prof = s.prof ∧ (s.unplugged b).clock = s.clock ∧
    (s.unplugged b).events.room = s.events.room ∧ (s.unplugged b).writer = s.writer ∧
    (s.unplugged b).intake = s.intake := by
  unfold State.unplugged State.abandonExchange
  split
  · exact ⟨rfl, rfl, rfl, rfl, rfl, rfl, rfl, rfl⟩
  · exact ⟨rfl, rfl, rfl, rfl, rfl, rfl, rfl, rfl⟩

theorem unplugged_fires (s : State) (b : BayId) : s.watchesFire (s.unplugged b) (some (b, .fall)) := by
  have reported : s.watchesFire ((s.updLink b Link.unplugged).report (Watch.firesOnPresence b false)) (some (b, .fall)) :=
    ((State.watchesFire.refl s).same (t := s.updLink b Link.unplugged) rfl (fun _ => rfl) (fun _ => rfl) (fun _ => rfl) rfl).recognise b false
  exact reported.same (t := ((s.updLink b Link.unplugged).report (Watch.firesOnPresence b false)).abandonExchange b)

theorem abandoned_down {l : Link} (dropped : l.dropped = true) (receiver : l.receiver = .hunt) (presence : l.presence = .absent)
    (timer : l.presenceTimer = none) : l.abandoned.down l.sending := by
  unfold Link.abandoned
  split
  next closed => exact ⟨dropped, receiver, presence, timer, closed, rfl⟩
  · exact ⟨dropped, receiver, presence, timer, rfl, rfl⟩

theorem unplugged_down (s : State) (b : BayId) : s.staysDown (s.unplugged b) b (s.bay b).link.sending := by
  have reported : s.tells ((s.updLink b Link.unplugged).report (Watch.firesOnPresence b false)) :=
    raiseBits_tells (s.updLink b Link.unplugged) _
  refine ⟨reported.trans (.of_out ?_), ?_⟩
  · unfold State.unplugged State.abandonExchange
    split <;> rfl
  · rw [unplugged_bay]
    exact abandoned_down rfl rfl rfl rfl

/-! ## What every drop shows -/

theorem recogniseDrop_rest (s : State) (b : BayId) : s.otherBaysSame (s.recogniseDrop b) b ∧
    (s.recogniseDrop b).ks.slots = s.ks.slots ∧ (s.recogniseDrop b).ceu = s.ceu ∧ (s.recogniseDrop b).cipher = s.cipher ∧
    (s.recogniseDrop b).prof = s.prof ∧ (s.recogniseDrop b).clock = s.clock ∧
    (s.recogniseDrop b).events.room = s.events.room := by
  have frame := unplugged_frame s b
  rw [recogniseDrop_eq]
  refine ⟨fun c other => (sessionDrop_other _ _ _ other).trans (unplugged_other s b other), ?_⟩
  simp [frame]

theorem recogniseDrop_fires (s : State) (b : BayId) : s.watchesFire (s.recogniseDrop b) (some (b, .fall)) :=
  (unplugged_fires s b).same (t := (s.unplugged b).sessionDrop b)

theorem drop_told {s : State} {b : BayId} (on : s.engine ≠ .off) :
    let t := s.run fun _ => s.quiet.recogniseDrop b
    (t.bay b).link.dropped = true ∧ (t.bay b).link.receiver = .hunt ∧ (t.bay b).link.presence = .absent ∧
    (t.bay b).link.presenceTimer = none ∧ (t.bay b).link.exchange = none ∧ (t.bay b).link.sending = (s.bay b).link.sending ∧
    (∀ x ∈ t.out, x = .pcieMessage) ∧ s.otherBaysSame t b ∧ t.ks.slots = s.ks.slots ∧ t.ceu = s.ceu ∧ t.cipher = s.cipher ∧
    t.prof = s.prof ∧ t.clock = s.clock ∧ s.watchesFire t (some (b, .fall)) := by
  obtain ⟨-, bays, -, -⟩ := run_parts s (fun _ => s.quiet.recogniseDrop b) on
  have down := (unplugged_down s.quiet b).sessionDrop
  obtain ⟨more, out, messages⟩ := down.out.trans (run_tells (s := s) (f := fun _ => s.quiet.recogniseDrop b) on)
  obtain ⟨others, slots, ceu, cipher, prof, clock, room⟩ := recogniseDrop_rest s.quiet b
  dsimp only
  rw [bays]
  refine ⟨down.link.dropped, down.link.receiver, down.link.presence, down.link.presenceTimer, down.link.exchange, down.link.sending,
    fun x mem => messages x ?_, fun c other => (bays c).trans (others c other), ?_, ?_, ?_, ?_, ?_,
    .run on (f := fun _ => s.quiet.recogniseDrop b) (recogniseDrop_fires s.quiet b) room⟩
  · rw [out] at mem
    exact mem
  all_goals simp [run_frame _ _ on, slots, ceu, cipher, prof, clock]

/-! ## The sessions that wait (R130) -/

section
variable {s : State} {b : BayId}

theorem recogniseDrop_rests (rests : (s.session b).state = .idle ∨ (s.session b).state = .awaitTerminal) :
    ((s.recogniseDrop b).bay b).session = (s.bay b).session := by
  rw [recogniseDrop_eq, sessionDrop_rests (by rw [unplugged_session]; exact rests), unplugged_bay]

theorem recogniseDrop_waits (waits : (s.session b).state = .claiming ∨ (s.session b).state = .preparing) :
    (s.recogniseDrop b).session b =
      { s.session b with gone := true, reason := some ((s.session b).reason.getD .terminalLost) } := by
  have session := unplugged_session s b
  have gone : ((s.unplugged b).goneAt b).bay b = { (s.unplugged b).bay b with session := { s.session b with gone := true } } := by
    rw [goneAt_bay, unplugged_bay]
    rfl
  rw [recogniseDrop_eq, State.session]
  obtain state | state := waits
  · rw [sessionDrop_claiming (by rw [session]; exact state), stopClaiming_bay, gone]
    rfl
  · rw [sessionDrop_preparing (by rw [session]; exact state), updSession_bay_self, gone]
    rfl

theorem recogniseDrop_withdraws (state : (s.session b).state = .claiming) (deferred : (s.session b).deferral = true)
    (free : (s.session b).reason = none) : (s.recogniseDrop b).ks.requests = s.ks.requests ++ [.withdraw b] := by
  have session := unplugged_session s b
  have gone : ((s.unplugged b).goneAt b).session b = { s.session b with gone := true } := by
    rw [State.session, goneAt_bay, unplugged_bay]
    rfl
  rw [recogniseDrop_eq, sessionDrop_claiming (by rw [session]; exact state), State.stopClaiming, if_pos (by rw [gone]; exact ⟨deferred, free⟩), ← (unplugged_frame s b).1]
  rfl

theorem recogniseDrop_filing (state : (s.session b).state = .filing) :
    (s.recogniseDrop b).bay b = { (s.unplugged b).bay b with session := { s.session b with gone := true } } ∧
    (s.recogniseDrop b).writer.queue = s.writer.queue ∧ (s.recogniseDrop b).ks.requests = s.ks.requests := by
  obtain ⟨ks, -, -, -, -, -, writer, -⟩ := unplugged_frame s b
  rw [recogniseDrop_eq, sessionDrop_filing (by rw [unplugged_session]; exact state)]
  refine ⟨?_, congrArg Writer.queue writer, congrArg KeyStore.requests ks⟩
  rw [goneAt_bay, unplugged_bay]
  rfl

/-! ## A drop that removes the terminal (R132) -/

theorem recogniseDrop_removes {r : RunningOrder} (running : (s.bay b).running = some r) (removes : (s.session b).dropRemoves) :
    s.removalTaken (s.recogniseDrop b) b r (s.session b).outcome (s.bay b).counters false ∧
    (s.recogniseDrop b).writer.queue = s.writer.queue ∧ (s.recogniseDrop b).ks.requests = s.ks.requests := by
  obtain ⟨ks, -, -, prof, -, -, writer, intake⟩ := unplugged_frame s b
  obtain ⟨removal, effect⟩ := sessionDrop_removes (s := s.unplugged b) (b := b) (by rw [unplugged_session]; exact removes)
  have bay : (((s.unplugged b).goneAt b).updSession b fun y => { y with removal }).bay b = { s.bay b with
      link := (s.bay b).link.unplugged.abandoned, session := { (s.bay b).session with gone := true, removal } } := by
    rw [updSession_bay_self, goneAt_bay, unplugged_bay]
  have down := (((unplugged_down s b).updSession fun y => { y with gone := true }).updSession fun y => { y with removal }).link.absent
  have area : (((s.unplugged b).goneAt b).updSession b fun y => { y with removal }).intake.area = s.intake.area :=
    congrArg Intake.area intake
  have same : (((s.unplugged b).goneAt b).updSession b fun y => { y with removal }).prof = s.prof := prof
  have queue : (((s.unplugged b).goneAt b).updSession b fun y => { y with removal }).writer = s.writer := writer
  have store : (((s.unplugged b).goneAt b).updSession b fun y => { y with removal }).ks = s.ks := ks
  rw [recogniseDrop_eq, effect]
  change (((((s.unplugged b).goneAt b).updSession b fun y => { y with removal }).bay b).link.presence.isPresent) = false at down
  generalize ((s.unplugged b).goneAt b).updSession b (fun y => { y with removal }) = v at bay down area same queue store
  refine ⟨?_, by simp [queue], by simp [store]⟩
  have taken := (State.keepsPlan.refl (s := v) (b := b) (r := r) (by rw [bay]; exact running)).takeRemoval
  rw [down, bay] at taken
  exact taken.of_base area (by rw [bay]) (by rw [bay]) (by rw [bay]) (by rw [State.session, bay]; rfl) same

end

/-! ## A drop that files the terminal VOID (R130, R131) -/

/-- The outcome of a terminal that is lost; a reason fixed before stands. -/
def Session.lostOutcome (x : Session) : TerminalOutcome := .void (x.reason.getD .terminalLost)

/-- What a dropped terminal that was begun looks like before it is filed. -/
structure State.lost (s v : State) (b : BayId) : Prop where
  bay : v.bay b = { s.bay b with
    link := (s.bay b).link.unplugged.abandoned, session := { (s.bay b).session with gone := true, unconfirmed := true } }
  absent : (v.bay b).link.presence.isPresent = false
  ks : v.ks = s.ks
  prof : v.prof = s.prof
  clock : v.clock = s.clock
  writer : v.writer = s.writer
  area : v.intake.area = s.intake.area

theorem recogniseDrop_files {s : State} {b : BayId} (files : (s.session b).dropFiles) :
    ∃ v, s.lost v b ∧ s.recogniseDrop b = v.file b (s.session b).lostOutcome := by
  obtain ⟨ks, -, -, prof, clock, -, writer, intake⟩ := unplugged_frame s b
  have bay := unplugged_bay s b
  have session := unplugged_session s b
  refine ⟨(s.unplugged b).lostAt b, ⟨by rw [lostAt_bay, bay], ?_, ks, prof, clock, writer, congrArg Intake.area intake⟩, ?_⟩
  · rw [lostAt_bay, bay]
    exact (abandoned_down rfl rfl rfl rfl).absent
  · rw [recogniseDrop_eq, sessionDrop_files (by rw [session]; exact files), session]
    rfl

namespace State.lost

variable {s v : State} {b : BayId} (lost : s.lost v b)
include lost

theorem session : v.session b = { s.session b with gone := true, unconfirmed := true } := by
  rw [State.session, lost.bay]
  rfl

theorem receiptsOf {r : RunningOrder} (running : (s.bay b).running = some r) (outcome : TerminalOutcome) :
    v.receiptsOf b outcome = { s.session b with unconfirmed := true }.receipts b r.tag outcome (s.bay b).buffer := by
  rw [receiptsOf_running (r := r) (by rw [lost.bay]; exact running), lost.session, lost.bay]
  rfl

/-- A claim that was granted has a receipt. -/
theorem receiptsOf_pos (claimed : ∃ i ∈ (s.session b).records, i.claim ≠ none) (outcome : TerminalOutcome) :
    0 < (v.receiptsOf b outcome).length := by
  obtain ⟨i, mem, claim⟩ := claimed
  obtain ⟨c, claim⟩ := Option.ne_none_iff_exists'.mp claim
  have listed : c ∈ (v.session b).records.filterMap (·.claim) := by
    rw [lost.session]
    exact List.mem_filterMap.mpr ⟨i, mem, claim⟩
  have lengths := congrArg List.length (receipts_map_claim (v.session b) b
    (match (v.bay b).running with | some r => r.tag | none => 0) outcome (v.bay b).buffer (fun _ => ()) (fun _ => ()) fun _ _ _ => rfl)
  rw [List.length_map, List.length_map] at lengths
  have same : (v.receiptsOf b outcome).length = _ := lengths
  rw [same]
  exact List.length_pos_of_mem listed

theorem waits {outcome : TerminalOutcome} (full : 16 - s.writer.queue.length < (v.receiptsOf b outcome).length) :
    ((v.file b outcome).session b).state = .filing ∧ ((v.file b outcome).session b).gone = true ∧
    ((v.file b outcome).session b).unconfirmed = true ∧ ((v.file b outcome).session b).outcome = outcome ∧
    ((v.file b outcome).bay b).running = (s.bay b).running ∧ ((v.file b outcome).bay b).buffer = (s.bay b).buffer ∧
    (v.file b outcome).ks.requests = s.ks.requests ∧ (v.file b outcome).writer.queue = s.writer.queue ++
      ((v.receiptsOf b outcome).take (16 - s.writer.queue.length)).map fun y => { y with time := s.clock } := by
  have room : v.writer.queueRoom = 16 - s.writer.queue.length := by rw [Writer.queueRoom, lost.writer]
  obtain ⟨r, rest, -, bay, queue, -, ks⟩ := file_waits (s := v) (b := b) (by rw [room]; exact full)
  rw [State.session, bay, lost.bay, queue, ks, room, lost.writer, lost.clock, lost.ks]
  exact ⟨rfl, rfl, rfl, rfl, rfl, rfl, rfl, rfl⟩

variable {outcome : TerminalOutcome} (fits : (v.receiptsOf b outcome).length ≤ 16 - s.writer.queue.length)
include fits

theorem file_eq : v.file b outcome = (v.allEntered b outcome).leaveTerminal b := by
  refine file_fits ?_
  rw [Writer.queueRoom, lost.writer]
  exact fits

theorem enters : (v.file b outcome).writer.queue =
      s.writer.queue ++ (v.receiptsOf b outcome).map (fun y => { y with time := s.clock }) ∧
    (v.file b outcome).ks.requests = s.ks.requests ++ [.release b] ∧ ((v.file b outcome).bay b).buffer = [] := by
  obtain ⟨ks, -, -, -, -, -, -, -, queue⟩ := allEntered_frame v b outcome
  have buffer := (leaveTerminal_leftFrom (v.allEntered b outcome) b).1
  rw [allEntered_bay] at buffer
  rw [lost.file_eq fits]
  refine ⟨?_, ?_, buffer⟩
  · simp [queue, lost.writer, lost.clock]
  · simp [ks, lost.ks]

/-- The bay goes on with its recorded ending, or with the removal of a void terminal. -/
theorem leaves {r : RunningOrder} (running : (s.bay b).running = some r) (refusal : (s.session b).refusal = none) :
    ((s.session b).ending = .none →
      s.removalTaken (v.file b outcome) b r outcome ((s.bay b).counters.filing outcome) false) ∧
    ∀ code, ((s.session b).ending = .halted ∧ code = .halted) ∨ ((s.session b).ending = .engineStopped ∧ code = .engineStopped) →
      s.planEnded (v.file b outcome) b r code 0xFF ((s.bay b).counters.filing outcome) := by
  have kept := (State.keepsPlan.refl (s := v) (b := b) (r := r) (by rw [lost.bay]; exact running)).allEntered outcome
  have left := kept.leaveTerminal (by rw [State.session, allEntered_bay, lost.bay]; exact refusal)
  rw [allEntered_bay] at left
  have counters : (v.bay b).counters = (s.bay b).counters := by rw [lost.bay]
  rw [lost.file_eq fits]
  obtain ⟨ended, removed⟩ := left
  refine ⟨fun going => ?_, fun code ends => ?_⟩
  · have removed := removed (by rw [lost.session]; exact going) (by rw [lost.session])
    rw [lost.absent] at removed
    rw [← counters]
    exact removed.of_base lost.area (by rw [lost.bay]) (by rw [lost.bay]) (by rw [lost.bay]) (by rw [lost.session]) lost.prof
  · rw [← counters]
    exact (ended code (by rw [lost.session]; exact ends)).of_base lost.area (by rw [lost.bay]) (by rw [lost.bay]) (by rw [lost.bay])

end State.lost

end Sys2Proof.Machine
end

section

set_option Elab.async false

/-!
SUPPORT. The presence table as the commands show it (R106 to R108, R119, R130, R173).
-/

namespace Sys2Proof.Machine

section
variable {s : State} {b : BayId} (on : s.engine ≠ .off)
include on

/-- A drop in the states that wait for the terminal's end, as the command shows it. -/
theorem run_drop_waits (waits : (s.session b).state = .claiming ∨ (s.session b).state = .preparing) :
    let t := s.run fun _ => s.quiet.recogniseDrop b
    (t.session b).state = (s.session b).state ∧ (t.session b).gone = true ∧
    (t.session b).reason = some ((s.session b).reason.getD .terminalLost) ∧
    ((s.session b).state = .claiming → (s.session b).deferral = true → (s.session b).reason = none →
      t.ks.requests = s.ks.requests ++ [.withdraw b]) := by
  obtain ⟨-, -, sessions, -⟩ := run_parts s (fun _ => s.quiet.recogniseDrop b) on
  have session := recogniseDrop_waits (s := s.quiet) waits
  dsimp only
  rw [sessions, session]
  refine ⟨rfl, rfl, rfl, fun state deferred free => ?_⟩
  have withdrawn := recogniseDrop_withdraws (s := s.quiet) state deferred free
  simp [run_frame _ _ on, withdrawn]

theorem run_drop_filing (state : (s.session b).state = .filing) :
    let t := s.run fun _ => s.quiet.recogniseDrop b
    (t.bay b).session = { s.session b with gone := true } ∧ (t.bay b).running = (s.bay b).running ∧
    (t.bay b).held = (s.bay b).held ∧ (t.bay b).buffer = (s.bay b).buffer ∧ (t.bay b).counters = (s.bay b).counters ∧
    t.writer.queue = s.writer.queue ∧ t.ks.requests = s.ks.requests := by
  obtain ⟨-, bays, -, -⟩ := run_parts s (fun _ => s.quiet.recogniseDrop b) on
  obtain ⟨bay, queue, requests⟩ := recogniseDrop_filing (s := s.quiet) state
  dsimp only
  rw [bays, bay, unplugged_bay]
  refine ⟨rfl, rfl, rfl, rfl, rfl, ?_⟩
  simp [run_frame _ _ on, queue, requests]

theorem run_drop_removes {r : RunningOrder} (running : (s.bay b).running = some r) (removes : (s.session b).dropRemoves) :
    let t := s.run fun _ => s.quiet.recogniseDrop b
    s.removalTaken t b r (s.session b).outcome (s.bay b).counters false ∧ t.writer.queue = s.writer.queue ∧
    t.ks.requests = s.ks.requests := by
  obtain ⟨taken, queue, requests⟩ := recogniseDrop_removes (s := s.quiet) running removes
  refine ⟨State.removalTaken.run (taken.of_base (s := s) rfl rfl rfl rfl rfl rfl) on, ?_⟩
  simp [run_frame _ _ on, queue, requests]

/-- A drop that files the terminal, as the command shows it. -/
theorem run_drop_files (files : (s.session b).dropFiles) :
    let t := s.run fun _ => s.quiet.recogniseDrop b
    (16 ≤ s.writer.queue.length → (∃ i ∈ (s.session b).records, i.claim ≠ none) →
      (t.session b).state = .filing ∧ (t.session b).gone = true ∧ (t.session b).unconfirmed = true ∧
      (t.session b).outcome = (s.session b).lostOutcome) ∧
    ∀ r receipts, (s.bay b).running = some r →
      receipts = { s.session b with unconfirmed := true }.receipts b r.tag (s.session b).lostOutcome (s.bay b).buffer →
      t.writer.queue =
        s.writer.queue ++ (receipts.take (16 - s.writer.queue.length)).map (fun y => { y with time := s.clock }) ∧
      (16 - s.writer.queue.length < receipts.length →
        (t.session b).state = .filing ∧ (t.session b).gone = true ∧ (t.session b).unconfirmed = true ∧
        (t.session b).outcome = (s.session b).lostOutcome ∧ (t.bay b).running = some r ∧ t.ks.requests = s.ks.requests ∧
        (t.bay b).buffer = (s.bay b).buffer) ∧
      (receipts.length ≤ 16 - s.writer.queue.length → (s.session b).refusal = none →
        t.ks.requests = s.ks.requests ++ [.release b] ∧ (t.bay b).buffer = [] ∧
        ((s.session b).ending = .none →
          s.removalTaken t b r (s.session b).lostOutcome ((s.bay b).counters.filing (s.session b).lostOutcome) false) ∧
        (∀ code, ((s.session b).ending = .halted ∧ code = .halted) ∨
            ((s.session b).ending = .engineStopped ∧ code = .engineStopped) →
          s.planEnded t b r code 0xFF ((s.bay b).counters.filing (s.session b).lostOutcome))) := by
  obtain ⟨v, lost, effect⟩ := recogniseDrop_files (s := s.quiet) files
  have outcome : (s.quiet.session b).lostOutcome = (s.session b).lostOutcome := rfl
  rw [outcome] at effect
  generalize (s.session b).lostOutcome = o at effect
  rw [effect]
  obtain ⟨-, bays, sessions, -⟩ := run_parts s (fun _ => v.file b o) on
  have queue : (s.run fun _ => v.file b o).writer.queue = (v.file b o).writer.queue := by simp [run_frame _ _ on]
  have store : (s.run fun _ => v.file b o).ks = (v.file b o).ks := by simp [run_frame _ _ on]
  dsimp only
  rw [bays, sessions, queue, store]
  refine ⟨fun full claimed => ?_, fun r receipts running listed => ?_⟩
  · have some := lost.receiptsOf_pos claimed o
    obtain ⟨state, gone, unconfirmed, outcome, -⟩ := lost.waits (outcome := o) (by
      have : s.quiet.writer.queue.length = s.writer.queue.length := rfl
      omega)
    exact ⟨state, gone, unconfirmed, outcome⟩
  · have all : v.receiptsOf b o = receipts := (lost.receiptsOf running o).trans listed.symm
    subst all
    refine ⟨?_, fun full => ?_, fun fits refusal => ?_⟩
    · by_cases full : 16 - s.writer.queue.length < (v.receiptsOf b o).length
      · obtain ⟨-, -, -, -, -, -, -, queue⟩ := lost.waits full
        exact queue
      · have fits : (v.receiptsOf b o).length ≤ 16 - s.writer.queue.length := Nat.le_of_not_lt full
        obtain ⟨queue, -⟩ := lost.enters fits
        rw [List.take_of_length_le fits]
        exact queue
    · obtain ⟨state, gone, unconfirmed, outcome, order, buffer, requests, -⟩ := lost.waits full
      exact ⟨state, gone, unconfirmed, outcome, order.trans running, requests, buffer⟩
    · obtain ⟨-, requests, buffer⟩ := lost.enters fits
      obtain ⟨removed, ended⟩ := lost.leaves fits running refusal
      exact ⟨requests, buffer,
        fun going => State.removalTaken.run ((removed going).of_base (s := s) rfl rfl rfl rfl rfl rfl) on,
        fun code ends => State.planEnded.run ((ended code ends).of_base (s := s) rfl rfl rfl rfl) on⟩

theorem run_drop_rests (rests : (s.session b).state = .idle ∨ (s.session b).state = .awaitTerminal) :
    ((s.run fun _ => s.quiet.recogniseDrop b).bay b).session = (s.bay b).session := by
  obtain ⟨-, bays, -, -⟩ := run_parts s (fun _ => s.quiet.recogniseDrop b) on
  rw [bays]
  exact recogniseDrop_rests (s := s.quiet) rests

end

/-- Settles O52: the input, the rise and the drop. -/
theorem presenceByTable : Obligations.PresenceByTable := by
  refine ⟨fun s b => ⟨fun low => ⟨_, exec_bayPresHigh low, ?high⟩, fun high => ⟨_, exec_bayPresLow high, ?low⟩⟩,
    fun s b w on loaded settled timer => ⟨exec_presenceTimer_early timer settled, fun due presence =>
      ⟨_, exec_presenceTimer_rise timer on loaded due presence, rise_told on⟩, fun due presence => ?drop⟩⟩
  case high =>
    obtain ⟨input, others, rest, session, asleep⟩ := driven_rest s b true
    refine ⟨input, others, rest, session, asleep, fun loaded on => ?_⟩
    rw [driven_bay, baysAwake_of loaded on]
    exact driven_high _ _ (s.timer 20)
  case low =>
    obtain ⟨input, others, rest, session, asleep⟩ := driven_rest s b false
    refine ⟨input, others, rest, session, asleep, fun loaded on => ?_⟩
    rw [driven_bay, baysAwake_of loaded on]
    exact driven_low _ (s.timer (s.settleTime b)) _
  case drop =>
    obtain ⟨dropped, receiver, absent, stopped, exchange, sending, out, others, slots, ceu, cipher, prof, clock, fires⟩ :=
      drop_told (s := s) (b := b) on
    exact ⟨_, exec_presenceTimer_drop timer on loaded due presence, dropped, receiver, absent, stopped, exchange, sending, out, others,
      slots, ceu, cipher, prof, clock, fires, run_drop_rests on, run_drop_waits on, run_drop_filing on,
      fun r running removes => run_drop_removes on running removes, run_drop_files on⟩

end Sys2Proof.Machine
end

section

set_option Elab.async false

/-!
SUPPORT. The stop notice at the bays (R134, R135).
-/

namespace Sys2Proof.Machine

/-! ## A pass that visits each of its members once -/

/-- A pass over a list without duplicates visits a member of it once, between the others. -/
theorem foldl_visit {α : Type} {op : State → α → State} {l : List α} {x : α} (mem : x ∈ l) (once : l.Nodup) (s : State) :
    ∃ before after : List α, x ∉ before ∧ x ∉ after ∧ l.foldl op s = after.foldl op (op (before.foldl op s) x) := by
  obtain ⟨before, after, rfl⟩ := List.append_of_mem mem
  refine ⟨before, after, fun early => ?_, fun late => ?_, by rw [List.foldl_append, List.foldl_cons]⟩
  · exact (List.disjoint_of_nodup_append once) early (List.mem_cons_self ..)
  · exact (List.nodup_cons.mp (List.nodup_append.mp once).2.1).1 late

theorem foldl_bay_absent {op : State → BayId → State} (others : ∀ s b c, c ≠ b → (op s b).bay c = s.bay c) {l : List BayId} {c : BayId}
    (absent : c ∉ l) (s : State) : (l.foldl op s).bay c = s.bay c := by
  induction l generalizing s with
  | nil => rfl
  | cons b l ih =>
    obtain ⟨apart, absent⟩ := not_or.mp (List.mem_cons.not.mp absent)
    exact (ih absent (op s b)).trans (others s b c apart)

/-! ## What a halt or stop notice keeps of a bay without a held order -/

/-- What every notice keeps of the bay: its cache and its counters, and the plan with its ending or no plan. -/
structure Bay.noticed (x y : Bay) : Prop where
  held : y.held = none
  cache : y.cache = x.cache
  counters : y.counters = x.counters
  ending : y.running ≠ none → y.session.ending = x.session.ending

theorem Bay.noticed_of_session {x y : Bay} (free : x.held = none) (same : ∃ link session, y = { x with link, session } ∧
    session.ending = x.session.ending) : x.noticed y := by
  obtain ⟨link, session, rfl, ending⟩ := same
  exact ⟨free, rfl, rfl, fun _ => ending⟩

theorem haltSession_noticed {s : State} {b : BayId} {r : RunningOrder} (running : (s.bay b).running = some r)
    (free : (s.bay b).held = none) (reason : VoidReason) : (s.bay b).noticed ((s.haltSession b reason).bay b) := by
  by_cases ends : (s.session b).endsAtOnce
  · obtain ⟨u, link, effect, -, bay, -⟩ := haltSession_ends reason ends
    rw [effect, planEnd_bay (r := r) (by rw [bay]; exact running), planEnded_of_none (by rw [bay]; exact free), bay]
    exact ⟨free, rfl, rfl, fun runs => absurd rfl runs⟩
  · refine Bay.noticed_of_session free ?_
    cases at' : (s.session b).state with
    | awaitTerminal => exact absurd (.inl at') ends
    | awaitRemoval => exact absurd (.inr (.inl at')) ends
    | probing => exact absurd (.inr (.inr (.inl at'))) ends
    | claiming => exact ⟨_, _, haltSession_fixes reason (.inl at'), rfl⟩
    | preparing => exact ⟨_, _, haltSession_fixes reason (.inr at'), rfl⟩
    | loading =>
      obtain ⟨link, bay, -⟩ := haltSession_unwound reason (.inl at')
      exact ⟨_, _, bay, rfl⟩
    | releasing =>
      have begun : (s.session b).begun = true := by
        cases early : (s.session b).begun with
        | true => rfl
        | false => exact absurd (.inr (.inr (.inr ⟨at', early⟩))) ends
      obtain ⟨link, bay, -⟩ := haltSession_unwound reason (.inr ⟨at', begun⟩)
      exact ⟨_, _, bay, rfl⟩
    | unwinding =>
      rw [haltSession_rests reason (.inl at')]
      exact ⟨_, _, rfl, rfl⟩
    | filing =>
      rw [haltSession_rests reason (.inr at')]
      exact ⟨_, _, rfl, rfl⟩
    | idle =>
      have rests : s.haltSession b reason = s := by simp only [State.haltSession, at']
      rw [rests]
      exact ⟨_, _, rfl, rfl⟩

/-! ## The notice at one bay (R134) -/

section
variable {s : State} {b : BayId}

theorem stopBay_idle (idle : (s.bay b).running = none) : s.stopBay b = s := by simp only [State.stopBay, idle]

/-- The bay whose held order has been let go and whose plan has the ending, before its session acts. -/
def State.stopTaken (s : State) (b : BayId) : State :=
  (s.dropHeld b .engineStopped).updSession b fun x => { x with ending := .engineStopped }

theorem stopTaken_bay (s : State) (b : BayId) : (s.stopTaken b).bay b =
    { s.bay b with held := none, session := { (s.bay b).session with ending := .engineStopped } } := by
  rw [State.stopTaken, updSession_bay_self, dropHeld_bay]

theorem stopTaken_requests (s : State) (b : BayId) : (s.stopTaken b).ks.requests = s.ks.requests := by
  unfold State.stopTaken State.dropHeld
  split <;> simp

theorem stopTaken_area (s : State) (b : BayId) : (s.stopTaken b).intake.area = s.intake.area := by
  simp [State.stopTaken]

variable {r : RunningOrder} (running : (s.bay b).running = some r)
include running

theorem stopBay_ended (ended : (s.session b).ending ≠ .none) : s.stopBay b = s.dropHeld b .engineStopped := by
  simp only [State.stopBay, running]
  exact if_neg ended

theorem stopBay_acts (going : (s.session b).ending = .none) : s.stopBay b = (s.stopTaken b).haltSession b .engineStopped := by
  simp only [State.stopBay, running]
  exact if_pos going

theorem stopBay_noticed : ((s.stopBay b).bay b).held = none ∧ ((s.stopBay b).bay b).cache = (s.bay b).cache ∧
    ((s.stopBay b).bay b).counters = (s.bay b).counters ∧
    (((s.stopBay b).bay b).running ≠ none → ((s.stopBay b).session b).ending ≠ .none) := by
  by_cases going : (s.session b).ending = .none
  · have taken := stopTaken_bay s b
    have noticed := haltSession_noticed (s := s.stopTaken b) (b := b) (r := r) (by rw [taken]; exact running) (by rw [taken]) .engineStopped
    rw [stopBay_acts running going]
    refine ⟨noticed.held, ?_, ?_, fun runs => ?_⟩
    · rw [noticed.cache, taken]
    · rw [noticed.counters, taken]
    · rw [State.session, noticed.ending runs, taken]
      nofun
  · rw [stopBay_ended running going, State.session, dropHeld_bay]
    exact ⟨rfl, rfl, rfl, fun _ => going⟩

theorem stopBay_held {h : HeldOrder} (held : (s.bay b).held = some h) :
    s.completes (s.stopBay b) h.order .engineStopped (planData b 0xFF Counters.zero) := by
  have dropped := dropHeld_completes held .engineStopped
  by_cases going : (s.session b).ending = .none
  · rw [stopBay_acts running going]
    exact dropped.grows (((State.Grows.refl _).updSession b _).haltSession b _)
  · rw [stopBay_ended running going]
    exact dropped

theorem stopTaken_session : ((s.stopTaken b).session b).state = (s.session b).state ∧
    ((s.stopTaken b).session b).begun = (s.session b).begun ∧ ((s.stopTaken b).session b).latched = (s.session b).latched ∧
    ((s.stopTaken b).session b).ending = .engineStopped ∧ ((s.stopTaken b).session b).deferral = (s.session b).deferral ∧
    ((s.stopTaken b).session b).reason = (s.session b).reason := by
  rw [State.session, stopTaken_bay]
  exact ⟨rfl, rfl, rfl, rfl, rfl, rfl⟩

variable (going : (s.session b).ending = .none)
include going

theorem stopBay_ends (ends : (s.session b).endsAtOnce) :
    (((s.stopBay b).bay b).running = none ∧ ((s.stopBay b).session b).state = .idle ∧ ((s.stopBay b).session b).removal = none ∧
      ((s.session b).state = .probing ∨ (s.session b).state = .releasing → ((s.stopBay b).bay b).link.exchange = none)) ∧
    s.completes (s.stopBay b) r.order .engineStopped (planData b 0xFF (s.bay b).counters) := by
  obtain ⟨state, begun, -, ending, -⟩ := stopTaken_session running
  obtain ⟨u, link, effect, intake, bay, closed⟩ := haltSession_ends (s := s.stopTaken b) (b := b) .engineStopped
    (by rw [Session.endsAtOnce, state, begun]; exact ends)
  rw [stopTaken_bay] at bay
  rw [ending] at effect
  rw [state] at closed
  have running' : (u.bay b).running = some r := by rw [bay]; exact running
  obtain ⟨order, -⟩ := planEnd_completes running' Ending.engineStopped.result 0xFF
  rw [stopBay_acts running going, effect]
  have ended : (u.planEnd b Ending.engineStopped.result 0xFF).bay b = Bay.planFinished (u.bay b) := by
    rw [planEnd_bay running', planEnded_of_none (by rw [bay])]
  refine ⟨?_, ?_⟩
  · rw [State.session, ended, bay]
    exact ⟨rfl, rfl, rfl, closed⟩
  · have order := order.of_area (s := s) (by rw [intake, stopTaken_area])
    rwa [bay] at order

theorem stopBay_fixes (waits : (s.session b).state = .claiming ∨ (s.session b).state = .preparing) :
    (s.stopBay b).bay b = { s.bay b with
      held := none
      session := { s.session b with ending := .engineStopped, reason := some ((s.session b).reason.getD .engineStopped) } } ∧
    ((s.session b).state = .claiming → (s.session b).deferral = true → (s.session b).reason = none →
      .withdraw b ∈ (s.stopBay b).ks.requests) := by
  obtain ⟨state, -, -, -, deferral, reason⟩ := stopTaken_session running
  rw [stopBay_acts running going]
  refine ⟨?_, fun claiming deferred free => ?_⟩
  · rw [haltSession_fixes _ (by rw [state]; exact waits), stopTaken_bay]
    rfl
  · rw [haltSession_claiming _ (state.trans claiming), State.stopClaiming,
      if_pos ⟨deferral.trans deferred, reason.trans free⟩]
    exact List.mem_append_right _ (List.mem_singleton.mpr rfl)

theorem stopBay_unwinds (begun : (s.session b).state = .loading ∨ ((s.session b).state = .releasing ∧ (s.session b).begun = true)) :
    ((s.stopBay b).bay b).running = some r ∧ ((s.stopBay b).session b).state = .unwinding ∧
    ((s.stopBay b).session b).ending = .engineStopped ∧
    ((s.stopBay b).session b).reason = some ((s.session b).reason.getD .engineStopped) ∧
    ((s.session b).latched ≠ none → ((s.stopBay b).bay b).link.exchange.map (·.frame) = some .rollback) := by
  obtain ⟨state, begun', latched, -⟩ := stopTaken_session running
  obtain ⟨link, bay, sent⟩ := haltSession_unwound (s := s.stopTaken b) (b := b) .engineStopped (by rw [state, begun']; exact begun)
  rw [stopBay_acts running going, State.session, bay, stopTaken_bay]
  exact ⟨running, rfl, rfl, rfl, fun some => sent (by rw [latched]; exact some)⟩

theorem stopBay_rests (rests : (s.session b).state = .unwinding ∨ (s.session b).state = .filing) :
    (s.stopBay b).bay b = { s.bay b with held := none, session := { s.session b with ending := .engineStopped } } := by
  obtain ⟨state, -⟩ := stopTaken_session running
  rw [stopBay_acts running going, haltSession_rests _ (by rw [state]; exact rests), stopTaken_bay]
  rfl

end

/-- The notice makes of one bay what R134 and R135 say. -/
theorem stopBay_stopped (s : State) (b : BayId) : s.bayStopped (s.stopBay b) b := by
  refine ⟨fun idle => by rw [stopBay_idle idle], fun r running => ?_⟩
  obtain ⟨held, cache, counters, -⟩ := stopBay_noticed running
  exact ⟨held, cache, counters, fun ended => by rw [stopBay_ended running ended, dropHeld_bay], fun going =>
    ⟨fun ends => (stopBay_ends running going ends).1, stopBay_fixes running going, stopBay_unwinds running going,
      stopBay_rests running going⟩⟩

/-- What the notice makes of a bay shows in the bay itself and in the key store's requests. -/
theorem State.bayStopped.congr {s t u v : State} {b : BayId} (h : s.bayStopped t b) (before : u.bay b = s.bay b)
    (after : v.bay b = t.bay b) (requests : ∀ q ∈ t.ks.requests, q ∈ v.ks.requests) : u.bayStopped v b := by
  have session : u.session b = s.session b := congrArg Bay.session before
  have session' : v.session b = t.session b := congrArg Bay.session after
  obtain ⟨idle, runs⟩ := h
  rw [State.bayStopped, before, after, session, session']
  refine ⟨idle, fun r running => ?_⟩
  obtain ⟨held, cache, counters, ended, acts⟩ := runs r running
  refine ⟨held, cache, counters, ended, fun going => ?_⟩
  obtain ⟨ends, fixes, rest⟩ := acts going
  refine ⟨ends, fun waits => ?_, rest⟩
  obtain ⟨bay, withdrawn⟩ := fixes waits
  exact ⟨bay, fun claiming deferred free => requests _ (withdrawn claiming deferred free)⟩

/-! ## The notice at all bays -/

/-- What the notice makes of every bay, the answers of the orders with it. -/
structure State.baysStopped (s t : State) : Prop where
  stopped : ∀ b, s.bayStopped t b
  ending : ∀ b, (t.bay b).running ≠ none → (t.session b).ending ≠ .none
  held : ∀ b r h, (s.bay b).running = some r → (s.bay b).held = some h →
    s.completes t h.order .engineStopped (planData b 0xFF Counters.zero)
  plans : ∀ b r, (s.bay b).running = some r → (s.session b).ending = .none → (s.session b).endsAtOnce →
    s.completes t r.order .engineStopped (planData b 0xFF (s.bay b).counters)

/-- The notice visits each bay once, after bays that leave it alone and before bays that leave it alone. -/
theorem stopBays_visit (s : State) (b : BayId) : ∃ u : State, u.bay b = s.bay b ∧ u.intake.area = s.intake.area ∧
    s.stopBays.bay b = (u.stopBay b).bay b ∧ (u.stopBay b).Grows s.stopBays := by
  obtain ⟨before, after, early, late, pass⟩ := foldl_visit (op := State.stopBay) (List.mem_finRange b) (List.nodup_finRange 8) s
  have pass : s.stopBays = after.foldl State.stopBay ((before.foldl State.stopBay s).stopBay b) := pass
  refine ⟨before.foldl State.stopBay s, foldl_bay_absent stopBay_other early s,
    foldl_keeps (fun t => t.intake.area) _ (fun t c => by simp) before s, ?_, ?_⟩
  · rw [pass]
    exact foldl_bay_absent stopBay_other late _
  · rw [pass]
    exact (State.Grows.refl _).foldl (fun c grown => grown.stopBay c) after

theorem stopBays_stopped (s : State) : s.baysStopped s.stopBays := by
  refine ⟨fun b => ?_, fun b runs => ?_, fun b r h running held => ?_, fun b r running going ends => ?_⟩
  all_goals obtain ⟨u, bay, area, after, grown⟩ := stopBays_visit s b
  · exact (stopBay_stopped u b).congr bay.symm after fun q standing => grown.mem_requests standing
  · have session : s.stopBays.session b = (u.stopBay b).session b := congrArg Bay.session after
    rw [session]
    rw [after] at runs
    cases running : (u.bay b).running with
    | none =>
      rw [stopBay_idle running] at runs
      exact absurd running runs
    | some r => exact (stopBay_noticed running).2.2.2 runs
  · exact ((stopBay_held (by rw [bay]; exact running) (by rw [bay]; exact held)).grows grown).of_area area
  · have session : u.session b = s.session b := congrArg Bay.session bay
    have ended := (stopBay_ends (by rw [bay]; exact running) (by rw [session]; exact going) (by rw [session]; exact ends)).2
    rw [bay] at ended
    exact (ended.grows grown).of_area area

end Sys2Proof.Machine
end

section

set_option Elab.async false

/-!
SUPPORT. The settles of all slots as STOP and an area fault find them (R56).
-/

namespace Sys2Proof.Machine

/-! ## Answers lost with the area (R18, R19) -/

/-- The answer of an order was lost: its entry is gone, and ORDER_ANSWERED is set. -/
def State.orderLost (t : State) (cell : Nat) : Prop := (∀ e ∈ t.intake.table, e.cell ≠ cell) ∧ t.hasFlag .orderAnswered

theorem State.orderLost.grows {s t : State} {cell : Nat} (h : s.orderLost cell) (grown : s.Grows t) : t.orderLost cell := by
  obtain ⟨gone, flag⟩ := h
  exact ⟨grown.not_in_table gone, grown.hasFlag flag⟩

theorem freeEntry_gone (s : State) (cell : Nat) : ∀ e ∈ (s.freeEntry cell).intake.table, e.cell ≠ cell := by
  have table : (s.freeEntry cell).intake.table = s.intake.table.filter fun e => e.cell != cell := by
    unfold State.freeEntry
    dsimp only
    split <;> simp
  rw [table]
  intro e mem
  simpa using (List.mem_filter.mp mem).2

theorem answered_lost (s : State) (cell : Nat) : (s.answered cell).orderLost cell :=
  ⟨freeEntry_gone _ cell, ((State.Grows.refl _).freeEntry cell).hasFlag (State.hasFlag_raise s .orderAnswered)⟩

theorem completeOrder_lost {s : State} (area : s.intake.area = none) (cell : Nat) (result : Result) (data : List Byte) :
    (s.completeOrder cell result data).orderLost cell := by
  unfold State.completeOrder
  rw [area]
  exact answered_lost s cell

theorem answerSettle_lost {s : State} {i : SlotId} {v : Settle} {cell : Nat} (area : s.intake.area = none)
    (settle : (s.slot i).settle = some v) (order : v.order = some cell) (result : Result) : (s.answerSettle i result).orderLost cell := by
  obtain ⟨_, tag, remaining, unclosed, entered⟩ := v
  obtain rfl : _ = some cell := order
  simp only [State.answerSettle, settle]
  exact completeOrder_lost (by simpa using area) ..

/-! ## A pass over the slots -/

theorem foldl_slot_absent {op : State → SlotId → State} (others : ∀ s i j, j ≠ i → (op s i).slot j = s.slot j) {l : List SlotId}
    {j : SlotId} (absent : j ∉ l) (s : State) : (l.foldl op s).slot j = s.slot j := by
  induction l generalizing s with
  | nil => rfl
  | cons i l ih =>
    obtain ⟨apart, absent⟩ := not_or.mp (List.mem_cons.not.mp absent)
    exact (ih absent (op s i)).trans (others s i j apart)

/-- A pass over all slots visits each once, with the slot as it was before the pass; the rest of the pass leaves it alone. -/
theorem foldl_slot_visit {op : State → SlotId → State} (others : ∀ s i j, j ≠ i → (op s i).slot j = s.slot j) (s : State) (i : SlotId) :
    ∃ before after : List SlotId, (before.foldl op s).slot i = s.slot i ∧
      (List.finRange 64).foldl op s = after.foldl op (op (before.foldl op s) i) ∧
      ((List.finRange 64).foldl op s).slot i = (op (before.foldl op s) i).slot i := by
  obtain ⟨before, after, early, late, pass⟩ := foldl_visit (op := op) (List.mem_finRange i) (List.nodup_finRange 64) s
  exact ⟨before, after, foldl_slot_absent others early s, pass, by rw [pass, foldl_slot_absent others late]⟩

/-! ## The test of all settles (R56) -/

theorem testSettles_visit (s : State) (i : SlotId) : ∃ u : State, u.slot i = s.slot i ∧ u.engine = s.engine ∧
    u.writer.line = s.writer.line ∧ u.intake.area = s.intake.area ∧ s.testSettles.slot i = (u.testSettle i).slot i ∧
    (u.testSettle i).Grows s.testSettles := by
  obtain ⟨before, after, slot, pass, last⟩ := foldl_slot_visit testSettle_otherSlot s i
  refine ⟨before.foldl State.testSettle s, slot, foldl_keeps (fun t => t.engine) _ (fun t c => by simp) before s,
    foldl_keeps (fun t => t.writer.line) _ (fun t c => by simp) before s,
    foldl_keeps (fun t => t.intake.area) _ (fun t c => by simp) before s, last, ?_⟩
  rw [State.testSettles, pass]
  exact (State.Grows.refl _).foldl (fun c grown => grown.testSettle c) after

theorem testSettles_slot (s : State) (i : SlotId) : ∃ settle, s.testSettles.slot i = { s.slot i with settle } := by
  obtain ⟨u, slot, -, -, -, after, -⟩ := testSettles_visit s i
  obtain ⟨settle, own⟩ := testSettle_slot u i
  exact ⟨settle, by rw [after, own, slot]⟩

theorem settleWaits_congr {s u : State} (line : u.writer.line = s.writer.line) (i : SlotId) : u.settleWaits i = s.settleWaits i := by
  rw [State.settleWaits, State.settleWaits, line]

/-- A settle that still submits goes on, and a slot without one stays so. -/
theorem testSettles_keeps {s : State} {i : SlotId}
    (goes : ∀ v, (s.slot i).settle = some v → v.remaining ≠ [] ∨ s.settleWaits i = true) : s.testSettles.slot i = s.slot i := by
  obtain ⟨u, slot, -, line, -, after, -⟩ := testSettles_visit s i
  rw [after]
  cases settle : (s.slot i).settle with
  | none => rw [testSettle_unsettled (by rw [slot]; exact settle), slot]
  | some v => rw [testSettle_submits (by rw [slot]; exact settle) (by rw [settleWaits_congr line]; exact goes v settle), slot]

section
variable {s : State} {i : SlotId} {v : Settle} (settle : (s.slot i).settle = some v) (entered : v.remaining = [])
  (free : s.settleWaits i = false) (open_ : v.unclosed ≠ []) (stopping : s.engine = .stopping)
include settle entered free open_ stopping

/-- Under STOP a settle that has entered its whole list completes its order; its mark stays. -/
theorem testSettles_stops : s.testSettles.slot i = { s.slot i with settle := some { v with order := none } } := by
  obtain ⟨u, slot, engine, line, -, after, -⟩ := testSettles_visit s i
  have own : (u.slot i).settle = some v := by rw [slot]; exact settle
  rw [after, testSettle_stopped own entered ((settleWaits_congr line i).trans free) open_ (engine.trans stopping), answerSettle_slot own,
    slot]

theorem testSettles_completes {cell : Nat} (order : v.order = some cell) :
    s.completes s.testSettles cell .engineStopped (slotCountData i v.entered (s.slot i).generation) ∧
    (s.intake.area = none → s.testSettles.orderLost cell) := by
  obtain ⟨u, slot, engine, line, area, -, grown⟩ := testSettles_visit s i
  have own : (u.slot i).settle = some v := by rw [slot]; exact settle
  rw [testSettle_stopped own entered ((settleWaits_congr line i).trans free) open_ (engine.trans stopping)] at grown
  have answered := answerSettle_completes own order .engineStopped
  rw [slot] at answered
  exact ⟨(answered.grows grown).of_area area, fun out => (answerSettle_lost (area.trans out) own order _).grows grown⟩

end

/-! ## A settle whose submission is withdrawn (R56) -/

/-- A settle that is stopped: its order answered, its mark kept while a receipt it entered is not closed. -/
def Settle.stopped (v : Settle) : Option Settle := if v.unclosed = [] then none else some { v with order := none, remaining := [] }

section
variable {s : State} {i : SlotId}

theorem stopSettle_unsettled (unsettled : (s.slot i).settle = none) : s.stopSettle i = s := by
  have answered : s.answerSettle i .engineStopped = s := by simp only [State.answerSettle, unsettled]
  rw [State.stopSettle, updSettle_unsettled unsettled, answered, testSettle_unsettled unsettled]

variable {v : Settle} (settle : (s.slot i).settle = some v)
include settle

theorem stopSettle_slot (free : s.settleWaits i = false) :
    (s.stopSettle i).slot i = { s.slot i with settle := v.stopped } := by
  have emptied := updSettle_slot settle fun t => { t with remaining := [] }
  have answered := answerSettle_slot (s := s.updSettle i fun t => { t with remaining := [] }) (i := i)
    (v := { v with remaining := [] }) (by rw [emptied]) .engineStopped
  rw [emptied] at answered
  have line : ((s.updSettle i fun t => { t with remaining := [] }).answerSettle i .engineStopped).settleWaits i = false :=
    (settleWaits_congr (by simp) i).trans free
  rw [State.stopSettle]
  generalize (s.updSettle i fun t => { t with remaining := [] }).answerSettle i .engineStopped = u at answered line
  have own : (u.slot i).settle = some { v with order := none, remaining := [] } := by rw [answered]
  have silent (result : Result) : u.answerSettle i result = u := by simp only [State.answerSettle, own]
  rw [Settle.stopped]
  by_cases closed : v.unclosed = []
  · rw [if_pos closed, testSettle_closed own rfl line closed, silent, updSlot_slot_self, answered]
  · rw [if_neg closed]
    by_cases stopping : u.engine = .stopping
    · rw [testSettle_stopped own rfl line closed stopping, silent, answered]
    · rw [testSettle_waits own stopping closed, answered]

theorem stopSettle_lost {cell : Nat} (area : s.intake.area = none) (order : v.order = some cell) : (s.stopSettle i).orderLost cell := by
  have emptied := updSettle_slot settle fun t => { t with remaining := [] }
  have lost := answerSettle_lost (s := s.updSettle i fun t => { t with remaining := [] }) (i := i) (v := { v with remaining := [] })
    (by simpa using area) (by rw [emptied]) order .engineStopped
  exact lost.grows ((State.Grows.refl _).testSettle i)

end

theorem withdrawSettle_otherSlot (waiting : List SlotId) (s : State) (i j : SlotId) (apart : j ≠ i) :
    (State.withdrawSettle waiting s i).slot j = s.slot j := by
  unfold State.withdrawSettle
  split
  · exact stopSettle_otherSlot _ _ _ apart
  · rfl

/-- The line without the settles' submissions. -/
def State.bayLine (s : State) : List Submission :=
  s.writer.line.filter fun x => match x.submitter with | .bay _ => true | .settle _ => false

theorem settleWaits_bayLine {s u : State} (line : u.writer.line = s.bayLine) (i : SlotId) : u.settleWaits i = false := by
  rw [State.settleWaits, line, List.any_eq_false]
  intro x mem
  have bay := (List.mem_filter.mp mem).2
  rw [decide_eq_true_eq]
  intro own
  rw [own] at bay
  exact absurd bay nofun

theorem waitingSettles_contains (s : State) (i : SlotId) : s.writer.waitingSettles.contains i = s.settleWaits i := by
  have same (x : Submission) : (match x.submitter with | .settle i => some i | .bay _ => none) = some i ↔ x.submitter = .settle i := by
    cases x.submitter <;> simp
  rw [Bool.eq_iff_iff, List.contains_iff_mem, State.settleWaits, List.any_eq_true]
  simp only [Writer.waitingSettles, List.mem_filterMap, decide_eq_true_eq]
  exact exists_congr fun x => and_congr_right fun _ => same x

/-- The withdrawal visits each slot once, as it was, with no submission of a settle left in the line. -/
theorem withdrawSettles_visit (s : State) (i : SlotId) : ∃ u : State, u.slot i = s.slot i ∧ u.intake.area = s.intake.area ∧
    u.settleWaits i = false ∧ s.withdrawSettles.slot i = (State.withdrawSettle s.writer.waitingSettles u i).slot i ∧
    (State.withdrawSettle s.writer.waitingSettles u i).Grows s.withdrawSettles := by
  obtain ⟨before, after, slot, pass, last⟩ := foldl_slot_visit (withdrawSettle_otherSlot s.writer.waitingSettles)
    (s.updWriter fun w => { w with line := s.bayLine }) i
  refine ⟨before.foldl (State.withdrawSettle s.writer.waitingSettles) (s.updWriter fun w => { w with line := s.bayLine }), slot,
    foldl_keeps (fun t : State => t.intake.area) _ (fun t c => by simp) before _, settleWaits_bayLine (s := s) ?_ i, last, ?_⟩
  · exact foldl_keeps (fun t : State => t.writer.line) _ (fun t c => by simp) before _
  · have all : s.withdrawSettles = _ := pass
    rw [all]
    exact (State.Grows.refl _).foldl (fun c grown => grown.withdrawSettle _ c) after

theorem withdrawSettles_free {s : State} {i : SlotId} (free : s.settleWaits i = false ∨ (s.slot i).settle = none) :
    s.withdrawSettles.slot i = s.slot i := by
  obtain ⟨u, slot, -, -, after, -⟩ := withdrawSettles_visit s i
  rw [after, State.withdrawSettle, waitingSettles_contains]
  obtain free | unsettled := free
  · rw [if_neg (by rw [free]; exact Bool.false_ne_true), slot]
  · rw [stopSettle_unsettled (by rw [slot]; exact unsettled), ite_self, slot]

section
variable {s : State} {i : SlotId} {v : Settle} (settle : (s.slot i).settle = some v) (waits : s.settleWaits i = true)
include settle waits

theorem withdrawSettles_waits : s.withdrawSettles.slot i = { s.slot i with settle := v.stopped } := by
  obtain ⟨u, slot, -, free, after, -⟩ := withdrawSettles_visit s i
  rw [after, State.withdrawSettle, waitingSettles_contains, if_pos waits, stopSettle_slot (by rw [slot]; exact settle) free, slot]

theorem withdrawSettles_lost {cell : Nat} (area : s.intake.area = none) (order : v.order = some cell) :
    s.withdrawSettles.orderLost cell := by
  obtain ⟨u, slot, same, free, -, grown⟩ := withdrawSettles_visit s i
  rw [State.withdrawSettle, waitingSettles_contains, if_pos waits] at grown
  exact (stopSettle_lost (by rw [slot]; exact settle) (same.trans area) order).grows grown

end

theorem withdrawSettles_line (s : State) : s.withdrawSettles.writer.line = s.bayLine :=
  foldl_keeps (fun t : State => t.writer.line) _ (fun t c => by simp) (List.finRange 64) _

end Sys2Proof.Machine
end

section

set_option Elab.async false

/-!
SUPPORT. The intake unit once its sweeps have ended: what answers its orders starts no sweep again (R6, R18, R19).
-/

namespace Sys2Proof.Machine

/-- No sweep is in progress, asked for or due; with the area out of use the answers in the list are `l`; and the writer's state and
its read-again mark are `k`. -/
structure State.intakeRests (s : State) (l : List Answer) (k : WriterState × Bool) : Prop where
  sweep : s.intake.sweep = none
  again : s.intake.sweepAgain = false
  backlog : s.intake.backlog = false
  timer : s.intake.sweepTimer = none
  answers : s.intake.area = none → s.intake.answers = l
  writer : (s.writer.state, s.writer.readAgain) = k

namespace State.intakeRests

section
variable {s : State} {l : List Answer} {k : WriterState × Bool} (h : s.intakeRests l k)
include h

theorem same {t : State} (intake : t.intake = s.intake := by simp)
    (writer : (t.writer.state, t.writer.readAgain) = (s.writer.state, s.writer.readAgain) := by simp) : t.intakeRests l k := by
  obtain ⟨sweep, again, backlog, timer, answers, same⟩ := h
  refine ⟨?_, ?_, ?_, ?_, ?_, writer.trans same⟩ <;> rw [intake]
  · exact sweep
  · exact again
  · exact backlog
  · exact timer
  · exact answers

theorem setCondition (cell : Nat) (c : EntryCondition) : (s.setCondition cell c).intakeRests l k :=
  ⟨h.sweep, h.again, h.backlog, h.timer, h.answers, h.writer⟩

theorem freeEntry (cell : Nat) : (s.freeEntry cell).intakeRests l k := by
  unfold State.freeEntry
  rw [if_neg (by rw [h.backlog]; exact Bool.false_ne_true)]
  exact ⟨h.sweep, h.again, rfl, h.timer, h.answers, h.writer⟩

theorem answered (cell : Nat) : (s.answered cell).intakeRests l k := (h.same (t := s.raise .orderAnswered)).freeEntry cell

theorem completeOrder (cell : Nat) (result : Result) (data : List Byte) : (s.completeOrder cell result data).intakeRests l k := by
  unfold State.completeOrder
  split
  next inUse =>
    exact ⟨h.sweep, h.again, h.backlog, h.timer, fun out => absurd (show s.intake.area = none from out) (by
      intro none
      rw [none] at inUse
      exact absurd inUse nofun), h.writer⟩
  · exact h.answered cell

theorem answerAtTake (cell : Nat) (result : Result) (data : List Byte) : (s.answerAtTake cell result data).intakeRests l k := by
  unfold State.answerAtTake
  split
  · exact ⟨h.sweep, h.again, h.backlog, h.timer, h.answers, h.writer⟩
  · exact h.answered cell

theorem stopValidating : s.stopValidating.intakeRests l k := by
  unfold State.stopValidating
  split
  · exact h.answerAtTake _ _ _
  · exact h

theorem updSlot (i : SlotId) (f : Slot → Slot) : (s.updSlot i f).intakeRests l k := h.same

theorem foldl {α : Type} {op : State → α → State} (step : ∀ {t} a, t.intakeRests l k → (op t a).intakeRests l k) (list : List α) :
    (list.foldl op s).intakeRests l k :=
  List.foldlRecOn (motive := fun t => t.intakeRests l k) list op h fun _ rests a _ => step a rests

/-! ### The stop notice -/

theorem finishPlan (b : BayId) (r : RunningOrder) (result : Result) (refusing : Byte) :
    (s.finishPlan b r result refusing).intakeRests l k := by
  unfold State.finishPlan
  dsimp only
  split
  · exact (h.completeOrder _ _ _).same rfl rfl
  · exact ((h.completeOrder _ _ _).completeOrder _ _ _).same rfl rfl

theorem planEnd (b : BayId) (result : Result) (refusing : Byte) : (s.planEnd b result refusing).intakeRests l k := by
  unfold State.planEnd
  split
  · exact h
  next r _ =>
    dsimp only
    split
    · exact h.finishPlan b r result refusing
    · exact (h.finishPlan b r result refusing).same

theorem dropHeld (b : BayId) (result : Result) : (s.dropHeld b result).intakeRests l k := by
  unfold State.dropHeld
  split
  · exact h
  · exact (h.same (t := s.updBay b _) rfl rfl).completeOrder _ _ _

theorem haltSession (b : BayId) (reason : VoidReason) : (s.haltSession b reason).intakeRests l k := by
  have abandoned : (s.abandonExchange b).intakeRests l k := h.same
  unfold State.haltSession
  dsimp only
  split
  · exact h
  · exact h
  · exact h
  · exact h.planEnd b _ _
  · exact h.planEnd b _ _
  · exact abandoned.planEnd b _ _
  · unfold State.stopClaiming
    dsimp only
    split
    · exact h.same rfl rfl
    · exact h.same rfl rfl
  · exact h.same rfl rfl
  · exact abandoned.same
  · split
    · exact abandoned.same
    · exact abandoned.planEnd b _ _

theorem stopBay (b : BayId) : (s.stopBay b).intakeRests l k := by
  unfold State.stopBay
  split
  · exact h
  · dsimp only
    split
    · exact ((h.dropHeld b _).same (t := (s.dropHeld b .engineStopped).updSession b _) rfl rfl).haltSession b _
    · exact h.dropHeld b _

theorem stopBays : s.stopBays.intakeRests l k := h.foldl (fun b rests => rests.stopBay b) _

theorem answerSettle (i : SlotId) (result : Result) : (s.answerSettle i result).intakeRests l k := by
  unfold State.answerSettle
  split
  · exact (h.updSlot i _).completeOrder _ _ _
  · exact h

theorem testSettle (i : SlotId) : (s.testSettle i).intakeRests l k := by
  unfold State.testSettle
  split
  · exact h
  · split
    · exact h
    · split
      · exact (h.answerSettle i _).updSlot i _
      · split
        · exact h.answerSettle i _
        · exact h

theorem testSettles : s.testSettles.intakeRests l k := h.foldl (fun i rests => rests.testSettle i) _

theorem endAssembly (a : Assembly) (code : Result) : (s.endAssembly a code).intakeRests l k := by
  have slot : ((s.assemblyCleared a).endAssemblySlot a.slot).intakeRests l k := h.same (by simp [State.assemblyCleared]) (by simp [State.assemblyCleared])
  rw [endAssembly_eq]
  exact (slot.completeOrder a.order code (a.answerData 0)).same

theorem grantOutcome (o : ApprovalOutcome) : (s.grantOutcome o).intakeRests l k := by
  unfold State.grantOutcome
  split
  · exact h
  · have cleared : (s.updKs fun k => { k with grant := none }).intakeRests l k := h.same rfl rfl
    dsimp only
    split
    · exact cleared.completeOrder _ _ _
    · split
      · exact (cleared.updSlot _ _).completeOrder _ _ _
      · exact cleared.completeOrder _ _ _
      · exact cleared.completeOrder _ _ _

theorem stopCeremony : s.stopCeremony.intakeRests l k := by
  unfold State.stopCeremony
  split
  · exact h
  · split
    · exact h
    · exact h.endAssembly _ _
  · exact (h.grantOutcome .stopped).same (by simp [State.endApproval]) (by simp [State.endApproval])

theorem stopNotice : s.stopNotice.intakeRests l k := h.stopCeremony.stopBays.testSettles

/-! ### An area fault -/

theorem answerErase (i : SlotId) (result : Result) : (s.answerErase i result).intakeRests l k := by
  unfold State.answerErase
  split
  · exact h
  · exact (h.updSlot i _).completeOrder _ _ _

theorem endDrain (i : SlotId) : (s.endDrain i).intakeRests l k := by
  unfold State.endDrain
  split
  · exact (h.updSlot i _).answerErase i _
  · exact h

theorem withdrawSettle (waiting : List SlotId) (i : SlotId) : (State.withdrawSettle waiting s i).intakeRests l k := by
  unfold State.withdrawSettle
  split
  · exact ((h.updSlot i _).answerSettle i _).testSettle i
  · exact h

theorem withdrawSettles : s.withdrawSettles.intakeRests l k :=
  (h.same (t := s.updWriter _) rfl rfl).foldl (fun i rests => rests.withdrawSettle _ i) _

end

/-! ### The end of a command -/

/-- With no sweep in progress a command ends with the test of STOPPING alone. -/
theorem closeSweep {s : State} {l : List Answer} {k : WriterState × Bool} (h : s.intakeRests l k) : s.closeSweep = s := by
  unfold State.closeSweep
  rw [h.sweep]

theorem run {s u : State} {l : List Answer} {k : WriterState × Bool} (h : u.intakeRests l k) (on : s.engine ≠ .off) :
    (s.run fun _ => u) = u.settleEngine ∧ (s.run fun _ => u).intake.sweep = none ∧ (s.run fun _ => u).intake.sweepAgain = false ∧
    (s.run fun _ => u).intake.backlog = false ∧ (s.run fun _ => u).intake.sweepTimer = none := by
  have effect : (s.run fun _ => u) = u.settleEngine := by rw [run_on s _ on, h.closeSweep]
  rw [effect]
  refine ⟨rfl, ?_⟩
  unfold State.settleEngine
  split
  · simp [State.enterStandby]
  · exact ⟨h.sweep, h.again, h.backlog, h.timer⟩

end State.intakeRests

end Sys2Proof.Machine
end

section

set_option Elab.async false

/-!
SUPPORT. The stop notice as a whole: the ceremony, the bays, the settles (R6, R56, R75, R134).
-/

namespace Sys2Proof.Machine

/-! ## The ceremony (R75) -/

/-- The record that a stop notice leaves alone: no ceremony, or a commit in progress. -/
def State.ceremonyStays (s : State) : Prop :=
  s.ceu.record = .empty ∨ ∃ a, s.ceu.record = .assembly a ∧ a.phase = .committing

section
variable {s : State}

theorem stopCeremony_stays (stays : s.ceremonyStays) : s.stopCeremony = s := by
  obtain empty | ⟨a, record, committing⟩ := stays
  · simp only [State.stopCeremony, empty]
  · simp only [State.stopCeremony, record]
    exact if_pos committing

theorem stopCeremony_assembly {a : Assembly} (record : s.ceu.record = .assembly a) (before : a.phase ≠ .committing) :
    s.stopCeremony = s.endAssembly a .engineStopped := by
  simp only [State.stopCeremony, record]
  exact if_neg before

theorem stopCeremony_approval {p : Approval} (record : s.ceu.record = .approval p) : s.stopCeremony = s.endApproval p .stopped := by
  simp only [State.stopCeremony, record]

theorem grantOutcome_stopped_slot (s : State) (i : SlotId) : (s.grantOutcome .stopped).slot i = s.slot i := by
  unfold State.grantOutcome
  split
  · rfl
  · dsimp only
    split <;> simp [State.slot]

/-- The notice takes an assembling slot back to EMPTY and changes no other slot. -/
theorem stopCeremony_slot (s : State) (i : SlotId) : s.stopCeremony.slot i = s.slot i ∨
    ((s.slot i).state = .assembling ∧ s.stopCeremony.slot i = { s.slot i with state := .empty }) := by
  unfold State.stopCeremony
  split
  · exact .inl rfl
  next a _ =>
    split
    · exact .inl rfl
    · rw [endAssembly_slot]
      split
      next own =>
        obtain ⟨rfl, assembling⟩ := own
        exact .inr ⟨assembling, rfl⟩
      · exact .inl rfl
  next p _ => exact .inl ((endApproval_slot ..).trans (grantOutcome_stopped_slot s i))

theorem stopCeremony_keeps (s : State) (i : SlotId) : (s.stopCeremony.slot i).settle = (s.slot i).settle ∧
    (s.stopCeremony.slot i).generation = (s.slot i).generation ∧ (s.stopCeremony.slot i).definition = (s.slot i).definition ∧
    (s.stopCeremony.slot i).allowance = (s.slot i).allowance := by
  obtain same | ⟨-, emptied⟩ := stopCeremony_slot s i
  · rw [same]
    exact ⟨rfl, rfl, rfl, rfl⟩
  · rw [emptied]
    exact ⟨rfl, rfl, rfl, rfl⟩

theorem stopCeremony_other {i : SlotId} (other : (s.slot i).state ≠ .assembling) : s.stopCeremony.slot i = s.slot i :=
  (stopCeremony_slot s i).resolve_right fun own => other own.1

/-- A ceremony that is stopped leaves the record empty. -/
theorem stopCeremony_ended (engine : s.engine = .running ∨ s.engine = .stopping) (ceremony : (∃ p, s.ceu.record = .approval p) ∨
    ∃ a, s.ceu.record = .assembly a ∧ a.phase ≠ .committing) :
    s.stopCeremony.ceu.record = .empty ∧ s.stopCeremony.hasFlag .ceremonyEnded := by
  obtain ⟨p, record⟩ | ⟨a, record, before⟩ := ceremony
  · rw [stopCeremony_approval record]
    exact ⟨emptyRecord_record _, emptyRecord_flag (by simpa using engine)⟩
  · obtain ⟨-, empty, -, -, -, -, flag, -⟩ := endAssembly_ended s a .engineStopped
    rw [stopCeremony_assembly record before]
    exact ⟨empty, flag engine⟩

end

/-! ## The notice -/

theorem stopNotice_eq (s : State) : s.stopNotice = s.stopCeremony.stopBays.testSettles := rfl

theorem stopNotice_grows (s : State) : s.stopCeremony.Grows s.stopNotice := (State.Grows.refl _).stopBays.testSettles

theorem stopNotice_ceu (s : State) : s.stopNotice.ceu = s.stopCeremony.ceu := by simp [stopNotice_eq]

theorem stopNotice_grant (s : State) : s.stopNotice.ks.grant = s.stopCeremony.ks.grant := by simp [stopNotice_eq]

theorem stopNotice_bays (s : State) : s.baysStopped s.stopNotice := by
  have notified := stopBays_stopped s.stopCeremony
  have before (b : BayId) : s.bay b = s.stopCeremony.bay b := by simp
  have session (b : BayId) : s.session b = s.stopCeremony.session b := congrArg Bay.session (before b)
  have after (b : BayId) : s.stopNotice.bay b = s.stopCeremony.stopBays.bay b := by simp [stopNotice_eq]
  have grown : s.stopCeremony.stopBays.Grows s.stopNotice := (State.Grows.refl _).testSettles
  refine ⟨fun b => (notified.stopped b).congr (before b) (after b) fun q standing => grown.mem_requests standing, fun b runs => ?_,
    fun b r h running held => ?_, fun b r running going ends => ?_⟩
  · have session' : s.stopNotice.session b = s.stopCeremony.stopBays.session b := congrArg Bay.session (after b)
    rw [session']
    exact notified.ending b (by rwa [after] at runs)
  · rw [before] at running held
    exact ((notified.held b r h running held).grows grown).of_area
  · rw [before] at running ⊢
    rw [session] at going ends
    exact ((notified.plans b r running going ends).grows grown).of_area

/-! ### The settles -/

theorem stopBays_slot (s : State) (i : SlotId) : s.stopBays.slot i = s.slot i := by simp

theorem stopNotice_slot (s : State) (i : SlotId) : ∃ settle, s.stopNotice.slot i = { s.stopCeremony.slot i with settle } := by
  obtain ⟨settle, slot⟩ := testSettles_slot s.stopCeremony.stopBays i
  exact ⟨settle, by rw [stopNotice_eq, slot, stopBays_slot]⟩

section
variable {s : State} {i : SlotId}

theorem stopNotice_settle_goes (goes : ∀ v, (s.slot i).settle = some v → v.remaining ≠ [] ∨ s.settleWaits i = true) :
    (s.stopNotice.slot i).settle = (s.slot i).settle := by
  have settle := (stopCeremony_keeps s i).1
  have waits : s.stopCeremony.stopBays.settleWaits i = s.settleWaits i := settleWaits_congr (by simp) i
  rw [stopNotice_eq, testSettles_keeps, stopBays_slot, settle]
  rw [stopBays_slot, settle, waits]
  exact goes

variable {v : Settle} (settle : (s.slot i).settle = some v) (entered : v.remaining = []) (free : s.settleWaits i = false)
  (open_ : v.unclosed ≠ []) (stopping : s.engine = .stopping)
include settle entered free open_ stopping

theorem stopNotice_settle_stops : (s.stopNotice.slot i).settle = some { v with order := none } ∧
    ∀ cell, v.order = some cell →
      s.completes s.stopNotice cell .engineStopped (slotCountData i v.entered (s.slot i).generation) ∧
      (s.intake.area = none → s.stopNotice.orderLost cell) := by
  obtain ⟨same, generation, -, -⟩ := stopCeremony_keeps s i
  have own : (s.stopCeremony.stopBays.slot i).settle = some v := by rw [stopBays_slot, same, settle]
  have waits : s.stopCeremony.stopBays.settleWaits i = false := (settleWaits_congr (by simp) i).trans free
  have engine : s.stopCeremony.stopBays.engine = .stopping := by simpa using stopping
  refine ⟨by rw [stopNotice_eq, testSettles_stops own entered waits open_ engine], fun cell order => ?_⟩
  obtain ⟨completes, lost⟩ := testSettles_completes own entered waits open_ engine order
  rw [stopBays_slot, generation] at completes
  exact ⟨completes.of_area, fun out => lost (by simpa using out)⟩

end

end Sys2Proof.Machine
end

section

set_option Elab.async false

/-!
SUPPORT. STOP (R6, R7).
-/

namespace Sys2Proof.Machine

/-! ## The command -/

/-- A STOP that has ended the sweeps and answered the order in hand, before the notice (R6). -/
def State.stopTold (s : State) : State := ({ s with engine := .stopping } : State).endSweeps.stopValidating

/-- What STOP leaves alone before its notice. -/
structure State.sameForNotice (s u : State) : Prop where
  bays : u.bays = s.bays
  ks : u.ks = s.ks
  ceu : u.ceu = s.ceu
  cipher : u.cipher = s.cipher
  prof : u.prof = s.prof
  clock : u.clock = s.clock
  line : u.writer.line = s.writer.line
  queue : u.writer.queue = s.writer.queue
  area : u.intake.area = s.intake.area
  areaLo : u.intake.areaLo = s.intake.areaLo
  areaHi : u.intake.areaHi = s.intake.areaHi
  mask : u.events.mask = s.events.mask
  watches : u.events.watches = s.events.watches
  engine : u.engine = .stopping

theorem stopTold_same (s : State) : s.sameForNotice s.quiet.stopTold := by
  refine ⟨?_, ?_, ?_, ?_, ?_, ?_, ?_, ?_, ?_, ?_, ?_, ?_, ?_, ?_⟩ <;> simp [State.stopTold]

theorem stopTold_rests (s : State) : s.stopTold.intakeRests s.intake.answers (s.writer.state, s.writer.readAgain) :=
  State.intakeRests.stopValidating (s := ({ s with engine := .stopping } : State).endSweeps) ⟨rfl, rfl, rfl, rfl, fun _ => rfl, rfl⟩

theorem stopTold_atTake {s : State} {e : Entry} (validating : s.validating = some e) : s.answersAtTake s.stopTold e .engineStopped [] := by
  intro inUse
  have same : ({ s with engine := .stopping } : State).endSweeps.validating = some e := validating
  rw [State.stopTold, State.stopValidating, same]
  exact (congrArg Intake.atTake (congrArg State.intake (if_pos inUse))).trans rfl

theorem exec_stop {s : State} (running : s.engine = .running) : exec .stop s = .next (s.run fun _ => s.quiet.stopTold.stopNotice) :=
  next_run_eq (if_pos running)

/-! ## What a state is after a notice and the end of its command -/

section
variable {s u : State} (on : s.engine ≠ .off)
include on

theorem State.baysStopped.run (h : s.baysStopped u) : s.baysStopped (s.run fun _ => u) := by
  obtain ⟨-, bays, sessions, -⟩ := run_parts s (fun _ => u) on
  have requests : (s.run fun _ => u).ks.requests = u.ks.requests := by simp [run_frame _ _ on]
  refine ⟨fun b => (h.stopped b).congr rfl (bays b) fun q standing => by rwa [requests], fun b runs => ?_,
    fun b r h' running held => (h.held b r h' running held).run on (f := fun _ => u),
    fun b r running going ends => (h.plans b r running going ends).run on (f := fun _ => u)⟩
  rw [sessions]
  rw [bays] at runs
  exact h.ending b runs

theorem run_engine_of_stopping (stopping : u.engine = .stopping) :
    (s.run fun _ => u).engine = .stopping ∨ (s.run fun _ => u).engine = .standby := by
  rw [run_on s _ on]
  unfold State.settleEngine
  split
  · exact .inr (by simp [State.enterStandby])
  · exact .inl (by simpa using stopping)

end

theorem State.baysStopped.of_same {s u t : State} (h : u.baysStopped t) (bays : u.bays = s.bays)
    (area : u.intake.area = s.intake.area) : s.baysStopped t := by
  have bay (b : BayId) : s.bay b = u.bay b := (bay_of_bays bays b).symm
  have session (b : BayId) : s.session b = u.session b := congrArg Bay.session (bay b)
  refine ⟨fun b => (h.stopped b).congr (bay b) rfl fun _ => id, h.ending, fun b r h' running held => ?_,
    fun b r running going ends => ?_⟩
  · rw [bay] at running held
    exact (h.held b r h' running held).of_area area
  · rw [bay] at running ⊢
    rw [session] at going ends
    exact (h.plans b r running going ends).of_area area

/-! ## The ceremony and the settles of a stopped engine -/

section
variable {s u : State} (on : s.engine ≠ .off) (same : s.sameForNotice u)
include on same

theorem stopped_ceu (stays : s.ceremonyStays) : (s.run fun _ => u.stopNotice).ceu = s.ceu := by
  have stays' : u.ceremonyStays := by rw [State.ceremonyStays, same.ceu]; exact stays
  have kept : u.stopNotice.ceu = s.ceu := by rw [stopNotice_ceu, stopCeremony_stays stays', same.ceu]
  simp [run_frame _ _ on, kept]

theorem stopped_slot (i : SlotId) : u.slot i = s.slot i := slot_of_ks same.ks i

theorem stopped_assembly {a : Assembly} (record : s.ceu.record = .assembly a) (before : a.phase ≠ .committing) :
    let t := s.run fun _ => u.stopNotice
    t.ceu.record = .empty ∧ t.ceu.arrivals = [] ∧ t.hasFlag .ceremonyEnded ∧ s.completes t a.order .engineStopped (a.answerData 0) ∧
    ((s.slot a.slot).state = .assembling → (t.slot a.slot).state = .empty) ∧
    (t.slot a.slot).definition = (s.slot a.slot).definition ∧
    (s.ceu.busy = true → t.ceu.discard = true ∧ t.ceu.inCheck = none) := by
  obtain ⟨slots, -, -, -⟩ := run_parts s (fun _ => u.stopNotice) on
  have ends := stopCeremony_assembly (s := u) (by rw [same.ceu]; exact record) before
  have ceu : (s.run fun _ => u.stopNotice).ceu = (u.endAssembly a .engineStopped).ceu := by
    rw [← ends, ← stopNotice_ceu]
    simp [run_frame _ _ on]
  have grown := stopNotice_grows u
  rw [ends] at grown
  obtain ⟨completes, empty, arrivals, emptied, -, -, flag, -⟩ := endAssembly_ended u a .engineStopped
  obtain ⟨settle, slot⟩ := stopNotice_slot u a.slot
  have definition := (stopCeremony_keeps u a.slot).2.2.1
  rw [stopped_slot on same] at definition emptied
  dsimp only
  rw [slots, slot, ceu]
  refine ⟨empty, arrivals, hasFlag_run on (f := fun _ => u.stopNotice) (grown.hasFlag (flag (.inr same.engine))),
    ((completes.grows grown).of_area (s := s.quiet) same.area).run on (f := fun _ => u.stopNotice), fun assembling => ?_, definition,
    fun busy => ?_⟩
  · rw [ends, emptied assembling]
  · exact endAssembly_check a .engineStopped (by rw [same.ceu]; exact busy)

theorem stopped_approval {p : Approval} {g : PendingGrant} (record : s.ceu.record = .approval p) (grant : s.ks.grant = some g) :
    let t := s.run fun _ => u.stopNotice
    t.ceu.record = .empty ∧ t.ks.grant = none ∧ t.hasFlag .ceremonyEnded ∧
    (t.slot g.slot).allowance = (s.slot g.slot).allowance ∧
    ((s.slot g.slot).state = .ready → (s.slot g.slot).generation = g.generation → s.completes t g.order .engineStopped []) ∧
    ((s.slot g.slot).state ≠ .ready ∨ (s.slot g.slot).generation ≠ g.generation → s.completes t g.order .refusedState []) := by
  obtain ⟨slots, -, -, -⟩ := run_parts s (fun _ => u.stopNotice) on
  have ends := stopCeremony_approval (s := u) (p := p) (by rw [same.ceu]; exact record)
  obtain ⟨empty, taken, -, flag, gone, here, -⟩ := endApproval_ended (s := u) (g := g) (by rw [same.ks]; exact grant) p .stopped
  rw [stopped_slot on same] at gone here
  have ceu : (s.run fun _ => u.stopNotice).ceu = (u.endApproval p .stopped).ceu := by
    rw [← ends, ← stopNotice_ceu]
    simp [run_frame _ _ on]
  have grants : (s.run fun _ => u.stopNotice).ks.grant = (u.endApproval p .stopped).ks.grant := by
    rw [← ends, ← stopNotice_grant]
    simp [run_frame _ _ on]
  have grown := stopNotice_grows u
  rw [ends] at grown
  obtain ⟨settle, slot⟩ := stopNotice_slot u g.slot
  have allowance := (stopCeremony_keeps u g.slot).2.2.2
  rw [stopped_slot on same] at allowance
  dsimp only
  rw [slots, slot, ceu, grants]
  refine ⟨empty, taken, hasFlag_run on (f := fun _ => u.stopNotice) (grown.hasFlag (flag (.inr same.engine))), allowance,
    fun ready generation => ?_, fun changed => ?_⟩
  · have completes := ((here ready generation).1 nofun).2
    exact ((completes.grows grown).of_area (s := s.quiet) same.area).run on (f := fun _ => u.stopNotice)
  · have completes := (gone changed).2
    exact ((completes.grows grown).of_area (s := s.quiet) same.area).run on (f := fun _ => u.stopNotice)

theorem stopped_settle {i : SlotId} {v : Settle} (settle : (s.slot i).settle = some v) :
    let t := s.run fun _ => u.stopNotice
    (v.remaining ≠ [] ∨ s.settleWaits i = true → (t.slot i).settle = some v) ∧
    ∀ cell, v.order = some cell → v.remaining = [] → s.settleWaits i = false → v.unclosed ≠ [] →
      (t.slot i).settle = some { v with order := none } ∧
      s.completes t cell .engineStopped ([byteOf i.val, byteOf v.entered] ++ toLE 2 (s.slot i).generation.toNat) := by
  obtain ⟨slots, -, -, -⟩ := run_parts s (fun _ => u.stopNotice) on
  have own : (u.slot i).settle = some v := by rw [stopped_slot on same]; exact settle
  have waits : u.settleWaits i = s.settleWaits i := settleWaits_congr same.line i
  dsimp only
  rw [slots]
  refine ⟨fun goes => ?_, fun cell order entered free open_ => ?_⟩
  · rw [stopNotice_settle_goes, own]
    intro v' other
    obtain rfl : v = v' := Option.some.inj (own.symm.trans other)
    rw [waits]
    exact goes
  · obtain ⟨stops, answers⟩ := stopNotice_settle_stops own entered (waits.trans free) open_ same.engine
    have completes := (answers cell order).1
    rw [stopped_slot on same] at completes
    exact ⟨stops, (completes.of_area (s := s.quiet) same.area).run on (f := fun _ => u.stopNotice)⟩

theorem stopped_rest : let t := s.run fun _ => u.stopNotice
    t.intake.areaLo = s.intake.areaLo ∧ t.intake.areaHi = s.intake.areaHi ∧ t.events.mask = s.events.mask ∧
    t.events.watches = s.events.watches ∧ t.writer.queue = s.writer.queue ∧ t.ks.latch = s.ks.latch ∧ t.cipher = s.cipher ∧
    t.prof = s.prof ∧ t.clock = s.clock := by
  simp [run_frame _ _ on, same.areaLo, same.areaHi, same.mask, same.watches, same.queue, same.ks, same.cipher, same.prof, same.clock]

end

/-- Settles O4. -/
theorem stopEndsSweepsAndNotifiesBays : Obligations.StopEndsSweepsAndNotifiesBays := by
  intro s running
  have on : s.engine ≠ .off := by simp [running]
  have same := stopTold_same s
  have atTake (e : Entry) := stopTold_atTake (s := s.quiet) (e := e)
  have rests := (stopTold_rests s.quiet).stopNotice
  refine ⟨_, exec_stop running, ?_⟩
  generalize s.quiet.stopTold = u at same atTake rests
  obtain ⟨-, sweep, again, backlog, timer⟩ := rests.run on
  have bays := ((stopNotice_bays u).of_same same.bays same.area).run on
  have engine : u.stopNotice.engine = .stopping := by simp [same.engine]
  have take : (s.run fun _ => u.stopNotice).intake.atTake = u.intake.atTake := by simp [run_frame _ _ on]
  refine ⟨run_engine_of_stopping on engine, sweep, again, backlog, timer, bays.stopped,
    fun b r order => ⟨fun h => bays.held b r h order, bays.plans b r order⟩, bays.ending, fun e validating inUse => ?_,
    stopped_ceu on same, fun a => stopped_assembly on same, fun p g => stopped_approval on same, fun i v => stopped_settle on same,
    stopped_rest on same⟩
  rw [take]
  exact atTake e validating inUse

end Sys2Proof.Machine
end

section

set_option Elab.async false

/-!
SUPPORT. What an area fault takes: the area, the answers due, the drains and the settles' submissions (R18, R19, R36, R56, R152).
-/

namespace Sys2Proof.Machine

/-! ## The answers that are lost (R18, R19) -/

theorem foldl_answered_grows (cells : List Nat) (s : State) : s.Grows (cells.foldl State.answered s) :=
  (State.Grows.refl s).foldl (fun cell grown => grown.answered cell) cells

/-- Every cell of the list loses its answer. -/
theorem foldl_answered_lost {cells : List Nat} {cell : Nat} (mem : cell ∈ cells) (s : State) :
    (cells.foldl State.answered s).orderLost cell := by
  induction cells generalizing s with
  | nil => exact absurd mem List.not_mem_nil
  | cons x rest ih =>
    obtain rfl | later := List.mem_cons.mp mem
    · exact (answered_lost s cell).grows (foldl_answered_grows rest _)
    · exact ih later (s.answered x)

/-- The cells whose orders an area fault answers: those with an answer due, and the one being validated. -/
def State.dueCells (s : State) : List Nat := (s.intake.atTake.toList ++ s.intake.answers).map (·.cell) ++ s.validating.toList.map (·.cell)

theorem loseAnswers_eq (s : State) :
    s.loseAnswers = s.dueCells.foldl State.answered (s.updIntake fun k => { k with atTake := none, answers := [] }) := rfl

theorem loseAnswers_lost {s : State} {cell : Nat} (due : cell ∈ s.dueCells) : s.loseAnswers.orderLost cell := by
  rw [loseAnswers_eq]
  exact foldl_answered_lost due _

theorem loseAnswers_hasFlag {s : State} {f : Flag} (set : s.hasFlag f) : s.loseAnswers.hasFlag f := by
  have emptied : (s.updIntake fun k => { k with atTake := none, answers := [] }).hasFlag f := set
  rw [loseAnswers_eq]
  exact (foldl_answered_grows _ _).hasFlag emptied

theorem loseAnswers_atTake (s : State) : s.loseAnswers.intake.atTake = none := by
  rw [loseAnswers_eq]
  exact foldl_keeps (fun t : State => t.intake.atTake) _ (fun t cell => by simp) s.dueCells _

theorem State.intakeRests.loseAnswers {s : State} {l : List Answer} {k : WriterState × Bool} (h : s.intakeRests l k) :
    s.loseAnswers.intakeRests [] k := by
  have emptied : (s.updIntake fun x => { x with atTake := none, answers := [] }).intakeRests [] k :=
    ⟨h.sweep, h.again, h.backlog, h.timer, fun _ => rfl, h.writer⟩
  rw [loseAnswers_eq]
  exact emptied.foldl (fun cell rests => rests.answered cell) _

theorem State.watchesFire.loseAnswers {r s : State} {recognised : Option (BayId × Edge)} (h : r.watchesFire s recognised) :
    r.watchesFire s.loseAnswers recognised := by
  refine h.same (flags := fun n => ?_)
  rw [loseAnswers_eq]
  exact foldl_keeps (fun t : State => t.events.flags.getLsbD (12 + n.val)) _ (fun t cell => answered_watch t n cell) _ _

/-! ## The drains (R36) -/

/-- A slot whose drain has ended: READY, with its drain's order gone. -/
def Slot.undrained (x : Slot) : Slot :=
  { x with state := .ready, force := false, eraseOrder := none, discarded := if x.eraseOrder.isSome then 0 else x.discarded }

theorem endDrain_slot {s : State} {i : SlotId} (draining : (s.slot i).state = .draining) :
    (s.endDrain i).slot i = (s.slot i).undrained := by
  unfold State.endDrain
  rw [if_pos draining, answerErase_slot, updSlot_slot_self]
  cases order : (s.slot i).eraseOrder with
  | none => simp [Slot.undrained, order]
  | some cell => simp [Slot.undrained, order]

theorem endDrain_same {s : State} {i : SlotId} (other : (s.slot i).state ≠ .draining) : s.endDrain i = s := if_neg other

/-- Every drain is ended. -/
def State.drainsEnded (s : State) : State := (List.finRange 64).foldl State.endDrain s

theorem drainsEnded_slot (s : State) (i : SlotId) : s.drainsEnded.slot i =
    if (s.slot i).state = .draining then (s.slot i).undrained else s.slot i := by
  obtain ⟨before, after, slot, -, last⟩ := foldl_slot_visit endDrain_otherSlot s i
  have last : s.drainsEnded.slot i = _ := last
  rw [last, ← slot]
  split
  next draining => exact endDrain_slot draining
  next other => rw [endDrain_same other]

theorem State.watchesFire.drainsEnded {r s : State} {recognised : Option (BayId × Edge)} (h : r.watchesFire s recognised)
    (fresh : ∀ i, s.slot i = r.slot i) : r.watchesFire s.drainsEnded recognised := by
  refine h.foldl endDrain_otherSlot (fun {s} i h same => ?_) (List.nodup_finRange 64) fun i _ => fresh i
  unfold State.endDrain
  split
  · exact (h.updSlot i _ (by rw [same]) (by rw [same])).answerErase i _
  · exact h

theorem drainsEnded_grows (s : State) : s.Grows s.drainsEnded := (State.Grows.refl s).foldl (fun i grown => grown.endDrain i) _

theorem drainsEnded_frame (s : State) : s.drainsEnded.engine = s.engine ∧ s.drainsEnded.bays = s.bays ∧ s.drainsEnded.ceu = s.ceu ∧
    s.drainsEnded.cipher = s.cipher ∧ s.drainsEnded.prof = s.prof ∧ s.drainsEnded.clock = s.clock ∧
    s.drainsEnded.writer.queue = s.writer.queue ∧ s.drainsEnded.writer.line = s.writer.line ∧
    s.drainsEnded.writer.roll = s.writer.roll ∧ s.drainsEnded.events.room = s.events.room ∧
    s.drainsEnded.intake.area = s.intake.area ∧ s.drainsEnded.intake.areaLo = s.intake.areaLo ∧
    s.drainsEnded.intake.areaHi = s.intake.areaHi ∧ s.drainsEnded.intake.atTake = s.intake.atTake := by
  have keeps {α : Type} (p : State → α) (step : ∀ t i, p (State.endDrain t i) = p t) : p s.drainsEnded = p s :=
    foldl_keeps p _ step (List.finRange 64) s
  exact ⟨keeps (·.engine) (by simp), keeps (·.bays) (by simp), keeps (·.ceu) (by simp), keeps (·.cipher) (by simp),
    keeps (·.prof) (by simp), keeps (·.clock) (by simp), keeps (·.writer.queue) (by simp), keeps (·.writer.line) (by simp),
    keeps (·.writer.roll) (by simp), keeps (·.events.room) (by simp), keeps (·.intake.area) (by simp),
    keeps (·.intake.areaLo) (by simp), keeps (·.intake.areaHi) (by simp), keeps (·.intake.atTake) (by simp)⟩

/-! ## The settles' submissions (R56) -/

/-- The withdrawal changes no slot but in its settle. -/
theorem withdrawSettles_slot (s : State) (i : SlotId) : ∃ settle, s.withdrawSettles.slot i = { s.slot i with settle } := by
  cases waits : s.settleWaits i with
  | false => exact ⟨_, withdrawSettles_free (.inl waits)⟩
  | true =>
    cases settle : (s.slot i).settle with
    | none => exact ⟨(s.slot i).settle, withdrawSettles_free (.inr settle)⟩
    | some v => exact ⟨_, withdrawSettles_waits settle waits⟩

theorem withdrawSettle_watch (waiting : List SlotId) (s : State) (i : SlotId) (n : Fin 4) :
    (State.withdrawSettle waiting s i).events.flags.getLsbD (12 + n.val) = s.events.flags.getLsbD (12 + n.val) := by
  unfold State.withdrawSettle
  split
  · exact stopSettle_watch s n i
  · rfl

theorem State.watchesFire.withdrawSettles {r s : State} {recognised : Option (BayId × Edge)} (h : r.watchesFire s recognised) :
    r.watchesFire s.withdrawSettles recognised := by
  refine h.same (flags := fun n => ?_) (states := fun i => ?_) (allowances := fun i => ?_)
  · exact foldl_keeps (fun t : State => t.events.flags.getLsbD (12 + n.val)) _ (fun t i => withdrawSettle_watch _ t i n) _ _
  all_goals
    obtain ⟨settle, slot⟩ := withdrawSettles_slot s i
    rw [slot]

theorem withdrawSettles_grows (s : State) : s.Grows s.withdrawSettles := (State.Grows.refl s).withdrawSettles

/-! ## The stop notice and the watches (R170, R173) -/

theorem State.watchesFire.endAssembly {r s : State} {recognised : Option (BayId × Edge)} (h : r.watchesFire s recognised) (a : Assembly)
    (code : Result) (fresh : (s.slot a.slot).state = .assembling →
      (s.slot a.slot).state = (r.slot a.slot).state ∧ (s.slot a.slot).allowance = (r.slot a.slot).allowance) :
    r.watchesFire (s.endAssembly a code) recognised := by
  have slots (i : SlotId) : (s.assemblyCleared a).slot i = s.slot i := by simp [State.assemblyCleared]
  have cleared : r.watchesFire (s.assemblyCleared a) recognised :=
    h.same (t := s.assemblyCleared a) (by simp [State.assemblyCleared])
      (fun n => by simp [State.assemblyCleared]) (fun i => by rw [slots]) (fun i => by rw [slots]) (by simp [State.assemblyCleared])
  have emptied : r.watchesFire ((s.assemblyCleared a).endAssemblySlot a.slot) recognised := by
    unfold State.endAssemblySlot
    split
    next assembling =>
      rw [slots] at assembling
      obtain ⟨state, allowance⟩ := fresh assembling
      exact cleared.updSlot _ _ (by rw [slots, state]) (by rw [slots, allowance])
    · exact cleared
  rw [endAssembly_eq]
  exact ((emptied.completeOrder a.order code (a.answerData 0)).toConsoles _).same (flags := fun n => emptyRecord_watch _ n)

theorem State.watchesFire.stopCeremony {r s : State} {recognised : Option (BayId × Edge)} (h : r.watchesFire s recognised)
    (fresh : ∀ i, (s.slot i).state = .assembling →
      (s.slot i).state = (r.slot i).state ∧ (s.slot i).allowance = (r.slot i).allowance) : r.watchesFire s.stopCeremony recognised := by
  unfold State.stopCeremony
  split
  · exact h
  next a _ =>
    split
    · exact h
    · exact h.endAssembly a _ (fresh a.slot)
  next p _ =>
    have outcome : r.watchesFire (s.grantOutcome .stopped) recognised := by
      refine h.same (flags := fun n => ?_) (states := fun i => by rw [grantOutcome_stopped_slot])
        (allowances := fun i => by rw [grantOutcome_stopped_slot])
      unfold State.grantOutcome
      split
      · rfl
      · dsimp only
        split <;> simp
    exact (outcome.toConsoles (.approvalClosed p.slot p.amount ApprovalOutcome.stopped.result)).same
      (t := ((s.grantOutcome .stopped).toConsoles (.approvalClosed p.slot p.amount ApprovalOutcome.stopped.result)).emptyRecord)
      (flags := fun n => emptyRecord_watch _ n)

theorem testSettles_watch (s : State) (n : Fin 4) :
    s.testSettles.events.flags.getLsbD (12 + n.val) = s.events.flags.getLsbD (12 + n.val) := by
  unfold State.testSettles
  exact foldl_keeps (fun t : State => t.events.flags.getLsbD (12 + n.val)) State.testSettle (fun t i => testSettle_watch t n i) _ s

theorem State.watchesFire.stopNotice {r s : State} {recognised : Option (BayId × Edge)} (h : r.watchesFire s recognised)
    (fresh : ∀ i, (s.slot i).state = .assembling →
      (s.slot i).state = (r.slot i).state ∧ (s.slot i).allowance = (r.slot i).allowance) : r.watchesFire s.stopNotice recognised := by
  have notified : r.watchesFire s.stopCeremony.stopBays recognised :=
    (h.stopCeremony fresh).same (t := s.stopCeremony.stopBays)
  refine notified.same (t := s.stopCeremony.stopBays.testSettles) (flags := fun n => ?_) (states := fun i => ?_)
    (allowances := fun i => ?_)
  · exact testSettles_watch _ n
  all_goals
    obtain ⟨settle, slot⟩ := testSettles_slot s.stopCeremony.stopBays i
    rw [slot]

/-- A command after which no room is left to lose fires what its effect fires. -/
theorem State.watchesFire.run_roomless {s u : State} {recognised : Option (BayId × Edge)} (h : s.quiet.watchesFire u recognised)
    (on : s.engine ≠ .off) (room : u.events.room = 0) : s.watchesFire (s.run fun _ => u) recognised := by
  have closed : s.quiet.watchesFire u.closeSweep recognised := h.same (t := u.closeSweep)
  have noRoom : u.closeSweep.events.room = 0 := by simpa using room
  have stays : u.closeSweep.settleEngine.events.room = 0 := by
    unfold State.settleEngine
    split
    · rfl
    · exact noRoom
  have calm (w : Watch) : w.firesOnRoom 0 0 = false := by cases w <;> simp [Watch.firesOnRoom]
  rw [run_on s _ on]
  refine closed.same (t := u.closeSweep.settleEngine) (flags := fun n => ?_) (room := stays.trans noRoom.symm)
  rw [settleEngine_watch, noRoom, calm, Bool.and_false, Bool.or_false]

end Sys2Proof.Machine
end

section

set_option Elab.async false

/-!
SUPPORT. AREA_FAULT as one command (R19, R36, R56, R75, R134, R152).
-/

namespace Sys2Proof.Machine

/-! ## The area is taken out of use (R19, R152) -/

/-- The area has left use, and the writer has nothing to write to. -/
def State.areaLeft (s : State) : State := ((s.raise .areaFault).endSweeps.updIntake fun k => { k with area := none }).writerInactive

/-- An area fault before its stop notice: the answers are lost, the drains ended and the settles' submissions withdrawn. -/
def State.areaTaken (s : State) : State := s.areaLeft.loseAnswers.drainsEnded.withdrawSettles

theorem areaFault_eq (s : State) :
    s.areaFault = if s.engine = .running then ({ s.areaTaken with engine := .stopping } : State).stopNotice else s.areaTaken := rfl

section
variable (s : State)

theorem areaLeft_rests : s.areaLeft.intakeRests s.intake.answers (.inactive, false) :=
  ⟨rfl, rfl, rfl, rfl, fun _ => rfl, rfl⟩

theorem areaLeft_frame : s.areaLeft.engine = s.engine ∧ s.areaLeft.bays = s.bays ∧ s.areaLeft.ks = s.ks ∧ s.areaLeft.ceu = s.ceu ∧
    s.areaLeft.cipher = s.cipher ∧ s.areaLeft.prof = s.prof ∧ s.areaLeft.clock = s.clock ∧
    s.areaLeft.writer.queue = s.writer.queue ∧ s.areaLeft.writer.line = s.writer.line ∧ s.areaLeft.writer.roll = none ∧
    s.areaLeft.events.room = 0 ∧ s.areaLeft.intake.area = none ∧ s.areaLeft.intake.areaLo = s.intake.areaLo ∧
    s.areaLeft.intake.areaHi = s.intake.areaHi := by
  have rolled (x : State) : (x.setRoll none).writer.roll = none := rfl
  simp [State.areaLeft, State.writerInactive, setRoll_room, rolled]

theorem areaLeft_dueCells : s.areaLeft.dueCells = s.dueCells := rfl

theorem areaLeft_flag : s.areaLeft.hasFlag .areaFault := by
  have raised : s.areaLeft = ((s.raise .areaFault).endSweeps.updIntake fun k => { k with area := none }).writerInactive := rfl
  have grown := (((State.Grows.refl (s.raise .areaFault)).same (t := (s.raise .areaFault).endSweeps)).updIntake
    fun k => { k with area := none }).writerInactive
  rw [raised]
  exact grown.hasFlag (State.hasFlag_raise s .areaFault)

theorem areaLeft_fires : s.watchesFire s.areaLeft none := by
  have out : s.watchesFire ((s.raise .areaFault).endSweeps.updIntake fun k => { k with area := none }) none :=
    ((State.watchesFire.refl s).raise .areaFault).same
  have calmed : s.watchesFire (((s.raise .areaFault).endSweeps.updIntake fun k => { k with area := none }).updWriter fun w =>
      { w with state := .inactive, readAgain := false, fromAwait := false }) none := out.same rfl (fun _ => rfl) (fun _ => rfl) (fun _ => rfl) rfl
  exact calmed.setRoll none rfl

end

/-- What an area fault makes of a state before its stop notice. -/
structure State.taken (s u : State) : Prop where
  engine : u.engine = s.engine
  bays : u.bays = s.bays
  ceu : u.ceu = s.ceu
  cipher : u.cipher = s.cipher
  prof : u.prof = s.prof
  clock : u.clock = s.clock
  areaLo : u.intake.areaLo = s.intake.areaLo
  areaHi : u.intake.areaHi = s.intake.areaHi
  queue : u.writer.queue = s.writer.queue
  line : u.writer.line = s.bayLine
  roll : u.writer.roll = none
  room : u.events.room = 0
  area : u.intake.area = none
  atTake : u.intake.atTake = none
  rests : u.intakeRests [] (.inactive, false)
  flag : u.hasFlag .areaFault
  lost : ∀ cell ∈ s.dueCells, u.orderLost cell
  fires : s.watchesFire u none
  slots : ∀ i, ∃ settle, u.slot i = { (if (s.slot i).state = .draining then (s.slot i).undrained else s.slot i) with settle }
  goes : ∀ i, s.settleWaits i = false ∨ (s.slot i).settle = none → (u.slot i).settle = (s.slot i).settle
  withdrawn : ∀ i v, (s.slot i).settle = some v → s.settleWaits i = true →
    (u.slot i).settle = v.stopped ∧ ∀ cell, v.order = some cell → u.orderLost cell

theorem areaTaken_slot (s : State) (i : SlotId) : s.areaLeft.loseAnswers.drainsEnded.slot i =
    if (s.slot i).state = .draining then (s.slot i).undrained else s.slot i := by
  have same : s.areaLeft.loseAnswers.slot i = s.slot i := slot_of_ks (by simp [(areaLeft_frame s).2.2.1]) i
  rw [drainsEnded_slot, same]

theorem areaTaken_settle (s : State) (i : SlotId) : (s.areaLeft.loseAnswers.drainsEnded.slot i).settle = (s.slot i).settle := by
  rw [areaTaken_slot]
  split <;> rfl

theorem areaTaken_taken (s : State) : s.taken s.areaTaken := by
  obtain ⟨engine, bays, ks, ceu, cipher, prof, clock, queue, line, roll, room, area, areaLo, areaHi⟩ := areaLeft_frame s
  have drains := drainsEnded_frame s.areaLeft.loseAnswers
  have slots (i : SlotId) : s.areaLeft.loseAnswers.slot i = s.slot i := slot_of_ks (by simp [ks]) i
  have waits (i : SlotId) : s.areaLeft.loseAnswers.drainsEnded.settleWaits i = s.settleWaits i :=
    settleWaits_congr (by simp [drains, line]) i
  have grown : s.areaLeft.loseAnswers.Grows s.areaTaken := (drainsEnded_grows _).trans (withdrawSettles_grows _)
  have fresh : s.watchesFire s.areaLeft.loseAnswers none := (areaLeft_fires s).loseAnswers
  have rests : s.areaLeft.loseAnswers.drainsEnded.intakeRests [] (.inactive, false) :=
    (areaLeft_rests s).loseAnswers.foldl (fun i rests => rests.endDrain i) _
  have out : s.areaLeft.loseAnswers.drainsEnded.intake.area = none := by simp [drains, area]
  refine ⟨?engine, ?bays, ?ceu, ?cipher, ?prof, ?clock, ?areaLo, ?areaHi, ?queue, ?line, ?roll, ?room, ?area, ?atTake,
    rests.withdrawSettles, grown.hasFlag (loseAnswers_hasFlag (areaLeft_flag s)), fun cell due => ?lost,
    (fresh.drainsEnded slots).withdrawSettles, fun i => ?slots, fun i free => ?goes, fun i v settle waiting => ?withdrawn⟩
  case line =>
    rw [State.areaTaken, withdrawSettles_line]
    simp [State.bayLine, drains, line]
  case lost => exact (loseAnswers_lost (by rw [areaLeft_dueCells]; exact due)).grows grown
  case slots =>
    obtain ⟨settle, slot⟩ := withdrawSettles_slot s.areaLeft.loseAnswers.drainsEnded i
    rw [areaTaken_slot] at slot
    exact ⟨settle, slot⟩
  case goes =>
    rw [State.areaTaken, withdrawSettles_free (by rw [waits, areaTaken_settle]; exact free), areaTaken_settle]
  case withdrawn =>
    have own : (s.areaLeft.loseAnswers.drainsEnded.slot i).settle = some v := (areaTaken_settle s i).trans settle
    refine ⟨?_, fun cell order => withdrawSettles_lost own ((waits i).trans waiting) out order⟩
    rw [State.areaTaken, withdrawSettles_waits own ((waits i).trans waiting)]
  case atTake => simp [State.areaTaken, drains, loseAnswers_atTake]
  all_goals simp [State.areaTaken, drains, engine, bays, ceu, cipher, prof, clock, areaLo, areaHi, queue, roll, room, area]

/-! ## The whole fault -/

/-- What an area fault makes of a state, its stop notice with it, the bays and the ceremony apart. -/
structure State.faulted (s v : State) : Prop where
  cipher : v.cipher = s.cipher
  prof : v.prof = s.prof
  clock : v.clock = s.clock
  areaLo : v.intake.areaLo = s.intake.areaLo
  areaHi : v.intake.areaHi = s.intake.areaHi
  queue : v.writer.queue = s.writer.queue
  line : v.writer.line = s.bayLine
  roll : v.writer.roll = none
  room : v.events.room = 0
  area : v.intake.area = none
  atTake : v.intake.atTake = none
  rests : v.intakeRests [] (.inactive, false)
  flag : v.hasFlag .areaFault
  lost : ∀ cell ∈ s.dueCells, v.orderLost cell
  fires : s.watchesFire v none
  drained : ∀ i, (s.slot i).state = .draining → (v.slot i).state = .ready ∧ (v.slot i).claims = (s.slot i).claims ∧
    (v.slot i).holds = (s.slot i).holds ∧ (v.slot i).allowance = (s.slot i).allowance
  others : ∀ i, (s.slot i).state ≠ .draining → (s.slot i).state ≠ .assembling →
    v.slot i = { s.slot i with settle := (v.slot i).settle }
  settles : ∀ i, s.settleAtFault v i

section
variable {s u : State} (taken : s.taken u)
include taken

theorem taken_drained {i : SlotId} (draining : (s.slot i).state = .draining) : ∃ settle, u.slot i = { (s.slot i).undrained with settle } := by
  obtain ⟨settle, slot⟩ := taken.slots i
  rw [if_pos draining] at slot
  exact ⟨settle, slot⟩

theorem taken_other {i : SlotId} (other : (s.slot i).state ≠ .draining) : ∃ settle, u.slot i = { s.slot i with settle } := by
  obtain ⟨settle, slot⟩ := taken.slots i
  rw [if_neg other] at slot
  exact ⟨settle, slot⟩

/-- Outside RUNNING nothing follows. -/
theorem taken_faulted (engine : s.engine ≠ .running) : s.faulted u := by
  refine ⟨taken.cipher, taken.prof, taken.clock, taken.areaLo, taken.areaHi, taken.queue, taken.line, taken.roll, taken.room, taken.area,
    taken.atTake, taken.rests, taken.flag, taken.lost, taken.fires, fun i draining => ?_, fun i other _ => ?_, fun i => ?_⟩
  · obtain ⟨settle, slot⟩ := taken_drained taken draining
    rw [slot]
    exact ⟨rfl, rfl, rfl, rfl⟩
  · obtain ⟨settle, slot⟩ := taken_other taken other
    rw [slot]
  · refine ⟨fun none => (taken.goes i (.inr none)).trans none, fun v settle => ⟨taken.withdrawn i v settle, fun free _ => ?_,
      fun free _ _ => ⟨fun running => absurd running engine, fun _ => ?_⟩⟩⟩
    · exact (taken.goes i (.inl free)).trans settle
    · exact (taken.goes i (.inl free)).trans settle

/-- No submission of a settle is left in the line. -/
theorem taken_waits (i : SlotId) : u.settleWaits i = false := settleWaits_bayLine taken.line i

/-- What the stop notice of a fault in RUNNING makes of the settles. -/
theorem taken_settles (engine : s.engine = .running) (i : SlotId) : s.settleAtFault ({ u with engine := .stopping } : State).stopNotice i := by
  have grown : u.Grows ({ u with engine := .stopping } : State).stopNotice := ((State.Grows.refl u).withEngine .stopping).stopNotice
  have slot : ({ u with engine := .stopping } : State).slot i = u.slot i := rfl
  have free : ({ u with engine := .stopping } : State).settleWaits i = false := taken_waits taken i
  have out : ({ u with engine := .stopping } : State).intake.area = none := taken.area
  have stopping : ({ u with engine := .stopping } : State).engine = .stopping := rfl
  generalize ({ u with engine := .stopping } : State) = w at grown slot free out stopping
  have unsettled (absent : (u.slot i).settle = none) : (w.stopNotice.slot i).settle = none := by
    rw [stopNotice_settle_goes, slot, absent]
    intro v some
    rw [slot, absent] at some
    exact absurd some nofun
  have stops {v : Settle} (settle : (u.slot i).settle = some v) (entered : v.remaining = []) (open_ : v.unclosed ≠ []) :=
    stopNotice_settle_stops (s := w) (i := i) (v := v) (by rw [slot]; exact settle) entered free open_ stopping
  refine ⟨fun none => unsettled ((taken.goes i (.inr none)).trans none), fun v settle => ⟨fun waits => ?_, fun idle going => ?_,
    fun idle entered open_ => ⟨fun _ => ?_, fun other => ?_⟩⟩⟩
  · obtain ⟨withdrawn, lost⟩ := taken.withdrawn i v settle waits
    refine ⟨?_, fun cell order => (lost cell order).grows grown⟩
    rw [Settle.stopped] at withdrawn
    by_cases closed : v.unclosed = []
    · rw [if_pos closed] at withdrawn ⊢
      exact unsettled withdrawn
    · rw [if_neg closed] at withdrawn ⊢
      exact (stops withdrawn rfl closed).1
  · have same := (taken.goes i (.inl idle)).trans settle
    rw [stopNotice_settle_goes, slot, same]
    intro v' own
    rw [slot, same] at own
    exact .inl (Option.some.inj own ▸ going)
  · have same := (taken.goes i (.inl idle)).trans settle
    obtain ⟨kept, answers⟩ := stops same entered open_
    exact ⟨kept, fun cell order => (answers cell order).2 out⟩
  · exact absurd engine other

theorem taken_notified (engine : s.engine = .running) : s.faulted ({ u with engine := .stopping } : State).stopNotice := by
  have grown : u.Grows ({ u with engine := .stopping } : State).stopNotice := ((State.Grows.refl u).withEngine .stopping).stopNotice
  have settles := taken_settles taken engine
  have rests : ({ u with engine := .stopping } : State).intakeRests [] (.inactive, false) :=
    taken.rests.same rfl rfl
  have fires : s.watchesFire ({ u with engine := .stopping } : State) none :=
    taken.fires.same rfl (fun _ => rfl) (fun _ => rfl) (fun _ => rfl) rfl
  have slots (i : SlotId) : ({ u with engine := .stopping } : State).slot i = u.slot i := rfl
  have frame : ({ u with engine := .stopping } : State).cipher = u.cipher ∧ ({ u with engine := .stopping } : State).prof = u.prof ∧
      ({ u with engine := .stopping } : State).clock = u.clock ∧ ({ u with engine := .stopping } : State).intake = u.intake ∧
      ({ u with engine := .stopping } : State).writer = u.writer ∧ ({ u with engine := .stopping } : State).events = u.events :=
    ⟨rfl, rfl, rfl, rfl, rfl, rfl⟩
  generalize ({ u with engine := .stopping } : State) = w at grown settles rests fires slots frame
  obtain ⟨cipher, prof, clock, intake, writer, events⟩ := frame
  have calm (i : SlotId) (other : (u.slot i).state ≠ .assembling) : ∃ settle, w.stopNotice.slot i = { u.slot i with settle } := by
    obtain ⟨settle, slot⟩ := stopNotice_slot w i
    rw [stopCeremony_other (by rw [slots]; exact other), slots] at slot
    exact ⟨settle, slot⟩
  refine ⟨?cipher, ?prof, ?clock, ?areaLo, ?areaHi, ?queue, ?line, ?roll, ?room, ?area, ?atTake, rests.stopNotice,
    grown.hasFlag taken.flag, fun cell due => (taken.lost cell due).grows grown, ?fires, fun i draining => ?drained,
    fun i other apart => ?others, settles⟩
  case fires =>
    refine fires.stopNotice fun i assembling => ?_
    rw [slots] at assembling ⊢
    by_cases draining : (s.slot i).state = .draining
    · obtain ⟨settle, slot⟩ := taken_drained taken draining
      rw [slot] at assembling
      exact absurd assembling nofun
    · obtain ⟨settle, slot⟩ := taken_other taken draining
      rw [slot]
      exact ⟨rfl, rfl⟩
  case drained =>
    obtain ⟨settle, slot⟩ := taken_drained taken draining
    obtain ⟨settle', after⟩ := calm i (by rw [slot]; nofun)
    rw [after, slot]
    exact ⟨rfl, rfl, rfl, rfl⟩
  case others =>
    obtain ⟨settle, slot⟩ := taken_other taken other
    obtain ⟨settle', after⟩ := calm i (by rw [slot]; exact apart)
    rw [after, slot]
  all_goals simp [cipher, prof, clock, intake, writer, events, taken.cipher, taken.prof, taken.clock, taken.areaLo, taken.areaHi,
    taken.queue, taken.line, taken.roll, taken.room, taken.area, taken.atTake]

end

end Sys2Proof.Machine
end

section

set_option Elab.async false

/-!
SUPPORT. AREA_FAULT as the command shows it (R19, R36, R56, R75, R134, R152).
-/

namespace Sys2Proof.Machine

/-- A state from which bus writes have gone out, before the access failed. -/
theorem State.faulted.of_emit {s v : State} {o : List Output} (h : (s.quiet.emit o).faulted v) : s.faulted v :=
  ⟨h.cipher, h.prof, h.clock, h.areaLo, h.areaHi, h.queue, h.line, h.roll, h.room, h.area, h.atTake, h.rests, h.flag, h.lost, h.fires,
    h.drained, h.others, h.settles⟩

theorem exec_areaFault {s : State} {access : AreaAccess} (possible : s.accessPossible access = true) : exec (.areaFault access) s =
    .next (s.run fun _ => (s.quiet.emit (s.writtenBeforeFault access)).areaFault) := next_run_eq (if_pos possible)

theorem areaFault_faulted (s : State) : s.faulted s.areaFault := by
  have taken := areaTaken_taken s
  rw [areaFault_eq]
  split
  next running => exact taken_notified taken running
  next other => exact taken_faulted taken other

/-! ## The bays and the ceremony -/

theorem areaFault_running {s : State} (running : s.engine = .running) : ∃ u : State, s.areaFault = u.stopNotice ∧ u.engine = .stopping ∧
    u.bays = s.bays ∧ u.ceu = s.ceu ∧ u.intake.area = none := by
  have taken := areaTaken_taken s
  have effect : s.areaFault = ({ s.areaTaken with engine := .stopping } : State).stopNotice := (areaFault_eq s).trans (if_pos running)
  generalize s.areaTaken = w at taken effect
  exact ⟨_, effect, rfl, taken.bays, taken.ceu, taken.area⟩

theorem areaFault_other {s : State} (other : s.engine ≠ .running) :
    s.areaFault.engine = s.engine ∧ s.areaFault.bays = s.bays ∧ s.areaFault.ceu = s.ceu := by
  have taken := areaTaken_taken s
  rw [areaFault_eq, if_neg other]
  exact ⟨taken.engine, taken.bays, taken.ceu⟩

/-! ## The end of the command -/

section
variable {s v : State} (on : s.engine ≠ .off) (fault : s.faulted v)
include on fault

theorem fault_run : (s.run fun _ => v) = v.settleEngine := (fault.rests.run on).1

/-- The end of STOPPING finds the area and the roll gone already. -/
theorem fault_writer : (s.run fun _ => v).intake.area = none ∧ (s.run fun _ => v).writer.state = .inactive ∧
    (s.run fun _ => v).writer.roll = none ∧ (s.run fun _ => v).writer.readAgain = false := by
  obtain ⟨inactive, clear⟩ := Prod.mk.inj fault.rests.writer
  rw [fault_run on fault]
  unfold State.settleEngine
  split
  · exact ⟨rfl, rfl, rfl, rfl⟩
  · exact ⟨fault.area, inactive, fault.roll, clear⟩

theorem fault_lost {cell : Nat} (lost : v.orderLost cell) : (s.run fun _ => v).orderLost cell := by
  rw [fault_run on fault]
  exact lost.grows (State.Grows.refl v).settleEngine

theorem fault_settles (i : SlotId) : s.settleAtFault (s.run fun _ => v) i := by
  obtain ⟨slots, -, -, -⟩ := run_parts s (fun _ => v) on
  have grown : v.Grows (s.run fun _ => v) := by
    rw [fault_run on fault]
    exact (State.Grows.refl v).settleEngine
  have lost {cell : Nat} (gone : v.orderLost cell) : (s.run fun _ => v).orderLost cell := gone.grows grown
  obtain ⟨unsettled, settled⟩ := fault.settles i
  rw [State.settleAtFault, slots]
  refine ⟨unsettled, fun w settle => ?_⟩
  obtain ⟨waits, goes, entered⟩ := settled w settle
  refine ⟨fun waiting => ?_, goes, fun free all open_ => ?_⟩
  · obtain ⟨stopped, answers⟩ := waits waiting
    exact ⟨stopped, fun cell order => lost (answers cell order)⟩
  · obtain ⟨running, rests⟩ := entered free all open_
    refine ⟨fun engine => ?_, rests⟩
    obtain ⟨stopped, answers⟩ := running engine
    exact ⟨stopped, fun cell order => lost (answers cell order)⟩

/-- An answer that was due, or the order in hand, is lost. -/
theorem fault_due : (∀ e, s.validating = some e → ∀ f ∈ (s.run fun _ => v).intake.table, f.cell ≠ e.cell) ∧
    (s.intake.atTake.isSome = true ∨ s.intake.answers ≠ [] → (s.run fun _ => v).hasFlag .orderAnswered) := by
  have lost {cell : Nat} (due : cell ∈ s.dueCells) := fault_lost on fault (fault.lost cell due)
  refine ⟨fun e validating => (lost ?_).1, fun due => ?_⟩
  · simp [State.dueCells, validating]
  · obtain atTake | answers := due
    · obtain ⟨x, own⟩ := Option.isSome_iff_exists.mp atTake
      exact (lost (cell := x.cell) (by simp [State.dueCells, own])).2
    · obtain ⟨x, rest, own⟩ := List.exists_cons_of_ne_nil answers
      exact (lost (cell := x.cell) (by simp [State.dueCells, own])).2

theorem fault_slots : (∀ i, (s.slot i).state = .draining →
      ((s.run fun _ => v).slot i).state = .ready ∧ ((s.run fun _ => v).slot i).claims = (s.slot i).claims ∧
      ((s.run fun _ => v).slot i).holds = (s.slot i).holds ∧ ((s.run fun _ => v).slot i).allowance = (s.slot i).allowance) ∧
    ∀ i, (s.slot i).state ≠ .draining → (s.slot i).state ≠ .assembling →
      (s.run fun _ => v).slot i = { s.slot i with settle := ((s.run fun _ => v).slot i).settle } := by
  obtain ⟨slots, -, -, -⟩ := run_parts s (fun _ => v) on
  exact ⟨fun i draining => by rw [slots]; exact fault.drained i draining,
    fun i other apart => by rw [slots]; exact fault.others i other apart⟩

theorem fault_rest : let t := s.run fun _ => v
    t.hasFlag .areaFault ∧ t.intake.atTake = none ∧ t.intake.answers = [] ∧ s.watchesFire t none ∧
    t.writer.queue = s.writer.queue ∧ t.writer.line = s.bayLine ∧ t.intake.areaLo = s.intake.areaLo ∧
    t.intake.areaHi = s.intake.areaHi ∧ t.cipher = s.cipher ∧ t.prof = s.prof ∧ t.clock = s.clock := by
  refine ⟨hasFlag_run on (f := fun _ => v) fault.flag, ?_, ?_, State.watchesFire.run_roomless fault.fires on fault.room, ?_⟩
  · simp [fault_run on fault, fault.atTake]
  · simp [fault_run on fault, fault.rests.answers fault.area]
  · simp [fault_run on fault, fault.queue, fault.line, fault.areaLo, fault.areaHi, fault.cipher, fault.prof, fault.clock]

end

section
variable {s s' : State} (on : s.engine ≠ .off)
include on

/-- A fault in RUNNING leads to STOPPING, with the notice to the ceremony and to every bay. -/
theorem fault_notice (running : s'.engine = .running) (bays : s'.bays = s.bays) (ceu : s'.ceu = s.ceu) :
    let t := s.run fun _ => s'.areaFault
    (t.engine = .stopping ∨ t.engine = .standby) ∧ (∀ b, s.bayStopped t b) ∧
    (∀ b, (t.bay b).running ≠ none → (t.session b).ending ≠ .none) ∧ (s.ceremonyStays → t.ceu = s.ceu) ∧
    ((∃ p, s.ceu.record = .approval p) ∨ (∃ a, s.ceu.record = .assembly a ∧ a.phase ≠ .committing) →
      t.ceu.record = .empty ∧ t.hasFlag .ceremonyEnded) := by
  obtain ⟨u, effect, stopping, sameBays, sameCeu, -⟩ := areaFault_running running
  rw [effect]
  have unit : u.ceu = s.ceu := sameCeu.trans ceu
  have shown : (s.run fun _ => u.stopNotice).ceu = u.stopCeremony.ceu := by
    rw [← stopNotice_ceu]
    simp [run_frame _ _ on]
  have notified := stopNotice_bays u
  obtain ⟨-, bay, sessions, -⟩ := run_parts s (fun _ => u.stopNotice) on
  have requests : (s.run fun _ => u.stopNotice).ks.requests = u.stopNotice.ks.requests := by simp [run_frame _ _ on]
  refine ⟨run_engine_of_stopping on (by simp [stopping]), fun b => ?_, fun b runs => ?_, fun stays => ?_, fun ceremony => ?_⟩
  · exact (notified.stopped b).congr (bay_of_bays (sameBays.trans bays) b).symm (bay b) fun q standing => by rwa [requests]
  · rw [sessions]
    rw [bay] at runs
    exact notified.ending b runs
  · rw [shown, stopCeremony_stays (by rw [State.ceremonyStays, unit]; exact stays), unit]
  · obtain ⟨empty, flag⟩ := stopCeremony_ended (s := u) (.inr stopping) (by rw [unit]; exact ceremony)
    rw [shown]
    exact ⟨empty, hasFlag_run on (f := fun _ => u.stopNotice) ((stopNotice_grows u).hasFlag flag)⟩

/-- A fault in STOPPING or TAMPERED leaves the bays and the ceremony. -/
theorem fault_silent (other : s'.engine ≠ .running) (engine : s'.engine = s.engine) (bays : s'.bays = s.bays) (ceu : s'.ceu = s.ceu) :
    let t := s.run fun _ => s'.areaFault
    (s.engine = .stopping → t.engine = .stopping ∨ t.engine = .standby) ∧ (s.engine = .tampered → t.engine = .tampered) ∧
    t.bays = s.bays ∧ t.ceu = s.ceu := by
  obtain ⟨engine', bays', ceu'⟩ := areaFault_other other
  have same : s'.areaFault.engine = s.engine := engine'.trans engine
  refine ⟨fun stopping => run_engine_of_stopping on (same.trans stopping), fun tampered => ?_, ?_⟩
  · have stays : s'.areaFault.closeSweep.stopComplete = false := by simp [State.stopComplete, same, tampered]
    rw [run_on s _ on, settleEngine_settled _ stays]
    simp [same, tampered]
  · simp [run_frame _ _ on, bays', ceu', bays, ceu]

end

/-- Settles O17. -/
theorem areaFaultTakesAreaOutOfUse : Obligations.AreaFaultTakesAreaOutOfUse := by
  intro s access engine possible
  have on : s.engine ≠ .off := by obtain e | e | e := engine <;> simp [e]
  have fault := (areaFault_faulted (s.quiet.emit (s.writtenBeforeFault access))).of_emit
  have notice := fault_notice (s := s) (s' := s.quiet.emit (s.writtenBeforeFault access)) on
  have silent := fault_silent (s := s) (s' := s.quiet.emit (s.writtenBeforeFault access)) on
  refine ⟨_, exec_areaFault possible, ?_⟩
  have engines : (s.run fun _ => (s.quiet.emit (s.writtenBeforeFault access)).areaFault).engine = .stopping ∨
      (s.run fun _ => (s.quiet.emit (s.writtenBeforeFault access)).areaFault).engine = .standby ∨ s.engine = .tampered := by
    obtain running | stopping | tampered := engine
    · exact (notice running rfl rfl).1.imp_right .inl
    · exact ((silent (by simp [stopping]) rfl rfl rfl).1 stopping).imp_right .inl
    · exact .inr (.inr tampered)
  generalize (s.quiet.emit (s.writtenBeforeFault access)).areaFault = v at fault notice silent engines
  obtain ⟨-, sweep, again, backlog, timer⟩ := fault.rests.run on
  obtain ⟨area, inactive, roll, readAgain⟩ := fault_writer on fault
  obtain ⟨validating, answered⟩ := fault_due on fault
  obtain ⟨flag, atTake, answers, fires, queue, line, areaLo, areaHi, cipher, prof, clock⟩ := fault_rest on fault
  obtain ⟨drained, others⟩ := fault_slots on fault
  refine ⟨flag, area, sweep, again, backlog, timer, atTake, answers, fires, validating, answered, inactive, roll, readAgain, queue,
    fun here => ?_, fun tampered => ?_, fun running => (notice running rfl rfl).2, fun other => (silent other rfl rfl rfl).2.2, drained,
    others, line, fault_settles on fault, areaLo, areaHi, cipher, prof, clock⟩
  · obtain stopping | standby | tampered := engines
    · exact .inl stopping
    · exact .inr standby
    · exact absurd tampered here
  · exact (silent (by simp [tampered]) rfl rfl rfl).2.1 tampered

end Sys2Proof.Machine
end
